-- ==== Sys2Proof/Word.lean ====
section
/-! DEFINITION. The word types of the block: registers are 32 bits wide (R6), streams are bytes. -/

namespace Sys2Proof

/-- A register of BAR0 (R6). -/
abbrev Word := BitVec 32

/-- One byte of a frame, a Plate, a key or a memory. -/
abbrev Byte := BitVec 8

end Sys2Proof
end

