-- ==== Sys2Proof/Syntax.lean ====
section
/-! DEFINITION. The commands of the block: one constructor for each row of spec/opcode_table.json, with what the row needs from outside:
the master and value of a register access, the unit an event strikes, the outcome of a physical process (a self-test, a lock, a
measurement), the bytes of a frame. Each constructor's docstring names its rule. -/

namespace Sys2Proof

/-- Who makes a register access (R446): the PCIe host, the secondary host on an Ethernet port, or the stylus. -/
inductive Master where
  | pcie | secondary | stylus
deriving DecidableEq, Repr

/-- What happens to a register in the cycle of a write: another master that writes it (R330, R447), and its bits that hardware events set (R11). -/
structure SameCycle where
  other : Option Master
  events : Word
deriving DecidableEq, Repr

/-- The sender of a frame at the wake-up receiver, and how many ns before the frame's end the detectors of ports A and B found its sync field (R114). -/
structure WurSender where
  member : BitVec 10
  atA : Option Nat
  atB : Option Nat
deriving DecidableEq, Repr

/-- What the steps 1 to 4 of a start find (R429): regulator phases failing their self-test (rail, phase), a rail that cannot be
supplied, the locks of step 3, engines failing their self-test, each with the first failing unit, synthesisers failing theirs, whether the flash answers SFDP, whether TMODE
is at a level other than the one that starts the device (R451), and whether VDDIO is at 3.3 V (R453), else at 1.8 V. -/
structure StartOutcome where
  badPhases : List (Nat × Nat)
  engLock : Bool
  pktLock : Bool
  serdesLock : Bool
  xo80 : Bool
  badEngines : List (Fin 14 × Fin 64)
  badSynths : List (Fin 5)
  sfdp : Bool
  revision : Nat
  testMode : Bool
  vddio33 : Bool
deriving DecidableEq, Repr

/-- A token offered to a role (R45 to R56): hash of the packet's source and flow, source and indirection entry, the timer it belongs to, and
its other content. -/
structure TokenIn where
  source : Nat
  hash : Nat
  timer : Option Nat
  body : List Byte
deriving DecidableEq, Repr

/-- What DRAM training found (R353): whether some rate trained and which (0 to 2), the time it took in ms, whether the devices are x16, and whether they
are of 16 Gb. -/
structure DramFound where
  ok : Bool
  rate : Nat
  ms : Nat
  x16 : Bool
  g16 : Bool
deriving DecidableEq, Repr

/-- How a memory line reads: clean, with a correctable error corrected in flight, or uncorrectable (R338). -/
inductive LineRead where
  | clean (v : BitVec 512)
  | corrected (v : BitVec 512)
  | uncorrectable
deriving DecidableEq, Repr

/-- The checks of R61 that a command reports: cause 1 (the scratchpad and its 64-bit word), 2 and 3 (the stage), 5 (the clock monitor). -/
inductive EngCheck where
  | scratchpad (n : Fin 16) (word : Fin 8192)
  | stageTable (n : Fin 16)
  | residue (n : Fin 16)
  | clock
deriving DecidableEq, Repr

/-- A Wi-Fi channel: its band (0 = 2.4 GHz, 1 = 5 GHz, 2 = 6 GHz), the 20 MHz channels it covers, numbered as the maps of R104 number them, and
its width code (R104: 0 = 20 to 4 = 320 MHz). -/
structure Channel where
  band : Nat
  subs : List Nat
  width : Nat
deriving DecidableEq, Repr

/-- What a transmit request carries, as R164 tells LATE frames apart. -/
inductive TxKind where
  | dls | stp | trigger | beacon | cts | contention
deriving DecidableEq, Repr

/-- The form of a PPDU (R118): its format (0 DSSS or CCK, 1 non-HT OFDM, 2 HT, 3 VHT, 4 HE, 5 EHT), MCS (at formats 0 and 1 the number of the rate), streams, width code, whether
its preamble is punctured, and its MPDUs. -/
structure PhyForm where
  format : Nat
  mcs : Nat
  streams : Nat
  width : Nat
  punctured : Bool
  mpdus : Nat
deriving DecidableEq, Repr

/-- A transmit request (R94): the AIR role's number for it, its duration in ns, the TB0 time in ns by which a scheduled frame must start
(slot start plus guard), none for a contention frame, its kind, the form of its PPDU (R118), and for how many ns after it the response it solicits is expected (R122). -/
structure TxReq where
  tag : Nat
  dur : Nat
  startBy : Option Nat
  kind : TxKind
  form : PhyForm
  resp : Nat
deriving DecidableEq, Repr

/-- An MPDU of a PPDU to be sent: the packet, its airtime in ns, and whether the response acknowledges it. -/
structure Mpdu where
  id : Nat
  ns : Nat
  acked : Bool
deriving DecidableEq, Repr

/-- One user of a PPDU to be sent (R159): its station, the resource unit it is in, its streams, MCS and PHY rate in units of 0.5 Mb/s, and its MPDUs. -/
structure PpduUser where
  st : Fin 4096
  ru : Nat
  streams : Nat
  mcs : Nat
  rate : Nat
  mpdus : List Mpdu
deriving DecidableEq, Repr

/-- A PPDU to be sent to stations (R118, R119, R159): format, width code, whether its preamble is punctured, and its users. -/
structure Ppdu where
  format : Nat
  width : Nat
  punctured : Bool
  users : List PpduUser
deriving DecidableEq, Repr

/-- The data of a PPDU in a Stipple span (R130): its payload bytes, the MPDUs in them, and their station. -/
structure StpData where
  bytes : List Byte
  st : Fin 4096
  mpdus : List Mpdu
deriving DecidableEq, Repr

/-- The times of a trigger round in ns (R160): the trigger frame, what the largest selected uplink buffer needs in its resource unit, and the multi-STA BlockAck. -/
structure UltTimes where
  trig : Nat
  need : Nat
  ack : Nat
deriving DecidableEq, Repr

/-- The signal-field check at which a reception is abandoned (R123). -/
inductive SigCheck where
  | lsig | htSig | vhtSigA | heSigA | uSig | ehtSig | sfd
deriving DecidableEq, Repr

/-- How a transmitted frame ended (R102). -/
inductive FrameEnd where
  | complete | coexCut | synthCut | chainFence
deriving DecidableEq, Repr

/-- The calibration steps of R98. -/
inductive CalKind where
  | rxDc | txLo | txIq | rxIq | feedback | interChain
deriving DecidableEq, Repr

/-- What an AIR role's draw carries (R301): the run kind (R155), the users wanted, each user's data budget in µs, the run's SPID, the stations it may not
have (claimed by other radios, or served SCHED_MAX times), for CTN the access category that won and whether a station is named (power-save
delivery), for STP the link. -/
structure DrawReq where
  kind : Nat
  users : Nat
  budget : List Nat
  spid : Nat
  barred : List Nat
  ac : Nat
  named : Option Nat
  link : Fin 8
deriving DecidableEq, Repr

/-- What the compare pass finds beside a scratchpad line (R57, R345): an uncommitted write is buffered for it; its ledger line has a correctable error, corrected as it is read. -/
structure LedgerSide where
  buffered : Bool
  corrected : Bool
deriving DecidableEq, Repr

/-- Where an uncorrectable on-chip error lies (R346): a Plate-cache page with the role code whose body lies in it (0 = none), a ledger line of a role, a cell of a queued packet (queue, place in it), an
entry of a role's input queue, a flow-cache entry, a first-level trie entry, a record, a policer. -/
inductive MemPlace where
  | plateCache (page : Fin 2048) (role : Fin 13)
  | ledger (role : Fin 12) (line : Fin 16384)
  | cell (queue : Fin 32864) (place : Nat)
  | queueEntry (role : Fin 12) (place : Nat)
  | flowCache (set : Fin 65536) (way : Fin 4)
  | trie (v6 : Bool)
  | record (i : Fin 49152)
  | policer (i : Fin 65536)
deriving DecidableEq, Repr

/-- How a word reads on a background pass (R338). -/
inductive ScrubRead where
  | clean
  | corrected
  | uncorrectable (p : MemPlace)
deriving DecidableEq, Repr

/-- A DRAM request on its arrival (R359): client port, line address, the bytes of a write. -/
structure DramReq where
  port : Fin 10
  addr : Nat
  data : Option (List Byte)
deriving DecidableEq, Repr

/-- How a DRAM read ends (R361): clean, corrected, or uncorrectable in a byte lane (4 = the ECC device), with the other copy of a mirrored line
readable or not and, for a spill read, the queue it was for. -/
inductive DramRead where
  | clean
  | corrected
  | bad (lane : Fin 5) (mirrorGood : Bool) (queue : Fin 32864)
deriving DecidableEq, Repr

/-- The clock that fails in service (R442). -/
inductive ClockFault where
  | engPll | pktPll | tclkPll | xo80
deriving DecidableEq, Repr

/-- A fixed-logic cluster (R440): region PKT, BBD or RFE and its cluster code. -/
structure Cluster where
  region : Fin 3
  code : Fin 16
deriving DecidableEq, Repr

/-- What a preamble detector finds (R121, R123): a preamble with its power in hundredths of a decibel, a trigger on noise, or the first signal-field
check failed of the reception in progress. -/
inductive Detection where
  | preamble (power : Int)
  | noise (power : Int)
  | abandoned (c : SigCheck)
deriving DecidableEq, Repr

/-- What protects a received MPDU (R375, R376): its key ID, packet number, receive counter (0 to 7 TID, 8 non-QoS, 9 management), and whether its tag verifies. -/
structure MpduProt where
  keyId : Fin 8
  pn : Nat
  counter : Fin 10
  micOk : Bool
deriving DecidableEq, Repr

/-- An MPDU of a received PPDU with a good FCS, after BlockAck reordering (R375): its BSS, its station where known, its protection, if any, and its bytes from the Frame Control to the end
of its body, decrypted and without the headers of its cipher. Control frames stand here only where the AIR role does not consume them (R325). -/
structure RxMpdu where
  bss : Fin 16
  st : Option (Fin 4096)
  prot : Option MpduProt
  frame : List Byte
deriving DecidableEq, Repr

/-- What a receiver measures of a PPDU from a member (R133, R143): the member, the SINR of every stream and data subcarrier as a power ratio in 2^-16,
the carrier offset in Hz. -/
structure Measured where
  member : Fin 1024
  sinr : List (List Nat)
  cfo : Int
deriving DecidableEq, Repr

/-- How a reception ends: a PPDU not supported, with the ns of its L-SIG duration still to run (R120); more streams than the chains that a calibration step leaves (R100); a PPDU of an ordinary
format with its form, the ns that its Duration field still reserves for others or, where it is not supported, that its L-SIG still gives, the number of MPDUs whose FCS failed, its other MPDUs, its uplink buffer reports in KiB by station, its power-save bits by station, and
what was measured if it came from a member; a Stipple PPDU with the 90 bits of its SSIG below the CRC, the number of MPDUs whose FCS failed, the ns of its L-SIG duration still
to run, and the bytes of the response it solicits, if any. -/
inductive RxEnd where
  | unsupported (rest : Nat)
  | calLost
  | frame (form : PhyForm) (rest : Nat) (fcsFails : Nat) (mpdus : List RxMpdu) (reports : List (Fin 4096 × Nat)) (pm : List (Fin 4096 × Bool)) (m : Option Measured)
  | stipple (ssig : BitVec 90) (fcsFails : Nat) (rest : Nat) (ack : List Byte) (m : Measured)
deriving DecidableEq, Repr

/-- What a token does on the halted engine (R477): the scratchpad lines it writes, the output tokens it would have sent, and the lines that stages
read or write, as (stage − 1, scratchpad, line). -/
structure TokenRun where
  writes : List (Nat × BitVec 512)
  outputs : List (List Byte)
  touched : List (Fin 16 × Fin 16 × Nat)
deriving DecidableEq, Repr

/-- The commands. -/
inductive Instr where
  /-- REGISTER_WRITE. R7, R331: a master writes a register; what else befalls it in the same cycle. -/
  | registerWrite (m : Master) (off : Nat) (v : Word) (other : SameCycle)
  /-- READ_CLEAR. R7: a read of an RC register; another master that reads (true) or writes (false) it in the same cycle (R330). -/
  | readClear (m : Master) (off : Nat) (other : Option (Master × Bool))
  /-- LATCHING_READ. R10: a read of a register that is not RC, wide values among them. -/
  | latchingRead (m : Master) (off : Nat)
  /-- UNMAPPED_ACCESS. R332: a read (no value) or a write of an offset that no block or window defines. Offsets from 16 MiB on are those of BAR2 (R319). -/
  | unmappedAccess (m : Master) (off : Nat) (v : Option Word)
  /-- POWER_ON. R428: VIN rises through the UVLO threshold. -/
  | powerOn
  /-- UVLO. R427: VIN stays below its falling threshold for 5 µs. -/
  | uvlo
  /-- RESET_N_LOW. R428: RESET_N was low for `ns` nanoseconds. -/
  | resetNLow (ns : Nat)
  /-- START_SEQUENCE. R429: steps 1 to 4 of a start, finding `o`. -/
  | startSequence (o : StartOutcome)
  /-- VDDIO_PRESENT. R427: VDDIO becomes present. -/
  | vddioPresent
  /-- PLL_LOCK_TIMEOUT. R430: 0.2 ms into step 3. -/
  | pllLockTimeout
  /-- PLL_LOCK_RETRY. R430: the locks found by a retry. -/
  | pllLockRetry (eng pkt serdes : Bool)
  /-- CLOCK_SWITCH. R430: a write of PWR_CLK_CTRL. -/
  | clockSwitch (m : Master) (v : Word)
  /-- PLATE_BLOCK_READ. R36: the next Plate block arrives from flash as `block`. -/
  | plateBlockRead (block : List Byte)
  /-- PLATE_SIGNATURE_CHECK. R22: steps 4 to 7 of Plate loading. -/
  | plateSignatureCheck
  /-- DRAM_TRAINED. R353: training and initialisation end. -/
  | dramTrained (d : DramFound)
  /-- SEED_APPLY. R33: steps 8 and 9 of Plate loading. -/
  | seedApply
  /-- TOKEN_ENQUEUE. R56: a token is offered to role code `r` + 1. -/
  | tokenEnqueue (r : Fin 12) (t : TokenIn)
  /-- TOKEN_ISSUE. R45: engine `e` issues one token. -/
  | tokenIssue (e : Fin 14)
  /-- ENGINE_WAKE. R49: engine `e` restarts its clock. -/
  | engineWake (e : Fin 14)
  /-- ENGINE_CLOCK_STOP. R49: engine `e` stops its clock. -/
  | engineClockStop (e : Fin 14)
  /-- IDLE_ENTER. R412: every engine clock has been stopped for 1 µs. -/
  | idleEnter
  /-- TOKEN_RETIRE. R57: the oldest token in flight retires with its scratchpad writes (line, value) and external effects. -/
  | tokenRetire (e : Fin 14) (writes : List (Nat × BitVec 512)) (effects : List (List Byte))
  /-- LEDGER_COMPARE. R57: the counterproof writer reads a line and what stands beside it. -/
  | ledgerCompare (e : Fin 14) (line : Fin 16384) (r : LineRead) (side : LedgerSide)
  /-- ENGINE_CHECK_FAIL. R61: a check fails. -/
  | engineCheckFail (e : Fin 14) (c : EngCheck)
  /-- ENGINE_WATCHDOG. R61: a token in flight and none retired for 4,096 cycles. -/
  | engineWatchdog (e : Fin 14)
  /-- TAKEOVER_LOAD_DONE. R64: structure and state loading end. -/
  | takeoverLoadDone
  /-- ENGINE_SELFTEST_START. R74: the SUP role starts a self-test. -/
  | engineSelftestStart (e : Fin 14)
  /-- ENG_REINSTATE. R74: a write of ENG_REINSTATE. -/
  | engReinstate (m : Master) (v : Word)
  /-- ENGINE_SELFTEST_END. R74: a self-test ends; the first failing unit, if any. -/
  | engineSelftestEnd (e : Fin 14) (failing : Option (Fin 64))
  /-- RECUT_MOVE_READ. R71 step 1. -/
  | recutMoveRead
  /-- RECUT_LOAD. R71 steps 2 and 3. -/
  | recutLoad
  /-- RECUT_CUT. R71 step 4, R72: the tokens in flight on the old engine retire with these writes and effects, and the role is cut over. -/
  | recutCut (rets : List (List (Nat × BitVec 512) × List (List Byte)))
  /-- RECUT_CLEAR_DONE. R71 step 5. -/
  | recutClearDone
  /-- RECUT_PAUSE. R76: a write of ENG_RECUT_CTRL with PAUSE. -/
  | recutPause (m : Master) (v : Word)
  /-- RECUT_RESUME. R76: a write of ENG_RECUT_CTRL with RESUME. -/
  | recutResume (m : Master) (v : Word)
  /-- RECUT_ABANDON. R76: a write of ENG_RECUT_CTRL with ABANDON. -/
  | recutAbandon (m : Master) (v : Word)
  /-- SYNTH_FAULT. R81: synthesiser `k` (4 = the Traverse synthesiser) loses lock, or its frequency is off. -/
  | synthFault (k : Fin 5) (freq : Bool)
  /-- SYNTH_SPARE_LOCKED. R82 step 5: the spare has locked and settled, `us` µs after detection. -/
  | synthSpareLocked (us : Nat)
  /-- SYNTH_SELFTEST_START. R85: the SUP role self-tests fenced synthesiser `k`. -/
  | synthSelftestStart (k : Fin 5)
  /-- SYNTH_SELFTEST_END. R85: the self-test ends. -/
  | synthSelftestEnd (k : Fin 5) (pass : Bool)
  /-- CHAIN_FAULT. R86: check `cause` + 1 of chain `c` fails. -/
  | chainFault (c : Fin 16) (cause : Fin 5)
  /-- CHN_CHAIN_REINSTATE. R89: a write of CHN_CHAIN_REINSTATE. -/
  | chnChainReinstate (m : Master) (v : Word)
  /-- CHAIN_SELFTEST. R89: the self-test of chain `c` runs. -/
  | chainSelftest (c : Fin 16) (pass : Bool)
  /-- RADIO_RESTART. R90: radio `n` is enabled or restarts. -/
  | radioRestart (n : Fin 3)
  /-- RADIO_STATE_CHANGE. R90: radio `n` is ordered to state `nx`, coded as CHN_RADIO_STATEn.STATE. -/
  | radioStateChange (n : Fin 3) (nx : Fin 6)
  /-- CHANNEL_CHANGE. R90: an in-band channel change. -/
  | channelChange (n : Fin 3) (ch : Channel)
  /-- FINE_ADJUST. R93: a fine adjustment by `hz` from nominal begins, or has settled. -/
  | fineAdjust (n : Fin 3) (hz : Int) (settled : Bool)
  /-- TX_REQUEST. R94: a transmit request. -/
  | txRequest (n : Fin 3) (r : TxReq)
  /-- CAL_STEP_START. R99: a calibration step is due on chain `c`; `idle`: the medium is idle and no frame is queued. -/
  | calStepStart (n : Fin 3) (kind : CalKind) (c : Fin 16) (idle : Bool)
  /-- CAL_STEP_END. R100: the step ends; `ok` is false where a feedback receiver fails its reference tone. -/
  | calStepEnd (n : Fin 3) (ok : Bool)
  /-- CAL_OVERDUE. R101: the period of a calibration cycle ends. -/
  | calOverdue (n : Fin 3)
  /-- DPD_CAPTURE. R102: a transmitted frame of chain `c` ended; `hot`: measured more than 0.5 dB above the ceiling (R107). -/
  | dpdCapture (c : Fin 16) (dataUs : Nat) (inRange : Bool) (fin : FrameEnd) (saturated : Bool) (hot : Bool)
  /-- DPD_ADOPT. R103: the estimator's candidate is tested. -/
  | dpdAdopt (c : Fin 16) (noWorse : Bool)
  /-- CHN_REG_SELECT. R108: a write of CHN_REG_SELECT. -/
  | chnRegSelect (m : Master) (v : Word)
  /-- FUSE_PROGRAM. R109: a write of CHN_FUSE_CTRL with PROGRAM. -/
  | fuseProgram (m : Master) (v : Word)
  /-- FUSE_LOCK. R109: a write of CHN_FUSE_CTRL with LOCK. -/
  | fuseLock (m : Master) (v : Word)
  /-- FUSE_PROGRAM_DONE. R109: fuse programming ends. -/
  | fuseProgramDone
  /-- EXT_REQ_RISE. R110: EXT_REQ rises with EXT_PRI at `pri`. -/
  | extReqRise (pri : Bool)
  /-- EXT_PRI_RISE. R110: EXT_PRI rises while EXT_REQ is high. -/
  | extPriRise
  /-- EXT_REQ_FALL. R110: EXT_REQ falls. -/
  | extReqFall
  /-- EXT_GNT_PRESLOT_DROP. R110: 10 µs before a BCN, DLS, ULT or STP slot edge of a masked radio. -/
  | extGntPreslotDrop
  /-- DEV_REQ_RAISE. R111: a transmission or ULT slot of radio `n` is DEV_LEAD away, or a contention frame is ready. -/
  | devReqRaise (n : Fin 3)
  /-- DEV_GNT_FALL. R111: DEV_GNT falls. -/
  | devGntFall
  /-- DEV_TIMEOUT. R111: a contention frame has waited DEV_TIMEOUT. -/
  | devTimeout (n : Fin 3)
  /-- DEV_REQ_RELEASE. R111: 0.2 µs after the last frame. -/
  | devReqRelease
  /-- PREAMBLE_DETECT. R121, R123: what radio n's main detector finds. -/
  | preambleDetect (n : Fin 3) (d : Detection)
  /-- RX_RESTART. R121: the watch detector finds a preamble, OFDM or DSSS. -/
  | rxRestart (n : Fin 3) (power : Int) (dsss : Bool)
  /-- PPDU_RECEIVE_END. R125: a reception ends. -/
  | ppduReceiveEnd (n : Fin 3) (e : RxEnd)
  /-- MAP_RECOMPUTE. R133: link k's RECOMPUTE period has elapsed, or 16 PPDUs have been measured of a stale map. -/
  | mapRecompute (n : Fin 3) (k : Fin 8)
  /-- STP_RECOMPUTE. R147: a write of RADn_STP_MAP_SEL with RECOMPUTE = 1. -/
  | stpRecompute (m : Master) (n : Fin 3) (v : Word)
  /-- STP_OFFER. R147: a write of RADn_STP_MAP_SEL with OFFER = 1. -/
  | stpOffer (m : Master) (n : Fin 3) (v : Word)
  /-- MAP_OFFER_SEND. R134: a new map of link k is offered. -/
  | mapOfferSend (n : Fin 3) (k : Fin 8)
  /-- MAP_ACCEPT_TIMEOUT. R134: 2 ms before the activation time of link k's pending map. -/
  | mapAcceptTimeout (n : Fin 3) (k : Fin 8)
  /-- SPAN_START. R135: a Stipple span of radio n starts. -/
  | spanStart (n : Fin 3)
  /-- STIPPLE_DATA_PPDU. R136: a data PPDU to link k's peer: its Stipple symbols, its duration in ns as an EHT PPDU, the rest of the exchange in ns, its data. -/
  | stippleDataPpdu (n : Fin 3) (k : Fin 8) (symbols : Fin 4096) (eht rest : Nat) (data : StpData)
  /-- MAP_STALE. R137: link k's maps are held against the channel, the chains and the age limit. -/
  | mapStale (n : Fin 3) (k : Fin 8)
  /-- CONTOUR_WINDOW. R140, R187: an idle window on 20 MHz channel c (as R104's maps number it) of radio 0 to 2, or on the Traverse (3), with its power as a ratio to −128 dBm in 2^-16. -/
  | contourWindow (path : Fin 4) (c : Nat) (power : Nat)
  /-- MEAS_CMD. R142: a write of RADn_MEAS_CMD. -/
  | measCmd (m : Master) (n : Fin 3) (v : Word)
  /-- MEAS_RUN. R142: the command runs in a QUI run, with the power of every window measured. -/
  | measRun (n : Fin 3) (powers : List Nat)
  /-- SURVEY_WORD0_WRITE. R148: a write of CHN_SURVEYk word 0. -/
  | surveyWord0Write (m : Master) (k : Fin 64) (v : Word)
  /-- SLOT_EDGE. R152: a slot of radio n starts on TB0; at an edge the new run begins. -/
  | slotEdge (n : Fin 3)
  /-- BEACON_RUN. R157: the beacons of a BCN run with their durations in ns, one for each BSS still to go. -/
  | beaconRun (n : Fin 3) (durs : List Nat)
  /-- DLS_EXCHANGE. R159: an exchange whose PPDU lasts `dur` ns, `total` with its responses; the PPDU, and the stations sounded in the exchange. -/
  | dlsExchange (n : Fin 3) (dur total : Nat) (p : Ppdu) (sounded : List Nat)
  /-- ULT_ROUND. R160: a trigger round; the stations that answered, with their buffer reports in KiB. -/
  | ultRound (n : Fin 3) (times : UltTimes) (answers : List (Nat × Nat))
  /-- CTN_CONTEND. R161: contention won for an exchange whose PPDU lasts `dur` ns, `total` with its responses; the PPDU as planned. -/
  | ctnContend (n : Fin 3) (dur total : Nat) (p : Ppdu)
  /-- REST_ENTER. R162: radio n rests; `xo`: XO80 is held running for the whole run. -/
  | restEnter (n : Fin 3) (xo : Bool)
  /-- CTS_TO_SELF. R163: a CTS-to-self of `dur` ns; `idle`: the medium has been idle for PIFS. -/
  | ctsToSelf (n : Fin 3) (dur : Nat) (idle : Bool)
  /-- LATE_FRAME. R164: a frame returned LATE, with the packets it did not send; for beacons their BSSs. -/
  | lateFrame (n : Fin 3) (k : TxKind) (ids : List Nat)
  /-- STATION_WORD0_WRITE. R167: a write of word 0 of a station entry. -/
  | stationWord0Write (m : Master) (st : Fin 4096) (v : Word)
  /-- EMLSR_CLAIM. R169: a claim for an exchange of `dur` ns; `collide`: another radio claims in the same cycle. -/
  | emlsrClaim (n : Fin 3) (st : Fin 4096) (dur : Nat) (collide : Bool)
  /-- GRANT_SUBMIT. R171: master `m` writes `v` to RADn_GRT_GRANT_IN word 3. -/
  | grantSubmit (m : Master) (n : Fin 3) (v : Word)
  /-- SHADOW_WRITE. R173: master `m` writes `v` to word `x` of radio `n`'s shadow window. -/
  | shadowWrite (m : Master) (n : Fin 3) (x : Fin 8192) (v : Word)
  /-- GRT_COMMIT. R173: a write of RADn_GRT_COMMIT. -/
  | grtCommit (m : Master) (n : Fin 3) (v : Word)
  /-- DOMAIN_EN_WRITE. R174: a write of RADn_GRT_CTRL. -/
  | domainEnWrite (m : Master) (n : Fin 3) (v : Word)
  /-- GUARD_RECOMPUTE. R175: every 1 ms. -/
  | guardRecompute
  /-- REFERENCE_PERIOD_END. R177: a reference period of 100 TU ends. -/
  | referencePeriodEnd
  /-- TRAVERSE_SLOT_START. R181: a Traverse slot starts on TB0. -/
  | traverseSlotStart
  /-- TRAVERSE_FRAME_RECEIVE. R190: a frame has been received: its PHY header as it came (R182), header through tag, the power on each port (R113), the SINR as a power ratio in 2^-16, the carrier offset in Hz from the frequency the receiver is tuned to, and how many ns ago its stamp point was. -/
  | traverseFrameReceive (phy : BitVec 26) (bytes : List Byte) (powerA powerB : Nat) (sinr : Nat) (cfo : Int) (ago : Nat)
  /-- TRAVERSE_FRAME_SEND. R195: the channel has been sensed idle. -/
  | traverseFrameSend
  /-- HOPMAP_NEXT_ARM. R183: a write of TRV_HOPMAP_NEXT_EPOCH. -/
  | hopmapNextArm (m : Master) (v : Word)
  /-- BEACON_SEND. R197: 35 µs into a Traverse slot. -/
  | beaconSend
  /-- DELAY_REQ_SEND. R199: an epoch has begun, or REF has changed. -/
  | delayReqSend
  /-- DELAY_RETRY. R199: 8 of the member's transmit slots have passed without an answer. -/
  | delayRetry
  /-- JOIN. R205: a write of TRV_CTRL with JOIN = 1. -/
  | join (m : Master) (v : Word)
  /-- LEAVE. R205: a write of TRV_CTRL with LEAVE = 1. -/
  | leave (m : Master) (v : Word)
  /-- SCAN_CHANNEL_MOVE. R205: 1 s on a scanned channel has passed. -/
  | scanChannelMove
  /-- DOMAIN_KEY_WRITE. R212: a write of TRV_DKEYn word k. -/
  | domainKeyWrite (m : Master) (n : Fin 2) (k : Fin 4) (v : Word)
  /-- HOST_TX_GO. R212: a write of TRV_HOST_TX with GO = 1. -/
  | hostTxGo (m : Master) (v : Word)
  /-- WUR_FRAME_ACCEPT. R208: a frame has reached the wake-up receiver: a WUR Wake-up frame or another, its FCS, whether its ID is the broadcast one, its ID, its sender
  and when each port found it. -/
  | wurFrameAccept (wake fcsOk bcast : Bool) (id : BitVec 12) (sender : WurSender)
  /-- WUR_TRANSMIT. R209: a Traverse slot begins that a waiting wake-up frame may use. -/
  | wurTransmit
  /-- RDV_ARM. R210: a write of WUR_RDV_CTRL with ARM = 1. -/
  | rdvArm (m : Master) (v : Word)
  /-- RDV_DISARM. R213: a write of WUR_RDV_CTRL with DISARM = 1. -/
  | rdvDisarm (m : Master) (v : Word)
  /-- RDV_TIME_REACHED. R210: T is reached. -/
  | rdvTimeReached
  /-- RDV_WAIT_EXPIRE. R210: WAIT has passed since T. -/
  | rdvWaitExpire
  /-- RDV_CALL. R210: INTERVAL has passed in CALLING. -/
  | rdvCall
  /-- RDV_SPAN_END. R210: T + S + WAIT has passed. -/
  | rdvSpanEnd
  /-- TB_SET. R217: master `m` writes `v` to TBn_CTRL. -/
  | tbSet (m : Master) (n : Fin 8) (v : Word)
  /-- TB_STEP. R217: master `m` writes `v` to TBn_STEP_HI. -/
  | tbStep (m : Master) (n : Fin 8) (v : Word)
  /-- TB_SLEW. R217: master `m` writes `v` to TBn_SLEW. -/
  | tbSlew (m : Master) (n : Fin 8) (v : Word)
  /-- TB_RATE. R217: master `m` writes `v` to TBn_RATE_HI. -/
  | tbRate (m : Master) (n : Fin 8) (v : Word)
  /-- TCLK_STOP. R215: the first XO32K edge after TCLK stops. -/
  | tclkStop
  /-- TCLK_RESUME. R215: the first XO32K edge after TCLK is stable. -/
  | tclkResume
  /-- XO32K_CARRY_EDGE. R215: an XO32K edge while XO32K carries the time bases. -/
  | xo32kCarryEdge
  /-- PTP_LOCKED_EXPIRE. R220: 4 s have passed without a rate, slew or LOCKED write to the PTP base. -/
  | ptpLockedExpire
  /-- PTP_STEER. R222: a millisecond of PTP steering has passed. -/
  | ptpSteer
  /-- CAPTURE_EVENT. R226: an edge of source `src`, `sub` ns into the present tick. -/
  | captureEvent (src : Fin 22) (rising : Bool) (sub : Fin 4)
  /-- CAP_SW. R226: master `m` writes `v` to CAPc_CTRL. -/
  | capSw (m : Master) (c : Fin 16) (v : Word)
  /-- CAP_DATA_READ. R226: master `m` reads CAPc_DATA0. -/
  | capDataRead (m : Master) (c : Fin 16)
  /-- CMP_TARGET_COMMIT. R228: master `m` writes `v` to CMPm_TARGET0. -/
  | cmpTargetCommit (m : Master) (c : Fin 16) (v : Word)
  /-- COMPARE_FIRE. R228: a tick at which compare unit `c` may fire. -/
  | compareFire (c : Fin 16)
  /-- PPS_PULSE. R233: PPS_OUT rises or falls. -/
  | ppsPulse (high : Bool)
  /-- TX_STAMP. R235: a frame of port `q` (0 to 3) or radio `q` − 4 passes its stamp point. -/
  | txStamp (q : Fin 7) (tb : Fin 8) (attempt : Nat) (id : BitVec 16)
  /-- TXQ_HEAD_READ. R235: master `m` reads TXQ_HEAD0 of queue `q`. -/
  | txqHeadRead (m : Master) (q : Fin 7)
  /-- CAL_NOW_READ. R237: master `m` reads CAL_NOW0. -/
  | calNowRead (m : Master)
  /-- CAL_SET. R238: master `m` writes `v` to CAL_CTRL. -/
  | calSet (m : Master) (v : Word)
  /-- CAL_SECOND. R237: the XO32K edge at which the subseconds wrap, with the XO32K period measured over the second where XO80 ran (R215). -/
  | calSecond (period : Option Word)
  /-- VBAT_LOSS. R241: VBAT falls below 1.6 V. -/
  | vbatLoss
  /-- PACKET_PARSE. R249: the parser takes the oldest waiting packet of a source. -/
  | packetParse (src : Fin 68)
  /-- PKT_CLASSIFY. R262: the classification of packet `k` returns. -/
  | pktClassify (k : Nat)
  /-- FLOW_LOOKUP. R273: the flow lookup of packet `k` returns. -/
  | flowLookup (k : Nat)
  /-- ROUTE_LOOKUP. R266: the route lookup of packet `k` returns. -/
  | routeLookup (k : Nat)
  /-- FLOW_CREATE. R274: the creation for packet `k` begins, or both its DRAM writes are done (`written`). -/
  | flowCreate (k : Nat) (written : Bool)
  /-- PACKET_REWRITE. R269: packet `k` is rewritten for its next hop. -/
  | packetRewrite (k : Nat)
  /-- RECIRCULATE. R271: packet `k` goes back through the parser. -/
  | recirculate (k : Nat)
  /-- PKT_RELEASE. R248: packet `k` leaves its PKT role if no earlier packet holds it. -/
  | pktRelease (k : Nat)
  /-- RULE_STAGE_WRITE. R263: master `m` writes word `w` of rule `x`. -/
  | ruleStageWrite (m : Master) (x : Fin 16384) (w : Fin 15) (v : Word)
  /-- RULE_COMMIT. R263: master `m` writes word 15 of rule `x`. -/
  | ruleCommit (m : Master) (x : Fin 16384) (v : Word)
  /-- NEXTHOP_COMMIT. R268: master `m` writes word 3 of next hop `h`. -/
  | nexthopCommit (m : Master) (h : Fin 65536) (v : Word)
  /-- RANGE_COMMIT. R264: master `m` writes W1 of comparator `i`. -/
  | rangeCommit (m : Master) (i : Fin 256) (v : Word)
  /-- PROFILE_WRITE. R260: master `m` writes extract `e` of profile `k` of partition `q`. -/
  | profileWrite (m : Master) (q k : Fin 4) (e : Fin 8) (v : Word)
  /-- ROUTE_ADD. R267: a write of RTE_CMD with OP 1. -/
  | routeAdd (m : Master) (v : Word)
  /-- ROUTE_DELETE. R267: a write of RTE_CMD with OP 2. -/
  | routeDelete (m : Master) (v : Word)
  /-- ROUTE_LOOK_UP. R267: a write of RTE_CMD with OP 3. -/
  | routeLookUp (m : Master) (v : Word)
  /-- ROUTE_CMD_DONE. R267: the route command ends. -/
  | routeCmdDone
  /-- FLW_READ. R279: a write of FLW_CMD with OP 1. -/
  | flwRead (m : Master) (v : Word)
  /-- FLW_INSERT. R279: a write of FLW_CMD with OP 2. -/
  | flwInsert (m : Master) (v : Word)
  /-- FLW_DELETE. R279: a write of FLW_CMD with OP 3. -/
  | flwDelete (m : Master) (v : Word)
  /-- FLW_FLUSH. R279: a write of FLW_CMD with OP 4. -/
  | flwFlush (m : Master) (v : Word)
  /-- FLOW_TOUCH. R277: the oldest touch reaches its entry. -/
  | flowTouch
  /-- FLOW_SWEEP. R277: a sweep reads the whole table. -/
  | flowSweep
  /-- ENQUEUE. R290: the oldest packet on its way to a queue arrives there. -/
  | enqueue
  /-- SPILL_RETURN. R291: queue `i` moves spilled packets back on-chip. -/
  | spillReturn (i : Fin 32864)
  /-- ETH_DEQUEUE. R300: port `p` takes its next packet. -/
  | ethDequeue (p : Fin 4)
  /-- HOST_DEQUEUE. R300: the host root is served. -/
  | hostDequeue
  /-- RADIO_DRAW. R301: the AIR role of radio `n` draws. -/
  | radioDraw (n : Fin 3) (d : DrawReq)
  /-- SHAPER_WAKE. R297: the wake-up timer of a root fires. -/
  | shaperWake (root : Fin 8)
  /-- QUEUE_RECORD_WRITE. R292: master `m` writes word `w` of record `i`. -/
  | queueRecordWrite (m : Master) (i : Fin 40960) (w : Fin 4) (v : Word)
  /-- SHAPER_COMMIT. R297: master `m` writes word 1 of shaper `k`. -/
  | shaperCommit (m : Master) (k : Fin 8192) (v : Word)
  /-- STATION_HOME_MOVE. R287: the old home has retired every token it holds for station `st`. -/
  | stationHomeMove (st : Fin 4096)
  /-- STATION_FLUSH. R304: the flush of station `st` runs to its end. -/
  | stationFlush (st : Fin 4096)
  /-- POLICER_COMMIT. R305: master `m` writes word 1 of policer `p`. -/
  | policerCommit (m : Master) (p : Fin 65536) (v : Word)
  /-- METER. R306: the meter request of packet `k` is applied. -/
  | meter (k : Nat)
  /-- POLICER_REFRESH. R306: QSC role `q` refreshes its policers and shapers. -/
  | policerRefresh (q : Fin 2)
  /-- ETH_FRAME_RECEIVE. R311: port `p` has received a frame, FCS included. -/
  | ethFrameReceive (p : Fin 4) (bytes : List Byte) (codeErr : Bool)
  /-- PAUSE_EXPIRE. R314: the pause timer of class `c` of port `p` runs out. -/
  | pauseExpire (p : Fin 4) (c : Fin 8)
  /-- PFC_XOFF. R315: the ingress FIFO of port `p` has risen above XOFF. -/
  | pfcXoff (p : Fin 4)
  /-- PFC_REFRESH. R315: half of TIME has passed since the last pause frame of port `p`. -/
  | pfcRefresh (p : Fin 4)
  /-- PFC_XON. R315: the ingress FIFO of port `p` has fallen below XON. -/
  | pfcXon (p : Fin 4)
  /-- LINK_CHANGE. R310: the link of port `p` goes up or down; `receiving`: a frame was being received. -/
  | linkChange (p : Fin 4) (up receiving : Bool)
  /-- ETH_CTRL_WRITE. R310: master `m` writes ETH_CTRLp. -/
  | ethCtrlWrite (m : Master) (p : Fin 4) (v : Word)
  /-- PCIE_RESET. R320: a PCIe reset or loss of link; `up`: the link is there after it. -/
  | pcieReset (up : Bool)
  /-- RING_ENABLE. R321: master `m` writes CTRL of ring `r` with EN = 1. -/
  | ringEnable (m : Master) (r : Fin 33) (v : Word)
  /-- RING_DISABLE. R321: master `m` writes CTRL of ring `r` with EN = 0. -/
  | ringDisable (m : Master) (r : Fin 33) (v : Word)
  /-- RING_TAIL_POST. R321: master `m` writes IDX of ring `r`. -/
  | ringTailPost (m : Master) (r : Fin 33) (v : Word)
  /-- TX_DESCRIPTOR. R323: the HST role takes the frame of the next descriptors of ring `r`; no data = a read error. -/
  | txDescriptor (r : Fin 16) (ds : List (Word × Word × Word × Word)) (data : Option (List Byte))
  /-- RX_WRITEBACK. R324: the packet sent to ring `q` goes into the buffers of the next descriptors (words 0 to 2). -/
  | rxWriteback (q : Fin 16) (ds : List (Word × Word × Word))
  /-- RING_PCIE_ERROR. R321: a PCIe error strikes a descriptor access of ring `r`. -/
  | ringPcieError (r : Fin 33)
  /-- EVENT_RECORD. R326: the oldest event record is written. -/
  | eventRecord
  /-- MSIX_SIGNAL. R327: vector `v` signals if its count or holdoff is reached. -/
  | msixSignal (v : Fin 64)
  /-- SECONDARY_REQUEST. R329: the oldest secondary request is carried out; `collide`: operations that meet a PCIe access of the same register (R330). -/
  | secondaryRequest (collide : List Bool)
  /-- MEMORY_SCRUB. R345: the background pass of the packet buffer (`pb`) or the Plate cache reads a word. -/
  | memoryScrub (pb : Bool) (bank : Fin 256) (word : Fin 8192) (r : ScrubRead)
  /-- MEMORY_UE. R346: an uncorrectable read of a word of a bank. -/
  | memoryUe (p : MemPlace) (bank : Fin 256) (word : Fin 8192)
  /-- PLATE_PAGE_REFETCH. R346: a Plate-cache page has been read again from flash. -/
  | platePageRefetch (page : Fin 2048)
  /-- RETENTION_RESTORE. R350: retained banks that fail as (role code − 1, scratchpad, no snapshot reads), and failing key arrays (0 pairwise, 1 group, 2 MACsec, 3 domain). -/
  | retentionRestore (failed : List (Fin 12 × Fin 16 × Bool)) (arrays : List (Fin 4))
  /-- DRAM_REFRESH. R357: a refresh of subchannel `sc` falls due. -/
  | dramRefresh (sc : Fin 2)
  /-- DRAM_MR4_READ. R357: the hottest reading of subchannel `sc`: above 85 °C, above the operating limit. -/
  | dramMr4Read (sc : Fin 2) (hot tooHot : Bool)
  /-- REFRESH_REPAY. R358: subchannel `sc` can repay a refresh. -/
  | refreshRepay (sc : Fin 2)
  /-- ZQ_CALIBRATION. R353: ZQ calibration of subchannel `sc`. -/
  | zqCalibration (sc : Fin 2)
  /-- DRAM_COMMAND_ISSUE. R360: requests arrive, and a command slot of subchannel `sc` falls; `ready`: the waiting requests, by place, whose next command may issue. -/
  | dramCommandIssue (sc : Fin 2) (arrived : List DramReq) (ready : List Nat)
  /-- DRAM_READ_RETURN. R361: the oldest read in flight of a port returns. -/
  | dramReadReturn (port : Fin 10) (r : DramRead)
  /-- DRAM_PATROL_SCRUB. R361: the patrol scrubber reads a line. -/
  | dramPatrolScrub (line : Fin 268435456) (r : DramRead)
  /-- ALERT_N_FALL. R363: ALERT_n of subchannel `sc` falls. -/
  | alertNFall (sc : Fin 2)
  /-- DRAM_DEVICE_LOSS. R362: subchannel `sc` has lost the device of a byte lane, 4 = the ECC device. -/
  | dramDeviceLoss (sc : Fin 2) (lane : Fin 5)
  /-- DRAM_THAW. R364: master `m` writes DRC_CTRL. -/
  | dramThaw (m : Master) (v : Word)
  /-- KEY_LOAD. R372: a write of KEY_CMD with OP = 1. -/
  | keyLoad (m : Master) (v : Word)
  /-- KEY_CLEAR. R372: a write of KEY_CMD with OP = 2. -/
  | keyClear (m : Master) (v : Word)
  /-- KEY_READ. R372: a write of KEY_CMD with OP = 3. -/
  | keyRead (m : Master) (v : Word)
  /-- KEY_SET_TX. R372: a write of KEY_CMD with OP = 4. -/
  | keySetTx (m : Master) (v : Word)
  /-- KEY_LINK. R372: a write of KEY_CMD with OP = 5. -/
  | keyLink (m : Master) (v : Word)
  /-- PN_ASSIGN. R373: an encryption under slot `i` of class `c`. -/
  | pnAssign (c : Fin 3) (i : Fin 8192)
  /-- KEY_SLOT_FAULT. R378: an uncorrectable error in slot `i` of class `c`. -/
  | keySlotFault (c : Fin 3) (i : Fin 8192)
  /-- SEAL_CLAIM. R380: a write of SEAL_LOCK with CLAIM = 1. -/
  | sealClaim (m : Master) (tag : Fin 65536)
  /-- SEAL_RELEASE. R380: a write of SEAL_LOCK with RELEASE = 1. -/
  | sealRelease (m : Master) (tag : Fin 65536)
  /-- SEAL_LEASE_EXPIRE. R380: 100 ms without a SEAL_ write while idle frees the lock. -/
  | sealLeaseExpire
  /-- SEAL_GO. R381: a write of SEAL_CMD with GO = 1. -/
  | sealGo (m : Master) (decrypt key256 : Bool)
  /-- SEAL_JOB_DONE. R382: the job ends, having read this additional data and input from host memory; `none`: a PCIe error. -/
  | sealJobDone (data : Option (List Byte × List Byte))
  /-- FUSE_CUST_WRITE. R385: a write of KEY_FUSE_CTRL with OP = 1. -/
  | fuseCustWrite (m : Master) (v : Word)
  /-- FUSE_CUST_REVOKE. R385: a write of KEY_FUSE_CTRL with OP = 2. -/
  | fuseCustRevoke (m : Master) (v : Word)
  /-- FUSE_ROLLBACK_BLOW. R385: a write of KEY_FUSE_CTRL with OP = 3. -/
  | fuseRollbackBlow (m : Master) (v : Word)
  /-- KEY_FUSE_DONE. R385: Key fuse programming ends with DONE or ERROR. -/
  | keyFuseDone
  /-- ATT_GO. R387: a write of KEY_ATT_CTRL with GO = 1. -/
  | attGo (m : Master)
  /-- ATT_DONE. R387: The attestation signature completes and DONE sets. -/
  | attDone
  /-- RNG_HEALTH_FAIL. R388: A failed health test sets RNG_FAIL and blocks device draws. -/
  | rngHealthFail
  /-- CHECK_DATA_WRITE. R390: a write of CKn_DATA8, CKn_DATA16 or CKn_DATA32 (`size` 0 to 2). -/
  | checkDataWrite (m : Master) (n : Fin 4) (size : Fin 3) (v : Word)
  /-- CHECK_START. R390: a write of CKn_CTRL with START = 1. -/
  | checkStart (m : Master) (n : Fin 4) (v : Word)
  /-- CHECK_CONFIG_WRITE. R390: a write of CKn_CTRL (START = 0), CKn_POLY, CKn_INIT or CKn_XOROUT (`k` 0 to 3). -/
  | checkConfigWrite (m : Master) (n : Fin 4) (k : Fin 4) (v : Word)
  /-- CHECK_VALUE_WRITE. R391: a write of CKn_VALUE. -/
  | checkValueWrite (m : Master) (n : Fin 4) (v : Word)
  /-- CHECK_RESULT_READ. R390: a read of CKn_VALUE, or with `result` of CKn_RESULT. -/
  | checkResultRead (m : Master) (n : Fin 4) (result : Bool)
  /-- MBX_OPEN. R403: a write of PLT_MBX_CMD with OP = 1. -/
  | mbxOpen (m : Master)
  /-- MBX_BLOCK. R404: a write of PLT_MBX_CMD with OP = 2. -/
  | mbxBlock (m : Master)
  /-- MBX_PROOF. R405: a write of PLT_MBX_CMD with OP = 3. -/
  | mbxProof (m : Master)
  /-- PROOF_DONE. R401: proofing ends. -/
  | proofDone
  /-- MBX_RECUT. R406: a write of PLT_MBX_CMD with OP = 4. -/
  | mbxRecut (m : Master)
  /-- MBX_CANCEL. R401: a write of PLT_MBX_CMD with OP = 5. -/
  | mbxCancel (m : Master)
  /-- MBX_COPY. R407: a write of PLT_MBX_CMD with OP = 6. -/
  | mbxCopy (m : Master)
  /-- COPY_DONE. R407: the copy ends; `bad`: the first block whose read-back differs. -/
  | copyDone (bad : Option Nat)
  /-- MBX_FLASH_DONE. R401: a flash operation ends; `ok`: the read-back agrees. -/
  | mbxFlashDone (ok : Bool)
  /-- PWR_SLEEP. R414: a write of PWR_CMD with OP 1. -/
  | pwrSleep (m : Master)
  /-- PWR_DEEP. R414: a write of PWR_CMD with OP 2. -/
  | pwrDeep (m : Master) (noHost : Bool)
  /-- PWR_OFF. R414: a write of PWR_CMD with OP 3. -/
  | pwrOff (m : Master) (noHost : Bool) (key : BitVec 16)
  /-- PWR_RESTART. R428: a write of PWR_CMD with OP 4. -/
  | pwrRestart (m : Master) (key : BitVec 16)
  /-- PWR_ABORT. R417: a write of PWR_CMD with OP 5. -/
  | pwrAbort (m : Master)
  /-- CLUSTER_GRANT. R415: the cluster asked answers; `d3hot`: the host has the function in D3hot. -/
  | clusterGrant (d3hot : Bool)
  /-- HANDSHAKE_TIMEOUT. R415: the bound of the cluster asked passes. -/
  | handshakeTimeout
  /-- COMMIT_WINDOW_CLOSE. R418: the edge that closes the window, with the levels of sources 1 and 8. -/
  | commitWindowClose (wakeN fault : Bool)
  /-- ENTRY_ACTIONS_DONE. R419: the entry actions end. -/
  | entryActionsDone
  /-- WAKE_REGISTER. R421: an XO32K edge that registers a wake, with the levels of sources 1 and 8. -/
  | wakeRegister (wakeN fault : Bool)
  /-- RETURN_COMPLETE. R422: the return time has passed; which PLLs have locked. -/
  | returnComplete (eng pkt serdes : Bool)
  /-- PWR_FUNC_WRITE. R424: a write of PWR_FUNC. -/
  | pwrFuncWrite (m : Master) (v : Word)
  /-- FUNC_SHUTDOWN_DONE. R424: the shutdown or start-up of function i (bits as PWR_FUNC) completes. -/
  | funcShutdownDone (i : Fin 8)
  /-- PHASE_FAULT. R426: a phase of a rail (VCORE, VSRAM, VRET, VPHY, VRF, VRFH) is faulty. -/
  | phaseFault (rail : Fin 6) (phase : Fin 6)
  /-- CLOCK_FAULT. R442: a PLL or oscillator fails in service. -/
  | clockFault (c : ClockFault)
  /-- CLUSTER_CHECK_FAIL. R440: a check of a fixed-logic cluster fails at a unit. -/
  | clusterCheckFail (c : Cluster) (unit : Fin 1024)
  /-- CLUSTER_RESET_DONE. R440: its reset and self-test end, `us` microseconds after the detection. -/
  | clusterResetDone (c : Cluster) (pass : Bool) (us : Nat)
  /-- DIE_LINK_LANE_FAULT. R441: a lane is faulty; traffic across the link waits `us` microseconds. -/
  | dieLinkLaneFault (lane : Fin 48) (us : Fin 5)
  /-- MONITOR_CONVERSION. R470: a conversion, in the units of R471. -/
  | monitorConversion (vin vddio : BitVec 12) (vbat : BitVec 8) (t0 t1 : BitVec 10)
  /-- TAP_EXTEST. R473: EXTEST takes every ball from its function for boundary scan. -/
  | tapExtest
  /-- TAP_SAMPLE_PRELOAD. R472: SAMPLE/PRELOAD selects the boundary-scan register. -/
  | tapSamplePreload
  /-- TAP_IDCODE. R472: IDCODE selects the 32-bit identity register. -/
  | tapIdcode
  /-- TAP_CLAMP. R473: CLAMP holds the balls from boundary cells with the bypass register selected. -/
  | tapClamp
  /-- TAP_HIGHZ. R473: HIGHZ sets every ball to high impedance. -/
  | tapHighz
  /-- TAP_BYPASS. R472: BYPASS, or an undefined or locked instruction, selects the 1-bit bypass register. -/
  | tapBypass
  /-- TAP_DBG_STATUS. R481: DBG_STATUS returns the stylus status register. -/
  | tapDbgStatus
  /-- UNLOCK_CHAL. R474: Shifting out UNLOCK_CHAL issues a new challenge. -/
  | unlockChal
  /-- UNLOCK_RESP. R474: UNLOCK_RESP on Update-DR, with the 7,889 bytes shifted in. -/
  | unlockResp (resp : List Byte)
  /-- UNLOCK_VERIFY_DONE. R474: Verification of the response ends and the port unlocks or FAILS increments. -/
  | unlockVerifyDone
  /-- TAP_LOCK. R475: LOCK ends the session, releasing any halted engine and clearing breakpoints. -/
  | tapLock
  /-- TRST_N_LOW. R475: TRST_N low resets the TAP and ends an open session. -/
  | trstNLow
  /-- STYLUS_HALT. R476: HALT_CTRL with OP HALT names engine e; what its tokens in flight write and send as they retire (R72). -/
  | stylusHalt (e : BitVec 4) (rets : List (List (Nat × BitVec 512) × List (List Byte)))
  /-- STYLUS_STEP. R477: HALT_CTRL with OP STEP; what the token does. -/
  | stylusStep (run : TokenRun)
  /-- STYLUS_RUN. R477: HALT_CTRL with OP RUN; what the tokens do, in order, as far as they have run. -/
  | stylusRun (runs : List TokenRun)
  /-- STYLUS_STOP. R477: HALT_CTRL STOP ends a RUN. -/
  | stylusStop
  /-- STYLUS_RELEASE. R477: HALT_CTRL RELEASE clears the halted engine and returns it as a blank. -/
  | stylusRelease
  /-- TAP_BREAK. R478: the BREAK register on Update-DR. -/
  | tapBreak (w : BitVec 137)
  /-- TAP_ACCESS. R479: the ACCESS register on Update-DR; whether a host writes the same register in the same cycle (R480), and how a DRAM read ends (R361). -/
  | tapAccess (w : BitVec 80) (collide : Bool) (o : DramRead)
  /-- XO32K_STABLE. R427: The XO32K crystal becomes stable after first power, XO32K_OK sets, and Sleep, Deep, Off and carrying of time bases become possible. -/
  | xo32kStable
  /-- XO80_RUNNING. R430: An XO80 that did not start at step 3 begins running, XO80_OK sets, TCLK resumes and the radios start under R90. -/
  | xo80Running
  /-- DEV_GNT_RISE. R111: DEV_GNT has been high for 0.1 µs. -/
  | devGntRise
  /-- CAL_ALARM_EDGE. R240: an XO32K edge at which the count may have reached the alarm. -/
  | calAlarmEdge
  /-- PCIE_LANE_FAULT. R439: a PCIe lane loses lock or fails its driver monitor. -/
  | pcieLaneFault (lane : Fin 4)
  /-- PERST_N_RISE. R429: PERST_N rising ends the PCIe reset and the endpoint answers configuration requests within 20 ms and trains its link. -/
  | perstNRise
  /-- RAIL_LEAVES_REGULATION. R443: the load of a rail passes what its remaining phases carry. -/
  | railLeavesRegulation (rail : Fin 6)
deriving DecidableEq, Repr

end Sys2Proof
end

