-- ==== Sys2Proof/Decode.lean ====
section
/-! DEFINITION. Words of the opcode table. The rows of spec/opcode_table.json give their commands no bits: a command reaches the block as a register
access, a frame, a pin or an event, never as a word, so no word spells one. -/

namespace Sys2Proof

/-- The command that a table word spells: none, since no row gives bits. -/
def decodeTableWord (_nbits _w : Nat) : Option Instr := none

end Sys2Proof
end

