-- ==== Sys2Proof/Config.lean ====
section
/-! DEFINITION. What the spec leaves free and what the implementation fixes without saying how: opaque constants, so that nothing in Lean
can evaluate them or prove a value of one. `free…` is applied to the counter `State.fresh`, which every use advances: each use is a value
of its own. The cryptographic functions are standard functions that the spec names and does not define (R21, R24, R376, R382, R387). -/

namespace Sys2Proof.Config

/-- A truth value that the spec leaves open, one for each value of the counter. DESIGN CHOICE (log 9). DESIGN CHOICE (log 42). -/
opaque freeBool : Nat → Bool

/-- A 32-bit value that the spec leaves open, one for each value of the counter. DESIGN CHOICE (log 9). -/
opaque freeWord : Nat → Word

/-- A natural number that the spec leaves open, one for each value of the counter. DESIGN CHOICE (log 9). -/
opaque freeNat : Nat → Nat

/-- Random bytes drawn from the random number generator (R388): the n-th byte of the draw numbered by the counter. -/
opaque randomByte : Nat → Nat → Byte

/-- SHA-256 of a byte string (R21). -/
opaque sha256 : List Byte → List Byte

/-- Verification of an SLH-DSA signature: public key, message, signature (R383). -/
opaque slhDsaVerify : List Byte → List Byte → List Byte → Bool

/-- Signing with SLH-DSA: private key, message (R387). DESIGN CHOICE (log 10). -/
opaque slhDsaSign : List Byte → List Byte → List Byte

/-- Key generation of SLH-DSA from a random seed: public key and private key (R386). DESIGN CHOICE (log 10). -/
opaque slhDsaKeyGen : Nat → List Byte × List Byte

/-- AES-GCM encryption: key, IV, additional data, plaintext; answers ciphertext and tag (R381). DESIGN CHOICE (log 10). -/
opaque gcmEncrypt : List Byte → List Byte → List Byte → List Byte → List Byte × List Byte

/-- AES-GCM decryption: key, IV, additional data, ciphertext; answers plaintext and the tag that the data should carry (R381). -/
opaque gcmDecrypt : List Byte → List Byte → List Byte → List Byte → List Byte × List Byte

/-- One codeword of the 802.11 LDPC code of 1,944 bits at a rate (0 = 1/2, 1 = 2/3, 2 = 3/4, 3 = 5/6) for its information bits (R130). DESIGN CHOICE (log 10). -/
opaque ldpc1944 : Nat → List Bool → List Bool

/-- Picks the RCO's actual period within its limits (R413, R430). -/
opaque rcoPeriod : Nat

/-- A role body accepts the state layout of another body (R68): bodies are opaque (R23). -/
opaque acceptsLayout : List Byte → List Byte → Bool

/-- The PCIe Vendor ID of Thohan Microsystems (R318): the manual does not print it. DESIGN CHOICE (log 10). -/
opaque vendorId : Nat

/-- Thohan's manufacturer identity code (R472): the manual does not print it. -/
opaque manufacturer : Nat

end Sys2Proof.Config
end

