-- ==== Sys2Proof/Machine/Bits.lean ====
section
/-! DEFINITION. Bit fields, byte order, signs and roundings that every chapter uses. -/

namespace Sys2Proof.Machine

/-- Bits [lo + w - 1 : lo] of a number. -/
def bits (x lo w : Nat) : Nat := x / 2 ^ lo % 2 ^ w

/-- One bit of a number. -/
def bit (x i : Nat) : Bool := bits x i 1 == 1

/-- A truth value as a one-bit number. -/
def b2n (b : Bool) : Nat := if b then 1 else 0

/-- The two's complement value of the low `w` bits of `x`. -/
def sint (w x : Nat) : Int :=
  let m := x % 2 ^ w
  if m < 2 ^ (w - 1) then (m : Int) else (m : Int) - (2 ^ w : Nat)

/-- The `w`-bit two's complement pattern of an integer. -/
def uint (w : Nat) (x : Int) : Nat := (x % ((2 ^ w : Nat) : Int)).toNat

/-- Division rounded up. -/
def ceilDiv (a b : Nat) : Nat := (a + b - 1) / b

/-- A number held within bounds. -/
def clampInt (lo hi x : Int) : Int := max lo (min hi x)

/-- Division to the nearest integer, halves away from zero (the `round` of R216). -/
def roundDiv (a : Int) (b : Nat) : Int :=
  if 0 ≤ a then (((2 * a.toNat + b) / (2 * b) : Nat) : Int) else -(((2 * (-a).toNat + b) / (2 * b) : Nat) : Int)

/-- Little-endian value of a byte string. -/
def leNat : List Byte → Nat
  | [] => 0
  | b :: bs => b.toNat + 256 * leNat bs

/-- Network-order value of a byte string. -/
def beNat (bs : List Byte) : Nat := bs.foldl (fun a b => 256 * a + b.toNat) 0

/-- The `n` low bytes of a number, least significant first. -/
def leBytes : Nat → Nat → List Byte
  | 0, _ => []
  | n + 1, x => BitVec.ofNat 8 x :: leBytes n (x / 256)

/-- The `n` low bytes of a number, most significant first. -/
def beBytes (n x : Nat) : List Byte := (leBytes n x).reverse

/-- `n` bytes of `bs` from offset `o`, zeros beyond the end. -/
def slice (bs : List Byte) (o n : Nat) : List Byte :=
  let d := (bs.drop o).take n
  d ++ List.replicate (n - d.length) 0#8

/-- The `w`-byte little-endian field at offset `o`. -/
def leAt (bs : List Byte) (o w : Nat) : Nat := leNat (slice bs o w)

/-- The `w`-byte network-order field at offset `o`. -/
def beAt (bs : List Byte) (o w : Nat) : Nat := beNat (slice bs o w)

/-- A byte string cut into 32-bit little-endian words, the last padded with zeros. -/
def leWords : Nat → List Byte → List Word
  | 0, _ => []
  | n + 1, bs => BitVec.ofNat 32 (leAt bs 0 4) :: leWords n (bs.drop 4)

/-- The bytes of little-endian words (R6). -/
def wordBytes (ws : List Word) : List Byte := ws.flatMap (fun w => leBytes 4 w.toNat)

/-- `f` applied to entry `i` of a list; the list unchanged where it has no such entry. -/
def modAt {α : Type} (l : List α) (i : Nat) (f : α → α) : List α := l.modify i f

/-- The entries of `l` with their indices. -/
def indexed {α : Type} (l : List α) : List (Nat × α) := (List.range l.length).zip l

/-- The number of bits set among the low `w` bits. -/
def popcount (w x : Nat) : Nat := ((List.range w).filter (bit x)).length

/-- The indices of the bits set among the low `w` bits, ascending. -/
def setBits (w x : Nat) : List Nat := (List.range w).filter (bit x)

/-- The largest power of two not above `x`, as an exponent. -/
def log2floor (x : Nat) : Nat := Nat.log2 x

/-- Integer square root, rounded down, by `fuel` steps of bisection from the top bit. -/
def isqrtAux (x : Nat) : Nat → Nat → Nat
  | 0, r => r
  | k + 1, r =>
    let t := r + 2 ^ k
    isqrtAux x k (if t * t ≤ x then t else r)

/-- Integer square root of a number below 2^128, rounded down. -/
def isqrt (x : Nat) : Nat := isqrtAux x 64 0

end Sys2Proof.Machine
end

