-- ==== Sys2Proof/Machine/Crc.lean ====
section
/-! DEFINITION. Cyclic redundancy checks, bit by bit (R389): the Plate's CRC-32C (R15), the frame check CRC-32, and the check units' general form. -/

namespace Sys2Proof.Machine

/-- One input bit into a `w`-bit CRC register with generator `poly` (top bit leaving first). -/
def crcBit (w poly reg : Nat) (b : Bool) : Nat :=
  let r := reg * 2 % 2 ^ w
  if bit reg (w - 1) != b then r ^^^ poly else r

/-- The bits of a byte in the order they enter: least significant first when the input is reflected. -/
def byteBits (refin : Bool) (b : Byte) : List Bool :=
  let l := (List.range 8).map (bit b.toNat)
  if refin then l else l.reverse

/-- One byte into the register. -/
def crcByte (w poly : Nat) (refin : Bool) (reg : Nat) (b : Byte) : Nat := (byteBits refin b).foldl (crcBit w poly) reg

/-- Bit order of a `w`-bit register reversed. -/
def bitRev (w x : Nat) : Nat := (List.range w).foldl (fun a i => a * 2 + b2n (bit x i)) 0

/-- The finished CRC of a register. -/
def crcFinish (w : Nat) (refout : Bool) (xorout reg : Nat) : Nat := (if refout then bitRev w reg else reg) ^^^ xorout

/-- The CRC of a byte string. -/
def crc (w poly init xorout : Nat) (refin refout : Bool) (bs : List Byte) : Nat :=
  crcFinish w refout xorout (bs.foldl (crcByte w poly refin) init)

/-- CRC-32C (R15, R389 code 0). -/
def crc32c (bs : List Byte) : Nat := crc 32 0x1EDC6F41 0xFFFFFFFF 0xFFFFFFFF true true bs

/-- CRC-32 of IEEE 802.3 (R311, R389). -/
def crc32 (bs : List Byte) : Nat := crc 32 0x04C11DB7 0xFFFFFFFF 0xFFFFFFFF true true bs

end Sys2Proof.Machine
end

