-- ==== Sys2Proof/Machine/RegAddr.lean ====
section
/-! DEFINITION. The BAR0 byte offset of every register of the manual, by the manual's name (block bases of R331, offsets
of each chapter's register table). An indexed register takes its index, or its indices from the outermost inwards. -/

namespace Sys2Proof.Machine.A

/-- R334. -/
abbrev GLB_ID : Nat := 0x0
/-- R334. -/
abbrev GLB_HOST_COLLIDE : Nat := 0x40
/-- R334. -/
abbrev GLB_HOST_COLLIDE_COUNT : Nat := 0x44
/-- R332. -/
abbrev GLB_UNMAPPED_WRITE : Nat := 0x48
/-- R445. -/
abbrev GLB_FLT_STATUS : Nat := 0x100
/-- R445. -/
abbrev GLB_FLT_PRESENT_LOC : Nat := 0x104
/-- R445. -/
abbrev GLB_FLT_PRESENT_INFO : Nat := 0x108
/-- R445. -/
abbrev GLB_FLT_PRESENT_S : Nat := 0x10C
/-- R445. -/
abbrev GLB_FLT_PRESENT_NS : Nat := 0x110
/-- R445. -/
abbrev GLB_FLT_LAST_LOC : Nat := 0x114
/-- R445. -/
abbrev GLB_FLT_LAST_INFO : Nat := 0x118
/-- R445. -/
abbrev GLB_FLT_LAST_S : Nat := 0x11C
/-- R445. -/
abbrev GLB_FLT_LAST_NS : Nat := 0x120
/-- R445. -/
abbrev GLB_FLT_LOST : Nat := 0x124
/-- R445. -/
abbrev GLB_FLT_DLK : Nat := 0x128
/-- R445. -/
abbrev GLB_FLT_COUNT (n : Nat) : Nat := 0x140 + 0x4 * n
/-- R434. -/
abbrev PWR_CMD : Nat := 0x10000
/-- R434. -/
abbrev PWR_STATUS : Nat := 0x10004
/-- R434. -/
abbrev PWR_WAKE_EN : Nat := 0x10008
/-- R434. -/
abbrev PWR_WAKE_CTRL : Nat := 0x1000C
/-- R434. -/
abbrev PWR_LAST_WAKE : Nat := 0x10010
/-- R434. -/
abbrev PWR_LAST_WAKE_S : Nat := 0x10014
/-- R434. -/
abbrev PWR_RESET_CAUSE : Nat := 0x10018
/-- R435. -/
abbrev PWR_FUNC : Nat := 0x1001C
/-- R435. -/
abbrev PWR_FUNC_STATUS : Nat := 0x10020
/-- R435. -/
abbrev PWR_CLK_CTRL : Nat := 0x10024
/-- R435. -/
abbrev PWR_CLK_STATUS : Nat := 0x10028
/-- R435. -/
abbrev PWR_PHASE_STATUS : Nat := 0x1002C
/-- R435. -/
abbrev PWR_PHASE_LOC : Nat := 0x10030
/-- R416. -/
abbrev PWR_STOPPING_REJECT : Nat := 0x10040
/-- R423. -/
abbrev PWR_WAKE_LOST : Nat := 0x10044
/-- R426. -/
abbrev PWR_PHASE_FAULT : Nat := 0x10048
/-- R434. -/
abbrev PWR_CMD_REJECT : Nat := 0x1004C
/-- R471. -/
abbrev PWR_MON_SUPPLY : Nat := 0x10080
/-- R471. -/
abbrev PWR_MON_TEMP : Nat := 0x10084
/-- R471. -/
abbrev PWR_MON_CTRL : Nat := 0x10088
/-- R471. -/
abbrev PWR_MON_PEAK : Nat := 0x1008C
/-- R242. -/
abbrev TB_TIME0 (n : Nat) : Nat := 0x20000 + 0x40 * n
/-- R242. -/
abbrev TB_TIME1 (n : Nat) : Nat := 0x20004 + 0x40 * n
/-- R242. -/
abbrev TB_TIME2 (n : Nat) : Nat := 0x20008 + 0x40 * n
/-- R242. -/
abbrev TB_SET0 (n : Nat) : Nat := 0x2000C + 0x40 * n
/-- R242. -/
abbrev TB_SET1 (n : Nat) : Nat := 0x20010 + 0x40 * n
/-- R242. -/
abbrev TB_SET2 (n : Nat) : Nat := 0x20014 + 0x40 * n
/-- R242. -/
abbrev TB_CTRL (n : Nat) : Nat := 0x20018 + 0x40 * n
/-- R242. -/
abbrev TB_RATE_LO (n : Nat) : Nat := 0x2001C + 0x40 * n
/-- R242. -/
abbrev TB_RATE_HI (n : Nat) : Nat := 0x20020 + 0x40 * n
/-- R242. -/
abbrev TB_STEP_LO (n : Nat) : Nat := 0x20024 + 0x40 * n
/-- R242. -/
abbrev TB_STEP_HI (n : Nat) : Nat := 0x20028 + 0x40 * n
/-- R242. -/
abbrev TB_SLEW (n : Nat) : Nat := 0x2002C + 0x40 * n
/-- R242. -/
abbrev TB_STATUS (n : Nat) : Nat := 0x20030 + 0x40 * n
/-- R242. -/
abbrev TB_SLEW_LEFT (n : Nat) : Nat := 0x20034 + 0x40 * n
/-- R242. -/
abbrev TB_WRITE_REJECT : Nat := 0x20200
/-- R243. -/
abbrev TB_XO32K_PERIOD : Nat := 0x20204
/-- R243. -/
abbrev TB_RX_SEL : Nat := 0x20208
/-- R243. -/
abbrev TB_TSF_OFS (n : Nat) : Nat := 0x20210 + 0x4 * n
/-- R243. -/
abbrev TB_PPS_CTRL : Nat := 0x20220
/-- R243. -/
abbrev TB_PPS_OFFSET : Nat := 0x20224
/-- R243. -/
abbrev TB_DATUM_CTRL : Nat := 0x20240
/-- R243. -/
abbrev TB_DATUM_STATUS : Nat := 0x20244
/-- R243. -/
abbrev TB_DATUM_OFFSET : Nat := 0x20248
/-- R243. -/
abbrev TB_DATUM_TRV_OFFSET : Nat := 0x2024C
/-- R243. -/
abbrev TB_DATUM_RESIDUAL : Nat := 0x20250
/-- R243. -/
abbrev TB_DATUM_FREQ : Nat := 0x20254
/-- R243. -/
abbrev TB_DATUM_PTP_OFS_LO : Nat := 0x20258
/-- R243. -/
abbrev TB_DATUM_PTP_OFS_HI : Nat := 0x2025C
/-- R221. -/
abbrev TB_DATUM_OUTLIER : Nat := 0x20260
/-- R221. -/
abbrev TB_DATUM_STEPS : Nat := 0x20264
/-- R244. -/
abbrev CAP_CTRL (n : Nat) : Nat := 0x20400 + 0x20 * n
/-- R244. -/
abbrev CAP_DATA0 (n : Nat) : Nat := 0x20404 + 0x20 * n
/-- R244. -/
abbrev CAP_DATA1 (n : Nat) : Nat := 0x20408 + 0x20 * n
/-- R244. -/
abbrev CAP_DATA2 (n : Nat) : Nat := 0x2040C + 0x20 * n
/-- R244. -/
abbrev CAP_DATA3 (n : Nat) : Nat := 0x20410 + 0x20 * n
/-- R244. -/
abbrev CAP_STATUS (n : Nat) : Nat := 0x20414 + 0x20 * n
/-- R226. -/
abbrev CAP_OVF (n : Nat) : Nat := 0x20418 + 0x20 * n
/-- R244. -/
abbrev CMP_CTRL (n : Nat) : Nat := 0x20800 + 0x20 * n
/-- R244. -/
abbrev CMP_TARGET0 (n : Nat) : Nat := 0x20804 + 0x20 * n
/-- R244. -/
abbrev CMP_TARGET1 (n : Nat) : Nat := 0x20808 + 0x20 * n
/-- R244. -/
abbrev CMP_TARGET2 (n : Nat) : Nat := 0x2080C + 0x20 * n
/-- R244. -/
abbrev CMP_PERIOD (n : Nat) : Nat := 0x20810 + 0x20 * n
/-- R244. -/
abbrev CMP_WIDTH (n : Nat) : Nat := 0x20814 + 0x20 * n
/-- R244. -/
abbrev CMP_STATUS (n : Nat) : Nat := 0x20818 + 0x20 * n
/-- R235. -/
abbrev TXQ_HEAD0 (n : Nat) : Nat := 0x21000 + 0x20 * n
/-- R235. -/
abbrev TXQ_HEAD1 (n : Nat) : Nat := 0x21004 + 0x20 * n
/-- R235. -/
abbrev TXQ_HEAD2 (n : Nat) : Nat := 0x21008 + 0x20 * n
/-- R235. -/
abbrev TXQ_HEAD3 (n : Nat) : Nat := 0x2100C + 0x20 * n
/-- R244. -/
abbrev TXQ_STATUS (n : Nat) : Nat := 0x21010 + 0x20 * n
/-- R236. -/
abbrev TXQ_OVF (n : Nat) : Nat := 0x21014 + 0x20 * n
/-- R245. -/
abbrev CAL_NOW0 : Nat := 0x22000
/-- R245. -/
abbrev CAL_NOW1 : Nat := 0x22004
/-- R245. -/
abbrev CAL_NOW2 : Nat := 0x22008
/-- R245. -/
abbrev CAL_SET0 : Nat := 0x2200C
/-- R245. -/
abbrev CAL_SET1 : Nat := 0x22010
/-- R245. -/
abbrev CAL_SET2 : Nat := 0x22014
/-- R245. -/
abbrev CAL_CTRL : Nat := 0x22018
/-- R245. -/
abbrev CAL_STATUS : Nat := 0x2201C
/-- R245. -/
abbrev CAL_DATE : Nat := 0x22020
/-- R245. -/
abbrev CAL_TIME : Nat := 0x22024
/-- R245. -/
abbrev CAL_LEAP : Nat := 0x22028
/-- R245. -/
abbrev CAL_LEAP_AT0 : Nat := 0x2202C
/-- R245. -/
abbrev CAL_LEAP_AT1 : Nat := 0x22030
/-- R245. -/
abbrev CAL_ALARM0 : Nat := 0x22034
/-- R245. -/
abbrev CAL_ALARM1 : Nat := 0x22038
/-- R245. -/
abbrev CAL_ALARM2 : Nat := 0x2203C
/-- R43. -/
abbrev PLT_STATUS : Nat := 0x30000
/-- R44. -/
abbrev PLT_ERROR : Nat := 0x30004
/-- R44. -/
abbrev PLT_ERROR_DETAIL : Nat := 0x30008
/-- R44. -/
abbrev PLT_ACTIVE_VERSION : Nat := 0x3000C
/-- R44. -/
abbrev PLT_ACTIVE_ROLLBACK : Nat := 0x30010
/-- R44. -/
abbrev PLT_ACTIVE_SIGNER : Nat := 0x30014
/-- R44. -/
abbrev PLT_STRUCT_REJECT : Nat := 0x30018
/-- R44. -/
abbrev PLT_ACTIVE_DIGEST (n : Nat) : Nat := 0x30020 + 0x4 * n
/-- R44. -/
abbrev PLT_ROLE_VERSION (n : Nat) : Nat := 0x30040 + 0x4 * n
/-- R410. -/
abbrev PLT_MBX_CMD : Nat := 0x30100
/-- R410. -/
abbrev PLT_MBX_ARG : Nat := 0x30104
/-- R410. -/
abbrev PLT_MBX_STATUS : Nat := 0x30108
/-- R410. -/
abbrev PLT_MBX_DETAIL : Nat := 0x3010C
/-- R410. -/
abbrev PLT_STAGE : Nat := 0x30110
/-- R410. -/
abbrev PLT_STAGE_VERSION : Nat := 0x30114
/-- R410. -/
abbrev PLT_COPY : Nat := 0x30118
/-- R402. -/
abbrev PLT_MBX_REJECT : Nat := 0x3011C
/-- R44. -/
abbrev PLT_LEGEND (n : Nat) : Nat := 0x31000 + 0x4 * n
/-- R402. -/
abbrev PLT_MBX_BLOCK (n : Nat) : Nat := 0x32000 + 0x4 * n
/-- R75. -/
abbrev ENG_STATUS (n : Nat) : Nat := 0x40000 + 0x4 * n
/-- R77. -/
abbrev ENG_ROLE_AT (n : Nat) : Nat := 0x40040 + 0x4 * n
/-- R76. -/
abbrev ENG_RECUT_STATUS : Nat := 0x40080
/-- R76. -/
abbrev ENG_RECUT_CTRL : Nat := 0x40084
/-- R77. -/
abbrev ENG_REINSTATE : Nat := 0x40088
/-- R77. -/
abbrev ENG_TAKEOVER_COUNT : Nat := 0x4008C
/-- R77. -/
abbrev ENG_LAST_TAKEOVER : Nat := 0x40090
/-- R77. -/
abbrev ENG_LAST_TAKEOVER_LOC : Nat := 0x40094
/-- R77. -/
abbrev ENG_QUEUE_PEAK (n : Nat) : Nat := 0x400A0 + 0x4 * n
/-- R77. -/
abbrev ENG_QUEUE_STALL (n : Nat) : Nat := 0x400D0 + 0x4 * n
/-- R365. -/
abbrev ENG_MEM_STATUS : Nat := 0x40100
/-- R345. -/
abbrev ENG_MEM_CE_SP : Nat := 0x40104
/-- R345. -/
abbrev ENG_MEM_CE_PCA : Nat := 0x40108
/-- R345. -/
abbrev ENG_MEM_CE_LDG : Nat := 0x4010C
/-- R345. -/
abbrev ENG_MEM_CE_PB : Nat := 0x40110
/-- R346. -/
abbrev ENG_MEM_UE_SP : Nat := 0x40114
/-- R346. -/
abbrev ENG_MEM_UE_PCA : Nat := 0x40118
/-- R346. -/
abbrev ENG_MEM_UE_LDG : Nat := 0x4011C
/-- R346. -/
abbrev ENG_MEM_UE_PB : Nat := 0x40120
/-- R365. -/
abbrev ENG_MEM_LAST_CE_LOC : Nat := 0x40124
/-- R365. -/
abbrev ENG_MEM_LAST_UE_LOC : Nat := 0x40128
/-- R365. -/
abbrev ENG_MEM_LAST_UE_ADDR : Nat := 0x4012C
/-- R365. -/
abbrev ENG_MEM_REPAIR : Nat := 0x40130
/-- R365. -/
abbrev ENG_MEM_RETFAIL_LOC : Nat := 0x40134
/-- R346. -/
abbrev ENG_MEM_TOKEN_LOST : Nat := 0x40138
/-- R346. -/
abbrev ENG_MEM_RECORD_RESET : Nat := 0x4013C
/-- R346. -/
abbrev ENG_MEM_PB_CELL_DROP : Nat := 0x40140
/-- R394. -/
abbrev KEY_STAGE (n : Nat) : Nat := 0x80000 + 0x4 * n
/-- R394. -/
abbrev KEY_PN_LO : Nat := 0x80020
/-- R394. -/
abbrev KEY_PN_HI : Nat := 0x80024
/-- R394. -/
abbrev KEY_AUX : Nat := 0x80028
/-- R394. -/
abbrev KEY_CMD : Nat := 0x8002C
/-- R394. -/
abbrev KEY_CMD_STATUS : Nat := 0x80030
/-- R394. -/
abbrev KEY_INFO : Nat := 0x80034
/-- R394. -/
abbrev KEY_INFO_PN_LO : Nat := 0x80038
/-- R394. -/
abbrev KEY_INFO_PN_HI : Nat := 0x8003C
/-- R394. -/
abbrev KEY_EVENT : Nat := 0x80040
/-- R394. -/
abbrev KEY_RNG : Nat := 0x80044
/-- R374. -/
abbrev KEY_TX_REFUSED : Nat := 0x80050
/-- R373. -/
abbrev KEY_RETRY_ABANDON : Nat := 0x80054
/-- R375. -/
abbrev KEY_RX_REPLAY (n : Nat) : Nat := 0x80058 + 0x4 * n
/-- R375. -/
abbrev KEY_RX_MIC_FAIL (n : Nat) : Nat := 0x80064 + 0x4 * n
/-- R395. -/
abbrev KEY_FUSE_CTRL : Nat := 0x80100
/-- R395. -/
abbrev KEY_FUSE_STATUS : Nat := 0x80104
/-- R395. -/
abbrev KEY_FUSE_DATA (n : Nat) : Nat := 0x80120 + 0x4 * n
/-- R395. DESIGN CHOICE (log 8). -/
abbrev KEY_ROOT_HASH (n : Nat) : Nat := 0x80140 + 0x4 * n
/-- R395. DESIGN CHOICE (log 8). -/
abbrev KEY_CUST_HASH (n : Nat) : Nat := 0x80160 + 0x4 * n
/-- R395. DESIGN CHOICE (log 8). -/
abbrev KEY_SLOT_STATE : Nat := 0x801E0
/-- R395. -/
abbrev KEY_ROLLBACK : Nat := 0x801E4
/-- R395. -/
abbrev KEY_ATT_CTRL : Nat := 0x80200
/-- R395. -/
abbrev KEY_ATT_STATUS : Nat := 0x80204
/-- R395. -/
abbrev KEY_ATT_NONCE (n : Nat) : Nat := 0x80220 + 0x4 * n
/-- R386. -/
abbrev KEY_IDENTITY (n : Nat) : Nat := 0x82000 + 0x4 * n
/-- R387. -/
abbrev KEY_ATT_WINDOW (n : Nat) : Nat := 0x84000 + 0x4 * n
/-- R396. -/
abbrev SEAL_LOCK : Nat := 0x90000
/-- R396. -/
abbrev SEAL_OWNER : Nat := 0x90004
/-- R396. -/
abbrev SEAL_CMD : Nat := 0x90008
/-- R396. -/
abbrev SEAL_STATUS : Nat := 0x9000C
/-- R396. -/
abbrev SEAL_KEY (n : Nat) : Nat := 0x90010 + 0x4 * n
/-- R396. -/
abbrev SEAL_IV (n : Nat) : Nat := 0x90030 + 0x4 * n
/-- R396. -/
abbrev SEAL_AAD_ADDR_LO : Nat := 0x90040
/-- R396. -/
abbrev SEAL_AAD_ADDR_HI : Nat := 0x90044
/-- R396. -/
abbrev SEAL_AAD_LEN : Nat := 0x90048
/-- R396. -/
abbrev SEAL_IN_ADDR_LO : Nat := 0x90050
/-- R396. -/
abbrev SEAL_IN_ADDR_HI : Nat := 0x90054
/-- R396. -/
abbrev SEAL_OUT_ADDR_LO : Nat := 0x90058
/-- R396. -/
abbrev SEAL_OUT_ADDR_HI : Nat := 0x9005C
/-- R396. -/
abbrev SEAL_LEN : Nat := 0x90060
/-- R396. -/
abbrev SEAL_TAG (n : Nat) : Nat := 0x90070 + 0x4 * n
/-- R382. -/
abbrev SEAL_JOBS : Nat := 0x90080
/-- R382. -/
abbrev SEAL_AUTH_FAIL : Nat := 0x90084
/-- R380. -/
abbrev SEAL_REJECT : Nat := 0x90088
/-- R397. -/
abbrev CK_CTRL (n : Nat) : Nat := 0xC0000 + 0x40 * n
/-- R397. -/
abbrev CK_POLY (n : Nat) : Nat := 0xC0004 + 0x40 * n
/-- R397. -/
abbrev CK_INIT (n : Nat) : Nat := 0xC0008 + 0x40 * n
/-- R397. -/
abbrev CK_XOROUT (n : Nat) : Nat := 0xC000C + 0x40 * n
/-- R397. -/
abbrev CK_VALUE (n : Nat) : Nat := 0xC0010 + 0x40 * n
/-- R397. -/
abbrev CK_RESULT (n : Nat) : Nat := 0xC0014 + 0x40 * n
/-- R397. -/
abbrev CK_DATA8 (n : Nat) : Nat := 0xC0018 + 0x40 * n
/-- R397. -/
abbrev CK_DATA16 (n : Nat) : Nat := 0xC001C + 0x40 * n
/-- R397. -/
abbrev CK_DATA32 (n : Nat) : Nat := 0xC0020 + 0x40 * n
/-- R389. -/
abbrev CHK_WRITE_REJECT : Nat := 0xC0100
/-- R146. -/
abbrev RAD_RX_CTRL (n : Nat) : Nat := 0x100800 + 0x40000 * n
/-- R121. -/
abbrev RAD_RX_RESTART (n : Nat) : Nat := 0x100804 + 0x40000 * n
/-- R123. -/
abbrev RAD_RX_SIG_FAIL (n : Nat) : Nat := 0x100808 + 0x40000 * n
/-- R123. -/
abbrev RAD_RX_LOST_FALSE (n : Nat) : Nat := 0x10080C + 0x40000 * n
/-- R124. -/
abbrev RAD_RX_OVERLAP (n : Nat) : Nat := 0x100810 + 0x40000 * n
/-- R125. -/
abbrev RAD_RX_FCS_FAIL (n : Nat) : Nat := 0x100814 + 0x40000 * n
/-- R125. -/
abbrev RAD_RX_ABORT (n : Nat) : Nat := 0x100818 + 0x40000 * n
/-- R125. -/
abbrev RAD_RX_UNSUPPORTED (n : Nat) : Nat := 0x10081C + 0x40000 * n
/-- R147. -/
abbrev RAD_STP_CTRL (n : Nat) : Nat := 0x100820 + 0x40000 * n
/-- R147. -/
abbrev RAD_STP_BASE (n : Nat) : Nat := 0x100824 + 0x40000 * n
/-- R147. -/
abbrev RAD_STP_MAP_SEL (n : Nat) : Nat := 0x100828 + 0x40000 * n
/-- R138. -/
abbrev RAD_STP_MISMATCH (n : Nat) : Nat := 0x10082C + 0x40000 * n
/-- R136. -/
abbrev RAD_STP_FALLBACK (n : Nat) : Nat := 0x100830 + 0x40000 * n
/-- R132. -/
abbrev RAD_STP_MAP_REJECT (n : Nat) : Nat := 0x100834 + 0x40000 * n
/-- R135. -/
abbrev RAD_STP_ACT_FAIL (n : Nat) : Nat := 0x100838 + 0x40000 * n
/-- R146. -/
abbrev RAD_MEAS_CMD (n : Nat) : Nat := 0x10083C + 0x40000 * n
/-- R147. -/
abbrev RAD_STP_LINK_CFG (n k : Nat) : Nat := 0x100840 + 0x40000 * n + 0x10 * k
/-- R147. -/
abbrev RAD_STP_LINK_VER (n k : Nat) : Nat := 0x100844 + 0x40000 * n + 0x10 * k
/-- R147. -/
abbrev RAD_STP_LINK_STATUS (n k : Nat) : Nat := 0x100848 + 0x40000 * n + 0x10 * k
/-- R178. -/
abbrev RAD_GRT_STATUS (n : Nat) : Nat := 0x100C00 + 0x40000 * n
/-- R178. -/
abbrev RAD_GRT_CTRL (n : Nat) : Nat := 0x100C04 + 0x40000 * n
/-- R178. -/
abbrev RAD_GRT_COMMIT (n : Nat) : Nat := 0x100C08 + 0x40000 * n
/-- R178. -/
abbrev RAD_GRT_EPOCH (n : Nat) : Nat := 0x100C0C + 0x40000 * n
/-- R178. -/
abbrev RAD_GRT_GUARD (n : Nat) : Nat := 0x100C10 + 0x40000 * n
/-- R178. -/
abbrev RAD_GRT_MLD_MASK (n : Nat) : Nat := 0x100C14 + 0x40000 * n
/-- R178. -/
abbrev RAD_GRT_GRANT_IN (n k : Nat) : Nat := 0x100C20 + 0x40000 * n + 0x4 * k
/-- R173. -/
abbrev RAD_GRT_LOCAL_REJECT (n : Nat) : Nat := 0x100C40 + 0x40000 * n
/-- R171. -/
abbrev RAD_GRT_GRANT_REJECT (n : Nat) : Nat := 0x100C44 + 0x40000 * n
/-- R172. -/
abbrev RAD_GRT_GRANT_DROP (n : Nat) : Nat := 0x100C48 + 0x40000 * n
/-- R171. -/
abbrev RAD_GRT_GRANT_LATE (n : Nat) : Nat := 0x100C4C + 0x40000 * n
/-- R164. -/
abbrev RAD_GRT_LATE_REQUEUE (n : Nat) : Nat := 0x100C50 + 0x40000 * n
/-- R164. -/
abbrev RAD_GRT_BCN_SKIP (n : Nat) : Nat := 0x100C54 + 0x40000 * n
/-- R158. -/
abbrev RAD_GRT_SCHED_FULL (n : Nat) : Nat := 0x100C58 + 0x40000 * n
/-- R163. -/
abbrev RAD_GRT_PROTECT_MISS (n : Nat) : Nat := 0x100C5C + 0x40000 * n
/-- R160. -/
abbrev RAD_GRT_UL_MISS (n : Nat) : Nat := 0x100C60 + 0x40000 * n
/-- R167. -/
abbrev RAD_GRT_STA_REJECT (n : Nat) : Nat := 0x100C64 + 0x40000 * n
/-- R141. -/
abbrev RAD_CONTOUR (n k : Nat) : Nat := 0x102000 + 0x40000 * n + 0x4 * k
/-- R147. -/
abbrev RAD_STP_SNR (n k : Nat) : Nat := 0x103000 + 0x40000 * n + 0x4 * k
/-- R147. -/
abbrev RAD_STP_MAP (n k : Nat) : Nat := 0x104000 + 0x40000 * n + 0x4 * k
/-- R178. -/
abbrev RAD_WORKING (n k : Nat) : Nat := 0x108000 + 0x40000 * n + 0x4 * k
/-- R178. -/
abbrev RAD_SHADOW (n k : Nat) : Nat := 0x110000 + 0x40000 * n + 0x4 * k
/-- R178. -/
abbrev RAD_PENDING (n k : Nat) : Nat := 0x118000 + 0x40000 * n + 0x4 * k
/-- R178. -/
abbrev RAD_BCN (n k : Nat) : Nat := 0x119000 + 0x40000 * n + 0x4 * k
/-- R115. -/
abbrev CHN_CHAIN_STATUS (n : Nat) : Nat := 0x1C0000 + 0x4 * n
/-- R115. -/
abbrev CHN_SYNTH_STATUS (n : Nat) : Nat := 0x1C0040 + 0x4 * n
/-- R115. -/
abbrev CHN_RADIO_STATE (n : Nat) : Nat := 0x1C0050 + 0x4 * n
/-- R115. -/
abbrev CHN_CHAIN_REINSTATE : Nat := 0x1C0060
/-- R115. -/
abbrev CHN_SYNTH_SWITCH_COUNT : Nat := 0x1C0064
/-- R115. -/
abbrev CHN_LAST_FAULT_LOC : Nat := 0x1C0068
/-- R115. -/
abbrev CHN_WRITE_REJECT : Nat := 0x1C006C
/-- R115. -/
abbrev CHN_TX_LATE (n : Nat) : Nat := 0x1C0070 + 0x4 * n
/-- R116. -/
abbrev CHN_FEM_TIMING (n : Nat) : Nat := 0x1C0080 + 0x4 * n
/-- R116. -/
abbrev CHN_CAL_CTRL (n : Nat) : Nat := 0x1C0090 + 0x4 * n
/-- R116. -/
abbrev CHN_CAL_STATUS (n : Nat) : Nat := 0x1C00A0 + 0x4 * n
/-- R116. -/
abbrev CHN_DPD_DISCARD (n : Nat) : Nat := 0x1C00B0 + 0x4 * n
/-- R116. -/
abbrev CHN_CAL_RX_LOST (n : Nat) : Nat := 0x1C00C0 + 0x4 * n
/-- R116. -/
abbrev CHN_REG_STATUS : Nat := 0x1C00D0
/-- R116. -/
abbrev CHN_REG_SELECT : Nat := 0x1C00D4
/-- R116. -/
abbrev CHN_REG_DUTY_HIT (n : Nat) : Nat := 0x1C00D8 + 0x4 * n
/-- R117. -/
abbrev CHN_COEX_CTRL : Nat := 0x1C00F0
/-- R117. -/
abbrev CHN_COEX_STATUS : Nat := 0x1C00F4
/-- R117. -/
abbrev CHN_COEX_TRUNC : Nat := 0x1C00F8
/-- R117. -/
abbrev CHN_COEX_DENIED : Nat := 0x1C00FC
/-- R116. -/
abbrev CHN_TX_CAP (n : Nat) : Nat := 0x1C0100 + 0x4 * n
/-- R117. -/
abbrev CHN_FUSE_CTRL : Nat := 0x1C0200
/-- R117. -/
abbrev CHN_FUSE_STATUS : Nat := 0x1C0204
/-- R117. -/
abbrev CHN_FUSE_DATA (n : Nat) : Nat := 0x1C0280 + 0x4 * n
/-- R117. -/
abbrev CHN_REG_PROFILE (n : Nat) : Nat := 0x1C0400 + 0x4 * n
/-- R148. -/
abbrev CHN_SURVEY0 (n : Nat) : Nat := 0x1C0800 + 0x10 * n
/-- R148. -/
abbrev CHN_SURVEY1 (n : Nat) : Nat := 0x1C0804 + 0x10 * n
/-- R148. -/
abbrev CHN_SURVEY2 (n : Nat) : Nat := 0x1C0808 + 0x10 * n
/-- R148. -/
abbrev CHN_SURVEY3 (n : Nat) : Nat := 0x1C080C + 0x10 * n
/-- R212. -/
abbrev TRV_CTRL : Nat := 0x1E0000
/-- R212. -/
abbrev TRV_STATUS : Nat := 0x1E0004
/-- R212. -/
abbrev TRV_DOMAIN_ID : Nat := 0x1E0008
/-- R212. -/
abbrev TRV_MEMBER : Nat := 0x1E000C
/-- R212. -/
abbrev TRV_HOPMAP_LO : Nat := 0x1E0010
/-- R212. -/
abbrev TRV_HOPMAP_HI : Nat := 0x1E0014
/-- R212. -/
abbrev TRV_HOPMAP_NEXT_LO : Nat := 0x1E0018
/-- R212. -/
abbrev TRV_HOPMAP_NEXT_HI : Nat := 0x1E001C
/-- R212. -/
abbrev TRV_HOPMAP_NEXT_EPOCH : Nat := 0x1E0020
/-- R212. -/
abbrev TRV_EFFECTIVE_LO : Nat := 0x1E0024
/-- R212. -/
abbrev TRV_EFFECTIVE_HI : Nat := 0x1E0028
/-- R212. -/
abbrev TRV_SKIP_CTRL : Nat := 0x1E002C
/-- R212. -/
abbrev TRV_DKEY_STATUS : Nat := 0x1E0030
/-- R212. -/
abbrev TRV_SLOT : Nat := 0x1E0034
/-- R212. -/
abbrev TRV_DELAY_NS : Nat := 0x1E0038
/-- R212. -/
abbrev TRV_DKEY (n k : Nat) : Nat := 0x1E0040 + 0x10 * n + 0x4 * k
/-- R190. -/
abbrev TRV_RX_OK : Nat := 0x1E0080
/-- R190. -/
abbrev TRV_RX_AUTH_FAIL : Nat := 0x1E0084
/-- R190. -/
abbrev TRV_RX_REPLAY : Nat := 0x1E0088
/-- R190. -/
abbrev TRV_RX_STALE : Nat := 0x1E008C
/-- R190. -/
abbrev TRV_RX_OTHER_DOMAIN : Nat := 0x1E0090
/-- R206. -/
abbrev TRV_RX_SELF : Nat := 0x1E0094
/-- R190. -/
abbrev TRV_RX_UNKNOWN : Nat := 0x1E0098
/-- R195. -/
abbrev TRV_RX_ABORT : Nat := 0x1E009C
/-- R211. -/
abbrev TRV_TX_FRAMES : Nat := 0x1E00A0
/-- R195. -/
abbrev TRV_TX_DROP : Nat := 0x1E00A4
/-- R195. -/
abbrev TRV_TX_ABORT : Nat := 0x1E00A8
/-- R195. -/
abbrev TRV_SLOT_LOST : Nat := 0x1E00AC
/-- R186. -/
abbrev TRV_DWELL_HOLD : Nat := 0x1E00B0
/-- R184. -/
abbrev TRV_BLOCKED_SLOTS : Nat := 0x1E00B4
/-- R183. -/
abbrev TRV_MAP_REJECT : Nat := 0x1E00B8
/-- R212. -/
abbrev TRV_WRITE_REJECT : Nat := 0x1E00BC
/-- R192. -/
abbrev TRV_SESSIONS : Nat := 0x1E00C0
/-- R199. -/
abbrev TRV_DELAY_FAIL : Nat := 0x1E00C4
/-- R187. -/
abbrev TRV_CONTOUR (n : Nat) : Nat := 0x1E0200 + 0x4 * n
/-- R212. -/
abbrev TRV_HOST_TX : Nat := 0x1E0400
/-- R212. -/
abbrev TRV_HOST_PAYLOAD (n : Nat) : Nat := 0x1E0800 + 0x4 * n
/-- R179. -/
abbrev TRV_DATUM_REF (n : Nat) : Nat := 0x1E0C00 + 0x4 * n
/-- R179. -/
abbrev TRV_DATUM_STATE : Nat := 0x1E0C10
/-- R179. -/
abbrev TRV_HOLD_CTRL : Nat := 0x1E0C14
/-- R179. -/
abbrev TRV_HOLDOVER_COUNT : Nat := 0x1E0C18
/-- R213. -/
abbrev WUR_CTRL : Nat := 0x1E0D00
/-- R213. -/
abbrev WUR_STATUS : Nat := 0x1E0D04
/-- R213. -/
abbrev WUR_RDV_CTRL : Nat := 0x1E0D08
/-- R213. -/
abbrev WUR_RDV_TIMING : Nat := 0x1E0D0C
/-- R213. -/
abbrev WUR_RDV_TIME_S : Nat := 0x1E0D10
/-- R213. -/
abbrev WUR_RDV_TIME_NS : Nat := 0x1E0D14
/-- R213. -/
abbrev WUR_RDV_STATUS : Nat := 0x1E0D18
/-- R208. -/
abbrev WUR_RX_WAKE : Nat := 0x1E0D20
/-- R208. -/
abbrev WUR_RX_OTHER : Nat := 0x1E0D24
/-- R209. -/
abbrev WUR_TX_FRAMES : Nat := 0x1E0D28
/-- R209. -/
abbrev WUR_TX_LIMITED : Nat := 0x1E0D2C
/-- R282. -/
abbrev PRS_CTRL : Nat := 0x200000
/-- R250. -/
abbrev PRS_FAIL (n : Nat) : Nat := 0x200010 + 0x4 * n
/-- R254. -/
abbrev PRS_DEFAULT (n : Nat) : Nat := 0x200200 + 0x4 * n
/-- R255. -/
abbrev PRS_SRC_FAIL (n : Nat) : Nat := 0x200400 + 0x8 * n
/-- R255. -/
abbrev PRS_SRC_NOMATCH (n : Nat) : Nat := 0x200404 + 0x8 * n
/-- R260. -/
abbrev CLS_WRITE_REJECT : Nat := 0x201000
/-- R263. -/
abbrev CLS_STAGE_DISCARD : Nat := 0x201004
/-- R282. -/
abbrev CLS_PROFILE (n k e : Nat) : Nat := 0x201100 + 0x80 * n + 0x20 * k + 0x4 * e
/-- R264. -/
abbrev CLS_RANGE_W0 (n : Nat) : Nat := 0x201800 + 0x8 * n
/-- R264. -/
abbrev CLS_RANGE_W1 (n : Nat) : Nat := 0x201804 + 0x8 * n
/-- R282. -/
abbrev RTE_CMD : Nat := 0x202000
/-- R282. -/
abbrev RTE_CMD_STATUS : Nat := 0x202004
/-- R282. -/
abbrev RTE_PREFIX (n : Nat) : Nat := 0x202010 + 0x4 * n
/-- R282. -/
abbrev RTE_V4_ROUTES : Nat := 0x202020
/-- R282. -/
abbrev RTE_V6_ROUTES : Nat := 0x202024
/-- R282. -/
abbrev RTE_V4_NODES_FREE : Nat := 0x202028
/-- R282. -/
abbrev RTE_V6_NODES_FREE : Nat := 0x20202C
/-- R267. -/
abbrev RTE_MISS : Nat := 0x202040
/-- R268. -/
abbrev RTE_NH_DROP : Nat := 0x202044
/-- R271. -/
abbrev RTE_PASS_LIMIT : Nat := 0x202048
/-- R268. -/
abbrev RTE_WRITE_REJECT : Nat := 0x20204C
/-- R269. -/
abbrev RTE_TTL_MTU : Nat := 0x202050
/-- R283. -/
abbrev FLW_CTRL : Nat := 0x203000
/-- R283. -/
abbrev FLW_STATUS : Nat := 0x203004
/-- R283. -/
abbrev FLW_AGE_CTRL : Nat := 0x203008
/-- R283. -/
abbrev FLW_AGE_T0 : Nat := 0x20300C
/-- R283. -/
abbrev FLW_AGE_T1 : Nat := 0x203010
/-- R283. -/
abbrev FLW_AGE_T2 : Nat := 0x203014
/-- R283. -/
abbrev FLW_CMD : Nat := 0x203020
/-- R283. -/
abbrev FLW_CMD_STATUS : Nat := 0x203024
/-- R283. -/
abbrev FLW_CMD_INDEX : Nat := 0x203028
/-- R282. -/
abbrev FLW_ENTRIES : Nat := 0x203040
/-- R274. -/
abbrev FLW_CREATED : Nat := 0x203044
/-- R277. -/
abbrev FLW_AGED : Nat := 0x203048
/-- R274. -/
abbrev FLW_FULL : Nat := 0x20304C
/-- R275. -/
abbrev FLW_NAT_EXHAUSTED : Nat := 0x203050
/-- R276. -/
abbrev FLW_CACHE_HIT : Nat := 0x203054
/-- R276. -/
abbrev FLW_CACHE_MISS : Nat := 0x203058
/-- R275. -/
abbrev FLW_WRITE_REJECT : Nat := 0x20305C
/-- R283. -/
abbrev FLW_DATA (n : Nat) : Nat := 0x203100 + 0x4 * n
/-- R283. -/
abbrev FLW_NAT_W0 (n : Nat) : Nat := 0x204000 + 0x10 * n
/-- R283. -/
abbrev FLW_NAT_W1 (n : Nat) : Nat := 0x204004 + 0x10 * n
/-- R283. -/
abbrev FLW_NAT_W2 (n : Nat) : Nat := 0x204008 + 0x10 * n
/-- R275. DEDUCED (log 104). -/
abbrev FLW_NAT_W3 (n : Nat) : Nat := 0x20400C + 0x10 * n
/-- R308. -/
abbrev QSC_DSCP_MAP (n : Nat) : Nat := 0x300000 + 0x4 * n
/-- R308. -/
abbrev QSC_PORT (n : Nat) : Nat := 0x300020 + 0x4 * n
/-- R308. -/
abbrev QSC_HOST : Nat := 0x300030
/-- R308. -/
abbrev QSC_RAD (n : Nat) : Nat := 0x300040 + 0x4 * n
/-- R308. -/
abbrev QSC_BUF_TOTAL : Nat := 0x300050
/-- R308. -/
abbrev QSC_BUF_FREE : Nat := 0x300054
/-- R308. -/
abbrev QSC_SPILL_CTRL : Nat := 0x300058
/-- R308. -/
abbrev QSC_SPILL_USED : Nat := 0x30005C
/-- R308. -/
abbrev QSC_FLUSH_STATUS : Nat := 0x300060
/-- R290. -/
abbrev QSC_BUF_DROP : Nat := 0x300080
/-- R289. -/
abbrev QSC_STA_INVALID : Nat := 0x300084
/-- R304. -/
abbrev QSC_FLUSH_DROP : Nat := 0x300088
/-- R291. -/
abbrev QSC_SPILL_STALL : Nat := 0x30008C
/-- R291. -/
abbrev QSC_SPILL_LOST : Nat := 0x300090
/-- R308. -/
abbrev QSC_WRITE_REJECT : Nat := 0x300094
/-- R306. -/
abbrev QSC_POL_INVALID : Nat := 0x300098
/-- R308. -/
abbrev QSC_STP_STA (n k : Nat) : Nat := 0x300100 + 0x20 * n + 0x4 * k
/-- R334. -/
abbrev ETH_CTRL (n : Nat) : Nat := 0x380000 + 0x40 * n
/-- R334. -/
abbrev ETH_STATUS (n : Nat) : Nat := 0x380004 + 0x40 * n
/-- R334. -/
abbrev ETH_MAC_LO (n : Nat) : Nat := 0x380008 + 0x40 * n
/-- R334. -/
abbrev ETH_MAC_HI (n : Nat) : Nat := 0x38000C + 0x40 * n
/-- R334. -/
abbrev ETH_MAXLEN (n : Nat) : Nat := 0x380010 + 0x40 * n
/-- R334. -/
abbrev ETH_PFC (n : Nat) : Nat := 0x380014 + 0x40 * n
/-- R334. -/
abbrev ETH_PFC_THR (n : Nat) : Nat := 0x380018 + 0x40 * n
/-- R335. -/
abbrev ETH_MACSEC_CTRL (n : Nat) : Nat := 0x38001C + 0x40 * n
/-- R335. -/
abbrev ETH_MACSEC_WINDOW (n : Nat) : Nat := 0x380020 + 0x40 * n
/-- R312. -/
abbrev ETH_FILTER (n k : Nat) : Nat := 0x380800 + 0x200 * n + 0x4 * k
/-- R311. -/
abbrev ETH_RX_OCTETS_LO (n : Nat) : Nat := 0x381000 + 0x100 * n
/-- R311. -/
abbrev ETH_RX_OCTETS_HI (n : Nat) : Nat := 0x381004 + 0x100 * n
/-- R311. -/
abbrev ETH_RX_FRAMES (n : Nat) : Nat := 0x381008 + 0x100 * n
/-- R311. -/
abbrev ETH_RX_BCAST (n : Nat) : Nat := 0x38100C + 0x100 * n
/-- R311. -/
abbrev ETH_RX_MCAST (n : Nat) : Nat := 0x381010 + 0x100 * n
/-- R311. -/
abbrev ETH_RX_CODE_ERR (n : Nat) : Nat := 0x381014 + 0x100 * n
/-- R311. -/
abbrev ETH_RX_UNDERSIZE (n : Nat) : Nat := 0x381018 + 0x100 * n
/-- R311. -/
abbrev ETH_RX_OVERSIZE (n : Nat) : Nat := 0x38101C + 0x100 * n
/-- R311. -/
abbrev ETH_RX_FCS_ERR (n : Nat) : Nat := 0x381020 + 0x100 * n
/-- R311. -/
abbrev ETH_RX_FILTERED (n : Nat) : Nat := 0x381024 + 0x100 * n
/-- R311. -/
abbrev ETH_RX_FIFO_DROP (n : Nat) : Nat := 0x381028 + 0x100 * n
/-- R311. -/
abbrev ETH_RX_PAUSE (n : Nat) : Nat := 0x38102C + 0x100 * n
/-- R311. -/
abbrev ETH_RX_MS_UNTAGGED (n : Nat) : Nat := 0x381030 + 0x100 * n
/-- R311. -/
abbrev ETH_RX_MS_NO_SA (n : Nat) : Nat := 0x381034 + 0x100 * n
/-- R311. -/
abbrev ETH_RX_MS_BAD (n : Nat) : Nat := 0x381038 + 0x100 * n
/-- R311. -/
abbrev ETH_RX_MS_LATE (n : Nat) : Nat := 0x38103C + 0x100 * n
/-- R311. -/
abbrev ETH_TX_OCTETS_LO (n : Nat) : Nat := 0x381040 + 0x100 * n
/-- R311. -/
abbrev ETH_TX_OCTETS_HI (n : Nat) : Nat := 0x381044 + 0x100 * n
/-- R311. -/
abbrev ETH_TX_FRAMES (n : Nat) : Nat := 0x381048 + 0x100 * n
/-- R311. -/
abbrev ETH_TX_BCAST (n : Nat) : Nat := 0x38104C + 0x100 * n
/-- R311. -/
abbrev ETH_TX_MCAST (n : Nat) : Nat := 0x381050 + 0x100 * n
/-- R311. -/
abbrev ETH_TX_PAUSE (n : Nat) : Nat := 0x381054 + 0x100 * n
/-- R335. -/
abbrev ETH_SA_W0 (n : Nat) : Nat := 0x382000 + 0x10 * n
/-- R335. -/
abbrev ETH_SA_W1 (n : Nat) : Nat := 0x382004 + 0x10 * n
/-- R335. -/
abbrev ETH_SA_W2 (n : Nat) : Nat := 0x382008 + 0x10 * n
/-- R335. -/
abbrev ETH_SA_W3 (n : Nat) : Nat := 0x38200C + 0x10 * n
/-- R366. -/
abbrev DRC_CTRL : Nat := 0x3C0000
/-- R366. -/
abbrev DRC_STATUS : Nat := 0x3C0004
/-- R366. -/
abbrev DRC_CONFIG : Nat := 0x3C0008
/-- R366. -/
abbrev DRC_SCRUB_CTRL : Nat := 0x3C0010
/-- R361. -/
abbrev DRC_CE : Nat := 0x3C0020
/-- R361. -/
abbrev DRC_UE : Nat := 0x3C0024
/-- R355. -/
abbrev DRC_MIRROR_READ : Nat := 0x3C0028
/-- R363. -/
abbrev DRC_PAR_REPLAY : Nat := 0x3C002C
/-- R358. -/
abbrev DRC_REF_FORCED : Nat := 0x3C0030
/-- R358. -/
abbrev DRC_REF_POSTPONED : Nat := 0x3C0034
/-- R366. -/
abbrev DRC_LAST_UE_ADDR_LO : Nat := 0x3C0040
/-- R366. -/
abbrev DRC_LAST_UE_ADDR_HI : Nat := 0x3C0044
/-- R365. -/
abbrev DRC_LAST_UE_LOC : Nat := 0x3C0048
/-- R367. -/
abbrev DRC_PORT_CTRL (n : Nat) : Nat := 0x3C0100 + 0x10 * n
/-- R367. -/
abbrev DRC_PORT_MISSED (n : Nat) : Nat := 0x3C0104 + 0x10 * n
/-- R367. -/
abbrev DRC_PORT_PEAK (n : Nat) : Nat := 0x3C0108 + 0x10 * n
/-- R367. -/
abbrev DRC_PORT_POISON (n : Nat) : Nat := 0x3C010C + 0x10 * n
/-- R364. -/
abbrev DRC_FREEZE_LOG (n : Nat) : Nat := 0x3C1000 + 0x4 * n
/-- R336. -/
abbrev HDM_RING_BASE_LO (n : Nat) : Nat := 0x3E0000 + 0x10 * n
/-- R336. -/
abbrev HDM_RING_BASE_HI (n : Nat) : Nat := 0x3E0004 + 0x10 * n
/-- R336. -/
abbrev HDM_RING_CTRL (n : Nat) : Nat := 0x3E0008 + 0x10 * n
/-- R336. -/
abbrev HDM_RING_IDX (n : Nat) : Nat := 0x3E000C + 0x10 * n
/-- R336. -/
abbrev HDM_EVT_BLOCKS (n : Nat) : Nat := 0x3E0210 + 0x4 * n
/-- R336. -/
abbrev HDM_EVT_STATUS : Nat := 0x3E0218
/-- R336. -/
abbrev HDM_EVT_CTRL : Nat := 0x3E021C
/-- R336. -/
abbrev HDM_VEC (n : Nat) : Nat := 0x3E0400 + 0x4 * n
/-- R336. -/
abbrev HDM_WRITE_REJECT : Nat := 0x3E0600
/-- R326. -/
abbrev HDM_EVT_LOST : Nat := 0x3E0604
/-- R319. -/
abbrev HDM_BAR2_WRITE : Nat := 0x3E0608
/-- R329. -/
abbrev HDM_SEC_REJECT : Nat := 0x3E060C
/-- R336. -/
abbrev HDM_BAR2_BASE_LO : Nat := 0x3E0700
/-- R336. -/
abbrev HDM_BAR2_BASE_HI : Nat := 0x3E0704
/-- R336. -/
abbrev HDM_SEC_CTRL : Nat := 0x3E0800
/-- R336. -/
abbrev HDM_SEC_LAST_SEQ : Nat := 0x3E0804
/-- R327. PRESUMED (log 7). -/
abbrev MSIX_TABLE (n : Nat) : Nat := 0x3F0000 + 0x4 * n
/-- R327. -/
abbrev MSIX_PBA (n : Nat) : Nat := 0x3F8000 + 0x4 * n
/-- R166. -/
abbrev STA_W0 (n : Nat) : Nat := 0x400000 + 0x20 * n
/-- R166. -/
abbrev STA_W1 (n : Nat) : Nat := 0x400004 + 0x20 * n
/-- R166. -/
abbrev STA_W2 (n : Nat) : Nat := 0x400008 + 0x20 * n
/-- R166. -/
abbrev STA_W3 (n : Nat) : Nat := 0x40000C + 0x20 * n
/-- R166. DESIGN CHOICE (log 103). -/
abbrev STA_RATE (n k : Nat) : Nat := 0x400010 + 0x20 * n + 0x4 * k
/-- R166. -/
abbrev STA_W7 (n : Nat) : Nat := 0x40001C + 0x20 * n
/-- R211. -/
abbrev NBR_W0 (n : Nat) : Nat := 0x420000 + 0x20 * n
/-- R211. -/
abbrev NBR_SESSION (n : Nat) : Nat := 0x420004 + 0x20 * n
/-- R211. -/
abbrev NBR_HIGH (n : Nat) : Nat := 0x420008 + 0x20 * n
/-- R211. -/
abbrev NBR_WINDOW_LO (n : Nat) : Nat := 0x42000C + 0x20 * n
/-- R211. -/
abbrev NBR_WINDOW_HI (n : Nat) : Nat := 0x420010 + 0x20 * n
/-- R211. -/
abbrev NBR_STAMP_S (n : Nat) : Nat := 0x420014 + 0x20 * n
/-- R211. -/
abbrev NBR_STAMP_NS (n : Nat) : Nat := 0x420018 + 0x20 * n
/-- R211. -/
abbrev NBR_W7 (n : Nat) : Nat := 0x42001C + 0x20 * n
/-- R268. -/
abbrev NH_W0 (n : Nat) : Nat := 0x500000 + 0x10 * n
/-- R268. -/
abbrev NH_W1 (n : Nat) : Nat := 0x500004 + 0x10 * n
/-- R268. -/
abbrev NH_W2 (n : Nat) : Nat := 0x500008 + 0x10 * n
/-- R268. -/
abbrev NH_W3 (n : Nat) : Nat := 0x50000C + 0x10 * n
/-- R261. -/
abbrev RULE_KEY (n k : Nat) : Nat := 0x600000 + 0x40 * n + 0x4 * k
/-- R261. -/
abbrev RULE_W12 (n : Nat) : Nat := 0x600030 + 0x40 * n
/-- R261. DEDUCED (log 104). -/
abbrev RULE_W13 (n : Nat) : Nat := 0x600034 + 0x40 * n
/-- R261. -/
abbrev RULE_W14 (n : Nat) : Nat := 0x600038 + 0x40 * n
/-- R261. -/
abbrev RULE_W15 (n : Nat) : Nat := 0x60003C + 0x40 * n
/-- R262. -/
abbrev RULE_HITS (n : Nat) : Nat := 0x700000 + 0x4 * n
/-- R256. -/
abbrev HASH_KEY (n k : Nat) : Nat := 0x710000 + 0x800 * n + 0x4 * k
/-- R256. -/
abbrev HASH_FIELDS (n : Nat) : Nat := 0x710034 + 0x800 * n
/-- R256. -/
abbrev HASH_RSV (n k : Nat) : Nat := 0x710038 + 0x800 * n + 0x4 * k
/-- R258. -/
abbrev HASH_IND (n k : Nat) : Nat := 0x710400 + 0x800 * n + 0x4 * k
/-- R292. -/
abbrev QREC_W0 (n : Nat) : Nat := 0x800000 + 0x10 * n
/-- R292. -/
abbrev QREC_W1 (n : Nat) : Nat := 0x800004 + 0x10 * n
/-- R292. -/
abbrev QREC_W2 (n : Nat) : Nat := 0x800008 + 0x10 * n
/-- R292. -/
abbrev QREC_W3 (n : Nat) : Nat := 0x80000C + 0x10 * n
/-- R305. -/
abbrev POL_W0 (n : Nat) : Nat := 0x900000 + 0x10 * n
/-- R305. -/
abbrev POL_W1 (n : Nat) : Nat := 0x900004 + 0x10 * n
/-- R305. -/
abbrev POL_W2 (n : Nat) : Nat := 0x900008 + 0x10 * n
/-- R305. -/
abbrev POL_W3 (n : Nat) : Nat := 0x90000C + 0x10 * n

end Sys2Proof.Machine.A
end

