-- ==== Sys2Proof/Machine/RegFields.lean ====
section
/-! DEFINITION. Every field of every register, by the manual's name: the byte offset of its register, its lowest bit and its width
(R6: REGISTER.FIELD[hi:lo]). -/

namespace Sys2Proof.Machine

/-- A register field: the BAR0 offset of its register, its lowest bit and its width in bits (R6). -/
structure Fld where
  off : Nat
  lo : Nat
  w : Nat
deriving DecidableEq, Repr

namespace F

abbrev GLB_ID_PART : Fld := ⟨A.GLB_ID, 0, 16⟩
abbrev GLB_ID_REVISION : Fld := ⟨A.GLB_ID, 16, 4⟩
abbrev GLB_HOST_COLLIDE_OFFSET : Fld := ⟨A.GLB_HOST_COLLIDE, 0, 24⟩
abbrev GLB_HOST_COLLIDE_COUNT_COUNT : Fld := ⟨A.GLB_HOST_COLLIDE_COUNT, 0, 32⟩
abbrev GLB_UNMAPPED_WRITE_COUNT : Fld := ⟨A.GLB_UNMAPPED_WRITE, 0, 32⟩
abbrev GLB_FLT_STATUS_PRESENT : Fld := ⟨A.GLB_FLT_STATUS, 0, 1⟩
abbrev GLB_FLT_STATUS_EVENT : Fld := ⟨A.GLB_FLT_STATUS, 1, 1⟩
abbrev GLB_FLT_STATUS_PROMISE : Fld := ⟨A.GLB_FLT_STATUS, 2, 1⟩
abbrev GLB_FLT_STATUS_LAPSE_BLANK : Fld := ⟨A.GLB_FLT_STATUS, 3, 1⟩
abbrev GLB_FLT_STATUS_LAPSE_SYNTH : Fld := ⟨A.GLB_FLT_STATUS, 4, 1⟩
abbrev GLB_FLT_STATUS_LAPSE_PHASE : Fld := ⟨A.GLB_FLT_STATUS, 5, 1⟩
abbrev GLB_FLT_STATUS_LAPSE_DLK : Fld := ⟨A.GLB_FLT_STATUS, 6, 1⟩
abbrev GLB_FLT_STATUS_LAPSE_LEDGER : Fld := ⟨A.GLB_FLT_STATUS, 7, 1⟩
abbrev GLB_FLT_STATUS_LAPSE_FREEZE : Fld := ⟨A.GLB_FLT_STATUS, 8, 1⟩
abbrev GLB_FLT_STATUS_LAPSE_CLOCK : Fld := ⟨A.GLB_FLT_STATUS, 9, 1⟩
abbrev GLB_FLT_STATUS_LAPSE_RECUT : Fld := ⟨A.GLB_FLT_STATUS, 10, 1⟩
abbrev GLB_FLT_STATUS_LAPSE_SHED : Fld := ⟨A.GLB_FLT_STATUS, 11, 1⟩
abbrev GLB_FLT_STATUS_LAPSE_ENV : Fld := ⟨A.GLB_FLT_STATUS, 12, 1⟩
abbrev GLB_FLT_PRESENT_LOC_LOC : Fld := ⟨A.GLB_FLT_PRESENT_LOC, 0, 32⟩
abbrev GLB_FLT_PRESENT_INFO_CLASS : Fld := ⟨A.GLB_FLT_PRESENT_INFO, 0, 4⟩
abbrev GLB_FLT_PRESENT_INFO_OUTCOME : Fld := ⟨A.GLB_FLT_PRESENT_INFO, 4, 2⟩
abbrev GLB_FLT_PRESENT_INFO_DONE : Fld := ⟨A.GLB_FLT_PRESENT_INFO, 6, 1⟩
abbrev GLB_FLT_PRESENT_INFO_OVERLAP : Fld := ⟨A.GLB_FLT_PRESENT_INFO, 7, 1⟩
abbrev GLB_FLT_PRESENT_INFO_CAUSE : Fld := ⟨A.GLB_FLT_PRESENT_INFO, 8, 4⟩
abbrev GLB_FLT_PRESENT_INFO_INTERRUPT_US : Fld := ⟨A.GLB_FLT_PRESENT_INFO, 12, 16⟩
abbrev GLB_FLT_PRESENT_S_S : Fld := ⟨A.GLB_FLT_PRESENT_S, 0, 32⟩
abbrev GLB_FLT_PRESENT_NS_NS : Fld := ⟨A.GLB_FLT_PRESENT_NS, 0, 32⟩
abbrev GLB_FLT_LAST_LOC_LOC : Fld := ⟨A.GLB_FLT_LAST_LOC, 0, 32⟩
abbrev GLB_FLT_LAST_INFO_CLASS : Fld := ⟨A.GLB_FLT_LAST_INFO, 0, 4⟩
abbrev GLB_FLT_LAST_INFO_OUTCOME : Fld := ⟨A.GLB_FLT_LAST_INFO, 4, 2⟩
abbrev GLB_FLT_LAST_INFO_DONE : Fld := ⟨A.GLB_FLT_LAST_INFO, 6, 1⟩
abbrev GLB_FLT_LAST_INFO_OVERLAP : Fld := ⟨A.GLB_FLT_LAST_INFO, 7, 1⟩
abbrev GLB_FLT_LAST_INFO_CAUSE : Fld := ⟨A.GLB_FLT_LAST_INFO, 8, 4⟩
abbrev GLB_FLT_LAST_INFO_INTERRUPT_US : Fld := ⟨A.GLB_FLT_LAST_INFO, 12, 16⟩
abbrev GLB_FLT_LAST_S_S : Fld := ⟨A.GLB_FLT_LAST_S, 0, 32⟩
abbrev GLB_FLT_LAST_NS_NS : Fld := ⟨A.GLB_FLT_LAST_NS, 0, 32⟩
abbrev GLB_FLT_LOST_COUNT : Fld := ⟨A.GLB_FLT_LOST, 0, 32⟩
abbrev GLB_FLT_DLK_SPARES : Fld := ⟨A.GLB_FLT_DLK, 0, 3⟩
abbrev GLB_FLT_DLK_LANES : Fld := ⟨A.GLB_FLT_DLK, 3, 6⟩
abbrev GLB_FLT_COUNT_COUNT (n : Nat) : Fld := ⟨A.GLB_FLT_COUNT n, 0, 32⟩
abbrev PWR_CMD_OP : Fld := ⟨A.PWR_CMD, 0, 3⟩
abbrev PWR_CMD_NO_HOST : Fld := ⟨A.PWR_CMD, 3, 1⟩
abbrev PWR_CMD_KEY : Fld := ⟨A.PWR_CMD, 16, 16⟩
abbrev PWR_STATUS_STATE : Fld := ⟨A.PWR_STATUS, 0, 3⟩
abbrev PWR_STATUS_TARGET : Fld := ⟨A.PWR_STATUS, 3, 2⟩
abbrev PWR_STATUS_RESULT : Fld := ⟨A.PWR_STATUS, 5, 3⟩
abbrev PWR_STATUS_CLUSTER : Fld := ⟨A.PWR_STATUS, 8, 4⟩
abbrev PWR_STATUS_REASON : Fld := ⟨A.PWR_STATUS, 12, 4⟩
abbrev PWR_STATUS_STOPPING : Fld := ⟨A.PWR_STATUS, 16, 1⟩
abbrev PWR_WAKE_EN_WAKE_N : Fld := ⟨A.PWR_WAKE_EN, 0, 1⟩
abbrev PWR_WAKE_EN_WUR : Fld := ⟨A.PWR_WAKE_EN, 1, 1⟩
abbrev PWR_WAKE_EN_ALARM : Fld := ⟨A.PWR_WAKE_EN, 2, 1⟩
abbrev PWR_WAKE_EN_ETH : Fld := ⟨A.PWR_WAKE_EN, 3, 1⟩
abbrev PWR_WAKE_EN_PCIE : Fld := ⟨A.PWR_WAKE_EN, 4, 1⟩
abbrev PWR_WAKE_EN_TIN0 : Fld := ⟨A.PWR_WAKE_EN, 5, 1⟩
abbrev PWR_WAKE_EN_CMP : Fld := ⟨A.PWR_WAKE_EN, 6, 1⟩
abbrev PWR_WAKE_EN_FAULT : Fld := ⟨A.PWR_WAKE_EN, 7, 1⟩
abbrev PWR_WAKE_CTRL_CMP : Fld := ⟨A.PWR_WAKE_CTRL, 0, 4⟩
abbrev PWR_WAKE_CTRL_TIN_EDGE : Fld := ⟨A.PWR_WAKE_CTRL, 4, 2⟩
abbrev PWR_LAST_WAKE_SOURCE : Fld := ⟨A.PWR_LAST_WAKE, 0, 4⟩
abbrev PWR_LAST_WAKE_FROM : Fld := ⟨A.PWR_LAST_WAKE, 4, 3⟩
abbrev PWR_LAST_WAKE_SUBSEC : Fld := ⟨A.PWR_LAST_WAKE, 7, 15⟩
abbrev PWR_LAST_WAKE_S_SECONDS : Fld := ⟨A.PWR_LAST_WAKE_S, 0, 32⟩
abbrev PWR_RESET_CAUSE_POWER_ON : Fld := ⟨A.PWR_RESET_CAUSE, 0, 1⟩
abbrev PWR_RESET_CAUSE_RESET_PIN : Fld := ⟨A.PWR_RESET_CAUSE, 1, 1⟩
abbrev PWR_RESET_CAUSE_RESTART : Fld := ⟨A.PWR_RESET_CAUSE, 2, 1⟩
abbrev PWR_RESET_CAUSE_OFF_WAKE : Fld := ⟨A.PWR_RESET_CAUSE, 3, 1⟩
abbrev PWR_RESET_CAUSE_UVLO : Fld := ⟨A.PWR_RESET_CAUSE, 4, 1⟩
abbrev PWR_FUNC_RADIO : Fld := ⟨A.PWR_FUNC, 0, 3⟩
abbrev PWR_FUNC_PORT : Fld := ⟨A.PWR_FUNC, 3, 4⟩
abbrev PWR_FUNC_SEAL : Fld := ⟨A.PWR_FUNC, 7, 1⟩
abbrev PWR_FUNC_STATUS_ON : Fld := ⟨A.PWR_FUNC_STATUS, 0, 8⟩
abbrev PWR_FUNC_STATUS_STOPPING : Fld := ⟨A.PWR_FUNC_STATUS, 8, 8⟩
abbrev PWR_FUNC_STATUS_PENDING : Fld := ⟨A.PWR_FUNC_STATUS, 16, 8⟩
abbrev PWR_CLK_CTRL_SWITCH : Fld := ⟨A.PWR_CLK_CTRL, 0, 1⟩
abbrev PWR_CLK_STATUS_FALLBACK : Fld := ⟨A.PWR_CLK_STATUS, 0, 1⟩
abbrev PWR_CLK_STATUS_ENG_LOCK : Fld := ⟨A.PWR_CLK_STATUS, 1, 1⟩
abbrev PWR_CLK_STATUS_PKT_LOCK : Fld := ⟨A.PWR_CLK_STATUS, 2, 1⟩
abbrev PWR_CLK_STATUS_SERDES_LOCK : Fld := ⟨A.PWR_CLK_STATUS, 3, 1⟩
abbrev PWR_CLK_STATUS_XO80_OK : Fld := ⟨A.PWR_CLK_STATUS, 4, 1⟩
abbrev PWR_CLK_STATUS_XO32K_OK : Fld := ⟨A.PWR_CLK_STATUS, 5, 1⟩
abbrev PWR_PHASE_STATUS_RAIL : Fld := ⟨A.PWR_PHASE_STATUS, 0, 6⟩
abbrev PWR_PHASE_LOC_LOC : Fld := ⟨A.PWR_PHASE_LOC, 0, 32⟩
abbrev PWR_STOPPING_REJECT_COUNT : Fld := ⟨A.PWR_STOPPING_REJECT, 0, 32⟩
abbrev PWR_WAKE_LOST_COUNT : Fld := ⟨A.PWR_WAKE_LOST, 0, 32⟩
abbrev PWR_PHASE_FAULT_COUNT : Fld := ⟨A.PWR_PHASE_FAULT, 0, 32⟩
abbrev PWR_CMD_REJECT_COUNT : Fld := ⟨A.PWR_CMD_REJECT, 0, 32⟩
abbrev PWR_MON_SUPPLY_VIN : Fld := ⟨A.PWR_MON_SUPPLY, 0, 12⟩
abbrev PWR_MON_SUPPLY_VDDIO : Fld := ⟨A.PWR_MON_SUPPLY, 12, 12⟩
abbrev PWR_MON_SUPPLY_VBAT : Fld := ⟨A.PWR_MON_SUPPLY, 24, 8⟩
abbrev PWR_MON_TEMP_TJ_D0 : Fld := ⟨A.PWR_MON_TEMP, 0, 10⟩
abbrev PWR_MON_TEMP_TJ_D1 : Fld := ⟨A.PWR_MON_TEMP, 16, 10⟩
abbrev PWR_MON_CTRL_EXT_TRIG : Fld := ⟨A.PWR_MON_CTRL, 0, 1⟩
abbrev PWR_MON_PEAK_TJ_MAX : Fld := ⟨A.PWR_MON_PEAK, 0, 10⟩
abbrev PWR_MON_PEAK_DIE : Fld := ⟨A.PWR_MON_PEAK, 10, 1⟩
abbrev TB_TIME0_N (n : Nat) : Fld := ⟨A.TB_TIME0 n, 0, 30⟩
abbrev TB_TIME1_S_LO (n : Nat) : Fld := ⟨A.TB_TIME1 n, 0, 32⟩
abbrev TB_TIME2_S_HI (n : Nat) : Fld := ⟨A.TB_TIME2 n, 0, 16⟩
abbrev TB_TIME2_F (n : Nat) : Fld := ⟨A.TB_TIME2 n, 16, 16⟩
abbrev TB_SET0_N (n : Nat) : Fld := ⟨A.TB_SET0 n, 0, 30⟩
abbrev TB_SET1_S_LO (n : Nat) : Fld := ⟨A.TB_SET1 n, 0, 32⟩
abbrev TB_SET2_S_HI (n : Nat) : Fld := ⟨A.TB_SET2 n, 0, 16⟩
abbrev TB_SET2_F (n : Nat) : Fld := ⟨A.TB_SET2 n, 16, 16⟩
abbrev TB_CTRL_SET (n : Nat) : Fld := ⟨A.TB_CTRL n, 0, 1⟩
abbrev TB_CTRL_LOCKED (n : Nat) : Fld := ⟨A.TB_CTRL n, 1, 1⟩
abbrev TB_CTRL_SLEW_MAX (n : Nat) : Fld := ⟨A.TB_CTRL n, 2, 10⟩
abbrev TB_RATE_LO_RATE (n : Nat) : Fld := ⟨A.TB_RATE_LO n, 0, 32⟩
abbrev TB_RATE_HI_RATE (n : Nat) : Fld := ⟨A.TB_RATE_HI n, 0, 8⟩
abbrev TB_STEP_LO_STEP (n : Nat) : Fld := ⟨A.TB_STEP_LO n, 0, 32⟩
abbrev TB_STEP_HI_STEP (n : Nat) : Fld := ⟨A.TB_STEP_HI n, 0, 32⟩
abbrev TB_SLEW_NS (n : Nat) : Fld := ⟨A.TB_SLEW n, 0, 32⟩
abbrev TB_STATUS_SOURCE (n : Nat) : Fld := ⟨A.TB_STATUS n, 0, 3⟩
abbrev TB_STATUS_CARRIED (n : Nat) : Fld := ⟨A.TB_STATUS n, 3, 1⟩
abbrev TB_SLEW_LEFT_NS (n : Nat) : Fld := ⟨A.TB_SLEW_LEFT n, 0, 32⟩
abbrev TB_WRITE_REJECT_COUNT : Fld := ⟨A.TB_WRITE_REJECT, 0, 32⟩
abbrev TB_XO32K_PERIOD_PERIOD : Fld := ⟨A.TB_XO32K_PERIOD, 0, 32⟩
abbrev TB_RX_SEL_ETH0 : Fld := ⟨A.TB_RX_SEL, 0, 3⟩
abbrev TB_RX_SEL_ETH1 : Fld := ⟨A.TB_RX_SEL, 3, 3⟩
abbrev TB_RX_SEL_ETH2 : Fld := ⟨A.TB_RX_SEL, 6, 3⟩
abbrev TB_RX_SEL_ETH3 : Fld := ⟨A.TB_RX_SEL, 9, 3⟩
abbrev TB_RX_SEL_RAD0 : Fld := ⟨A.TB_RX_SEL, 12, 3⟩
abbrev TB_RX_SEL_RAD1 : Fld := ⟨A.TB_RX_SEL, 15, 3⟩
abbrev TB_RX_SEL_RAD2 : Fld := ⟨A.TB_RX_SEL, 18, 3⟩
abbrev TB_TSF_OFS_OFS (n : Nat) : Fld := ⟨A.TB_TSF_OFS n, 0, 32⟩
abbrev TB_PPS_CTRL_EN : Fld := ⟨A.TB_PPS_CTRL, 0, 1⟩
abbrev TB_PPS_CTRL_TB : Fld := ⟨A.TB_PPS_CTRL, 1, 3⟩
abbrev TB_PPS_CTRL_WIDTH : Fld := ⟨A.TB_PPS_CTRL, 4, 10⟩
abbrev TB_PPS_OFFSET_NS : Fld := ⟨A.TB_PPS_OFFSET, 0, 32⟩
abbrev TB_DATUM_CTRL_PTP_STEER : Fld := ⟨A.TB_DATUM_CTRL, 0, 1⟩
abbrev TB_DATUM_CTRL_KP : Fld := ⟨A.TB_DATUM_CTRL, 1, 4⟩
abbrev TB_DATUM_CTRL_KI : Fld := ⟨A.TB_DATUM_CTRL, 5, 4⟩
abbrev TB_DATUM_CTRL_OUTLIER : Fld := ⟨A.TB_DATUM_CTRL, 9, 16⟩
abbrev TB_DATUM_STATUS_MODE : Fld := ⟨A.TB_DATUM_STATUS, 0, 2⟩
abbrev TB_DATUM_STATUS_DELAY_KNOWN : Fld := ⟨A.TB_DATUM_STATUS, 2, 1⟩
abbrev TB_DATUM_STATUS_OUTLIERS : Fld := ⟨A.TB_DATUM_STATUS, 3, 3⟩
abbrev TB_DATUM_OFFSET_NS : Fld := ⟨A.TB_DATUM_OFFSET, 0, 32⟩
abbrev TB_DATUM_TRV_OFFSET_NS : Fld := ⟨A.TB_DATUM_TRV_OFFSET, 0, 32⟩
abbrev TB_DATUM_RESIDUAL_NS : Fld := ⟨A.TB_DATUM_RESIDUAL, 0, 32⟩
abbrev TB_DATUM_FREQ_PPB : Fld := ⟨A.TB_DATUM_FREQ, 0, 32⟩
abbrev TB_DATUM_PTP_OFS_LO_NS : Fld := ⟨A.TB_DATUM_PTP_OFS_LO, 0, 32⟩
abbrev TB_DATUM_PTP_OFS_HI_NS : Fld := ⟨A.TB_DATUM_PTP_OFS_HI, 0, 32⟩
abbrev TB_DATUM_OUTLIER_COUNT : Fld := ⟨A.TB_DATUM_OUTLIER, 0, 32⟩
abbrev TB_DATUM_STEPS_COUNT : Fld := ⟨A.TB_DATUM_STEPS, 0, 32⟩
abbrev CAP_CTRL_SOURCE (n : Nat) : Fld := ⟨A.CAP_CTRL n, 0, 5⟩
abbrev CAP_CTRL_EDGE (n : Nat) : Fld := ⟨A.CAP_CTRL n, 5, 2⟩
abbrev CAP_CTRL_TB (n : Nat) : Fld := ⟨A.CAP_CTRL n, 7, 3⟩
abbrev CAP_CTRL_SW (n : Nat) : Fld := ⟨A.CAP_CTRL n, 10, 1⟩
abbrev CAP_DATA0_VALID (n : Nat) : Fld := ⟨A.CAP_DATA0 n, 0, 1⟩
abbrev CAP_DATA0_RISING (n : Nat) : Fld := ⟨A.CAP_DATA0 n, 1, 1⟩
abbrev CAP_DATA0_CARRIED (n : Nat) : Fld := ⟨A.CAP_DATA0 n, 2, 1⟩
abbrev CAP_DATA1_N (n : Nat) : Fld := ⟨A.CAP_DATA1 n, 0, 30⟩
abbrev CAP_DATA2_S_LO (n : Nat) : Fld := ⟨A.CAP_DATA2 n, 0, 32⟩
abbrev CAP_DATA3_S_HI (n : Nat) : Fld := ⟨A.CAP_DATA3 n, 0, 16⟩
abbrev CAP_DATA3_F (n : Nat) : Fld := ⟨A.CAP_DATA3 n, 16, 16⟩
abbrev CAP_STATUS_COUNT (n : Nat) : Fld := ⟨A.CAP_STATUS n, 0, 3⟩
abbrev CAP_STATUS_OVF (n : Nat) : Fld := ⟨A.CAP_STATUS n, 3, 1⟩
abbrev CAP_OVF_COUNT (n : Nat) : Fld := ⟨A.CAP_OVF n, 0, 32⟩
abbrev CMP_CTRL_TB (n : Nat) : Fld := ⟨A.CMP_CTRL n, 0, 3⟩
abbrev CMP_CTRL_ARM (n : Nat) : Fld := ⟨A.CMP_CTRL n, 3, 1⟩
abbrev CMP_CTRL_ACTION (n : Nat) : Fld := ⟨A.CMP_CTRL n, 4, 2⟩
abbrev CMP_CTRL_OUTPUT (n : Nat) : Fld := ⟨A.CMP_CTRL n, 6, 4⟩
abbrev CMP_TARGET0_N (n : Nat) : Fld := ⟨A.CMP_TARGET0 n, 0, 30⟩
abbrev CMP_TARGET1_S_LO (n : Nat) : Fld := ⟨A.CMP_TARGET1 n, 0, 32⟩
abbrev CMP_TARGET2_S_HI (n : Nat) : Fld := ⟨A.CMP_TARGET2 n, 0, 16⟩
abbrev CMP_PERIOD_NS (n : Nat) : Fld := ⟨A.CMP_PERIOD n, 0, 32⟩
abbrev CMP_WIDTH_TICKS (n : Nat) : Fld := ⟨A.CMP_WIDTH n, 0, 16⟩
abbrev CMP_STATUS_FIRED (n : Nat) : Fld := ⟨A.CMP_STATUS n, 0, 1⟩
abbrev CMP_STATUS_MISSED (n : Nat) : Fld := ⟨A.CMP_STATUS n, 1, 1⟩
abbrev CMP_STATUS_CONFLICT (n : Nat) : Fld := ⟨A.CMP_STATUS n, 2, 1⟩
abbrev CMP_STATUS_SKIPPED (n : Nat) : Fld := ⟨A.CMP_STATUS n, 8, 8⟩
abbrev TXQ_HEAD0_HEAD (n : Nat) : Fld := ⟨A.TXQ_HEAD0 n, 0, 32⟩
abbrev TXQ_HEAD1_WORD (n : Nat) : Fld := ⟨A.TXQ_HEAD1 n, 0, 32⟩
abbrev TXQ_HEAD2_WORD (n : Nat) : Fld := ⟨A.TXQ_HEAD2 n, 0, 32⟩
abbrev TXQ_HEAD3_WORD (n : Nat) : Fld := ⟨A.TXQ_HEAD3 n, 0, 32⟩
abbrev TXQ_STATUS_COUNT (n : Nat) : Fld := ⟨A.TXQ_STATUS n, 0, 6⟩
abbrev TXQ_STATUS_OVF (n : Nat) : Fld := ⟨A.TXQ_STATUS n, 6, 1⟩
abbrev TXQ_OVF_COUNT (n : Nat) : Fld := ⟨A.TXQ_OVF n, 0, 32⟩
abbrev CAL_NOW0_SUBSEC : Fld := ⟨A.CAL_NOW0, 0, 15⟩
abbrev CAL_NOW1_S_LO : Fld := ⟨A.CAL_NOW1, 0, 32⟩
abbrev CAL_NOW2_S_HI : Fld := ⟨A.CAL_NOW2, 0, 16⟩
abbrev CAL_SET0_SUBSEC : Fld := ⟨A.CAL_SET0, 0, 15⟩
abbrev CAL_SET1_S_LO : Fld := ⟨A.CAL_SET1, 0, 32⟩
abbrev CAL_SET2_S_HI : Fld := ⟨A.CAL_SET2, 0, 16⟩
abbrev CAL_CTRL_SET : Fld := ⟨A.CAL_CTRL, 0, 1⟩
abbrev CAL_CTRL_ALARM_EN : Fld := ⟨A.CAL_CTRL, 1, 1⟩
abbrev CAL_CTRL_LEAP_NEXT : Fld := ⟨A.CAL_CTRL, 2, 2⟩
abbrev CAL_STATUS_BUSY : Fld := ⟨A.CAL_STATUS, 0, 1⟩
abbrev CAL_STATUS_LOST : Fld := ⟨A.CAL_STATUS, 1, 1⟩
abbrev CAL_STATUS_ALARM : Fld := ⟨A.CAL_STATUS, 2, 1⟩
abbrev CAL_STATUS_RANGE : Fld := ⟨A.CAL_STATUS, 3, 1⟩
abbrev CAL_STATUS_IN_LEAP : Fld := ⟨A.CAL_STATUS, 4, 1⟩
abbrev CAL_DATE_YEAR : Fld := ⟨A.CAL_DATE, 0, 14⟩
abbrev CAL_DATE_MONTH : Fld := ⟨A.CAL_DATE, 14, 4⟩
abbrev CAL_DATE_DAY : Fld := ⟨A.CAL_DATE, 18, 5⟩
abbrev CAL_DATE_WEEKDAY : Fld := ⟨A.CAL_DATE, 23, 3⟩
abbrev CAL_TIME_HOUR : Fld := ⟨A.CAL_TIME, 0, 5⟩
abbrev CAL_TIME_MINUTE : Fld := ⟨A.CAL_TIME, 5, 6⟩
abbrev CAL_TIME_SECOND : Fld := ⟨A.CAL_TIME, 11, 6⟩
abbrev CAL_LEAP_TAI_UTC : Fld := ⟨A.CAL_LEAP, 0, 16⟩
abbrev CAL_LEAP_AT0_S_LO : Fld := ⟨A.CAL_LEAP_AT0, 0, 32⟩
abbrev CAL_LEAP_AT1_S_HI : Fld := ⟨A.CAL_LEAP_AT1, 0, 16⟩
abbrev CAL_ALARM0_SUBSEC : Fld := ⟨A.CAL_ALARM0, 0, 15⟩
abbrev CAL_ALARM1_S_LO : Fld := ⟨A.CAL_ALARM1, 0, 32⟩
abbrev CAL_ALARM2_S_HI : Fld := ⟨A.CAL_ALARM2, 0, 16⟩
abbrev PLT_STATUS_STATE : Fld := ⟨A.PLT_STATUS, 0, 4⟩
abbrev PLT_STATUS_SOURCE : Fld := ⟨A.PLT_STATUS, 4, 2⟩
abbrev PLT_STATUS_FALLBACK : Fld := ⟨A.PLT_STATUS, 6, 1⟩
abbrev PLT_STATUS_START_PENDING : Fld := ⟨A.PLT_STATUS, 7, 1⟩
abbrev PLT_STATUS_BLANKS : Fld := ⟨A.PLT_STATUS, 8, 3⟩
abbrev PLT_ERROR_CODE : Fld := ⟨A.PLT_ERROR, 0, 8⟩
abbrev PLT_ERROR_DETAIL_DETAIL : Fld := ⟨A.PLT_ERROR_DETAIL, 0, 32⟩
abbrev PLT_ACTIVE_VERSION_VERSION : Fld := ⟨A.PLT_ACTIVE_VERSION, 0, 32⟩
abbrev PLT_ACTIVE_ROLLBACK_VALUE : Fld := ⟨A.PLT_ACTIVE_ROLLBACK, 0, 16⟩
abbrev PLT_ACTIVE_SIGNER_SIGNER : Fld := ⟨A.PLT_ACTIVE_SIGNER, 0, 3⟩
abbrev PLT_STRUCT_REJECT_COUNT : Fld := ⟨A.PLT_STRUCT_REJECT, 0, 32⟩
abbrev PLT_ACTIVE_DIGEST_WORD (n : Nat) : Fld := ⟨A.PLT_ACTIVE_DIGEST n, 0, 32⟩
abbrev PLT_ROLE_VERSION_WORD (n : Nat) : Fld := ⟨A.PLT_ROLE_VERSION n, 0, 32⟩
abbrev PLT_MBX_CMD_OP : Fld := ⟨A.PLT_MBX_CMD, 0, 4⟩
abbrev PLT_MBX_ARG_ARG : Fld := ⟨A.PLT_MBX_ARG, 0, 32⟩
abbrev PLT_MBX_STATUS_BUSY : Fld := ⟨A.PLT_MBX_STATUS, 0, 1⟩
abbrev PLT_MBX_STATUS_DONE : Fld := ⟨A.PLT_MBX_STATUS, 1, 1⟩
abbrev PLT_MBX_STATUS_RESULT : Fld := ⟨A.PLT_MBX_STATUS, 2, 4⟩
abbrev PLT_MBX_STATUS_CODE : Fld := ⟨A.PLT_MBX_STATUS, 8, 8⟩
abbrev PLT_MBX_DETAIL_DETAIL : Fld := ⟨A.PLT_MBX_DETAIL, 0, 32⟩
abbrev PLT_STAGE_STATE : Fld := ⟨A.PLT_STAGE, 0, 3⟩
abbrev PLT_STAGE_IN_USE : Fld := ⟨A.PLT_STAGE, 3, 1⟩
abbrev PLT_STAGE_COPY_PENDING : Fld := ⟨A.PLT_STAGE, 4, 1⟩
abbrev PLT_STAGE_BLOCKS : Fld := ⟨A.PLT_STAGE, 16, 12⟩
abbrev PLT_STAGE_VERSION_VERSION : Fld := ⟨A.PLT_STAGE_VERSION, 0, 32⟩
abbrev PLT_COPY_STATE : Fld := ⟨A.PLT_COPY, 0, 2⟩
abbrev PLT_COPY_BLOCKS : Fld := ⟨A.PLT_COPY, 16, 12⟩
abbrev PLT_MBX_REJECT_COUNT : Fld := ⟨A.PLT_MBX_REJECT, 0, 32⟩
abbrev PLT_LEGEND_WORD (n : Nat) : Fld := ⟨A.PLT_LEGEND n, 0, 32⟩
abbrev PLT_MBX_BLOCK_WORD (n : Nat) : Fld := ⟨A.PLT_MBX_BLOCK n, 0, 32⟩
abbrev ENG_STATUS_STATE (n : Nat) : Fld := ⟨A.ENG_STATUS n, 0, 4⟩
abbrev ENG_STATUS_ROLE (n : Nat) : Fld := ⟨A.ENG_STATUS n, 4, 8⟩
abbrev ENG_STATUS_BODY (n : Nat) : Fld := ⟨A.ENG_STATUS n, 12, 1⟩
abbrev ENG_STATUS_SPARE (n : Nat) : Fld := ⟨A.ENG_STATUS n, 13, 1⟩
abbrev ENG_STATUS_IDLE (n : Nat) : Fld := ⟨A.ENG_STATUS n, 14, 1⟩
abbrev ENG_STATUS_FENCE_CAUSE (n : Nat) : Fld := ⟨A.ENG_STATUS n, 16, 4⟩
abbrev ENG_ROLE_AT_ENGINE (n : Nat) : Fld := ⟨A.ENG_ROLE_AT n, 0, 4⟩
abbrev ENG_ROLE_AT_MOVING (n : Nat) : Fld := ⟨A.ENG_ROLE_AT n, 4, 1⟩
abbrev ENG_ROLE_AT_SHED (n : Nat) : Fld := ⟨A.ENG_ROLE_AT n, 5, 1⟩
abbrev ENG_RECUT_STATUS_PHASE : Fld := ⟨A.ENG_RECUT_STATUS, 0, 3⟩
abbrev ENG_RECUT_STATUS_ROLE : Fld := ⟨A.ENG_RECUT_STATUS, 4, 8⟩
abbrev ENG_RECUT_STATUS_MOVED : Fld := ⟨A.ENG_RECUT_STATUS, 12, 4⟩
abbrev ENG_RECUT_STATUS_REFUSAL : Fld := ⟨A.ENG_RECUT_STATUS, 16, 4⟩
abbrev ENG_RECUT_STATUS_PAUSE_CAUSE : Fld := ⟨A.ENG_RECUT_STATUS, 20, 4⟩
abbrev ENG_RECUT_CTRL_PAUSE : Fld := ⟨A.ENG_RECUT_CTRL, 0, 1⟩
abbrev ENG_RECUT_CTRL_RESUME : Fld := ⟨A.ENG_RECUT_CTRL, 1, 1⟩
abbrev ENG_RECUT_CTRL_ABANDON : Fld := ⟨A.ENG_RECUT_CTRL, 2, 1⟩
abbrev ENG_RECUT_CTRL_ALLOW_SINGLE_BLANK : Fld := ⟨A.ENG_RECUT_CTRL, 3, 1⟩
abbrev ENG_REINSTATE_ENGINE : Fld := ⟨A.ENG_REINSTATE, 0, 4⟩
abbrev ENG_TAKEOVER_COUNT_COUNT : Fld := ⟨A.ENG_TAKEOVER_COUNT, 0, 32⟩
abbrev ENG_LAST_TAKEOVER_DURATION : Fld := ⟨A.ENG_LAST_TAKEOVER, 0, 16⟩
abbrev ENG_LAST_TAKEOVER_ROLE : Fld := ⟨A.ENG_LAST_TAKEOVER, 16, 8⟩
abbrev ENG_LAST_TAKEOVER_STATE_LOST : Fld := ⟨A.ENG_LAST_TAKEOVER, 24, 1⟩
abbrev ENG_LAST_TAKEOVER_LOC_LOC : Fld := ⟨A.ENG_LAST_TAKEOVER_LOC, 0, 32⟩
abbrev ENG_QUEUE_PEAK_PEAK (n : Nat) : Fld := ⟨A.ENG_QUEUE_PEAK n, 0, 13⟩
abbrev ENG_QUEUE_STALL_COUNT (n : Nat) : Fld := ⟨A.ENG_QUEUE_STALL n, 0, 32⟩
abbrev ENG_MEM_STATUS_RETFAIL : Fld := ⟨A.ENG_MEM_STATUS, 0, 1⟩
abbrev ENG_MEM_STATUS_RETFAIL_BANKS : Fld := ⟨A.ENG_MEM_STATUS, 1, 7⟩
abbrev ENG_MEM_STATUS_PB_FENCE : Fld := ⟨A.ENG_MEM_STATUS, 8, 1⟩
abbrev ENG_MEM_STATUS_RECORD_RESET : Fld := ⟨A.ENG_MEM_STATUS, 9, 1⟩
abbrev ENG_MEM_CE_SP_COUNT : Fld := ⟨A.ENG_MEM_CE_SP, 0, 32⟩
abbrev ENG_MEM_CE_PCA_COUNT : Fld := ⟨A.ENG_MEM_CE_PCA, 0, 32⟩
abbrev ENG_MEM_CE_LDG_COUNT : Fld := ⟨A.ENG_MEM_CE_LDG, 0, 32⟩
abbrev ENG_MEM_CE_PB_COUNT : Fld := ⟨A.ENG_MEM_CE_PB, 0, 32⟩
abbrev ENG_MEM_UE_SP_COUNT : Fld := ⟨A.ENG_MEM_UE_SP, 0, 32⟩
abbrev ENG_MEM_UE_PCA_COUNT : Fld := ⟨A.ENG_MEM_UE_PCA, 0, 32⟩
abbrev ENG_MEM_UE_LDG_COUNT : Fld := ⟨A.ENG_MEM_UE_LDG, 0, 32⟩
abbrev ENG_MEM_UE_PB_COUNT : Fld := ⟨A.ENG_MEM_UE_PB, 0, 32⟩
abbrev ENG_MEM_LAST_CE_LOC_LOC : Fld := ⟨A.ENG_MEM_LAST_CE_LOC, 0, 32⟩
abbrev ENG_MEM_LAST_UE_LOC_LOC : Fld := ⟨A.ENG_MEM_LAST_UE_LOC, 0, 32⟩
abbrev ENG_MEM_LAST_UE_ADDR_WORD : Fld := ⟨A.ENG_MEM_LAST_UE_ADDR, 0, 13⟩
abbrev ENG_MEM_LAST_UE_ADDR_RECORD : Fld := ⟨A.ENG_MEM_LAST_UE_ADDR, 16, 16⟩
abbrev ENG_MEM_REPAIR_SPARES : Fld := ⟨A.ENG_MEM_REPAIR, 0, 10⟩
abbrev ENG_MEM_REPAIR_BANKS : Fld := ⟨A.ENG_MEM_REPAIR, 10, 10⟩
abbrev ENG_MEM_RETFAIL_LOC_LOC : Fld := ⟨A.ENG_MEM_RETFAIL_LOC, 0, 32⟩
abbrev ENG_MEM_TOKEN_LOST_COUNT : Fld := ⟨A.ENG_MEM_TOKEN_LOST, 0, 32⟩
abbrev ENG_MEM_RECORD_RESET_COUNT : Fld := ⟨A.ENG_MEM_RECORD_RESET, 0, 32⟩
abbrev ENG_MEM_PB_CELL_DROP_COUNT : Fld := ⟨A.ENG_MEM_PB_CELL_DROP, 0, 32⟩
abbrev KEY_STAGE_KEY (n : Nat) : Fld := ⟨A.KEY_STAGE n, 0, 32⟩
abbrev KEY_PN_LO_PN : Fld := ⟨A.KEY_PN_LO, 0, 32⟩
abbrev KEY_PN_HI_PN : Fld := ⟨A.KEY_PN_HI, 0, 32⟩
abbrev KEY_AUX_PARTNER : Fld := ⟨A.KEY_AUX, 0, 13⟩
abbrev KEY_AUX_PARTNER_EN : Fld := ⟨A.KEY_AUX, 13, 1⟩
abbrev KEY_AUX_RADIO : Fld := ⟨A.KEY_AUX, 14, 2⟩
abbrev KEY_AUX_BSS : Fld := ⟨A.KEY_AUX, 16, 4⟩
abbrev KEY_CMD_OP : Fld := ⟨A.KEY_CMD, 0, 3⟩
abbrev KEY_CMD_CLASS : Fld := ⟨A.KEY_CMD, 3, 2⟩
abbrev KEY_CMD_INDEX : Fld := ⟨A.KEY_CMD, 5, 13⟩
abbrev KEY_CMD_CIPHER : Fld := ⟨A.KEY_CMD, 18, 4⟩
abbrev KEY_CMD_KEYID : Fld := ⟨A.KEY_CMD, 22, 3⟩
abbrev KEY_CMD_STATUS_BUSY : Fld := ⟨A.KEY_CMD_STATUS, 0, 1⟩
abbrev KEY_CMD_STATUS_RESULT : Fld := ⟨A.KEY_CMD_STATUS, 1, 3⟩
abbrev KEY_INFO_VALID : Fld := ⟨A.KEY_INFO, 0, 1⟩
abbrev KEY_INFO_CIPHER : Fld := ⟨A.KEY_INFO, 1, 4⟩
abbrev KEY_INFO_KEYID : Fld := ⟨A.KEY_INFO, 5, 3⟩
abbrev KEY_INFO_TX : Fld := ⟨A.KEY_INFO, 8, 1⟩
abbrev KEY_INFO_EXHAUSTED : Fld := ⟨A.KEY_INFO, 9, 1⟩
abbrev KEY_INFO_NEAR : Fld := ⟨A.KEY_INFO, 10, 1⟩
abbrev KEY_INFO_FAULT : Fld := ⟨A.KEY_INFO, 11, 1⟩
abbrev KEY_INFO_PARTNER : Fld := ⟨A.KEY_INFO, 12, 13⟩
abbrev KEY_INFO_PARTNER_EN : Fld := ⟨A.KEY_INFO, 25, 1⟩
abbrev KEY_INFO_RADIO : Fld := ⟨A.KEY_INFO, 26, 2⟩
abbrev KEY_INFO_BSS : Fld := ⟨A.KEY_INFO, 28, 4⟩
abbrev KEY_INFO_PN_LO_PN : Fld := ⟨A.KEY_INFO_PN_LO, 0, 32⟩
abbrev KEY_INFO_PN_HI_PN : Fld := ⟨A.KEY_INFO_PN_HI, 0, 32⟩
abbrev KEY_EVENT_EXHAUSTED : Fld := ⟨A.KEY_EVENT, 0, 1⟩
abbrev KEY_EVENT_NEAR : Fld := ⟨A.KEY_EVENT, 1, 1⟩
abbrev KEY_EVENT_FAULT : Fld := ⟨A.KEY_EVENT, 2, 1⟩
abbrev KEY_EVENT_RNG_FAIL : Fld := ⟨A.KEY_EVENT, 3, 1⟩
abbrev KEY_EVENT_CLASS : Fld := ⟨A.KEY_EVENT, 4, 2⟩
abbrev KEY_EVENT_SLOT : Fld := ⟨A.KEY_EVENT, 6, 13⟩
abbrev KEY_RNG_VALUE : Fld := ⟨A.KEY_RNG, 0, 32⟩
abbrev KEY_TX_REFUSED_COUNT : Fld := ⟨A.KEY_TX_REFUSED, 0, 32⟩
abbrev KEY_RETRY_ABANDON_COUNT : Fld := ⟨A.KEY_RETRY_ABANDON, 0, 32⟩
abbrev KEY_RX_REPLAY_COUNT (n : Nat) : Fld := ⟨A.KEY_RX_REPLAY n, 0, 32⟩
abbrev KEY_RX_MIC_FAIL_COUNT (n : Nat) : Fld := ⟨A.KEY_RX_MIC_FAIL n, 0, 32⟩
abbrev KEY_FUSE_CTRL_OP : Fld := ⟨A.KEY_FUSE_CTRL, 0, 2⟩
abbrev KEY_FUSE_CTRL_SLOT : Fld := ⟨A.KEY_FUSE_CTRL, 2, 2⟩
abbrev KEY_FUSE_CTRL_KEY : Fld := ⟨A.KEY_FUSE_CTRL, 16, 16⟩
abbrev KEY_FUSE_STATUS_BUSY : Fld := ⟨A.KEY_FUSE_STATUS, 0, 1⟩
abbrev KEY_FUSE_STATUS_DONE : Fld := ⟨A.KEY_FUSE_STATUS, 1, 1⟩
abbrev KEY_FUSE_STATUS_ERROR : Fld := ⟨A.KEY_FUSE_STATUS, 2, 1⟩
abbrev KEY_FUSE_DATA_HASH (n : Nat) : Fld := ⟨A.KEY_FUSE_DATA n, 0, 32⟩
abbrev KEY_ROOT_HASH_WORD (n : Nat) : Fld := ⟨A.KEY_ROOT_HASH n, 0, 32⟩
abbrev KEY_CUST_HASH_WORD (n : Nat) : Fld := ⟨A.KEY_CUST_HASH n, 0, 32⟩
abbrev KEY_SLOT_STATE_STATE : Fld := ⟨A.KEY_SLOT_STATE, 0, 8⟩
abbrev KEY_ROLLBACK_VALUE : Fld := ⟨A.KEY_ROLLBACK, 0, 7⟩
abbrev KEY_ATT_CTRL_GO : Fld := ⟨A.KEY_ATT_CTRL, 0, 1⟩
abbrev KEY_ATT_STATUS_BUSY : Fld := ⟨A.KEY_ATT_STATUS, 0, 1⟩
abbrev KEY_ATT_STATUS_DONE : Fld := ⟨A.KEY_ATT_STATUS, 1, 1⟩
abbrev KEY_ATT_NONCE_NONCE (n : Nat) : Fld := ⟨A.KEY_ATT_NONCE n, 0, 32⟩
abbrev KEY_IDENTITY_WORD (n : Nat) : Fld := ⟨A.KEY_IDENTITY n, 0, 32⟩
abbrev KEY_ATT_WINDOW_WORD (n : Nat) : Fld := ⟨A.KEY_ATT_WINDOW n, 0, 32⟩
abbrev SEAL_LOCK_TAG : Fld := ⟨A.SEAL_LOCK, 0, 16⟩
abbrev SEAL_LOCK_CLAIM : Fld := ⟨A.SEAL_LOCK, 16, 1⟩
abbrev SEAL_LOCK_RELEASE : Fld := ⟨A.SEAL_LOCK, 17, 1⟩
abbrev SEAL_OWNER_OWNER : Fld := ⟨A.SEAL_OWNER, 0, 16⟩
abbrev SEAL_CMD_GO : Fld := ⟨A.SEAL_CMD, 0, 1⟩
abbrev SEAL_CMD_DECRYPT : Fld := ⟨A.SEAL_CMD, 1, 1⟩
abbrev SEAL_CMD_KEY256 : Fld := ⟨A.SEAL_CMD, 2, 1⟩
abbrev SEAL_STATUS_BUSY : Fld := ⟨A.SEAL_STATUS, 0, 1⟩
abbrev SEAL_STATUS_DONE : Fld := ⟨A.SEAL_STATUS, 1, 1⟩
abbrev SEAL_STATUS_RESULT : Fld := ⟨A.SEAL_STATUS, 2, 2⟩
abbrev SEAL_KEY_WORD (n : Nat) : Fld := ⟨A.SEAL_KEY n, 0, 32⟩
abbrev SEAL_IV_WORD (n : Nat) : Fld := ⟨A.SEAL_IV n, 0, 32⟩
abbrev SEAL_AAD_ADDR_LO_WORD : Fld := ⟨A.SEAL_AAD_ADDR_LO, 0, 32⟩
abbrev SEAL_AAD_ADDR_HI_WORD : Fld := ⟨A.SEAL_AAD_ADDR_HI, 0, 32⟩
abbrev SEAL_AAD_LEN_LEN : Fld := ⟨A.SEAL_AAD_LEN, 0, 16⟩
abbrev SEAL_IN_ADDR_LO_WORD : Fld := ⟨A.SEAL_IN_ADDR_LO, 0, 32⟩
abbrev SEAL_IN_ADDR_HI_WORD : Fld := ⟨A.SEAL_IN_ADDR_HI, 0, 32⟩
abbrev SEAL_OUT_ADDR_LO_WORD : Fld := ⟨A.SEAL_OUT_ADDR_LO, 0, 32⟩
abbrev SEAL_OUT_ADDR_HI_WORD : Fld := ⟨A.SEAL_OUT_ADDR_HI, 0, 32⟩
abbrev SEAL_LEN_LEN : Fld := ⟨A.SEAL_LEN, 0, 24⟩
abbrev SEAL_TAG_WORD (n : Nat) : Fld := ⟨A.SEAL_TAG n, 0, 32⟩
abbrev SEAL_JOBS_COUNT : Fld := ⟨A.SEAL_JOBS, 0, 32⟩
abbrev SEAL_AUTH_FAIL_COUNT : Fld := ⟨A.SEAL_AUTH_FAIL, 0, 32⟩
abbrev SEAL_REJECT_COUNT : Fld := ⟨A.SEAL_REJECT, 0, 32⟩
abbrev CK_CTRL_POLY_SEL (n : Nat) : Fld := ⟨A.CK_CTRL n, 0, 2⟩
abbrev CK_CTRL_REFIN (n : Nat) : Fld := ⟨A.CK_CTRL n, 2, 1⟩
abbrev CK_CTRL_REFOUT (n : Nat) : Fld := ⟨A.CK_CTRL n, 3, 1⟩
abbrev CK_CTRL_START (n : Nat) : Fld := ⟨A.CK_CTRL n, 4, 1⟩
abbrev CK_CTRL_BUSY (n : Nat) : Fld := ⟨A.CK_CTRL n, 5, 1⟩
abbrev CK_POLY_WORD (n : Nat) : Fld := ⟨A.CK_POLY n, 0, 32⟩
abbrev CK_INIT_WORD (n : Nat) : Fld := ⟨A.CK_INIT n, 0, 32⟩
abbrev CK_XOROUT_WORD (n : Nat) : Fld := ⟨A.CK_XOROUT n, 0, 32⟩
abbrev CK_VALUE_VALUE (n : Nat) : Fld := ⟨A.CK_VALUE n, 0, 32⟩
abbrev CK_RESULT_CRC (n : Nat) : Fld := ⟨A.CK_RESULT n, 0, 32⟩
abbrev CK_DATA8_DATA (n : Nat) : Fld := ⟨A.CK_DATA8 n, 0, 8⟩
abbrev CK_DATA16_DATA (n : Nat) : Fld := ⟨A.CK_DATA16 n, 0, 16⟩
abbrev CK_DATA32_DATA (n : Nat) : Fld := ⟨A.CK_DATA32 n, 0, 32⟩
abbrev CHK_WRITE_REJECT_COUNT : Fld := ⟨A.CHK_WRITE_REJECT, 0, 32⟩
abbrev RAD_RX_CTRL_RESTART_MARGIN (n : Nat) : Fld := ⟨A.RAD_RX_CTRL n, 0, 5⟩
abbrev RAD_RX_CTRL_RESTART_EN (n : Nat) : Fld := ⟨A.RAD_RX_CTRL n, 5, 1⟩
abbrev RAD_RX_CTRL_RESPONSE_LOCK (n : Nat) : Fld := ⟨A.RAD_RX_CTRL n, 6, 1⟩
abbrev RAD_RX_RESTART_COUNT (n : Nat) : Fld := ⟨A.RAD_RX_RESTART n, 0, 32⟩
abbrev RAD_RX_SIG_FAIL_COUNT (n : Nat) : Fld := ⟨A.RAD_RX_SIG_FAIL n, 0, 32⟩
abbrev RAD_RX_LOST_FALSE_COUNT (n : Nat) : Fld := ⟨A.RAD_RX_LOST_FALSE n, 0, 32⟩
abbrev RAD_RX_OVERLAP_COUNT (n : Nat) : Fld := ⟨A.RAD_RX_OVERLAP n, 0, 32⟩
abbrev RAD_RX_FCS_FAIL_COUNT (n : Nat) : Fld := ⟨A.RAD_RX_FCS_FAIL n, 0, 32⟩
abbrev RAD_RX_ABORT_COUNT (n : Nat) : Fld := ⟨A.RAD_RX_ABORT n, 0, 32⟩
abbrev RAD_RX_UNSUPPORTED_COUNT (n : Nat) : Fld := ⟨A.RAD_RX_UNSUPPORTED n, 0, 32⟩
abbrev RAD_STP_CTRL_ACT_LEAD (n : Nat) : Fld := ⟨A.RAD_STP_CTRL n, 0, 10⟩
abbrev RAD_STP_CTRL_MAX_AGE (n : Nat) : Fld := ⟨A.RAD_STP_CTRL n, 10, 6⟩
abbrev RAD_STP_CTRL_RECOMPUTE (n : Nat) : Fld := ⟨A.RAD_STP_CTRL n, 16, 10⟩
abbrev RAD_STP_CTRL_MARGIN (n : Nat) : Fld := ⟨A.RAD_STP_CTRL n, 26, 6⟩
abbrev RAD_STP_BASE_BASE12 (n : Nat) : Fld := ⟨A.RAD_STP_BASE n, 0, 8⟩
abbrev RAD_STP_BASE_BASE23 (n : Nat) : Fld := ⟨A.RAD_STP_BASE n, 8, 8⟩
abbrev RAD_STP_BASE_BASE34 (n : Nat) : Fld := ⟨A.RAD_STP_BASE n, 16, 8⟩
abbrev RAD_STP_BASE_BASE56 (n : Nat) : Fld := ⟨A.RAD_STP_BASE n, 24, 8⟩
abbrev RAD_STP_MAP_SEL_LINK (n : Nat) : Fld := ⟨A.RAD_STP_MAP_SEL n, 0, 3⟩
abbrev RAD_STP_MAP_SEL_DIR (n : Nat) : Fld := ⟨A.RAD_STP_MAP_SEL n, 3, 1⟩
abbrev RAD_STP_MAP_SEL_WHICH (n : Nat) : Fld := ⟨A.RAD_STP_MAP_SEL n, 4, 1⟩
abbrev RAD_STP_MAP_SEL_STREAM (n : Nat) : Fld := ⟨A.RAD_STP_MAP_SEL n, 5, 3⟩
abbrev RAD_STP_MAP_SEL_OFFER (n : Nat) : Fld := ⟨A.RAD_STP_MAP_SEL n, 8, 1⟩
abbrev RAD_STP_MAP_SEL_RECOMPUTE (n : Nat) : Fld := ⟨A.RAD_STP_MAP_SEL n, 9, 1⟩
abbrev RAD_STP_MISMATCH_COUNT (n : Nat) : Fld := ⟨A.RAD_STP_MISMATCH n, 0, 32⟩
abbrev RAD_STP_FALLBACK_COUNT (n : Nat) : Fld := ⟨A.RAD_STP_FALLBACK n, 0, 32⟩
abbrev RAD_STP_MAP_REJECT_COUNT (n : Nat) : Fld := ⟨A.RAD_STP_MAP_REJECT n, 0, 32⟩
abbrev RAD_STP_ACT_FAIL_COUNT (n : Nat) : Fld := ⟨A.RAD_STP_ACT_FAIL n, 0, 32⟩
abbrev RAD_MEAS_CMD_CHANNEL (n : Nat) : Fld := ⟨A.RAD_MEAS_CMD n, 0, 8⟩
abbrev RAD_MEAS_CMD_DWELL (n : Nat) : Fld := ⟨A.RAD_MEAS_CMD n, 8, 6⟩
abbrev RAD_MEAS_CMD_GO (n : Nat) : Fld := ⟨A.RAD_MEAS_CMD n, 14, 1⟩
abbrev RAD_MEAS_CMD_BUSY (n : Nat) : Fld := ⟨A.RAD_MEAS_CMD n, 15, 1⟩
abbrev RAD_STP_LINK_CFG_ENABLE (n k : Nat) : Fld := ⟨A.RAD_STP_LINK_CFG n k, 0, 1⟩
abbrev RAD_STP_LINK_CFG_PEER (n k : Nat) : Fld := ⟨A.RAD_STP_LINK_CFG n k, 1, 10⟩
abbrev RAD_STP_LINK_CFG_SURVEY (n k : Nat) : Fld := ⟨A.RAD_STP_LINK_CFG n k, 11, 6⟩
abbrev RAD_STP_LINK_CFG_NSS (n k : Nat) : Fld := ⟨A.RAD_STP_LINK_CFG n k, 17, 3⟩
abbrev RAD_STP_LINK_CFG_RATE (n k : Nat) : Fld := ⟨A.RAD_STP_LINK_CFG n k, 20, 2⟩
abbrev RAD_STP_LINK_CFG_FALLBACK_MCS (n k : Nat) : Fld := ⟨A.RAD_STP_LINK_CFG n k, 22, 4⟩
abbrev RAD_STP_LINK_CFG_MAX_BITS (n k : Nat) : Fld := ⟨A.RAD_STP_LINK_CFG n k, 26, 4⟩
abbrev RAD_STP_LINK_VER_TX_VER (n k : Nat) : Fld := ⟨A.RAD_STP_LINK_VER n k, 0, 16⟩
abbrev RAD_STP_LINK_VER_RX_VER (n k : Nat) : Fld := ⟨A.RAD_STP_LINK_VER n k, 16, 16⟩
abbrev RAD_STP_LINK_STATUS_TX_STALE (n k : Nat) : Fld := ⟨A.RAD_STP_LINK_STATUS n k, 0, 1⟩
abbrev RAD_STP_LINK_STATUS_RX_STALE (n k : Nat) : Fld := ⟨A.RAD_STP_LINK_STATUS n k, 1, 1⟩
abbrev RAD_STP_LINK_STATUS_TX_PENDING (n k : Nat) : Fld := ⟨A.RAD_STP_LINK_STATUS n k, 2, 1⟩
abbrev RAD_STP_LINK_STATUS_RX_PENDING (n k : Nat) : Fld := ⟨A.RAD_STP_LINK_STATUS n k, 3, 1⟩
abbrev RAD_STP_LINK_STATUS_LAST_STIPPLE (n k : Nat) : Fld := ⟨A.RAD_STP_LINK_STATUS n k, 4, 1⟩
abbrev RAD_STP_LINK_STATUS_LAST_ECHO (n k : Nat) : Fld := ⟨A.RAD_STP_LINK_STATUS n k, 16, 16⟩
abbrev RAD_GRT_STATUS_POSITION (n : Nat) : Fld := ⟨A.RAD_GRT_STATUS n, 0, 12⟩
abbrev RAD_GRT_STATUS_KIND (n : Nat) : Fld := ⟨A.RAD_GRT_STATUS n, 12, 4⟩
abbrev RAD_GRT_STATUS_COMMIT_BUSY (n : Nat) : Fld := ⟨A.RAD_GRT_STATUS n, 16, 1⟩
abbrev RAD_GRT_STATUS_COMMIT_ERROR (n : Nat) : Fld := ⟨A.RAD_GRT_STATUS n, 17, 1⟩
abbrev RAD_GRT_STATUS_RELOADED (n : Nat) : Fld := ⟨A.RAD_GRT_STATUS n, 18, 1⟩
abbrev RAD_GRT_STATUS_GRANTS_OK (n : Nat) : Fld := ⟨A.RAD_GRT_STATUS n, 19, 1⟩
abbrev RAD_GRT_STATUS_PENDING (n : Nat) : Fld := ⟨A.RAD_GRT_STATUS n, 20, 9⟩
abbrev RAD_GRT_CTRL_SCHED_MAX (n : Nat) : Fld := ⟨A.RAD_GRT_CTRL n, 0, 10⟩
abbrev RAD_GRT_CTRL_RA_RU (n : Nat) : Fld := ⟨A.RAD_GRT_CTRL n, 10, 4⟩
abbrev RAD_GRT_CTRL_PROTECT_EN (n : Nat) : Fld := ⟨A.RAD_GRT_CTRL n, 14, 1⟩
abbrev RAD_GRT_CTRL_BSRP_EN (n : Nat) : Fld := ⟨A.RAD_GRT_CTRL n, 15, 1⟩
abbrev RAD_GRT_CTRL_DOMAIN_EN (n : Nat) : Fld := ⟨A.RAD_GRT_CTRL n, 16, 1⟩
abbrev RAD_GRT_COMMIT_GO (n : Nat) : Fld := ⟨A.RAD_GRT_COMMIT n, 0, 1⟩
abbrev RAD_GRT_EPOCH_EPOCH (n : Nat) : Fld := ⟨A.RAD_GRT_EPOCH n, 0, 32⟩
abbrev RAD_GRT_GUARD_GUARD_NS (n : Nat) : Fld := ⟨A.RAD_GRT_GUARD n, 0, 16⟩
abbrev RAD_GRT_MLD_MASK_MASK (n : Nat) : Fld := ⟨A.RAD_GRT_MLD_MASK n, 0, 16⟩
abbrev RAD_GRT_GRANT_IN_WORD (n k : Nat) : Fld := ⟨A.RAD_GRT_GRANT_IN n k, 0, 32⟩
abbrev RAD_GRT_LOCAL_REJECT_COUNT (n : Nat) : Fld := ⟨A.RAD_GRT_LOCAL_REJECT n, 0, 32⟩
abbrev RAD_GRT_GRANT_REJECT_COUNT (n : Nat) : Fld := ⟨A.RAD_GRT_GRANT_REJECT n, 0, 32⟩
abbrev RAD_GRT_GRANT_DROP_COUNT (n : Nat) : Fld := ⟨A.RAD_GRT_GRANT_DROP n, 0, 32⟩
abbrev RAD_GRT_GRANT_LATE_COUNT (n : Nat) : Fld := ⟨A.RAD_GRT_GRANT_LATE n, 0, 32⟩
abbrev RAD_GRT_LATE_REQUEUE_COUNT (n : Nat) : Fld := ⟨A.RAD_GRT_LATE_REQUEUE n, 0, 32⟩
abbrev RAD_GRT_BCN_SKIP_COUNT (n : Nat) : Fld := ⟨A.RAD_GRT_BCN_SKIP n, 0, 32⟩
abbrev RAD_GRT_SCHED_FULL_COUNT (n : Nat) : Fld := ⟨A.RAD_GRT_SCHED_FULL n, 0, 32⟩
abbrev RAD_GRT_PROTECT_MISS_COUNT (n : Nat) : Fld := ⟨A.RAD_GRT_PROTECT_MISS n, 0, 32⟩
abbrev RAD_GRT_UL_MISS_COUNT (n : Nat) : Fld := ⟨A.RAD_GRT_UL_MISS n, 0, 32⟩
abbrev RAD_GRT_STA_REJECT_COUNT (n : Nat) : Fld := ⟨A.RAD_GRT_STA_REJECT n, 0, 32⟩
abbrev RAD_CONTOUR_WORD (n k : Nat) : Fld := ⟨A.RAD_CONTOUR n k, 0, 32⟩
abbrev RAD_STP_SNR_WORD (n k : Nat) : Fld := ⟨A.RAD_STP_SNR n k, 0, 32⟩
abbrev RAD_STP_MAP_WORD (n k : Nat) : Fld := ⟨A.RAD_STP_MAP n k, 0, 32⟩
abbrev RAD_WORKING_WORD (n k : Nat) : Fld := ⟨A.RAD_WORKING n k, 0, 32⟩
abbrev RAD_SHADOW_WORD (n k : Nat) : Fld := ⟨A.RAD_SHADOW n k, 0, 32⟩
abbrev RAD_PENDING_WORD (n k : Nat) : Fld := ⟨A.RAD_PENDING n k, 0, 32⟩
abbrev RAD_BCN_WORD (n k : Nat) : Fld := ⟨A.RAD_BCN n k, 0, 32⟩
abbrev CHN_CHAIN_STATUS_RADIO (n : Nat) : Fld := ⟨A.CHN_CHAIN_STATUS n, 0, 2⟩
abbrev CHN_CHAIN_STATUS_STATE (n : Nat) : Fld := ⟨A.CHN_CHAIN_STATUS n, 2, 3⟩
abbrev CHN_CHAIN_STATUS_FENCE_CAUSE (n : Nat) : Fld := ⟨A.CHN_CHAIN_STATUS n, 5, 4⟩
abbrev CHN_CHAIN_STATUS_DPD_STALE (n : Nat) : Fld := ⟨A.CHN_CHAIN_STATUS n, 9, 1⟩
abbrev CHN_CHAIN_STATUS_FBRX_FAULT (n : Nat) : Fld := ⟨A.CHN_CHAIN_STATUS n, 10, 1⟩
abbrev CHN_SYNTH_STATUS_SERVES (n : Nat) : Fld := ⟨A.CHN_SYNTH_STATUS n, 0, 3⟩
abbrev CHN_SYNTH_STATUS_LOCKED (n : Nat) : Fld := ⟨A.CHN_SYNTH_STATUS n, 3, 1⟩
abbrev CHN_SYNTH_STATUS_FENCED (n : Nat) : Fld := ⟨A.CHN_SYNTH_STATUS n, 4, 1⟩
abbrev CHN_SYNTH_STATUS_FENCE_CAUSE (n : Nat) : Fld := ⟨A.CHN_SYNTH_STATUS n, 5, 2⟩
abbrev CHN_RADIO_STATE_STATE (n : Nat) : Fld := ⟨A.CHN_RADIO_STATE n, 0, 3⟩
abbrev CHN_RADIO_STATE_CHANGING (n : Nat) : Fld := ⟨A.CHN_RADIO_STATE n, 3, 1⟩
abbrev CHN_RADIO_STATE_CAL_STEP (n : Nat) : Fld := ⟨A.CHN_RADIO_STATE n, 4, 1⟩
abbrev CHN_RADIO_STATE_HOLD (n : Nat) : Fld := ⟨A.CHN_RADIO_STATE n, 5, 1⟩
abbrev CHN_RADIO_STATE_CHAINS (n : Nat) : Fld := ⟨A.CHN_RADIO_STATE n, 6, 4⟩
abbrev CHN_CHAIN_REINSTATE_CHAIN : Fld := ⟨A.CHN_CHAIN_REINSTATE, 0, 4⟩
abbrev CHN_SYNTH_SWITCH_COUNT_COUNT : Fld := ⟨A.CHN_SYNTH_SWITCH_COUNT, 0, 32⟩
abbrev CHN_LAST_FAULT_LOC_LOC : Fld := ⟨A.CHN_LAST_FAULT_LOC, 0, 32⟩
abbrev CHN_WRITE_REJECT_COUNT : Fld := ⟨A.CHN_WRITE_REJECT, 0, 32⟩
abbrev CHN_TX_LATE_COUNT (n : Nat) : Fld := ⟨A.CHN_TX_LATE n, 0, 32⟩
abbrev CHN_FEM_TIMING_PA_LEAD (n : Nat) : Fld := ⟨A.CHN_FEM_TIMING n, 0, 7⟩
abbrev CHN_FEM_TIMING_TR_LEAD (n : Nat) : Fld := ⟨A.CHN_FEM_TIMING n, 8, 7⟩
abbrev CHN_FEM_TIMING_PA_LAG (n : Nat) : Fld := ⟨A.CHN_FEM_TIMING n, 16, 7⟩
abbrev CHN_FEM_TIMING_TR_LAG (n : Nat) : Fld := ⟨A.CHN_FEM_TIMING n, 24, 7⟩
abbrev CHN_CAL_CTRL_OPPORTUNISTIC (n : Nat) : Fld := ⟨A.CHN_CAL_CTRL n, 0, 1⟩
abbrev CHN_CAL_CTRL_DPD_EN (n : Nat) : Fld := ⟨A.CHN_CAL_CTRL n, 1, 1⟩
abbrev CHN_CAL_CTRL_FREEZE (n : Nat) : Fld := ⟨A.CHN_CAL_CTRL n, 2, 1⟩
abbrev CHN_CAL_STATUS_OVERDUE (n : Nat) : Fld := ⟨A.CHN_CAL_STATUS n, 0, 1⟩
abbrev CHN_DPD_DISCARD_COUNT (n : Nat) : Fld := ⟨A.CHN_DPD_DISCARD n, 0, 32⟩
abbrev CHN_CAL_RX_LOST_COUNT (n : Nat) : Fld := ⟨A.CHN_CAL_RX_LOST n, 0, 32⟩
abbrev CHN_REG_STATUS_LOCKED : Fld := ⟨A.CHN_REG_STATUS, 0, 1⟩
abbrev CHN_REG_STATUS_WRITTEN : Fld := ⟨A.CHN_REG_STATUS, 1, 8⟩
abbrev CHN_REG_STATUS_LEGEND_PROFILE : Fld := ⟨A.CHN_REG_STATUS, 9, 3⟩
abbrev CHN_REG_STATUS_ACTIVE_PROFILE : Fld := ⟨A.CHN_REG_STATUS, 12, 3⟩
abbrev CHN_REG_SELECT_PROFILE : Fld := ⟨A.CHN_REG_SELECT, 0, 3⟩
abbrev CHN_REG_DUTY_HIT_COUNT (n : Nat) : Fld := ⟨A.CHN_REG_DUTY_HIT n, 0, 32⟩
abbrev CHN_COEX_CTRL_EXT_RADIOS : Fld := ⟨A.CHN_COEX_CTRL, 0, 3⟩
abbrev CHN_COEX_CTRL_EXT_EN : Fld := ⟨A.CHN_COEX_CTRL, 3, 1⟩
abbrev CHN_COEX_CTRL_EXT_TRUNCATE : Fld := ⟨A.CHN_COEX_CTRL, 4, 1⟩
abbrev CHN_COEX_CTRL_DEV_RADIOS : Fld := ⟨A.CHN_COEX_CTRL, 5, 3⟩
abbrev CHN_COEX_CTRL_DEV_EN : Fld := ⟨A.CHN_COEX_CTRL, 8, 1⟩
abbrev CHN_COEX_CTRL_DEV_TRUNCATE : Fld := ⟨A.CHN_COEX_CTRL, 9, 1⟩
abbrev CHN_COEX_CTRL_DEV_REQ_RX : Fld := ⟨A.CHN_COEX_CTRL, 10, 1⟩
abbrev CHN_COEX_CTRL_INVERT : Fld := ⟨A.CHN_COEX_CTRL, 11, 5⟩
abbrev CHN_COEX_CTRL_DEV_LEAD : Fld := ⟨A.CHN_COEX_CTRL, 16, 8⟩
abbrev CHN_COEX_CTRL_DEV_TIMEOUT : Fld := ⟨A.CHN_COEX_CTRL, 24, 8⟩
abbrev CHN_COEX_STATUS_LEVELS : Fld := ⟨A.CHN_COEX_STATUS, 0, 5⟩
abbrev CHN_COEX_TRUNC_COUNT : Fld := ⟨A.CHN_COEX_TRUNC, 0, 32⟩
abbrev CHN_COEX_DENIED_COUNT : Fld := ⟨A.CHN_COEX_DENIED, 0, 32⟩
abbrev CHN_TX_CAP_CAP0 (n : Nat) : Fld := ⟨A.CHN_TX_CAP n, 0, 8⟩
abbrev CHN_TX_CAP_CAP1 (n : Nat) : Fld := ⟨A.CHN_TX_CAP n, 8, 8⟩
abbrev CHN_TX_CAP_CAP2 (n : Nat) : Fld := ⟨A.CHN_TX_CAP n, 16, 8⟩
abbrev CHN_FUSE_CTRL_PROFILE : Fld := ⟨A.CHN_FUSE_CTRL, 0, 3⟩
abbrev CHN_FUSE_CTRL_PROGRAM : Fld := ⟨A.CHN_FUSE_CTRL, 3, 1⟩
abbrev CHN_FUSE_CTRL_LOCK : Fld := ⟨A.CHN_FUSE_CTRL, 4, 1⟩
abbrev CHN_FUSE_CTRL_KEY : Fld := ⟨A.CHN_FUSE_CTRL, 16, 16⟩
abbrev CHN_FUSE_STATUS_BUSY : Fld := ⟨A.CHN_FUSE_STATUS, 0, 1⟩
abbrev CHN_FUSE_STATUS_DONE : Fld := ⟨A.CHN_FUSE_STATUS, 1, 1⟩
abbrev CHN_FUSE_STATUS_ERROR : Fld := ⟨A.CHN_FUSE_STATUS, 2, 1⟩
abbrev CHN_FUSE_DATA_WORD (n : Nat) : Fld := ⟨A.CHN_FUSE_DATA n, 0, 32⟩
abbrev CHN_REG_PROFILE_WORD (n : Nat) : Fld := ⟨A.CHN_REG_PROFILE n, 0, 32⟩
abbrev CHN_SURVEY0_MEMBER (n : Nat) : Fld := ⟨A.CHN_SURVEY0 n, 0, 10⟩
abbrev CHN_SURVEY0_PATH (n : Nat) : Fld := ⟨A.CHN_SURVEY0 n, 10, 2⟩
abbrev CHN_SURVEY0_VALID (n : Nat) : Fld := ⟨A.CHN_SURVEY0 n, 12, 1⟩
abbrev CHN_SURVEY0_DATUM_REF (n : Nat) : Fld := ⟨A.CHN_SURVEY0 n, 13, 1⟩
abbrev CHN_SURVEY0_STIPPLE_PEER (n : Nat) : Fld := ⟨A.CHN_SURVEY0 n, 14, 1⟩
abbrev CHN_SURVEY0_APPLY (n : Nat) : Fld := ⟨A.CHN_SURVEY0 n, 15, 1⟩
abbrev CHN_SURVEY1_CFO_HZ (n : Nat) : Fld := ⟨A.CHN_SURVEY1 n, 0, 32⟩
abbrev CHN_SURVEY2_FREQ_MHZ (n : Nat) : Fld := ⟨A.CHN_SURVEY2 n, 0, 16⟩
abbrev CHN_SURVEY2_AGE_MS (n : Nat) : Fld := ⟨A.CHN_SURVEY2 n, 16, 16⟩
abbrev CHN_SURVEY3_SPREAD_HZ (n : Nat) : Fld := ⟨A.CHN_SURVEY3 n, 0, 16⟩
abbrev CHN_SURVEY3_COUNT (n : Nat) : Fld := ⟨A.CHN_SURVEY3 n, 16, 16⟩
abbrev TRV_CTRL_JOIN : Fld := ⟨A.TRV_CTRL, 0, 1⟩
abbrev TRV_CTRL_LEAVE : Fld := ⟨A.TRV_CTRL, 1, 1⟩
abbrev TRV_CTRL_TX_KEY : Fld := ⟨A.TRV_CTRL, 2, 1⟩
abbrev TRV_CTRL_SKIP_EN : Fld := ⟨A.TRV_CTRL, 3, 1⟩
abbrev TRV_CTRL_BCN_EN : Fld := ⟨A.TRV_CTRL, 4, 1⟩
abbrev TRV_CTRL_BCN_SLOT : Fld := ⟨A.TRV_CTRL, 5, 4⟩
abbrev TRV_CTRL_LOAD_MARGIN : Fld := ⟨A.TRV_CTRL, 9, 4⟩
abbrev TRV_CTRL_TX_POWER : Fld := ⟨A.TRV_CTRL, 13, 8⟩
abbrev TRV_CTRL_FRESH : Fld := ⟨A.TRV_CTRL, 21, 7⟩
abbrev TRV_CTRL_MAX_DEPTH : Fld := ⟨A.TRV_CTRL, 28, 4⟩
abbrev TRV_STATUS_DOMAIN : Fld := ⟨A.TRV_STATUS, 0, 2⟩
abbrev TRV_STATUS_TX_BLOCKED : Fld := ⟨A.TRV_STATUS, 2, 1⟩
abbrev TRV_STATUS_HOPSET : Fld := ⟨A.TRV_STATUS, 3, 6⟩
abbrev TRV_STATUS_MAPSIZE : Fld := ⟨A.TRV_STATUS, 9, 6⟩
abbrev TRV_STATUS_CHANNEL : Fld := ⟨A.TRV_STATUS, 15, 6⟩
abbrev TRV_STATUS_SCAN_CH : Fld := ⟨A.TRV_STATUS, 21, 6⟩
abbrev TRV_STATUS_DUP_MEMBER : Fld := ⟨A.TRV_STATUS, 27, 1⟩
abbrev TRV_STATUS_MAP_PENDING : Fld := ⟨A.TRV_STATUS, 28, 1⟩
abbrev TRV_DOMAIN_ID_ID : Fld := ⟨A.TRV_DOMAIN_ID, 0, 32⟩
abbrev TRV_MEMBER_MEMBER : Fld := ⟨A.TRV_MEMBER, 0, 10⟩
abbrev TRV_HOPMAP_LO_CHANNELS : Fld := ⟨A.TRV_HOPMAP_LO, 0, 32⟩
abbrev TRV_HOPMAP_HI_CHANNELS : Fld := ⟨A.TRV_HOPMAP_HI, 0, 8⟩
abbrev TRV_HOPMAP_HI_VERSION : Fld := ⟨A.TRV_HOPMAP_HI, 16, 16⟩
abbrev TRV_HOPMAP_NEXT_LO_CHANNELS : Fld := ⟨A.TRV_HOPMAP_NEXT_LO, 0, 32⟩
abbrev TRV_HOPMAP_NEXT_HI_CHANNELS : Fld := ⟨A.TRV_HOPMAP_NEXT_HI, 0, 8⟩
abbrev TRV_HOPMAP_NEXT_EPOCH_EPOCH : Fld := ⟨A.TRV_HOPMAP_NEXT_EPOCH, 0, 32⟩
abbrev TRV_EFFECTIVE_LO_CHANNELS : Fld := ⟨A.TRV_EFFECTIVE_LO, 0, 32⟩
abbrev TRV_EFFECTIVE_HI_CHANNELS : Fld := ⟨A.TRV_EFFECTIVE_HI, 0, 8⟩
abbrev TRV_SKIP_CTRL_SKIP_LEVEL : Fld := ⟨A.TRV_SKIP_CTRL, 0, 10⟩
abbrev TRV_DKEY_STATUS_LOADED : Fld := ⟨A.TRV_DKEY_STATUS, 0, 2⟩
abbrev TRV_SLOT_SLOT : Fld := ⟨A.TRV_SLOT, 0, 32⟩
abbrev TRV_DELAY_NS_DELAY : Fld := ⟨A.TRV_DELAY_NS, 0, 32⟩
abbrev TRV_DKEY_WORD (n k : Nat) : Fld := ⟨A.TRV_DKEY n k, 0, 32⟩
abbrev TRV_RX_OK_COUNT : Fld := ⟨A.TRV_RX_OK, 0, 32⟩
abbrev TRV_RX_AUTH_FAIL_COUNT : Fld := ⟨A.TRV_RX_AUTH_FAIL, 0, 32⟩
abbrev TRV_RX_REPLAY_COUNT : Fld := ⟨A.TRV_RX_REPLAY, 0, 32⟩
abbrev TRV_RX_STALE_COUNT : Fld := ⟨A.TRV_RX_STALE, 0, 32⟩
abbrev TRV_RX_OTHER_DOMAIN_COUNT : Fld := ⟨A.TRV_RX_OTHER_DOMAIN, 0, 32⟩
abbrev TRV_RX_SELF_COUNT : Fld := ⟨A.TRV_RX_SELF, 0, 32⟩
abbrev TRV_RX_UNKNOWN_COUNT : Fld := ⟨A.TRV_RX_UNKNOWN, 0, 32⟩
abbrev TRV_RX_ABORT_COUNT : Fld := ⟨A.TRV_RX_ABORT, 0, 32⟩
abbrev TRV_TX_FRAMES_COUNT : Fld := ⟨A.TRV_TX_FRAMES, 0, 32⟩
abbrev TRV_TX_DROP_COUNT : Fld := ⟨A.TRV_TX_DROP, 0, 32⟩
abbrev TRV_TX_ABORT_COUNT : Fld := ⟨A.TRV_TX_ABORT, 0, 32⟩
abbrev TRV_SLOT_LOST_COUNT : Fld := ⟨A.TRV_SLOT_LOST, 0, 32⟩
abbrev TRV_DWELL_HOLD_COUNT : Fld := ⟨A.TRV_DWELL_HOLD, 0, 32⟩
abbrev TRV_BLOCKED_SLOTS_COUNT : Fld := ⟨A.TRV_BLOCKED_SLOTS, 0, 32⟩
abbrev TRV_MAP_REJECT_COUNT : Fld := ⟨A.TRV_MAP_REJECT, 0, 32⟩
abbrev TRV_WRITE_REJECT_COUNT : Fld := ⟨A.TRV_WRITE_REJECT, 0, 32⟩
abbrev TRV_SESSIONS_COUNT : Fld := ⟨A.TRV_SESSIONS, 0, 32⟩
abbrev TRV_DELAY_FAIL_COUNT : Fld := ⟨A.TRV_DELAY_FAIL, 0, 32⟩
abbrev TRV_CONTOUR_WORD (n : Nat) : Fld := ⟨A.TRV_CONTOUR n, 0, 32⟩
abbrev TRV_HOST_TX_LENGTH : Fld := ⟨A.TRV_HOST_TX, 0, 11⟩
abbrev TRV_HOST_TX_RECEIVER : Fld := ⟨A.TRV_HOST_TX, 11, 10⟩
abbrev TRV_HOST_TX_BROADCAST : Fld := ⟨A.TRV_HOST_TX, 21, 1⟩
abbrev TRV_HOST_TX_GO : Fld := ⟨A.TRV_HOST_TX, 22, 1⟩
abbrev TRV_HOST_TX_BUSY : Fld := ⟨A.TRV_HOST_TX, 23, 1⟩
abbrev TRV_HOST_PAYLOAD_WORD (n : Nat) : Fld := ⟨A.TRV_HOST_PAYLOAD n, 0, 32⟩
abbrev TRV_DATUM_REF_MEMBER (n : Nat) : Fld := ⟨A.TRV_DATUM_REF n, 0, 10⟩
abbrev TRV_DATUM_REF_VALID (n : Nat) : Fld := ⟨A.TRV_DATUM_REF n, 10, 1⟩
abbrev TRV_DATUM_STATE_STAGE : Fld := ⟨A.TRV_DATUM_STATE, 0, 2⟩
abbrev TRV_DATUM_STATE_REF : Fld := ⟨A.TRV_DATUM_STATE, 2, 2⟩
abbrev TRV_DATUM_STATE_MISSES : Fld := ⟨A.TRV_DATUM_STATE, 4, 2⟩
abbrev TRV_DATUM_STATE_PTP : Fld := ⟨A.TRV_DATUM_STATE, 6, 1⟩
abbrev TRV_DATUM_STATE_ROOT : Fld := ⟨A.TRV_DATUM_STATE, 7, 1⟩
abbrev TRV_DATUM_STATE_W_NS : Fld := ⟨A.TRV_DATUM_STATE, 8, 24⟩
abbrev TRV_HOLD_CTRL_HOLD_DRIFT_PPB : Fld := ⟨A.TRV_HOLD_CTRL, 0, 12⟩
abbrev TRV_HOLD_CTRL_GUARD_MIN : Fld := ⟨A.TRV_HOLD_CTRL, 12, 6⟩
abbrev TRV_HOLD_CTRL_GUARD_MAX : Fld := ⟨A.TRV_HOLD_CTRL, 18, 6⟩
abbrev TRV_HOLD_CTRL_PROP : Fld := ⟨A.TRV_HOLD_CTRL, 24, 8⟩
abbrev TRV_HOLDOVER_COUNT_COUNT : Fld := ⟨A.TRV_HOLDOVER_COUNT, 0, 32⟩
abbrev WUR_CTRL_CHANNEL : Fld := ⟨A.WUR_CTRL, 0, 4⟩
abbrev WUR_CTRL_WUR_ID : Fld := ⟨A.WUR_CTRL, 4, 12⟩
abbrev WUR_CTRL_EN : Fld := ⟨A.WUR_CTRL, 16, 1⟩
abbrev WUR_CTRL_BCAST_WAKE : Fld := ⟨A.WUR_CTRL, 17, 1⟩
abbrev WUR_CTRL_TX_RATE : Fld := ⟨A.WUR_CTRL, 18, 1⟩
abbrev WUR_CTRL_TX_POWER : Fld := ⟨A.WUR_CTRL, 19, 8⟩
abbrev WUR_STATUS_WAKE : Fld := ⟨A.WUR_STATUS, 0, 1⟩
abbrev WUR_STATUS_LAST_BCAST : Fld := ⟨A.WUR_STATUS, 1, 1⟩
abbrev WUR_STATUS_LAST_SENDER : Fld := ⟨A.WUR_STATUS, 2, 10⟩
abbrev WUR_RDV_CTRL_PARTNER : Fld := ⟨A.WUR_RDV_CTRL, 0, 10⟩
abbrev WUR_RDV_CTRL_PARTNER_WUR_ID : Fld := ⟨A.WUR_RDV_CTRL, 10, 12⟩
abbrev WUR_RDV_CTRL_PARTNER_CH : Fld := ⟨A.WUR_RDV_CTRL, 22, 4⟩
abbrev WUR_RDV_CTRL_ARM : Fld := ⟨A.WUR_RDV_CTRL, 26, 1⟩
abbrev WUR_RDV_CTRL_DISARM : Fld := ⟨A.WUR_RDV_CTRL, 27, 1⟩
abbrev WUR_RDV_TIMING_INTERVAL : Fld := ⟨A.WUR_RDV_TIMING, 0, 8⟩
abbrev WUR_RDV_TIMING_WAIT : Fld := ⟨A.WUR_RDV_TIMING, 8, 8⟩
abbrev WUR_RDV_TIME_S_SECONDS : Fld := ⟨A.WUR_RDV_TIME_S, 0, 32⟩
abbrev WUR_RDV_TIME_NS_NS : Fld := ⟨A.WUR_RDV_TIME_NS, 0, 30⟩
abbrev WUR_RDV_STATUS_STATE : Fld := ⟨A.WUR_RDV_STATUS, 0, 2⟩
abbrev WUR_RDV_STATUS_MET : Fld := ⟨A.WUR_RDV_STATUS, 2, 1⟩
abbrev WUR_RDV_STATUS_FAIL : Fld := ⟨A.WUR_RDV_STATUS, 3, 1⟩
abbrev WUR_RDV_STATUS_FRAMES : Fld := ⟨A.WUR_RDV_STATUS, 4, 12⟩
abbrev WUR_RX_WAKE_COUNT : Fld := ⟨A.WUR_RX_WAKE, 0, 32⟩
abbrev WUR_RX_OTHER_COUNT : Fld := ⟨A.WUR_RX_OTHER, 0, 32⟩
abbrev WUR_TX_FRAMES_COUNT : Fld := ⟨A.WUR_TX_FRAMES, 0, 32⟩
abbrev WUR_TX_LIMITED_COUNT : Fld := ⟨A.WUR_TX_LIMITED, 0, 32⟩
abbrev PRS_CTRL_VXLAN_PORT : Fld := ⟨A.PRS_CTRL, 0, 16⟩
abbrev PRS_CTRL_TPID_ALT : Fld := ⟨A.PRS_CTRL, 16, 16⟩
abbrev PRS_FAIL_COUNT (n : Nat) : Fld := ⟨A.PRS_FAIL n, 0, 32⟩
abbrev PRS_DEFAULT_PARSE_FAIL (n : Nat) : Fld := ⟨A.PRS_DEFAULT n, 0, 2⟩
abbrev PRS_DEFAULT_NO_MATCH (n : Nat) : Fld := ⟨A.PRS_DEFAULT n, 2, 2⟩
abbrev PRS_DEFAULT_TARGET (n : Nat) : Fld := ⟨A.PRS_DEFAULT n, 16, 16⟩
abbrev PRS_SRC_FAIL_COUNT (n : Nat) : Fld := ⟨A.PRS_SRC_FAIL n, 0, 32⟩
abbrev PRS_SRC_NOMATCH_COUNT (n : Nat) : Fld := ⟨A.PRS_SRC_NOMATCH n, 0, 32⟩
abbrev CLS_WRITE_REJECT_COUNT : Fld := ⟨A.CLS_WRITE_REJECT, 0, 32⟩
abbrev CLS_STAGE_DISCARD_COUNT : Fld := ⟨A.CLS_STAGE_DISCARD, 0, 32⟩
abbrev CLS_PROFILE_FIELD (n k e : Nat) : Fld := ⟨A.CLS_PROFILE n k e, 0, 8⟩
abbrev CLS_PROFILE_START (n k e : Nat) : Fld := ⟨A.CLS_PROFILE n k e, 8, 4⟩
abbrev CLS_PROFILE_LENGTH (n k e : Nat) : Fld := ⟨A.CLS_PROFILE n k e, 12, 5⟩
abbrev CLS_RANGE_W0_LOW (n : Nat) : Fld := ⟨A.CLS_RANGE_W0 n, 0, 16⟩
abbrev CLS_RANGE_W0_HIGH (n : Nat) : Fld := ⟨A.CLS_RANGE_W0 n, 16, 16⟩
abbrev CLS_RANGE_W1_FIELD (n : Nat) : Fld := ⟨A.CLS_RANGE_W1 n, 0, 8⟩
abbrev CLS_RANGE_W1_ENABLE (n : Nat) : Fld := ⟨A.CLS_RANGE_W1 n, 8, 1⟩
abbrev CLS_RANGE_W1_MASK (n : Nat) : Fld := ⟨A.CLS_RANGE_W1 n, 16, 16⟩
abbrev RTE_CMD_OP : Fld := ⟨A.RTE_CMD, 0, 2⟩
abbrev RTE_CMD_V6 : Fld := ⟨A.RTE_CMD, 2, 1⟩
abbrev RTE_CMD_LENGTH : Fld := ⟨A.RTE_CMD, 3, 8⟩
abbrev RTE_CMD_NEXTHOP : Fld := ⟨A.RTE_CMD, 16, 16⟩
abbrev RTE_CMD_STATUS_BUSY : Fld := ⟨A.RTE_CMD_STATUS, 0, 1⟩
abbrev RTE_CMD_STATUS_RESULT : Fld := ⟨A.RTE_CMD_STATUS, 1, 3⟩
abbrev RTE_CMD_STATUS_FOUND_LENGTH : Fld := ⟨A.RTE_CMD_STATUS, 4, 8⟩
abbrev RTE_CMD_STATUS_FOUND_NEXTHOP : Fld := ⟨A.RTE_CMD_STATUS, 16, 16⟩
abbrev RTE_PREFIX_ADDR (n : Nat) : Fld := ⟨A.RTE_PREFIX n, 0, 32⟩
abbrev RTE_V4_ROUTES_COUNT : Fld := ⟨A.RTE_V4_ROUTES, 0, 20⟩
abbrev RTE_V6_ROUTES_COUNT : Fld := ⟨A.RTE_V6_ROUTES, 0, 20⟩
abbrev RTE_V4_NODES_FREE_COUNT : Fld := ⟨A.RTE_V4_NODES_FREE, 0, 17⟩
abbrev RTE_V6_NODES_FREE_COUNT : Fld := ⟨A.RTE_V6_NODES_FREE, 0, 17⟩
abbrev RTE_MISS_COUNT : Fld := ⟨A.RTE_MISS, 0, 32⟩
abbrev RTE_NH_DROP_COUNT : Fld := ⟨A.RTE_NH_DROP, 0, 32⟩
abbrev RTE_PASS_LIMIT_COUNT : Fld := ⟨A.RTE_PASS_LIMIT, 0, 32⟩
abbrev RTE_WRITE_REJECT_COUNT : Fld := ⟨A.RTE_WRITE_REJECT, 0, 32⟩
abbrev RTE_TTL_MTU_COUNT : Fld := ⟨A.RTE_TTL_MTU, 0, 32⟩
abbrev FLW_CTRL_TRACK_EN : Fld := ⟨A.FLW_CTRL, 0, 1⟩
abbrev FLW_CTRL_TCP_SYN_ONLY : Fld := ⟨A.FLW_CTRL, 1, 1⟩
abbrev FLW_CTRL_NOTIFY : Fld := ⟨A.FLW_CTRL, 2, 1⟩
abbrev FLW_STATUS_CACHE_ONLY : Fld := ⟨A.FLW_STATUS, 0, 1⟩
abbrev FLW_STATUS_FLUSHING : Fld := ⟨A.FLW_STATUS, 1, 1⟩
abbrev FLW_AGE_CTRL_SWEEP_S : Fld := ⟨A.FLW_AGE_CTRL, 0, 8⟩
abbrev FLW_AGE_T0_TCP_OPEN : Fld := ⟨A.FLW_AGE_T0, 0, 16⟩
abbrev FLW_AGE_T0_TCP_EST : Fld := ⟨A.FLW_AGE_T0, 16, 16⟩
abbrev FLW_AGE_T1_TCP_CLOSING : Fld := ⟨A.FLW_AGE_T1, 0, 16⟩
abbrev FLW_AGE_T1_UDP : Fld := ⟨A.FLW_AGE_T1, 16, 16⟩
abbrev FLW_AGE_T2_OTHER : Fld := ⟨A.FLW_AGE_T2, 0, 16⟩
abbrev FLW_CMD_OP : Fld := ⟨A.FLW_CMD, 0, 3⟩
abbrev FLW_CMD_FLUSH_STATIC : Fld := ⟨A.FLW_CMD, 3, 1⟩
abbrev FLW_CMD_STATUS_BUSY : Fld := ⟨A.FLW_CMD_STATUS, 0, 1⟩
abbrev FLW_CMD_STATUS_RESULT : Fld := ⟨A.FLW_CMD_STATUS, 1, 3⟩
abbrev FLW_CMD_STATUS_INDEX : Fld := ⟨A.FLW_CMD_STATUS, 4, 25⟩
abbrev FLW_CMD_INDEX_INDEX : Fld := ⟨A.FLW_CMD_INDEX, 0, 25⟩
abbrev FLW_ENTRIES_COUNT : Fld := ⟨A.FLW_ENTRIES, 0, 32⟩
abbrev FLW_CREATED_COUNT : Fld := ⟨A.FLW_CREATED, 0, 32⟩
abbrev FLW_AGED_COUNT : Fld := ⟨A.FLW_AGED, 0, 32⟩
abbrev FLW_FULL_COUNT : Fld := ⟨A.FLW_FULL, 0, 32⟩
abbrev FLW_NAT_EXHAUSTED_COUNT : Fld := ⟨A.FLW_NAT_EXHAUSTED, 0, 32⟩
abbrev FLW_CACHE_HIT_COUNT : Fld := ⟨A.FLW_CACHE_HIT, 0, 32⟩
abbrev FLW_CACHE_MISS_COUNT : Fld := ⟨A.FLW_CACHE_MISS, 0, 32⟩
abbrev FLW_WRITE_REJECT_COUNT : Fld := ⟨A.FLW_WRITE_REJECT, 0, 32⟩
abbrev FLW_DATA_WORD (n : Nat) : Fld := ⟨A.FLW_DATA n, 0, 32⟩
abbrev FLW_NAT_W0_FIRST (n : Nat) : Fld := ⟨A.FLW_NAT_W0 n, 0, 32⟩
abbrev FLW_NAT_W1_COUNT (n : Nat) : Fld := ⟨A.FLW_NAT_W1 n, 0, 9⟩
abbrev FLW_NAT_W1_PRESERVE (n : Nat) : Fld := ⟨A.FLW_NAT_W1 n, 9, 1⟩
abbrev FLW_NAT_W1_VALID (n : Nat) : Fld := ⟨A.FLW_NAT_W1 n, 10, 1⟩
abbrev FLW_NAT_W2_PORT_LOW (n : Nat) : Fld := ⟨A.FLW_NAT_W2 n, 0, 16⟩
abbrev FLW_NAT_W2_PORT_HIGH (n : Nat) : Fld := ⟨A.FLW_NAT_W2 n, 16, 16⟩
abbrev QSC_DSCP_MAP_CLASS0 (n : Nat) : Fld := ⟨A.QSC_DSCP_MAP n, 0, 3⟩
abbrev QSC_DSCP_MAP_CLASS1 (n : Nat) : Fld := ⟨A.QSC_DSCP_MAP n, 4, 3⟩
abbrev QSC_DSCP_MAP_CLASS2 (n : Nat) : Fld := ⟨A.QSC_DSCP_MAP n, 8, 3⟩
abbrev QSC_DSCP_MAP_CLASS3 (n : Nat) : Fld := ⟨A.QSC_DSCP_MAP n, 12, 3⟩
abbrev QSC_DSCP_MAP_CLASS4 (n : Nat) : Fld := ⟨A.QSC_DSCP_MAP n, 16, 3⟩
abbrev QSC_DSCP_MAP_CLASS5 (n : Nat) : Fld := ⟨A.QSC_DSCP_MAP n, 20, 3⟩
abbrev QSC_DSCP_MAP_CLASS6 (n : Nat) : Fld := ⟨A.QSC_DSCP_MAP n, 24, 3⟩
abbrev QSC_DSCP_MAP_CLASS7 (n : Nat) : Fld := ⟨A.QSC_DSCP_MAP n, 28, 3⟩
abbrev QSC_PORT_OVERHEAD (n : Nat) : Fld := ⟨A.QSC_PORT n, 0, 9⟩
abbrev QSC_HOST_OVERHEAD : Fld := ⟨A.QSC_HOST, 0, 8⟩
abbrev QSC_RAD_OVERHEAD_TICKS (n : Nat) : Fld := ⟨A.QSC_RAD n, 0, 16⟩
abbrev QSC_RAD_MPDU_BYTES (n : Nat) : Fld := ⟨A.QSC_RAD n, 16, 8⟩
abbrev QSC_RAD_DEF_RATE (n : Nat) : Fld := ⟨A.QSC_RAD n, 24, 8⟩
abbrev QSC_BUF_TOTAL_CELLS : Fld := ⟨A.QSC_BUF_TOTAL, 0, 32⟩
abbrev QSC_BUF_FREE_CELLS : Fld := ⟨A.QSC_BUF_FREE, 0, 32⟩
abbrev QSC_SPILL_CTRL_SPILL_ON : Fld := ⟨A.QSC_SPILL_CTRL, 0, 16⟩
abbrev QSC_SPILL_CTRL_HEAD_KEEP : Fld := ⟨A.QSC_SPILL_CTRL, 16, 16⟩
abbrev QSC_SPILL_USED_CELLS : Fld := ⟨A.QSC_SPILL_USED, 0, 32⟩
abbrev QSC_FLUSH_STATUS_STATION : Fld := ⟨A.QSC_FLUSH_STATUS, 0, 12⟩
abbrev QSC_FLUSH_STATUS_BUSY : Fld := ⟨A.QSC_FLUSH_STATUS, 12, 1⟩
abbrev QSC_BUF_DROP_COUNT : Fld := ⟨A.QSC_BUF_DROP, 0, 32⟩
abbrev QSC_STA_INVALID_COUNT : Fld := ⟨A.QSC_STA_INVALID, 0, 32⟩
abbrev QSC_FLUSH_DROP_COUNT : Fld := ⟨A.QSC_FLUSH_DROP, 0, 32⟩
abbrev QSC_SPILL_STALL_COUNT : Fld := ⟨A.QSC_SPILL_STALL, 0, 32⟩
abbrev QSC_SPILL_LOST_COUNT : Fld := ⟨A.QSC_SPILL_LOST, 0, 32⟩
abbrev QSC_WRITE_REJECT_COUNT : Fld := ⟨A.QSC_WRITE_REJECT, 0, 32⟩
abbrev QSC_POL_INVALID_COUNT : Fld := ⟨A.QSC_POL_INVALID, 0, 32⟩
abbrev QSC_STP_STA_STATION (n k : Nat) : Fld := ⟨A.QSC_STP_STA n k, 0, 12⟩
abbrev QSC_STP_STA_VALID (n k : Nat) : Fld := ⟨A.QSC_STP_STA n k, 12, 1⟩
abbrev ETH_CTRL_PROMISC (n : Nat) : Fld := ⟨A.ETH_CTRL n, 0, 1⟩
abbrev ETH_CTRL_ALL_MULTI (n : Nat) : Fld := ⟨A.ETH_CTRL n, 1, 1⟩
abbrev ETH_CTRL_PAUSE_RX (n : Nat) : Fld := ⟨A.ETH_CTRL n, 2, 1⟩
abbrev ETH_CTRL_TX_INVERT (n : Nat) : Fld := ⟨A.ETH_CTRL n, 3, 1⟩
abbrev ETH_CTRL_RX_INVERT (n : Nat) : Fld := ⟨A.ETH_CTRL n, 4, 1⟩
abbrev ETH_CTRL_FEC (n : Nat) : Fld := ⟨A.ETH_CTRL n, 5, 2⟩
abbrev ETH_CTRL_AN_EN (n : Nat) : Fld := ⟨A.ETH_CTRL n, 7, 1⟩
abbrev ETH_STATUS_LINK (n : Nat) : Fld := ⟨A.ETH_STATUS n, 0, 1⟩
abbrev ETH_STATUS_MODE (n : Nat) : Fld := ⟨A.ETH_STATUS n, 1, 3⟩
abbrev ETH_STATUS_PAUSED (n : Nat) : Fld := ⟨A.ETH_STATUS n, 4, 8⟩
abbrev ETH_MAC_LO_MAC (n : Nat) : Fld := ⟨A.ETH_MAC_LO n, 0, 32⟩
abbrev ETH_MAC_HI_MAC (n : Nat) : Fld := ⟨A.ETH_MAC_HI n, 0, 16⟩
abbrev ETH_MAXLEN_LEN (n : Nat) : Fld := ⟨A.ETH_MAXLEN n, 0, 14⟩
abbrev ETH_PFC_RX_EN (n : Nat) : Fld := ⟨A.ETH_PFC n, 0, 8⟩
abbrev ETH_PFC_TX_EN (n : Nat) : Fld := ⟨A.ETH_PFC n, 8, 8⟩
abbrev ETH_PFC_TIME (n : Nat) : Fld := ⟨A.ETH_PFC n, 16, 16⟩
abbrev ETH_PFC_THR_XOFF (n : Nat) : Fld := ⟨A.ETH_PFC_THR n, 0, 16⟩
abbrev ETH_PFC_THR_XON (n : Nat) : Fld := ⟨A.ETH_PFC_THR n, 16, 16⟩
abbrev ETH_MACSEC_CTRL_EN (n : Nat) : Fld := ⟨A.ETH_MACSEC_CTRL n, 0, 1⟩
abbrev ETH_MACSEC_CTRL_STRICT (n : Nat) : Fld := ⟨A.ETH_MACSEC_CTRL n, 1, 1⟩
abbrev ETH_MACSEC_CTRL_TX_AN (n : Nat) : Fld := ⟨A.ETH_MACSEC_CTRL n, 2, 2⟩
abbrev ETH_MACSEC_CTRL_TX_CONF (n : Nat) : Fld := ⟨A.ETH_MACSEC_CTRL n, 4, 1⟩
abbrev ETH_MACSEC_CTRL_TX_SCI (n : Nat) : Fld := ⟨A.ETH_MACSEC_CTRL n, 5, 1⟩
abbrev ETH_MACSEC_WINDOW_WINDOW (n : Nat) : Fld := ⟨A.ETH_MACSEC_WINDOW n, 0, 32⟩
abbrev ETH_FILTER_WORD (n k : Nat) : Fld := ⟨A.ETH_FILTER n k, 0, 32⟩
abbrev ETH_RX_OCTETS_LO_COUNT (n : Nat) : Fld := ⟨A.ETH_RX_OCTETS_LO n, 0, 32⟩
abbrev ETH_RX_OCTETS_HI_COUNT (n : Nat) : Fld := ⟨A.ETH_RX_OCTETS_HI n, 0, 32⟩
abbrev ETH_RX_FRAMES_COUNT (n : Nat) : Fld := ⟨A.ETH_RX_FRAMES n, 0, 32⟩
abbrev ETH_RX_BCAST_COUNT (n : Nat) : Fld := ⟨A.ETH_RX_BCAST n, 0, 32⟩
abbrev ETH_RX_MCAST_COUNT (n : Nat) : Fld := ⟨A.ETH_RX_MCAST n, 0, 32⟩
abbrev ETH_RX_CODE_ERR_COUNT (n : Nat) : Fld := ⟨A.ETH_RX_CODE_ERR n, 0, 32⟩
abbrev ETH_RX_UNDERSIZE_COUNT (n : Nat) : Fld := ⟨A.ETH_RX_UNDERSIZE n, 0, 32⟩
abbrev ETH_RX_OVERSIZE_COUNT (n : Nat) : Fld := ⟨A.ETH_RX_OVERSIZE n, 0, 32⟩
abbrev ETH_RX_FCS_ERR_COUNT (n : Nat) : Fld := ⟨A.ETH_RX_FCS_ERR n, 0, 32⟩
abbrev ETH_RX_FILTERED_COUNT (n : Nat) : Fld := ⟨A.ETH_RX_FILTERED n, 0, 32⟩
abbrev ETH_RX_FIFO_DROP_COUNT (n : Nat) : Fld := ⟨A.ETH_RX_FIFO_DROP n, 0, 32⟩
abbrev ETH_RX_PAUSE_COUNT (n : Nat) : Fld := ⟨A.ETH_RX_PAUSE n, 0, 32⟩
abbrev ETH_RX_MS_UNTAGGED_COUNT (n : Nat) : Fld := ⟨A.ETH_RX_MS_UNTAGGED n, 0, 32⟩
abbrev ETH_RX_MS_NO_SA_COUNT (n : Nat) : Fld := ⟨A.ETH_RX_MS_NO_SA n, 0, 32⟩
abbrev ETH_RX_MS_BAD_COUNT (n : Nat) : Fld := ⟨A.ETH_RX_MS_BAD n, 0, 32⟩
abbrev ETH_RX_MS_LATE_COUNT (n : Nat) : Fld := ⟨A.ETH_RX_MS_LATE n, 0, 32⟩
abbrev ETH_TX_OCTETS_LO_COUNT (n : Nat) : Fld := ⟨A.ETH_TX_OCTETS_LO n, 0, 32⟩
abbrev ETH_TX_OCTETS_HI_COUNT (n : Nat) : Fld := ⟨A.ETH_TX_OCTETS_HI n, 0, 32⟩
abbrev ETH_TX_FRAMES_COUNT (n : Nat) : Fld := ⟨A.ETH_TX_FRAMES n, 0, 32⟩
abbrev ETH_TX_BCAST_COUNT (n : Nat) : Fld := ⟨A.ETH_TX_BCAST n, 0, 32⟩
abbrev ETH_TX_MCAST_COUNT (n : Nat) : Fld := ⟨A.ETH_TX_MCAST n, 0, 32⟩
abbrev ETH_TX_PAUSE_COUNT (n : Nat) : Fld := ⟨A.ETH_TX_PAUSE n, 0, 32⟩
abbrev ETH_SA_W0_VALID (n : Nat) : Fld := ⟨A.ETH_SA_W0 n, 0, 1⟩
abbrev ETH_SA_W0_PORT (n : Nat) : Fld := ⟨A.ETH_SA_W0 n, 1, 2⟩
abbrev ETH_SA_W0_DIR (n : Nat) : Fld := ⟨A.ETH_SA_W0 n, 3, 1⟩
abbrev ETH_SA_W0_AN (n : Nat) : Fld := ⟨A.ETH_SA_W0 n, 4, 2⟩
abbrev ETH_SA_W0_XPN (n : Nat) : Fld := ⟨A.ETH_SA_W0 n, 6, 1⟩
abbrev ETH_SA_W1_SCI (n : Nat) : Fld := ⟨A.ETH_SA_W1 n, 0, 32⟩
abbrev ETH_SA_W2_SCI (n : Nat) : Fld := ⟨A.ETH_SA_W2 n, 0, 32⟩
abbrev ETH_SA_W3_SSCI (n : Nat) : Fld := ⟨A.ETH_SA_W3 n, 0, 32⟩
abbrev DRC_CTRL_FREEZE_EN : Fld := ⟨A.DRC_CTRL, 0, 1⟩
abbrev DRC_CTRL_THAW : Fld := ⟨A.DRC_CTRL, 1, 1⟩
abbrev DRC_STATUS_RATE : Fld := ⟨A.DRC_STATUS, 0, 2⟩
abbrev DRC_STATUS_TRAINED : Fld := ⟨A.DRC_STATUS, 2, 1⟩
abbrev DRC_STATUS_FROZEN : Fld := ⟨A.DRC_STATUS, 3, 1⟩
abbrev DRC_STATUS_FREEZE_CAUSE : Fld := ⟨A.DRC_STATUS, 4, 2⟩
abbrev DRC_STATUS_HOT0 : Fld := ⟨A.DRC_STATUS, 6, 1⟩
abbrev DRC_STATUS_HOT1 : Fld := ⟨A.DRC_STATUS, 7, 1⟩
abbrev DRC_STATUS_TOO_HOT : Fld := ⟨A.DRC_STATUS, 8, 1⟩
abbrev DRC_STATUS_LOST0 : Fld := ⟨A.DRC_STATUS, 9, 1⟩
abbrev DRC_STATUS_LOST1 : Fld := ⟨A.DRC_STATUS, 10, 1⟩
abbrev DRC_STATUS_DEBT0 : Fld := ⟨A.DRC_STATUS, 11, 3⟩
abbrev DRC_STATUS_DEBT1 : Fld := ⟨A.DRC_STATUS, 14, 3⟩
abbrev DRC_CONFIG_WIDTH : Fld := ⟨A.DRC_CONFIG, 0, 1⟩
abbrev DRC_CONFIG_DENSITY : Fld := ⟨A.DRC_CONFIG, 1, 1⟩
abbrev DRC_CONFIG_ORDER : Fld := ⟨A.DRC_CONFIG, 2, 2⟩
abbrev DRC_CONFIG_CAPACITY_MIB : Fld := ⟨A.DRC_CONFIG, 4, 15⟩
abbrev DRC_CONFIG_TRAIN_MS : Fld := ⟨A.DRC_CONFIG, 19, 11⟩
abbrev DRC_SCRUB_CTRL_HOURS : Fld := ⟨A.DRC_SCRUB_CTRL, 0, 8⟩
abbrev DRC_CE_COUNT : Fld := ⟨A.DRC_CE, 0, 32⟩
abbrev DRC_UE_COUNT : Fld := ⟨A.DRC_UE, 0, 32⟩
abbrev DRC_MIRROR_READ_COUNT : Fld := ⟨A.DRC_MIRROR_READ, 0, 32⟩
abbrev DRC_PAR_REPLAY_COUNT : Fld := ⟨A.DRC_PAR_REPLAY, 0, 32⟩
abbrev DRC_REF_FORCED_COUNT : Fld := ⟨A.DRC_REF_FORCED, 0, 32⟩
abbrev DRC_REF_POSTPONED_COUNT : Fld := ⟨A.DRC_REF_POSTPONED, 0, 32⟩
abbrev DRC_LAST_UE_ADDR_LO_ADDR : Fld := ⟨A.DRC_LAST_UE_ADDR_LO, 0, 32⟩
abbrev DRC_LAST_UE_ADDR_HI_ADDR : Fld := ⟨A.DRC_LAST_UE_ADDR_HI, 0, 32⟩
abbrev DRC_LAST_UE_LOC_LOC : Fld := ⟨A.DRC_LAST_UE_LOC, 0, 32⟩
abbrev DRC_PORT_CTRL_TARGET (n : Nat) : Fld := ⟨A.DRC_PORT_CTRL n, 0, 12⟩
abbrev DRC_PORT_CTRL_PRIO (n : Nat) : Fld := ⟨A.DRC_PORT_CTRL n, 12, 3⟩
abbrev DRC_PORT_MISSED_COUNT (n : Nat) : Fld := ⟨A.DRC_PORT_MISSED n, 0, 32⟩
abbrev DRC_PORT_PEAK_AGE (n : Nat) : Fld := ⟨A.DRC_PORT_PEAK n, 0, 16⟩
abbrev DRC_PORT_POISON_COUNT (n : Nat) : Fld := ⟨A.DRC_PORT_POISON n, 0, 32⟩
abbrev DRC_FREEZE_LOG_WORD (n : Nat) : Fld := ⟨A.DRC_FREEZE_LOG n, 0, 32⟩
abbrev HDM_RING_BASE_LO_BASE (n : Nat) : Fld := ⟨A.HDM_RING_BASE_LO n, 0, 32⟩
abbrev HDM_RING_BASE_HI_BASE (n : Nat) : Fld := ⟨A.HDM_RING_BASE_HI n, 0, 32⟩
abbrev HDM_RING_CTRL_EN (n : Nat) : Fld := ⟨A.HDM_RING_CTRL n, 0, 1⟩
abbrev HDM_RING_CTRL_LOG2_SIZE (n : Nat) : Fld := ⟨A.HDM_RING_CTRL n, 1, 4⟩
abbrev HDM_RING_CTRL_VECTOR (n : Nat) : Fld := ⟨A.HDM_RING_CTRL n, 5, 6⟩
abbrev HDM_RING_CTRL_STOPPED (n : Nat) : Fld := ⟨A.HDM_RING_CTRL n, 11, 1⟩
abbrev HDM_RING_CTRL_ERROR (n : Nat) : Fld := ⟨A.HDM_RING_CTRL n, 12, 1⟩
abbrev HDM_RING_IDX_TAIL (n : Nat) : Fld := ⟨A.HDM_RING_IDX n, 0, 16⟩
abbrev HDM_RING_IDX_HEAD (n : Nat) : Fld := ⟨A.HDM_RING_IDX n, 16, 16⟩
abbrev HDM_EVT_BLOCKS_MASK (n : Nat) : Fld := ⟨A.HDM_EVT_BLOCKS n, 0, 32⟩
abbrev HDM_EVT_STATUS_LOST : Fld := ⟨A.HDM_EVT_STATUS, 0, 1⟩
abbrev HDM_EVT_CTRL_AGED_Q : Fld := ⟨A.HDM_EVT_CTRL, 0, 4⟩
abbrev HDM_EVT_CTRL_TRV_Q : Fld := ⟨A.HDM_EVT_CTRL, 4, 4⟩
abbrev HDM_EVT_CTRL_MGMT_Q : Fld := ⟨A.HDM_EVT_CTRL, 8, 4⟩
abbrev HDM_VEC_HOLDOFF (n : Nat) : Fld := ⟨A.HDM_VEC n, 0, 10⟩
abbrev HDM_VEC_COUNT (n : Nat) : Fld := ⟨A.HDM_VEC n, 10, 10⟩
abbrev HDM_WRITE_REJECT_COUNT : Fld := ⟨A.HDM_WRITE_REJECT, 0, 32⟩
abbrev HDM_EVT_LOST_COUNT : Fld := ⟨A.HDM_EVT_LOST, 0, 32⟩
abbrev HDM_BAR2_WRITE_COUNT : Fld := ⟨A.HDM_BAR2_WRITE, 0, 32⟩
abbrev HDM_SEC_REJECT_COUNT : Fld := ⟨A.HDM_SEC_REJECT, 0, 32⟩
abbrev HDM_BAR2_BASE_LO_BASE : Fld := ⟨A.HDM_BAR2_BASE_LO, 0, 32⟩
abbrev HDM_BAR2_BASE_HI_BASE : Fld := ⟨A.HDM_BAR2_BASE_HI, 0, 32⟩
abbrev HDM_SEC_CTRL_EN : Fld := ⟨A.HDM_SEC_CTRL, 0, 1⟩
abbrev HDM_SEC_CTRL_REQUIRE_MACSEC : Fld := ⟨A.HDM_SEC_CTRL, 1, 1⟩
abbrev HDM_SEC_CTRL_ETYPE : Fld := ⟨A.HDM_SEC_CTRL, 16, 16⟩
abbrev HDM_SEC_LAST_SEQ_SEQ : Fld := ⟨A.HDM_SEC_LAST_SEQ, 0, 32⟩
abbrev MSIX_TABLE_WORD (n : Nat) : Fld := ⟨A.MSIX_TABLE n, 0, 32⟩
abbrev MSIX_PBA_WORD (n : Nat) : Fld := ⟨A.MSIX_PBA n, 0, 32⟩
abbrev STA_W0_VALID (n : Nat) : Fld := ⟨A.STA_W0 n, 0, 1⟩
abbrev STA_W0_LINKS (n : Nat) : Fld := ⟨A.STA_W0 n, 1, 3⟩
abbrev STA_W0_BSS (n : Nat) : Fld := ⟨A.STA_W0 n, 4, 4⟩
abbrev STA_W0_AID (n : Nat) : Fld := ⟨A.STA_W0 n, 8, 11⟩
abbrev STA_W0_MLD (n : Nat) : Fld := ⟨A.STA_W0 n, 19, 1⟩
abbrev STA_W0_EMLSR (n : Nat) : Fld := ⟨A.STA_W0 n, 20, 1⟩
abbrev STA_W0_PS (n : Nat) : Fld := ⟨A.STA_W0 n, 21, 1⟩
abbrev STA_W0_SPID (n : Nat) : Fld := ⟨A.STA_W0 n, 22, 8⟩
abbrev STA_W1_MAC_LO (n : Nat) : Fld := ⟨A.STA_W1 n, 0, 32⟩
abbrev STA_W2_MAC_HI (n : Nat) : Fld := ⟨A.STA_W2 n, 0, 16⟩
abbrev STA_W2_KEY (n : Nat) : Fld := ⟨A.STA_W2 n, 16, 13⟩
abbrev STA_W2_KEY_VALID (n : Nat) : Fld := ⟨A.STA_W2 n, 29, 1⟩
abbrev STA_W3_FORMAT (n : Nat) : Fld := ⟨A.STA_W3 n, 0, 3⟩
abbrev STA_W3_NSS_MAX (n : Nat) : Fld := ⟨A.STA_W3 n, 3, 3⟩
abbrev STA_W3_WIDTH_MAX (n : Nat) : Fld := ⟨A.STA_W3 n, 6, 3⟩
abbrev STA_W3_MCS_MAX (n : Nat) : Fld := ⟨A.STA_W3 n, 9, 4⟩
abbrev STA_W3_LDPC (n : Nat) : Fld := ⟨A.STA_W3 n, 13, 1⟩
abbrev STA_W3_MU_MIMO (n : Nat) : Fld := ⟨A.STA_W3 n, 14, 1⟩
abbrev STA_W3_UL_OFDMA (n : Nat) : Fld := ⟨A.STA_W3 n, 15, 1⟩
abbrev STA_W3_EMLSR_PAD (n : Nat) : Fld := ⟨A.STA_W3 n, 16, 3⟩
abbrev STA_W3_EMLSR_TRANS (n : Nat) : Fld := ⟨A.STA_W3 n, 19, 3⟩
abbrev STA_RATE_RATE (n k : Nat) : Fld := ⟨A.STA_RATE n k, 0, 16⟩
abbrev STA_RATE_MCS (n k : Nat) : Fld := ⟨A.STA_RATE n k, 16, 4⟩
abbrev STA_RATE_NSS (n k : Nat) : Fld := ⟨A.STA_RATE n k, 20, 3⟩
abbrev STA_RATE_WIDTH (n k : Nat) : Fld := ⟨A.STA_RATE n k, 23, 3⟩
abbrev STA_W7_TTLM (n : Nat) : Fld := ⟨A.STA_W7 n, 0, 24⟩
abbrev STA_W7_UL_BUF (n : Nat) : Fld := ⟨A.STA_W7 n, 24, 8⟩
abbrev NBR_W0_VALID (n : Nat) : Fld := ⟨A.NBR_W0 n, 0, 1⟩
abbrev NBR_W0_PORT (n : Nat) : Fld := ⟨A.NBR_W0 n, 1, 1⟩
abbrev NBR_W0_SINR (n : Nat) : Fld := ⟨A.NBR_W0 n, 2, 8⟩
abbrev NBR_SESSION_WORD (n : Nat) : Fld := ⟨A.NBR_SESSION n, 0, 32⟩
abbrev NBR_HIGH_WORD (n : Nat) : Fld := ⟨A.NBR_HIGH n, 0, 32⟩
abbrev NBR_WINDOW_LO_WORD (n : Nat) : Fld := ⟨A.NBR_WINDOW_LO n, 0, 32⟩
abbrev NBR_WINDOW_HI_WORD (n : Nat) : Fld := ⟨A.NBR_WINDOW_HI n, 0, 32⟩
abbrev NBR_STAMP_S_WORD (n : Nat) : Fld := ⟨A.NBR_STAMP_S n, 0, 32⟩
abbrev NBR_STAMP_NS_WORD (n : Nat) : Fld := ⟨A.NBR_STAMP_NS n, 0, 32⟩
abbrev NBR_W7_DEPTH (n : Nat) : Fld := ⟨A.NBR_W7 n, 0, 8⟩
abbrev NBR_W7_AGE_MS (n : Nat) : Fld := ⟨A.NBR_W7 n, 16, 16⟩
abbrev NH_W0_KIND (n : Nat) : Fld := ⟨A.NH_W0 n, 0, 3⟩
abbrev NH_W0_PORT (n : Nat) : Fld := ⟨A.NH_W0 n, 3, 2⟩
abbrev NH_W0_STATION (n : Nat) : Fld := ⟨A.NH_W0 n, 5, 12⟩
abbrev NH_W0_HOST_Q (n : Nat) : Fld := ⟨A.NH_W0 n, 17, 4⟩
abbrev NH_W0_DEC_TTL (n : Nat) : Fld := ⟨A.NH_W0 n, 21, 1⟩
abbrev NH_W1_DMAC_LO (n : Nat) : Fld := ⟨A.NH_W1 n, 0, 32⟩
abbrev NH_W2_DMAC_HI (n : Nat) : Fld := ⟨A.NH_W2 n, 0, 16⟩
abbrev NH_W2_VID (n : Nat) : Fld := ⟨A.NH_W2 n, 16, 12⟩
abbrev NH_W2_PCP (n : Nat) : Fld := ⟨A.NH_W2 n, 28, 3⟩
abbrev NH_W2_TAGGED (n : Nat) : Fld := ⟨A.NH_W2 n, 31, 1⟩
abbrev NH_W3_MTU (n : Nat) : Fld := ⟨A.NH_W3 n, 0, 14⟩
abbrev RULE_KEY_WORD (n k : Nat) : Fld := ⟨A.RULE_KEY n k, 0, 32⟩
abbrev RULE_W12_RC0 (n : Nat) : Fld := ⟨A.RULE_W12 n, 0, 8⟩
abbrev RULE_W12_RC1 (n : Nat) : Fld := ⟨A.RULE_W12 n, 8, 8⟩
abbrev RULE_W12_RC2 (n : Nat) : Fld := ⟨A.RULE_W12 n, 16, 8⟩
abbrev RULE_W12_USE (n : Nat) : Fld := ⟨A.RULE_W12 n, 24, 3⟩
abbrev RULE_W12_SENSE (n : Nat) : Fld := ⟨A.RULE_W12 n, 27, 3⟩
abbrev RULE_W13_VERDICT (n : Nat) : Fld := ⟨A.RULE_W13 n, 0, 4⟩
abbrev RULE_W13_MIRROR (n : Nat) : Fld := ⟨A.RULE_W13 n, 4, 1⟩
abbrev RULE_W13_POLICE (n : Nat) : Fld := ⟨A.RULE_W13 n, 5, 1⟩
abbrev RULE_W13_SET_CLASS (n : Nat) : Fld := ⟨A.RULE_W13 n, 6, 1⟩
abbrev RULE_W13_NO_FLOW (n : Nat) : Fld := ⟨A.RULE_W13 n, 7, 1⟩
abbrev RULE_W13_NAT (n : Nat) : Fld := ⟨A.RULE_W13 n, 8, 1⟩
abbrev RULE_W13_SET_DSCP (n : Nat) : Fld := ⟨A.RULE_W13 n, 9, 1⟩
abbrev RULE_W13_DSCP (n : Nat) : Fld := ⟨A.RULE_W13 n, 10, 6⟩
abbrev RULE_W13_CLASS (n : Nat) : Fld := ⟨A.RULE_W13 n, 16, 3⟩
abbrev RULE_W14_POLICER (n : Nat) : Fld := ⟨A.RULE_W14 n, 0, 16⟩
abbrev RULE_W14_NEXTHOP (n : Nat) : Fld := ⟨A.RULE_W14 n, 16, 16⟩
abbrev RULE_W15_VALID (n : Nat) : Fld := ⟨A.RULE_W15 n, 0, 1⟩
abbrev RULE_W15_PROFILE (n : Nat) : Fld := ⟨A.RULE_W15 n, 1, 2⟩
abbrev RULE_W15_PRIORITY (n : Nat) : Fld := ⟨A.RULE_W15 n, 3, 12⟩
abbrev RULE_W15_NAT_POOL (n : Nat) : Fld := ⟨A.RULE_W15 n, 16, 8⟩
abbrev RULE_HITS_COUNT (n : Nat) : Fld := ⟨A.RULE_HITS n, 0, 32⟩
abbrev HASH_KEY_WORD (n k : Nat) : Fld := ⟨A.HASH_KEY n k, 0, 32⟩
abbrev HASH_FIELDS_FIELDS (n : Nat) : Fld := ⟨A.HASH_FIELDS n, 0, 16⟩
abbrev HASH_IND_ROLE0 (n k : Nat) : Fld := ⟨A.HASH_IND n k, 0, 2⟩
abbrev HASH_IND_HOSTQ0 (n k : Nat) : Fld := ⟨A.HASH_IND n k, 2, 4⟩
abbrev HASH_IND_ROLE1 (n k : Nat) : Fld := ⟨A.HASH_IND n k, 16, 2⟩
abbrev HASH_IND_HOSTQ1 (n k : Nat) : Fld := ⟨A.HASH_IND n k, 18, 4⟩
abbrev QREC_W0_WEIGHT (n : Nat) : Fld := ⟨A.QREC_W0 n, 0, 13⟩
abbrev QREC_W0_STRICT (n : Nat) : Fld := ⟨A.QREC_W0 n, 13, 1⟩
abbrev QREC_W0_SHAPER (n : Nat) : Fld := ⟨A.QREC_W0 n, 14, 13⟩
abbrev QREC_W0_SPILL (n : Nat) : Fld := ⟨A.QREC_W0 n, 27, 1⟩
abbrev QREC_W1_LIMIT (n : Nat) : Fld := ⟨A.QREC_W1 n, 0, 24⟩
abbrev QREC_W2_BYTES (n : Nat) : Fld := ⟨A.QREC_W2 n, 0, 32⟩
abbrev QREC_W3_DROPS (n : Nat) : Fld := ⟨A.QREC_W3 n, 0, 32⟩
abbrev POL_W0_RATE (n : Nat) : Fld := ⟨A.POL_W0 n, 0, 32⟩
abbrev POL_W1_BURST (n : Nat) : Fld := ⟨A.POL_W1 n, 0, 24⟩
abbrev POL_W1_VALID (n : Nat) : Fld := ⟨A.POL_W1 n, 24, 1⟩
abbrev POL_W2_DROPS (n : Nat) : Fld := ⟨A.POL_W2 n, 0, 32⟩
abbrev POL_W3_PASSED (n : Nat) : Fld := ⟨A.POL_W3 n, 0, 32⟩

end F

end Sys2Proof.Machine
end

