-- ==== Sys2Proof/Machine/RegMap.lean ====
section
/-! DEFINITION. The register map as data: for every register its place, its repetition, its fields with access type, reset value and
legal range, and the counter that a write discarded for an illegal field value adds to. The rows follow the chapters' register tables
rule by rule; the rule of each row stands in Machine/RegAddr.lean beside its offset. -/

namespace Sys2Proof.Machine

/-- The access types of R7. -/
inductive Acc where
  | rw | ro | w1c | wo | rc | pl
deriving DecidableEq, Repr

/-- One field of a register: place, access type (R7), reset value, and the least and greatest value its rule allows. -/
structure FieldSpec where
  lo : Nat
  w : Nat
  acc : Acc
  reset : Nat
  min : Nat
  max : Nat
deriving DecidableEq, Repr

/-- One register, or a family of them repeated in up to three nested dimensions (count and stride each, outermost first). `reject` is
the offset of the counter that an illegal field value is counted in; 0 where the chapter names none. -/
structure RegSpec where
  base : Nat
  n1 : Nat
  s1 : Nat
  n2 : Nat
  s2 : Nat
  n3 : Nat
  s3 : Nat
  fields : List FieldSpec
  reject : Nat
deriving DecidableEq, Repr

/-- A field whose every value is legal. -/
def FieldSpec.full (lo w : Nat) (acc : Acc) (reset : Nat) : FieldSpec := ⟨lo, w, acc, reset, 0, 2 ^ w - 1⟩

def glbRegs0 : List RegSpec := [
  ⟨0x0, 1, 0, 1, 0, 1, 0, [.full 0 16 .ro 0x9640, .full 16 4 .ro 0], 0⟩,
  ⟨0x40, 1, 0, 1, 0, 1, 0, [.full 0 24 .ro 0], 0⟩,
  ⟨0x44, 1, 0, 1, 0, 1, 0, [.full 0 32 .rc 0], 0⟩,
  ⟨0x48, 1, 0, 1, 0, 1, 0, [.full 0 32 .rc 0], 0⟩,
  ⟨0x100, 1, 0, 1, 0, 1, 0, [.full 0 1 .ro 0, .full 1 1 .w1c 0, .full 2 1 .ro 0, .full 3 1 .ro 0, .full 4 1 .ro 0, .full 5 1 .ro 0, .full 6 1 .ro 0, .full 7 1 .ro 0, .full 8 1 .ro 0, .full 9 1 .ro 0, .full 10 1 .ro 0, .full 11 1 .ro 0, .full 12 1 .ro 0], 0⟩,
  ⟨0x104, 1, 0, 1, 0, 1, 0, [.full 0 32 .ro 0xFFFFFFFF], 0⟩,
  ⟨0x108, 1, 0, 1, 0, 1, 0, [.full 0 4 .ro 0, .full 4 2 .ro 0, .full 6 1 .ro 0, .full 7 1 .ro 0, .full 8 4 .ro 0, .full 12 16 .ro 0], 0⟩,
  ⟨0x10C, 1, 0, 1, 0, 1, 0, [.full 0 32 .ro 0], 0⟩,
  ⟨0x110, 1, 0, 1, 0, 1, 0, [.full 0 32 .ro 0], 0⟩,
  ⟨0x114, 1, 0, 1, 0, 1, 0, [.full 0 32 .ro 0xFFFFFFFF], 0⟩,
  ⟨0x118, 1, 0, 1, 0, 1, 0, [.full 0 4 .ro 0, .full 4 2 .ro 0, .full 6 1 .ro 0, .full 7 1 .ro 0, .full 8 4 .ro 0, .full 12 16 .ro 0], 0⟩,
  ⟨0x11C, 1, 0, 1, 0, 1, 0, [.full 0 32 .ro 0], 0⟩,
  ⟨0x120, 1, 0, 1, 0, 1, 0, [.full 0 32 .ro 0], 0⟩,
  ⟨0x124, 1, 0, 1, 0, 1, 0, [.full 0 32 .rc 0], 0⟩,
  ⟨0x128, 1, 0, 1, 0, 1, 0, [.full 0 3 .ro 4, .full 3 6 .ro 0x2C], 0⟩,
  ⟨0x140, 16, 0x4, 1, 0, 1, 0, [.full 0 32 .rc 0], 0⟩]

def glbRegs : List RegSpec := glbRegs0

def pwrRegs0 : List RegSpec := [
  ⟨0x10000, 1, 0, 1, 0, 1, 0, [.full 0 3 .wo 0, .full 3 1 .wo 0, .full 16 16 .wo 0], A.PWR_CMD_REJECT⟩,
  ⟨0x10004, 1, 0, 1, 0, 1, 0, [.full 0 3 .ro 0, .full 3 2 .ro 0, .full 5 3 .ro 0, .full 8 4 .ro 0, .full 12 4 .ro 0, .full 16 1 .ro 0], 0⟩,
  ⟨0x10008, 1, 0, 1, 0, 1, 0, [.full 0 1 .rw 1, .full 1 1 .rw 1, .full 2 1 .rw 1, .full 3 1 .rw 1, .full 4 1 .rw 1, .full 5 1 .rw 0, .full 6 1 .rw 0, .full 7 1 .ro 1], A.PWR_CMD_REJECT⟩,
  ⟨0x1000C, 1, 0, 1, 0, 1, 0, [.full 0 4 .rw 0, ⟨4, 2, .rw, 1, 1, 3⟩], A.PWR_CMD_REJECT⟩,
  ⟨0x10010, 1, 0, 1, 0, 1, 0, [.full 0 4 .ro 0, .full 4 3 .ro 0, .full 7 15 .ro 0], 0⟩,
  ⟨0x10014, 1, 0, 1, 0, 1, 0, [.full 0 32 .ro 0], 0⟩,
  ⟨0x10018, 1, 0, 1, 0, 1, 0, [.full 0 1 .w1c 0, .full 1 1 .w1c 0, .full 2 1 .w1c 0, .full 3 1 .w1c 0, .full 4 1 .w1c 0], 0⟩,
  ⟨0x1001C, 1, 0, 1, 0, 1, 0, [.full 0 3 .rw 0, .full 3 4 .rw 0, .full 7 1 .rw 1], 0⟩,
  ⟨0x10020, 1, 0, 1, 0, 1, 0, [.full 0 8 .ro 0x80, .full 8 8 .ro 0, .full 16 8 .ro 0], 0⟩,
  ⟨0x10024, 1, 0, 1, 0, 1, 0, [.full 0 1 .wo 0], 0⟩,
  ⟨0x10028, 1, 0, 1, 0, 1, 0, [.full 0 1 .ro 0, .full 1 1 .ro 0, .full 2 1 .ro 0, .full 3 1 .ro 0, .full 4 1 .ro 0, .full 5 1 .ro 0], 0⟩,
  ⟨0x1002C, 1, 0, 1, 0, 1, 0, [.full 0 6 .ro 0], 0⟩,
  ⟨0x10030, 1, 0, 1, 0, 1, 0, [.full 0 32 .ro 0xFFFFFFFF], 0⟩,
  ⟨0x10040, 1, 0, 1, 0, 1, 0, [.full 0 32 .rc 0], 0⟩,
  ⟨0x10044, 1, 0, 1, 0, 1, 0, [.full 0 32 .rc 0], 0⟩,
  ⟨0x10048, 1, 0, 1, 0, 1, 0, [.full 0 32 .rc 0], 0⟩,
  ⟨0x1004C, 1, 0, 1, 0, 1, 0, [.full 0 32 .rc 0], 0⟩,
  ⟨0x10080, 1, 0, 1, 0, 1, 0, [.full 0 12 .ro 0, .full 12 12 .ro 0, .full 24 8 .ro 0], 0⟩,
  ⟨0x10084, 1, 0, 1, 0, 1, 0, [.full 0 10 .ro 0, .full 16 10 .ro 0], 0⟩,
  ⟨0x10088, 1, 0, 1, 0, 1, 0, [.full 0 1 .rw 0], 0⟩,
  ⟨0x1008C, 1, 0, 1, 0, 1, 0, [.full 0 10 .rc 0x200, .full 10 1 .rc 0], 0⟩]

def pwrRegs : List RegSpec := pwrRegs0

def tbRegs0 : List RegSpec := [
  ⟨0x20000, 8, 0x40, 1, 0, 1, 0, [.full 0 30 .ro 0], 0⟩,
  ⟨0x20004, 8, 0x40, 1, 0, 1, 0, [.full 0 32 .ro 0], 0⟩,
  ⟨0x20008, 8, 0x40, 1, 0, 1, 0, [.full 0 16 .ro 0, .full 16 16 .ro 0], 0⟩,
  ⟨0x2000C, 8, 0x40, 1, 0, 1, 0, [⟨0, 30, .rw, 0, 0, 999999999⟩], A.TB_WRITE_REJECT⟩,
  ⟨0x20010, 8, 0x40, 1, 0, 1, 0, [.full 0 32 .rw 0], A.TB_WRITE_REJECT⟩,
  ⟨0x20014, 8, 0x40, 1, 0, 1, 0, [.full 0 16 .rw 0, .full 16 16 .rw 0], A.TB_WRITE_REJECT⟩,
  ⟨0x20018, 8, 0x40, 1, 0, 1, 0, [.full 0 1 .wo 0, .full 1 1 .rw 0, ⟨2, 10, .rw, 100, 1, 1000⟩], A.TB_WRITE_REJECT⟩,
  ⟨0x2001C, 8, 0x40, 1, 0, 1, 0, [.full 0 32 .rw 0], A.TB_WRITE_REJECT⟩,
  ⟨0x20020, 8, 0x40, 1, 0, 1, 0, [.full 0 8 .rw 0], A.TB_WRITE_REJECT⟩,
  ⟨0x20024, 8, 0x40, 1, 0, 1, 0, [.full 0 32 .wo 0], 0⟩,
  ⟨0x20028, 8, 0x40, 1, 0, 1, 0, [.full 0 32 .wo 0], 0⟩,
  ⟨0x2002C, 8, 0x40, 1, 0, 1, 0, [.full 0 32 .wo 0], A.TB_WRITE_REJECT⟩,
  ⟨0x20030, 8, 0x40, 1, 0, 1, 0, [.full 0 3 .pl 0, .full 3 1 .ro 0], 0⟩,
  ⟨0x20034, 8, 0x40, 1, 0, 1, 0, [.full 0 32 .ro 0], 0⟩,
  ⟨0x20200, 1, 0, 1, 0, 1, 0, [.full 0 32 .rc 0], 0⟩,
  ⟨0x20204, 1, 0, 1, 0, 1, 0, [.full 0 32 .ro 0x77359400], 0⟩,
  ⟨0x20208, 1, 0, 1, 0, 1, 0, [.full 0 3 .rw 1, .full 3 3 .rw 1, .full 6 3 .rw 1, .full 9 3 .rw 1, .full 12 3 .rw 2, .full 15 3 .rw 3, .full 18 3 .rw 4], A.TB_WRITE_REJECT⟩,
  ⟨0x20210, 3, 0x4, 1, 0, 1, 0, [.full 0 32 .rw 0], A.TB_WRITE_REJECT⟩,
  ⟨0x20220, 1, 0, 1, 0, 1, 0, [.full 0 1 .rw 0, .full 1 3 .rw 0, ⟨4, 10, .rw, 100, 1, 1000⟩], A.TB_WRITE_REJECT⟩,
  ⟨0x20224, 1, 0, 1, 0, 1, 0, [.full 0 32 .rw 0], A.TB_WRITE_REJECT⟩,
  ⟨0x20240, 1, 0, 1, 0, 1, 0, [.full 0 1 .rw 0, .full 1 4 .rw 0xC, .full 5 4 .rw 2, .full 9 16 .rw 0xC8], A.TB_WRITE_REJECT⟩,
  ⟨0x20244, 1, 0, 1, 0, 1, 0, [.full 0 2 .ro 0, .full 2 1 .ro 0, .full 3 3 .ro 0], 0⟩,
  ⟨0x20248, 1, 0, 1, 0, 1, 0, [.full 0 32 .ro 0], 0⟩,
  ⟨0x2024C, 1, 0, 1, 0, 1, 0, [.full 0 32 .ro 0], 0⟩,
  ⟨0x20250, 1, 0, 1, 0, 1, 0, [.full 0 32 .ro 0], 0⟩,
  ⟨0x20254, 1, 0, 1, 0, 1, 0, [.full 0 32 .ro 0], 0⟩,
  ⟨0x20258, 1, 0, 1, 0, 1, 0, [.full 0 32 .rw 0], 0⟩,
  ⟨0x2025C, 1, 0, 1, 0, 1, 0, [.full 0 32 .rw 0], 0⟩,
  ⟨0x20260, 1, 0, 1, 0, 1, 0, [.full 0 32 .rc 0], 0⟩,
  ⟨0x20264, 1, 0, 1, 0, 1, 0, [.full 0 32 .rc 0], 0⟩,
  ⟨0x20400, 16, 0x20, 1, 0, 1, 0, [.full 0 5 .rw 0, .full 5 2 .rw 0, .full 7 3 .rw 0, .full 10 1 .wo 0], A.TB_WRITE_REJECT⟩,
  ⟨0x20404, 16, 0x20, 1, 0, 1, 0, [.full 0 1 .ro 0, .full 1 1 .ro 0, .full 2 1 .ro 0], 0⟩,
  ⟨0x20408, 16, 0x20, 1, 0, 1, 0, [.full 0 30 .ro 0], 0⟩,
  ⟨0x2040C, 16, 0x20, 1, 0, 1, 0, [.full 0 32 .ro 0], 0⟩,
  ⟨0x20410, 16, 0x20, 1, 0, 1, 0, [.full 0 16 .ro 0, .full 16 16 .ro 0], 0⟩,
  ⟨0x20414, 16, 0x20, 1, 0, 1, 0, [.full 0 3 .ro 0, .full 3 1 .w1c 0], 0⟩,
  ⟨0x20418, 16, 0x20, 1, 0, 1, 0, [.full 0 32 .rc 0], 0⟩,
  ⟨0x20800, 16, 0x20, 1, 0, 1, 0, [.full 0 3 .rw 0, .full 3 1 .rw 0, ⟨4, 2, .rw, 0, 0, 2⟩, ⟨6, 4, .rw, 0, 0, 8⟩], A.TB_WRITE_REJECT⟩,
  ⟨0x20804, 16, 0x20, 1, 0, 1, 0, [⟨0, 30, .rw, 0, 0, 999999999⟩], A.TB_WRITE_REJECT⟩,
  ⟨0x20808, 16, 0x20, 1, 0, 1, 0, [.full 0 32 .rw 0], A.TB_WRITE_REJECT⟩]

def tbRegs1 : List RegSpec := [
  ⟨0x2080C, 16, 0x20, 1, 0, 1, 0, [.full 0 16 .rw 0], A.TB_WRITE_REJECT⟩,
  ⟨0x20810, 16, 0x20, 1, 0, 1, 0, [.full 0 32 .rw 0], A.TB_WRITE_REJECT⟩,
  ⟨0x20814, 16, 0x20, 1, 0, 1, 0, [⟨0, 16, .rw, 1, 1, 65535⟩], A.TB_WRITE_REJECT⟩,
  ⟨0x20818, 16, 0x20, 1, 0, 1, 0, [.full 0 1 .w1c 0, .full 1 1 .w1c 0, .full 2 1 .w1c 0, .full 8 8 .ro 0], 0⟩,
  ⟨0x21000, 7, 0x20, 1, 0, 1, 0, [.full 0 32 .ro 0], 0⟩,
  ⟨0x21004, 7, 0x20, 1, 0, 1, 0, [.full 0 32 .ro 0], 0⟩,
  ⟨0x21008, 7, 0x20, 1, 0, 1, 0, [.full 0 32 .ro 0], 0⟩,
  ⟨0x2100C, 7, 0x20, 1, 0, 1, 0, [.full 0 32 .ro 0], 0⟩,
  ⟨0x21010, 7, 0x20, 1, 0, 1, 0, [.full 0 6 .ro 0, .full 6 1 .w1c 0], 0⟩,
  ⟨0x21014, 7, 0x20, 1, 0, 1, 0, [.full 0 32 .rc 0], 0⟩,
  ⟨0x22000, 1, 0, 1, 0, 1, 0, [.full 0 15 .ro 0], 0⟩,
  ⟨0x22004, 1, 0, 1, 0, 1, 0, [.full 0 32 .ro 0], 0⟩,
  ⟨0x22008, 1, 0, 1, 0, 1, 0, [.full 0 16 .ro 0], 0⟩,
  ⟨0x2200C, 1, 0, 1, 0, 1, 0, [.full 0 15 .rw 0], A.TB_WRITE_REJECT⟩,
  ⟨0x22010, 1, 0, 1, 0, 1, 0, [.full 0 32 .rw 0], A.TB_WRITE_REJECT⟩,
  ⟨0x22014, 1, 0, 1, 0, 1, 0, [.full 0 16 .rw 0], A.TB_WRITE_REJECT⟩,
  ⟨0x22018, 1, 0, 1, 0, 1, 0, [.full 0 1 .wo 0, .full 1 1 .rw 0, ⟨2, 2, .rw, 0, 0, 2⟩], A.TB_WRITE_REJECT⟩,
  ⟨0x2201C, 1, 0, 1, 0, 1, 0, [.full 0 1 .ro 0, .full 1 1 .ro 0, .full 2 1 .w1c 0, .full 3 1 .ro 0, .full 4 1 .ro 0], 0⟩,
  ⟨0x22020, 1, 0, 1, 0, 1, 0, [.full 0 14 .ro 0x7B2, .full 14 4 .ro 1, .full 18 5 .ro 1, .full 23 3 .ro 4], 0⟩,
  ⟨0x22024, 1, 0, 1, 0, 1, 0, [.full 0 5 .ro 0, .full 5 6 .ro 0, .full 11 6 .ro 0], 0⟩,
  ⟨0x22028, 1, 0, 1, 0, 1, 0, [.full 0 16 .rw 0], A.TB_WRITE_REJECT⟩,
  ⟨0x2202C, 1, 0, 1, 0, 1, 0, [.full 0 32 .rw 0], A.TB_WRITE_REJECT⟩,
  ⟨0x22030, 1, 0, 1, 0, 1, 0, [.full 0 16 .rw 0], A.TB_WRITE_REJECT⟩,
  ⟨0x22034, 1, 0, 1, 0, 1, 0, [.full 0 15 .rw 0], A.TB_WRITE_REJECT⟩,
  ⟨0x22038, 1, 0, 1, 0, 1, 0, [.full 0 32 .rw 0], A.TB_WRITE_REJECT⟩,
  ⟨0x2203C, 1, 0, 1, 0, 1, 0, [.full 0 16 .rw 0], A.TB_WRITE_REJECT⟩]

def tbRegs : List RegSpec := tbRegs0 ++ tbRegs1

def pltRegs0 : List RegSpec := [
  ⟨0x30000, 1, 0, 1, 0, 1, 0, [.full 0 4 .ro 0, .full 4 2 .ro 0, .full 6 1 .ro 0, .full 7 1 .ro 0, .full 8 3 .ro 0], 0⟩,
  ⟨0x30004, 1, 0, 1, 0, 1, 0, [.full 0 8 .ro 0], 0⟩,
  ⟨0x30008, 1, 0, 1, 0, 1, 0, [.full 0 32 .ro 0], 0⟩,
  ⟨0x3000C, 1, 0, 1, 0, 1, 0, [.full 0 32 .ro 0], 0⟩,
  ⟨0x30010, 1, 0, 1, 0, 1, 0, [.full 0 16 .ro 0], 0⟩,
  ⟨0x30014, 1, 0, 1, 0, 1, 0, [.full 0 3 .ro 0], 0⟩,
  ⟨0x30018, 1, 0, 1, 0, 1, 0, [.full 0 32 .rc 0], 0⟩,
  ⟨0x30020, 8, 0x4, 1, 0, 1, 0, [.full 0 32 .ro 0], 0⟩,
  ⟨0x30040, 12, 0x4, 1, 0, 1, 0, [.full 0 32 .ro 0], 0⟩,
  ⟨0x30100, 1, 0, 1, 0, 1, 0, [.full 0 4 .wo 0], 0⟩,
  ⟨0x30104, 1, 0, 1, 0, 1, 0, [.full 0 32 .rw 0], 0⟩,
  ⟨0x30108, 1, 0, 1, 0, 1, 0, [.full 0 1 .ro 0, .full 1 1 .w1c 0, .full 2 4 .ro 0, .full 8 8 .ro 0], 0⟩,
  ⟨0x3010C, 1, 0, 1, 0, 1, 0, [.full 0 32 .ro 0], 0⟩,
  ⟨0x30110, 1, 0, 1, 0, 1, 0, [.full 0 3 .ro 0, .full 3 1 .ro 0, .full 4 1 .ro 0, .full 16 12 .ro 0], 0⟩,
  ⟨0x30114, 1, 0, 1, 0, 1, 0, [.full 0 32 .ro 0], 0⟩,
  ⟨0x30118, 1, 0, 1, 0, 1, 0, [.full 0 2 .ro 0, .full 16 12 .ro 0], 0⟩,
  ⟨0x3011C, 1, 0, 1, 0, 1, 0, [.full 0 32 .rc 0], 0⟩,
  ⟨0x31000, 128, 0x4, 1, 0, 1, 0, [.full 0 32 .pl 0], 0⟩,
  ⟨0x32000, 1024, 0x4, 1, 0, 1, 0, [.full 0 32 .wo 0], 0⟩]

def pltRegs : List RegSpec := pltRegs0

def engRegs0 : List RegSpec := [
  ⟨0x40000, 14, 0x4, 1, 0, 1, 0, [.full 0 4 .ro 0, .full 4 8 .ro 0, .full 12 1 .ro 0, .full 13 1 .ro 0, .full 14 1 .ro 0, .full 16 4 .ro 0], 0⟩,
  ⟨0x40040, 12, 0x4, 1, 0, 1, 0, [.full 0 4 .ro 0xF, .full 4 1 .ro 0, .full 5 1 .ro 0], 0⟩,
  ⟨0x40080, 1, 0, 1, 0, 1, 0, [.full 0 3 .ro 0, .full 4 8 .ro 0, .full 12 4 .ro 0, .full 16 4 .ro 0, .full 20 4 .ro 0], 0⟩,
  ⟨0x40084, 1, 0, 1, 0, 1, 0, [.full 0 1 .wo 0, .full 1 1 .wo 0, .full 2 1 .wo 0, .full 3 1 .rw 0], 0⟩,
  ⟨0x40088, 1, 0, 1, 0, 1, 0, [.full 0 4 .wo 0], 0⟩,
  ⟨0x4008C, 1, 0, 1, 0, 1, 0, [.full 0 32 .rc 0], 0⟩,
  ⟨0x40090, 1, 0, 1, 0, 1, 0, [.full 0 16 .ro 0, .full 16 8 .ro 0, .full 24 1 .ro 0], 0⟩,
  ⟨0x40094, 1, 0, 1, 0, 1, 0, [.full 0 32 .ro 0xFFFFFFFF], 0⟩,
  ⟨0x400A0, 12, 0x4, 1, 0, 1, 0, [.full 0 13 .rc 0], 0⟩,
  ⟨0x400D0, 12, 0x4, 1, 0, 1, 0, [.full 0 32 .rc 0], 0⟩,
  ⟨0x40100, 1, 0, 1, 0, 1, 0, [.full 0 1 .w1c 0, .full 1 7 .ro 0, .full 8 1 .w1c 0, .full 9 1 .w1c 0], 0⟩,
  ⟨0x40104, 1, 0, 1, 0, 1, 0, [.full 0 32 .rc 0], 0⟩,
  ⟨0x40108, 1, 0, 1, 0, 1, 0, [.full 0 32 .rc 0], 0⟩,
  ⟨0x4010C, 1, 0, 1, 0, 1, 0, [.full 0 32 .rc 0], 0⟩,
  ⟨0x40110, 1, 0, 1, 0, 1, 0, [.full 0 32 .rc 0], 0⟩,
  ⟨0x40114, 1, 0, 1, 0, 1, 0, [.full 0 32 .rc 0], 0⟩,
  ⟨0x40118, 1, 0, 1, 0, 1, 0, [.full 0 32 .rc 0], 0⟩,
  ⟨0x4011C, 1, 0, 1, 0, 1, 0, [.full 0 32 .rc 0], 0⟩,
  ⟨0x40120, 1, 0, 1, 0, 1, 0, [.full 0 32 .rc 0], 0⟩,
  ⟨0x40124, 1, 0, 1, 0, 1, 0, [.full 0 32 .ro 0xFFFFFFFF], 0⟩,
  ⟨0x40128, 1, 0, 1, 0, 1, 0, [.full 0 32 .ro 0xFFFFFFFF], 0⟩,
  ⟨0x4012C, 1, 0, 1, 0, 1, 0, [.full 0 13 .ro 0, .full 16 16 .ro 0], 0⟩,
  ⟨0x40130, 1, 0, 1, 0, 1, 0, [.full 0 10 .ro 0, .full 10 10 .ro 0], 0⟩,
  ⟨0x40134, 1, 0, 1, 0, 1, 0, [.full 0 32 .ro 0xFFFFFFFF], 0⟩,
  ⟨0x40138, 1, 0, 1, 0, 1, 0, [.full 0 32 .rc 0], 0⟩,
  ⟨0x4013C, 1, 0, 1, 0, 1, 0, [.full 0 32 .rc 0], 0⟩,
  ⟨0x40140, 1, 0, 1, 0, 1, 0, [.full 0 32 .rc 0], 0⟩]

def engRegs : List RegSpec := engRegs0

def keyRegs0 : List RegSpec := [
  ⟨0x80000, 8, 0x4, 1, 0, 1, 0, [.full 0 32 .wo 0], 0⟩,
  ⟨0x80020, 1, 0, 1, 0, 1, 0, [.full 0 32 .rw 0], 0⟩,
  ⟨0x80024, 1, 0, 1, 0, 1, 0, [.full 0 32 .rw 0], 0⟩,
  ⟨0x80028, 1, 0, 1, 0, 1, 0, [.full 0 13 .rw 0, .full 13 1 .rw 0, .full 14 2 .rw 0, .full 16 4 .rw 0], 0⟩,
  ⟨0x8002C, 1, 0, 1, 0, 1, 0, [.full 0 3 .wo 0, .full 3 2 .wo 0, .full 5 13 .wo 0, .full 18 4 .wo 0, .full 22 3 .wo 0], 0⟩,
  ⟨0x80030, 1, 0, 1, 0, 1, 0, [.full 0 1 .ro 0, .full 1 3 .ro 0], 0⟩,
  ⟨0x80034, 1, 0, 1, 0, 1, 0, [.full 0 1 .ro 0, .full 1 4 .ro 0, .full 5 3 .ro 0, .full 8 1 .ro 0, .full 9 1 .ro 0, .full 10 1 .ro 0, .full 11 1 .ro 0, .full 12 13 .ro 0, .full 25 1 .ro 0, .full 26 2 .ro 0, .full 28 4 .ro 0], 0⟩,
  ⟨0x80038, 1, 0, 1, 0, 1, 0, [.full 0 32 .ro 0], 0⟩,
  ⟨0x8003C, 1, 0, 1, 0, 1, 0, [.full 0 32 .ro 0], 0⟩,
  ⟨0x80040, 1, 0, 1, 0, 1, 0, [.full 0 1 .w1c 0, .full 1 1 .w1c 0, .full 2 1 .w1c 0, .full 3 1 .ro 0, .full 4 2 .ro 0, .full 6 13 .ro 0], 0⟩,
  ⟨0x80044, 1, 0, 1, 0, 1, 0, [.full 0 32 .ro 0], 0⟩,
  ⟨0x80050, 1, 0, 1, 0, 1, 0, [.full 0 32 .rc 0], 0⟩,
  ⟨0x80054, 1, 0, 1, 0, 1, 0, [.full 0 32 .rc 0], 0⟩,
  ⟨0x80058, 3, 0x4, 1, 0, 1, 0, [.full 0 32 .rc 0], 0⟩,
  ⟨0x80064, 3, 0x4, 1, 0, 1, 0, [.full 0 32 .rc 0], 0⟩,
  ⟨0x80100, 1, 0, 1, 0, 1, 0, [.full 0 2 .wo 0, .full 2 2 .wo 0, .full 16 16 .wo 0], 0⟩,
  ⟨0x80104, 1, 0, 1, 0, 1, 0, [.full 0 1 .ro 0, .full 1 1 .w1c 0, .full 2 1 .w1c 0], 0⟩,
  ⟨0x80120, 8, 0x4, 1, 0, 1, 0, [.full 0 32 .rw 0], 0⟩,
  ⟨0x80140, 8, 0x4, 1, 0, 1, 0, [.full 0 32 .ro 0], 0⟩,
  ⟨0x80160, 32, 0x4, 1, 0, 1, 0, [.full 0 32 .ro 0], 0⟩,
  ⟨0x801E0, 1, 0, 1, 0, 1, 0, [.full 0 8 .ro 0], 0⟩,
  ⟨0x801E4, 1, 0, 1, 0, 1, 0, [.full 0 7 .ro 0], 0⟩,
  ⟨0x80200, 1, 0, 1, 0, 1, 0, [.full 0 1 .wo 0], 0⟩,
  ⟨0x80204, 1, 0, 1, 0, 1, 0, [.full 0 1 .ro 0, .full 1 1 .w1c 0], 0⟩,
  ⟨0x80220, 8, 0x4, 1, 0, 1, 0, [.full 0 32 .rw 0], 0⟩,
  ⟨0x82000, 2048, 0x4, 1, 0, 1, 0, [.full 0 32 .ro 0], 0⟩,
  ⟨0x84000, 2048, 0x4, 1, 0, 1, 0, [.full 0 32 .ro 0], 0⟩]

def keyRegs : List RegSpec := keyRegs0

def sealRegs0 : List RegSpec := [
  ⟨0x90000, 1, 0, 1, 0, 1, 0, [.full 0 16 .wo 0, .full 16 1 .wo 0, .full 17 1 .wo 0], 0⟩,
  ⟨0x90004, 1, 0, 1, 0, 1, 0, [.full 0 16 .ro 0], 0⟩,
  ⟨0x90008, 1, 0, 1, 0, 1, 0, [.full 0 1 .wo 0, .full 1 1 .wo 0, .full 2 1 .wo 0], 0⟩,
  ⟨0x9000C, 1, 0, 1, 0, 1, 0, [.full 0 1 .ro 0, .full 1 1 .w1c 0, .full 2 2 .ro 0], 0⟩,
  ⟨0x90010, 8, 0x4, 1, 0, 1, 0, [.full 0 32 .wo 0], 0⟩,
  ⟨0x90030, 3, 0x4, 1, 0, 1, 0, [.full 0 32 .rw 0], 0⟩,
  ⟨0x90040, 1, 0, 1, 0, 1, 0, [.full 0 32 .rw 0], 0⟩,
  ⟨0x90044, 1, 0, 1, 0, 1, 0, [.full 0 32 .rw 0], 0⟩,
  ⟨0x90048, 1, 0, 1, 0, 1, 0, [.full 0 16 .rw 0], 0⟩,
  ⟨0x90050, 1, 0, 1, 0, 1, 0, [.full 0 32 .rw 0], 0⟩,
  ⟨0x90054, 1, 0, 1, 0, 1, 0, [.full 0 32 .rw 0], 0⟩,
  ⟨0x90058, 1, 0, 1, 0, 1, 0, [.full 0 32 .rw 0], 0⟩,
  ⟨0x9005C, 1, 0, 1, 0, 1, 0, [.full 0 32 .rw 0], 0⟩,
  ⟨0x90060, 1, 0, 1, 0, 1, 0, [.full 0 24 .rw 0], 0⟩,
  ⟨0x90070, 4, 0x4, 1, 0, 1, 0, [.full 0 32 .rw 0], 0⟩,
  ⟨0x90080, 1, 0, 1, 0, 1, 0, [.full 0 32 .rc 0], 0⟩,
  ⟨0x90084, 1, 0, 1, 0, 1, 0, [.full 0 32 .rc 0], 0⟩,
  ⟨0x90088, 1, 0, 1, 0, 1, 0, [.full 0 32 .rc 0], 0⟩]

def sealRegs : List RegSpec := sealRegs0

def chkRegs0 : List RegSpec := [
  ⟨0xC0000, 4, 0x40, 1, 0, 1, 0, [.full 0 2 .rw 0, .full 2 1 .rw 0, .full 3 1 .rw 0, .full 4 1 .wo 0, .full 5 1 .ro 0], 0⟩,
  ⟨0xC0004, 4, 0x40, 1, 0, 1, 0, [.full 0 32 .rw 0], 0⟩,
  ⟨0xC0008, 4, 0x40, 1, 0, 1, 0, [.full 0 32 .rw 0], 0⟩,
  ⟨0xC000C, 4, 0x40, 1, 0, 1, 0, [.full 0 32 .rw 0], 0⟩,
  ⟨0xC0010, 4, 0x40, 1, 0, 1, 0, [.full 0 32 .rw 0], 0⟩,
  ⟨0xC0014, 4, 0x40, 1, 0, 1, 0, [.full 0 32 .ro 0], 0⟩,
  ⟨0xC0018, 4, 0x40, 1, 0, 1, 0, [.full 0 8 .wo 0], 0⟩,
  ⟨0xC001C, 4, 0x40, 1, 0, 1, 0, [.full 0 16 .wo 0], 0⟩,
  ⟨0xC0020, 4, 0x40, 1, 0, 1, 0, [.full 0 32 .wo 0], 0⟩,
  ⟨0xC0100, 1, 0, 1, 0, 1, 0, [.full 0 32 .rc 0], 0⟩]

def chkRegs : List RegSpec := chkRegs0

def radRegs0 : List RegSpec := [
  ⟨0x100800, 3, 0x40000, 1, 0, 1, 0, [⟨0, 5, .rw, 10, 3, 20⟩, .full 5 1 .rw 1, .full 6 1 .rw 1], 0⟩,
  ⟨0x100804, 3, 0x40000, 1, 0, 1, 0, [.full 0 32 .rc 0], 0⟩,
  ⟨0x100808, 3, 0x40000, 1, 0, 1, 0, [.full 0 32 .rc 0], 0⟩,
  ⟨0x10080C, 3, 0x40000, 1, 0, 1, 0, [.full 0 32 .rc 0], 0⟩,
  ⟨0x100810, 3, 0x40000, 1, 0, 1, 0, [.full 0 32 .rc 0], 0⟩,
  ⟨0x100814, 3, 0x40000, 1, 0, 1, 0, [.full 0 32 .rc 0], 0⟩,
  ⟨0x100818, 3, 0x40000, 1, 0, 1, 0, [.full 0 32 .rc 0], 0⟩,
  ⟨0x10081C, 3, 0x40000, 1, 0, 1, 0, [.full 0 32 .rc 0], 0⟩,
  ⟨0x100820, 3, 0x40000, 1, 0, 1, 0, [⟨0, 10, .rw, 100, 20, 1000⟩, ⟨10, 6, .rw, 10, 1, 60⟩, ⟨16, 10, .rw, 100, 1, 1023⟩, .full 26 6 .rw 0xC], 0⟩,
  ⟨0x100824, 3, 0x40000, 1, 0, 1, 0, [.full 0 8 .rw 8, .full 8 8 .rw 0x10, .full 16 8 .rw 0x14, .full 24 8 .rw 0x18], 0⟩,
  ⟨0x100828, 3, 0x40000, 1, 0, 1, 0, [.full 0 3 .rw 0, .full 3 1 .rw 0, .full 4 1 .rw 0, .full 5 3 .rw 0, .full 8 1 .wo 0, .full 9 1 .wo 0], 0⟩,
  ⟨0x10082C, 3, 0x40000, 1, 0, 1, 0, [.full 0 32 .rc 0], 0⟩,
  ⟨0x100830, 3, 0x40000, 1, 0, 1, 0, [.full 0 32 .rc 0], 0⟩,
  ⟨0x100834, 3, 0x40000, 1, 0, 1, 0, [.full 0 32 .rc 0], 0⟩,
  ⟨0x100838, 3, 0x40000, 1, 0, 1, 0, [.full 0 32 .rc 0], 0⟩,
  ⟨0x10083C, 3, 0x40000, 1, 0, 1, 0, [.full 0 8 .wo 0, .full 8 6 .wo 0, .full 14 1 .wo 0, .full 15 1 .ro 0], 0⟩,
  ⟨0x100840, 3, 0x40000, 8, 0x10, 1, 0, [.full 0 1 .rw 0, .full 1 10 .rw 0, .full 11 6 .rw 0, .full 17 3 .rw 0, .full 20 2 .rw 0, ⟨22, 4, .rw, 0, 0, 13⟩, ⟨26, 4, .rw, 14, 1, 14⟩], 0⟩,
  ⟨0x100844, 3, 0x40000, 8, 0x10, 1, 0, [.full 0 16 .ro 0, .full 16 16 .ro 0], 0⟩,
  ⟨0x100848, 3, 0x40000, 8, 0x10, 1, 0, [.full 0 1 .ro 0, .full 1 1 .ro 0, .full 2 1 .ro 0, .full 3 1 .ro 0, .full 4 1 .ro 0, .full 16 16 .ro 0], 0⟩,
  ⟨0x100C00, 3, 0x40000, 1, 0, 1, 0, [.full 0 12 .ro 0, .full 12 4 .ro 0, .full 16 1 .ro 0, .full 17 1 .w1c 0, .full 18 1 .w1c 0, .full 19 1 .ro 0, .full 20 9 .ro 0], 0⟩,
  ⟨0x100C04, 3, 0x40000, 1, 0, 1, 0, [⟨0, 10, .rw, 512, 1, 512⟩, ⟨10, 4, .rw, 2, 0, 8⟩, .full 14 1 .rw 1, .full 15 1 .rw 1, .full 16 1 .rw 1], 0⟩,
  ⟨0x100C08, 3, 0x40000, 1, 0, 1, 0, [.full 0 1 .wo 0], 0⟩,
  ⟨0x100C0C, 3, 0x40000, 1, 0, 1, 0, [.full 0 32 .ro 0], 0⟩,
  ⟨0x100C10, 3, 0x40000, 1, 0, 1, 0, [.full 0 16 .ro 0], 0⟩,
  ⟨0x100C14, 3, 0x40000, 1, 0, 1, 0, [.full 0 16 .rw 0], 0⟩,
  ⟨0x100C20, 3, 0x40000, 4, 0x4, 1, 0, [.full 0 32 .wo 0], 0⟩,
  ⟨0x100C40, 3, 0x40000, 1, 0, 1, 0, [.full 0 32 .rc 0], 0⟩,
  ⟨0x100C44, 3, 0x40000, 1, 0, 1, 0, [.full 0 32 .rc 0], 0⟩,
  ⟨0x100C48, 3, 0x40000, 1, 0, 1, 0, [.full 0 32 .rc 0], 0⟩,
  ⟨0x100C4C, 3, 0x40000, 1, 0, 1, 0, [.full 0 32 .rc 0], 0⟩,
  ⟨0x100C50, 3, 0x40000, 1, 0, 1, 0, [.full 0 32 .rc 0], 0⟩,
  ⟨0x100C54, 3, 0x40000, 1, 0, 1, 0, [.full 0 32 .rc 0], 0⟩,
  ⟨0x100C58, 3, 0x40000, 1, 0, 1, 0, [.full 0 32 .rc 0], 0⟩,
  ⟨0x100C5C, 3, 0x40000, 1, 0, 1, 0, [.full 0 32 .rc 0], 0⟩,
  ⟨0x100C60, 3, 0x40000, 1, 0, 1, 0, [.full 0 32 .rc 0], 0⟩,
  ⟨0x100C64, 3, 0x40000, 1, 0, 1, 0, [.full 0 32 .rc 0], 0⟩,
  ⟨0x102000, 3, 0x40000, 59, 0x4, 1, 0, [.full 0 32 .ro 0], 0⟩,
  ⟨0x103000, 3, 0x40000, 1024, 0x4, 1, 0, [.full 0 32 .ro 0], 0⟩,
  ⟨0x104000, 3, 0x40000, 4096, 0x4, 1, 0, [.full 0 32 .rw 0], 0⟩,
  ⟨0x108000, 3, 0x40000, 8192, 0x4, 1, 0, [.full 0 32 .ro 0], 0⟩]

def radRegs1 : List RegSpec := [
  ⟨0x110000, 3, 0x40000, 8192, 0x4, 1, 0, [.full 0 32 .rw 0], 0⟩,
  ⟨0x118000, 3, 0x40000, 1024, 0x4, 1, 0, [.full 0 32 .ro 0], 0⟩,
  ⟨0x119000, 3, 0x40000, 16, 0x400, 1, 0, [⟨0, 11, .rw, 0, 0, 1020⟩, .full 11 10 .rw 0], 0⟩,
  ⟨0x119004, 3, 0x40000, 16, 0x400, 255, 0x4, [.full 0 32 .rw 0], 0⟩]

def radRegs : List RegSpec := radRegs0 ++ radRegs1

def chnRegs0 : List RegSpec := [
  ⟨0x1C0000, 16, 0x4, 1, 0, 1, 0, [.full 0 2 .ro 3, .full 2 3 .ro 0, .full 5 4 .ro 0, .full 9 1 .ro 0, .full 10 1 .ro 0], 0⟩,
  ⟨0x1C0040, 4, 0x4, 1, 0, 1, 0, [.full 0 3 .ro 0, .full 3 1 .ro 0, .full 4 1 .ro 0, .full 5 2 .ro 0], 0⟩,
  ⟨0x1C0050, 3, 0x4, 1, 0, 1, 0, [.full 0 3 .ro 0, .full 3 1 .ro 0, .full 4 1 .ro 0, .full 5 1 .ro 0, .full 6 4 .ro 0], 0⟩,
  ⟨0x1C0060, 1, 0, 1, 0, 1, 0, [.full 0 4 .wo 0], 0⟩,
  ⟨0x1C0064, 1, 0, 1, 0, 1, 0, [.full 0 32 .rc 0], 0⟩,
  ⟨0x1C0068, 1, 0, 1, 0, 1, 0, [.full 0 32 .ro 0xFFFFFFFF], 0⟩,
  ⟨0x1C006C, 1, 0, 1, 0, 1, 0, [.full 0 32 .rc 0], 0⟩,
  ⟨0x1C0070, 3, 0x4, 1, 0, 1, 0, [.full 0 32 .rc 0], 0⟩,
  ⟨0x1C0080, 3, 0x4, 1, 0, 1, 0, [.full 0 7 .rw 0x28, .full 8 7 .rw 0x50, .full 16 7 .rw 0xA, .full 24 7 .rw 0x1E], A.CHN_WRITE_REJECT⟩,
  ⟨0x1C0090, 3, 0x4, 1, 0, 1, 0, [.full 0 1 .rw 1, .full 1 1 .rw 1, .full 2 1 .rw 0], 0⟩,
  ⟨0x1C00A0, 3, 0x4, 1, 0, 1, 0, [.full 0 1 .ro 0], 0⟩,
  ⟨0x1C00B0, 3, 0x4, 1, 0, 1, 0, [.full 0 32 .rc 0], 0⟩,
  ⟨0x1C00C0, 3, 0x4, 1, 0, 1, 0, [.full 0 32 .rc 0], 0⟩,
  ⟨0x1C00D0, 1, 0, 1, 0, 1, 0, [.full 0 1 .ro 0, .full 1 8 .ro 0, .full 9 3 .ro 0, .full 12 3 .ro 0], 0⟩,
  ⟨0x1C00D4, 1, 0, 1, 0, 1, 0, [.full 0 3 .rw 0], 0⟩,
  ⟨0x1C00D8, 3, 0x4, 1, 0, 1, 0, [.full 0 32 .rc 0], 0⟩,
  ⟨0x1C00F0, 1, 0, 1, 0, 1, 0, [.full 0 3 .rw 1, .full 3 1 .rw 0, .full 4 1 .rw 1, .full 5 3 .rw 1, .full 8 1 .rw 0, .full 9 1 .rw 1, .full 10 1 .rw 0, .full 11 5 .rw 0, .full 16 8 .rw 0xA, .full 24 8 .rw 0x40], 0⟩,
  ⟨0x1C00F4, 1, 0, 1, 0, 1, 0, [.full 0 5 .ro 0], 0⟩,
  ⟨0x1C00F8, 1, 0, 1, 0, 1, 0, [.full 0 32 .rc 0], 0⟩,
  ⟨0x1C00FC, 1, 0, 1, 0, 1, 0, [.full 0 32 .rc 0], 0⟩,
  ⟨0x1C0100, 16, 0x4, 1, 0, 1, 0, [.full 0 8 .rw 0xFF, .full 8 8 .rw 0xFF, .full 16 8 .rw 0xFF], 0⟩,
  ⟨0x1C0200, 1, 0, 1, 0, 1, 0, [.full 0 3 .wo 0, .full 3 1 .wo 0, .full 4 1 .wo 0, .full 16 16 .wo 0], 0⟩,
  ⟨0x1C0204, 1, 0, 1, 0, 1, 0, [.full 0 1 .ro 0, .full 1 1 .w1c 0, .full 2 1 .w1c 0], 0⟩,
  ⟨0x1C0280, 32, 0x4, 1, 0, 1, 0, [.full 0 32 .rw 0], 0⟩,
  ⟨0x1C0400, 256, 0x4, 1, 0, 1, 0, [.full 0 32 .ro 0], 0⟩,
  ⟨0x1C0800, 64, 0x10, 1, 0, 1, 0, [.full 0 10 .rw 0, .full 10 2 .rw 0, .full 12 1 .rw 0, .full 13 1 .rw 0, .full 14 1 .rw 0, .full 15 1 .ro 0], 0⟩,
  ⟨0x1C0804, 64, 0x10, 1, 0, 1, 0, [.full 0 32 .ro 0], 0⟩,
  ⟨0x1C0808, 64, 0x10, 1, 0, 1, 0, [.full 0 16 .ro 0, .full 16 16 .ro 0xFFFF], 0⟩,
  ⟨0x1C080C, 64, 0x10, 1, 0, 1, 0, [.full 0 16 .ro 0, .full 16 16 .ro 0], 0⟩]

def chnRegs : List RegSpec := chnRegs0

def trvRegs0 : List RegSpec := [
  ⟨0x1E0000, 1, 0, 1, 0, 1, 0, [.full 0 1 .wo 0, .full 1 1 .wo 0, .full 2 1 .rw 0, .full 3 1 .rw 1, .full 4 1 .rw 0, .full 5 4 .rw 0, .full 9 4 .rw 3, .full 13 8 .rw 0x50, ⟨21, 7, .rw, 100, 1, 127⟩, ⟨28, 4, .rw, 15, 1, 15⟩], A.TRV_WRITE_REJECT⟩,
  ⟨0x1E0004, 1, 0, 1, 0, 1, 0, [.full 0 2 .ro 0, .full 2 1 .ro 0, .full 3 6 .ro 0, .full 9 6 .ro 0x28, .full 15 6 .ro 0, .full 21 6 .ro 0, .full 27 1 .w1c 0, .full 28 1 .ro 0], 0⟩,
  ⟨0x1E0008, 1, 0, 1, 0, 1, 0, [.full 0 32 .rw 0], A.TRV_WRITE_REJECT⟩,
  ⟨0x1E000C, 1, 0, 1, 0, 1, 0, [.full 0 10 .rw 0], A.TRV_WRITE_REJECT⟩,
  ⟨0x1E0010, 1, 0, 1, 0, 1, 0, [.full 0 32 .ro 0xFFFFFFFF], 0⟩,
  ⟨0x1E0014, 1, 0, 1, 0, 1, 0, [.full 0 8 .ro 0xFF, .full 16 16 .ro 0], 0⟩,
  ⟨0x1E0018, 1, 0, 1, 0, 1, 0, [.full 0 32 .rw 0xFFFFFFFF], A.TRV_WRITE_REJECT⟩,
  ⟨0x1E001C, 1, 0, 1, 0, 1, 0, [.full 0 8 .rw 0xFF], A.TRV_WRITE_REJECT⟩,
  ⟨0x1E0020, 1, 0, 1, 0, 1, 0, [.full 0 32 .rw 0], A.TRV_WRITE_REJECT⟩,
  ⟨0x1E0024, 1, 0, 1, 0, 1, 0, [.full 0 32 .ro 0], 0⟩,
  ⟨0x1E0028, 1, 0, 1, 0, 1, 0, [.full 0 8 .ro 0], 0⟩,
  ⟨0x1E002C, 1, 0, 1, 0, 1, 0, [.full 0 10 .rw 0x98], A.TRV_WRITE_REJECT⟩,
  ⟨0x1E0030, 1, 0, 1, 0, 1, 0, [.full 0 2 .ro 0], 0⟩,
  ⟨0x1E0034, 1, 0, 1, 0, 1, 0, [.full 0 32 .ro 0], 0⟩,
  ⟨0x1E0038, 1, 0, 1, 0, 1, 0, [.full 0 32 .ro 0], 0⟩,
  ⟨0x1E0040, 2, 0x10, 4, 0x4, 1, 0, [.full 0 32 .wo 0], 0⟩,
  ⟨0x1E0080, 1, 0, 1, 0, 1, 0, [.full 0 32 .rc 0], 0⟩,
  ⟨0x1E0084, 1, 0, 1, 0, 1, 0, [.full 0 32 .rc 0], 0⟩,
  ⟨0x1E0088, 1, 0, 1, 0, 1, 0, [.full 0 32 .rc 0], 0⟩,
  ⟨0x1E008C, 1, 0, 1, 0, 1, 0, [.full 0 32 .rc 0], 0⟩,
  ⟨0x1E0090, 1, 0, 1, 0, 1, 0, [.full 0 32 .rc 0], 0⟩,
  ⟨0x1E0094, 1, 0, 1, 0, 1, 0, [.full 0 32 .rc 0], 0⟩,
  ⟨0x1E0098, 1, 0, 1, 0, 1, 0, [.full 0 32 .rc 0], 0⟩,
  ⟨0x1E009C, 1, 0, 1, 0, 1, 0, [.full 0 32 .rc 0], 0⟩,
  ⟨0x1E00A0, 1, 0, 1, 0, 1, 0, [.full 0 32 .rc 0], 0⟩,
  ⟨0x1E00A4, 1, 0, 1, 0, 1, 0, [.full 0 32 .rc 0], 0⟩,
  ⟨0x1E00A8, 1, 0, 1, 0, 1, 0, [.full 0 32 .rc 0], 0⟩,
  ⟨0x1E00AC, 1, 0, 1, 0, 1, 0, [.full 0 32 .rc 0], 0⟩,
  ⟨0x1E00B0, 1, 0, 1, 0, 1, 0, [.full 0 32 .rc 0], 0⟩,
  ⟨0x1E00B4, 1, 0, 1, 0, 1, 0, [.full 0 32 .rc 0], 0⟩,
  ⟨0x1E00B8, 1, 0, 1, 0, 1, 0, [.full 0 32 .rc 0], 0⟩,
  ⟨0x1E00BC, 1, 0, 1, 0, 1, 0, [.full 0 32 .rc 0], 0⟩,
  ⟨0x1E00C0, 1, 0, 1, 0, 1, 0, [.full 0 32 .rc 0], 0⟩,
  ⟨0x1E00C4, 1, 0, 1, 0, 1, 0, [.full 0 32 .rc 0], 0⟩,
  ⟨0x1E0200, 40, 0x4, 1, 0, 1, 0, [.full 0 32 .ro 0], 0⟩,
  ⟨0x1E0400, 1, 0, 1, 0, 1, 0, [⟨0, 11, .rw, 0, 0, 1024⟩, .full 11 10 .rw 0, .full 21 1 .rw 0, .full 22 1 .wo 0, .full 23 1 .ro 0], A.TRV_WRITE_REJECT⟩,
  ⟨0x1E0800, 256, 0x4, 1, 0, 1, 0, [.full 0 32 .rw 0], 0⟩,
  ⟨0x1E0C00, 4, 0x4, 1, 0, 1, 0, [.full 0 10 .rw 0, .full 10 1 .rw 0], 0⟩,
  ⟨0x1E0C10, 1, 0, 1, 0, 1, 0, [.full 0 2 .ro 0, .full 2 2 .ro 0, .full 4 2 .ro 0, .full 6 1 .ro 0, .full 7 1 .ro 0, .full 8 24 .ro 0], 0⟩,
  ⟨0x1E0C14, 1, 0, 1, 0, 1, 0, [⟨0, 12, .rw, 500, 1, 4095⟩, ⟨12, 6, .rw, 2, 2, 16⟩, ⟨18, 6, .rw, 16, 2, 63⟩, .full 24 8 .rw 0x64], 0⟩]

def trvRegs1 : List RegSpec := [
  ⟨0x1E0C18, 1, 0, 1, 0, 1, 0, [.full 0 32 .rc 0], 0⟩,
  ⟨0x1E0D00, 1, 0, 1, 0, 1, 0, [⟨0, 4, .rw, 1, 1, 13⟩, .full 4 12 .rw 0, .full 16 1 .rw 1, .full 17 1 .rw 0, .full 18 1 .rw 1, .full 19 8 .rw 0x3C], 0⟩,
  ⟨0x1E0D04, 1, 0, 1, 0, 1, 0, [.full 0 1 .w1c 0, .full 1 1 .ro 0, .full 2 10 .ro 0], 0⟩,
  ⟨0x1E0D08, 1, 0, 1, 0, 1, 0, [.full 0 10 .rw 0, .full 10 12 .rw 0, ⟨22, 4, .rw, 1, 1, 13⟩, .full 26 1 .wo 0, .full 27 1 .wo 0], 0⟩,
  ⟨0x1E0D0C, 1, 0, 1, 0, 1, 0, [⟨0, 8, .rw, 4, 2, 255⟩, ⟨8, 8, .rw, 4, 3, 255⟩], 0⟩,
  ⟨0x1E0D10, 1, 0, 1, 0, 1, 0, [.full 0 32 .rw 0], 0⟩,
  ⟨0x1E0D14, 1, 0, 1, 0, 1, 0, [.full 0 30 .rw 0], 0⟩,
  ⟨0x1E0D18, 1, 0, 1, 0, 1, 0, [.full 0 2 .ro 0, .full 2 1 .w1c 0, .full 3 1 .w1c 0, .full 4 12 .ro 0], 0⟩,
  ⟨0x1E0D20, 1, 0, 1, 0, 1, 0, [.full 0 32 .rc 0], 0⟩,
  ⟨0x1E0D24, 1, 0, 1, 0, 1, 0, [.full 0 32 .rc 0], 0⟩,
  ⟨0x1E0D28, 1, 0, 1, 0, 1, 0, [.full 0 32 .rc 0], 0⟩,
  ⟨0x1E0D2C, 1, 0, 1, 0, 1, 0, [.full 0 32 .rc 0], 0⟩]

def trvRegs : List RegSpec := trvRegs0 ++ trvRegs1

def pktRegs0 : List RegSpec := [
  ⟨0x200000, 1, 0, 1, 0, 1, 0, [.full 0 16 .rw 0x12B5, .full 16 16 .rw 0x9100], 0⟩,
  ⟨0x200010, 7, 0x4, 1, 0, 1, 0, [.full 0 32 .rc 0], 0⟩,
  ⟨0x200200, 68, 0x4, 1, 0, 1, 0, [.full 0 2 .rw 0, .full 2 2 .rw 0, .full 16 16 .rw 0], 0⟩,
  ⟨0x200400, 68, 0x8, 1, 0, 1, 0, [.full 0 32 .rc 0], 0⟩,
  ⟨0x200404, 68, 0x8, 1, 0, 1, 0, [.full 0 32 .rc 0], 0⟩,
  ⟨0x201000, 1, 0, 1, 0, 1, 0, [.full 0 32 .rc 0], 0⟩,
  ⟨0x201004, 1, 0, 1, 0, 1, 0, [.full 0 32 .rc 0], 0⟩,
  ⟨0x201100, 4, 0x80, 4, 0x20, 8, 0x4, [.full 0 8 .rw 0, .full 8 4 .rw 0, ⟨12, 5, .rw, 0, 0, 16⟩], 0⟩,
  ⟨0x201800, 256, 0x8, 1, 0, 1, 0, [.full 0 16 .rw 0, .full 16 16 .rw 0], 0⟩,
  ⟨0x201804, 256, 0x8, 1, 0, 1, 0, [.full 0 8 .rw 0, .full 8 1 .rw 0, .full 16 16 .rw 0], 0⟩,
  ⟨0x202000, 1, 0, 1, 0, 1, 0, [.full 0 2 .wo 0, .full 2 1 .wo 0, .full 3 8 .wo 0, .full 16 16 .wo 0], 0⟩,
  ⟨0x202004, 1, 0, 1, 0, 1, 0, [.full 0 1 .ro 0, .full 1 3 .ro 0, .full 4 8 .ro 0, .full 16 16 .ro 0], 0⟩,
  ⟨0x202010, 4, 0x4, 1, 0, 1, 0, [.full 0 32 .rw 0], 0⟩,
  ⟨0x202020, 1, 0, 1, 0, 1, 0, [.full 0 20 .ro 0], 0⟩,
  ⟨0x202024, 1, 0, 1, 0, 1, 0, [.full 0 20 .ro 0], 0⟩,
  ⟨0x202028, 1, 0, 1, 0, 1, 0, [.full 0 17 .ro 0], 0⟩,
  ⟨0x20202C, 1, 0, 1, 0, 1, 0, [.full 0 17 .ro 0], 0⟩,
  ⟨0x202040, 1, 0, 1, 0, 1, 0, [.full 0 32 .rc 0], 0⟩,
  ⟨0x202044, 1, 0, 1, 0, 1, 0, [.full 0 32 .rc 0], 0⟩,
  ⟨0x202048, 1, 0, 1, 0, 1, 0, [.full 0 32 .rc 0], 0⟩,
  ⟨0x20204C, 1, 0, 1, 0, 1, 0, [.full 0 32 .rc 0], 0⟩,
  ⟨0x202050, 1, 0, 1, 0, 1, 0, [.full 0 32 .rc 0], 0⟩,
  ⟨0x203000, 1, 0, 1, 0, 1, 0, [.full 0 1 .rw 1, .full 1 1 .rw 0, .full 2 1 .rw 0], 0⟩,
  ⟨0x203004, 1, 0, 1, 0, 1, 0, [.full 0 1 .ro 0, .full 1 1 .ro 0], 0⟩,
  ⟨0x203008, 1, 0, 1, 0, 1, 0, [⟨0, 8, .rw, 4, 1, 255⟩], A.FLW_WRITE_REJECT⟩,
  ⟨0x20300C, 1, 0, 1, 0, 1, 0, [⟨0, 16, .rw, 120, 1, 32767⟩, ⟨16, 16, .rw, 7440, 1, 32767⟩], A.FLW_WRITE_REJECT⟩,
  ⟨0x203010, 1, 0, 1, 0, 1, 0, [⟨0, 16, .rw, 10, 1, 32767⟩, ⟨16, 16, .rw, 300, 1, 32767⟩], A.FLW_WRITE_REJECT⟩,
  ⟨0x203014, 1, 0, 1, 0, 1, 0, [⟨0, 16, .rw, 60, 1, 32767⟩], A.FLW_WRITE_REJECT⟩,
  ⟨0x203020, 1, 0, 1, 0, 1, 0, [.full 0 3 .wo 0, .full 3 1 .wo 0], 0⟩,
  ⟨0x203024, 1, 0, 1, 0, 1, 0, [.full 0 1 .ro 0, .full 1 3 .ro 0, .full 4 25 .ro 0], 0⟩,
  ⟨0x203028, 1, 0, 1, 0, 1, 0, [.full 0 25 .rw 0], 0⟩,
  ⟨0x203040, 1, 0, 1, 0, 1, 0, [.full 0 32 .ro 0], 0⟩,
  ⟨0x203044, 1, 0, 1, 0, 1, 0, [.full 0 32 .rc 0], 0⟩,
  ⟨0x203048, 1, 0, 1, 0, 1, 0, [.full 0 32 .rc 0], 0⟩,
  ⟨0x20304C, 1, 0, 1, 0, 1, 0, [.full 0 32 .rc 0], 0⟩,
  ⟨0x203050, 1, 0, 1, 0, 1, 0, [.full 0 32 .rc 0], 0⟩,
  ⟨0x203054, 1, 0, 1, 0, 1, 0, [.full 0 32 .rc 0], 0⟩,
  ⟨0x203058, 1, 0, 1, 0, 1, 0, [.full 0 32 .rc 0], 0⟩,
  ⟨0x20305C, 1, 0, 1, 0, 1, 0, [.full 0 32 .rc 0], 0⟩,
  ⟨0x203100, 32, 0x4, 1, 0, 1, 0, [.full 0 32 .rw 0], 0⟩]

def pktRegs1 : List RegSpec := [
  ⟨0x204000, 256, 0x10, 1, 0, 1, 0, [.full 0 32 .rw 0], 0⟩,
  ⟨0x204004, 256, 0x10, 1, 0, 1, 0, [⟨0, 9, .rw, 1, 1, 256⟩, .full 9 1 .rw 0, .full 10 1 .rw 0], A.FLW_WRITE_REJECT⟩,
  ⟨0x204008, 256, 0x10, 1, 0, 1, 0, [.full 0 16 .rw 0x400, .full 16 16 .rw 0xFFFF], A.FLW_WRITE_REJECT⟩,
  ⟨0x20400C, 256, 0x10, 1, 0, 1, 0, [], 0⟩]

def pktRegs : List RegSpec := pktRegs0 ++ pktRegs1

def qscRegs0 : List RegSpec := [
  ⟨0x300000, 8, 0x4, 1, 0, 1, 0, [.full 0 3 .rw 0, .full 4 3 .rw 0, .full 8 3 .rw 0, .full 12 3 .rw 0, .full 16 3 .rw 0, .full 20 3 .rw 0, .full 24 3 .rw 0, .full 28 3 .rw 0], A.QSC_WRITE_REJECT⟩,
  ⟨0x300020, 4, 0x4, 1, 0, 1, 0, [.full 0 9 .rw 0x14], A.QSC_WRITE_REJECT⟩,
  ⟨0x300030, 1, 0, 1, 0, 1, 0, [.full 0 8 .rw 0], A.QSC_WRITE_REJECT⟩,
  ⟨0x300040, 3, 0x4, 1, 0, 1, 0, [.full 0 16 .rw 0x820, .full 16 8 .rw 0x32, ⟨24, 8, .rw, 12, 1, 255⟩], A.QSC_WRITE_REJECT⟩,
  ⟨0x300050, 1, 0, 1, 0, 1, 0, [.full 0 32 .ro 0], 0⟩,
  ⟨0x300054, 1, 0, 1, 0, 1, 0, [.full 0 32 .ro 0], 0⟩,
  ⟨0x300058, 1, 0, 1, 0, 1, 0, [.full 0 16 .rw 0x1000, .full 16 16 .rw 0x40], A.QSC_WRITE_REJECT⟩,
  ⟨0x30005C, 1, 0, 1, 0, 1, 0, [.full 0 32 .ro 0], 0⟩,
  ⟨0x300060, 1, 0, 1, 0, 1, 0, [.full 0 12 .ro 0, .full 12 1 .ro 0], 0⟩,
  ⟨0x300080, 1, 0, 1, 0, 1, 0, [.full 0 32 .rc 0], 0⟩,
  ⟨0x300084, 1, 0, 1, 0, 1, 0, [.full 0 32 .rc 0], 0⟩,
  ⟨0x300088, 1, 0, 1, 0, 1, 0, [.full 0 32 .rc 0], 0⟩,
  ⟨0x30008C, 1, 0, 1, 0, 1, 0, [.full 0 32 .rc 0], 0⟩,
  ⟨0x300090, 1, 0, 1, 0, 1, 0, [.full 0 32 .rc 0], 0⟩,
  ⟨0x300094, 1, 0, 1, 0, 1, 0, [.full 0 32 .rc 0], 0⟩,
  ⟨0x300098, 1, 0, 1, 0, 1, 0, [.full 0 32 .rc 0], 0⟩,
  ⟨0x300100, 3, 0x20, 8, 0x4, 1, 0, [.full 0 12 .rw 0, .full 12 1 .rw 0], A.QSC_WRITE_REJECT⟩]

def qscRegs : List RegSpec := qscRegs0

def ethRegs0 : List RegSpec := [
  ⟨0x380000, 4, 0x40, 1, 0, 1, 0, [.full 0 1 .rw 0, .full 1 1 .rw 0, .full 2 1 .rw 0, .full 3 1 .rw 0, .full 4 1 .rw 0, ⟨5, 2, .rw, 0, 0, 2⟩, .full 7 1 .rw 1], 0⟩,
  ⟨0x380004, 4, 0x40, 1, 0, 1, 0, [.full 0 1 .ro 0, .full 1 3 .pl 0, .full 4 8 .ro 0], 0⟩,
  ⟨0x380008, 4, 0x40, 1, 0, 1, 0, [.full 0 32 .rw 0], 0⟩,
  ⟨0x38000C, 4, 0x40, 1, 0, 1, 0, [.full 0 16 .rw 0], 0⟩,
  ⟨0x380010, 4, 0x40, 1, 0, 1, 0, [⟨0, 14, .rw, 9216, 64, 9216⟩], 0⟩,
  ⟨0x380014, 4, 0x40, 1, 0, 1, 0, [.full 0 8 .rw 0, .full 8 8 .rw 0, ⟨16, 16, .rw, 65535, 2, 65535⟩], 0⟩,
  ⟨0x380018, 4, 0x40, 1, 0, 1, 0, [⟨0, 16, .rw, 224, 1, 255⟩, .full 16 16 .rw 0xC0], 0⟩,
  ⟨0x38001C, 4, 0x40, 1, 0, 1, 0, [.full 0 1 .rw 0, .full 1 1 .rw 1, .full 2 2 .rw 0, .full 4 1 .rw 1, .full 5 1 .rw 1], 0⟩,
  ⟨0x380020, 4, 0x40, 1, 0, 1, 0, [.full 0 32 .rw 0], 0⟩,
  ⟨0x380800, 4, 0x200, 128, 0x4, 1, 0, [.full 0 32 .rw 0], 0⟩,
  ⟨0x381000, 4, 0x100, 1, 0, 1, 0, [.full 0 32 .rc 0], 0⟩,
  ⟨0x381004, 4, 0x100, 1, 0, 1, 0, [.full 0 32 .rc 0], 0⟩,
  ⟨0x381008, 4, 0x100, 1, 0, 1, 0, [.full 0 32 .rc 0], 0⟩,
  ⟨0x38100C, 4, 0x100, 1, 0, 1, 0, [.full 0 32 .rc 0], 0⟩,
  ⟨0x381010, 4, 0x100, 1, 0, 1, 0, [.full 0 32 .rc 0], 0⟩,
  ⟨0x381014, 4, 0x100, 1, 0, 1, 0, [.full 0 32 .rc 0], 0⟩,
  ⟨0x381018, 4, 0x100, 1, 0, 1, 0, [.full 0 32 .rc 0], 0⟩,
  ⟨0x38101C, 4, 0x100, 1, 0, 1, 0, [.full 0 32 .rc 0], 0⟩,
  ⟨0x381020, 4, 0x100, 1, 0, 1, 0, [.full 0 32 .rc 0], 0⟩,
  ⟨0x381024, 4, 0x100, 1, 0, 1, 0, [.full 0 32 .rc 0], 0⟩,
  ⟨0x381028, 4, 0x100, 1, 0, 1, 0, [.full 0 32 .rc 0], 0⟩,
  ⟨0x38102C, 4, 0x100, 1, 0, 1, 0, [.full 0 32 .rc 0], 0⟩,
  ⟨0x381030, 4, 0x100, 1, 0, 1, 0, [.full 0 32 .rc 0], 0⟩,
  ⟨0x381034, 4, 0x100, 1, 0, 1, 0, [.full 0 32 .rc 0], 0⟩,
  ⟨0x381038, 4, 0x100, 1, 0, 1, 0, [.full 0 32 .rc 0], 0⟩,
  ⟨0x38103C, 4, 0x100, 1, 0, 1, 0, [.full 0 32 .rc 0], 0⟩,
  ⟨0x381040, 4, 0x100, 1, 0, 1, 0, [.full 0 32 .rc 0], 0⟩,
  ⟨0x381044, 4, 0x100, 1, 0, 1, 0, [.full 0 32 .rc 0], 0⟩,
  ⟨0x381048, 4, 0x100, 1, 0, 1, 0, [.full 0 32 .rc 0], 0⟩,
  ⟨0x38104C, 4, 0x100, 1, 0, 1, 0, [.full 0 32 .rc 0], 0⟩,
  ⟨0x381050, 4, 0x100, 1, 0, 1, 0, [.full 0 32 .rc 0], 0⟩,
  ⟨0x381054, 4, 0x100, 1, 0, 1, 0, [.full 0 32 .rc 0], 0⟩,
  ⟨0x382000, 64, 0x10, 1, 0, 1, 0, [.full 0 1 .rw 0, .full 1 2 .rw 0, .full 3 1 .rw 0, .full 4 2 .rw 0, .full 6 1 .rw 0], 0⟩,
  ⟨0x382004, 64, 0x10, 1, 0, 1, 0, [.full 0 32 .rw 0], 0⟩,
  ⟨0x382008, 64, 0x10, 1, 0, 1, 0, [.full 0 32 .rw 0], 0⟩,
  ⟨0x38200C, 64, 0x10, 1, 0, 1, 0, [.full 0 32 .rw 0], 0⟩]

def ethRegs : List RegSpec := ethRegs0

def drcRegs0 : List RegSpec := [
  ⟨0x3C0000, 1, 0, 1, 0, 1, 0, [.full 0 1 .rw 0, .full 1 1 .wo 0], 0⟩,
  ⟨0x3C0004, 1, 0, 1, 0, 1, 0, [.full 0 2 .ro 0, .full 2 1 .ro 0, .full 3 1 .ro 0, .full 4 2 .ro 0, .full 6 1 .ro 0, .full 7 1 .ro 0, .full 8 1 .w1c 0, .full 9 1 .ro 0, .full 10 1 .ro 0, .full 11 3 .ro 0, .full 14 3 .ro 0], 0⟩,
  ⟨0x3C0008, 1, 0, 1, 0, 1, 0, [.full 0 1 .ro 0, .full 1 1 .ro 0, .full 2 2 .pl 0, .full 4 15 .ro 0, .full 19 11 .ro 0], 0⟩,
  ⟨0x3C0010, 1, 0, 1, 0, 1, 0, [⟨0, 8, .rw, 12, 1, 255⟩], 0⟩,
  ⟨0x3C0020, 1, 0, 1, 0, 1, 0, [.full 0 32 .rc 0], 0⟩,
  ⟨0x3C0024, 1, 0, 1, 0, 1, 0, [.full 0 32 .rc 0], 0⟩,
  ⟨0x3C0028, 1, 0, 1, 0, 1, 0, [.full 0 32 .rc 0], 0⟩,
  ⟨0x3C002C, 1, 0, 1, 0, 1, 0, [.full 0 32 .rc 0], 0⟩,
  ⟨0x3C0030, 1, 0, 1, 0, 1, 0, [.full 0 32 .rc 0], 0⟩,
  ⟨0x3C0034, 1, 0, 1, 0, 1, 0, [.full 0 32 .rc 0], 0⟩,
  ⟨0x3C0040, 1, 0, 1, 0, 1, 0, [.full 0 32 .ro 0], 0⟩,
  ⟨0x3C0044, 1, 0, 1, 0, 1, 0, [.full 0 32 .ro 0], 0⟩,
  ⟨0x3C0048, 1, 0, 1, 0, 1, 0, [.full 0 32 .ro 0xFFFFFFFF], 0⟩,
  ⟨0x3C0100, 10, 0x10, 1, 0, 1, 0, [⟨0, 12, .rw, 10, 1, 4095⟩, .full 12 3 .rw 6], 0⟩,
  ⟨0x3C0104, 10, 0x10, 1, 0, 1, 0, [.full 0 32 .rc 0], 0⟩,
  ⟨0x3C0108, 10, 0x10, 1, 0, 1, 0, [.full 0 16 .rc 0], 0⟩,
  ⟨0x3C010C, 10, 0x10, 1, 0, 1, 0, [.full 0 32 .rc 0], 0⟩,
  ⟨0x3C1000, 152, 0x4, 1, 0, 1, 0, [.full 0 32 .ro 0], 0⟩]

def drcRegs : List RegSpec := drcRegs0

def hdmRegs0 : List RegSpec := [
  ⟨0x3E0000, 33, 0x10, 1, 0, 1, 0, [.full 0 32 .rw 0], A.HDM_WRITE_REJECT⟩,
  ⟨0x3E0004, 33, 0x10, 1, 0, 1, 0, [.full 0 32 .rw 0], A.HDM_WRITE_REJECT⟩,
  ⟨0x3E0008, 33, 0x10, 1, 0, 1, 0, [.full 0 1 .rw 0, ⟨1, 4, .rw, 6, 6, 15⟩, .full 5 6 .rw 0, .full 11 1 .ro 1, .full 12 1 .w1c 0], A.HDM_WRITE_REJECT⟩,
  ⟨0x3E000C, 33, 0x10, 1, 0, 1, 0, [.full 0 16 .rw 0, .full 16 16 .ro 0], A.HDM_WRITE_REJECT⟩,
  ⟨0x3E0210, 2, 0x4, 1, 0, 1, 0, [.full 0 32 .rw 0], A.HDM_WRITE_REJECT⟩,
  ⟨0x3E0218, 1, 0, 1, 0, 1, 0, [.full 0 1 .w1c 0], 0⟩,
  ⟨0x3E021C, 1, 0, 1, 0, 1, 0, [.full 0 4 .rw 0xF, .full 4 4 .rw 0xF, .full 8 4 .rw 0xE], A.HDM_WRITE_REJECT⟩,
  ⟨0x3E0400, 64, 0x4, 1, 0, 1, 0, [.full 0 10 .rw 0x14, ⟨10, 10, .rw, 32, 1, 1023⟩], A.HDM_WRITE_REJECT⟩,
  ⟨0x3E0600, 1, 0, 1, 0, 1, 0, [.full 0 32 .rc 0], 0⟩,
  ⟨0x3E0604, 1, 0, 1, 0, 1, 0, [.full 0 32 .rc 0], 0⟩,
  ⟨0x3E0608, 1, 0, 1, 0, 1, 0, [.full 0 32 .rc 0], 0⟩,
  ⟨0x3E060C, 1, 0, 1, 0, 1, 0, [.full 0 32 .rc 0], 0⟩,
  ⟨0x3E0700, 1, 0, 1, 0, 1, 0, [.full 0 32 .rw 0], A.HDM_WRITE_REJECT⟩,
  ⟨0x3E0704, 1, 0, 1, 0, 1, 0, [.full 0 32 .rw 0], A.HDM_WRITE_REJECT⟩,
  ⟨0x3E0800, 1, 0, 1, 0, 1, 0, [.full 0 1 .rw 0, .full 1 1 .rw 1, .full 16 16 .rw 0x88B5], A.HDM_WRITE_REJECT⟩,
  ⟨0x3E0804, 1, 0, 1, 0, 1, 0, [.full 0 32 .rw 0], A.HDM_WRITE_REJECT⟩]

def hdmRegs : List RegSpec := hdmRegs0

def msixRegs0 : List RegSpec := [
  ⟨0x3F0000, 256, 0x4, 1, 0, 1, 0, [.full 0 32 .rw 0], 0⟩,
  ⟨0x3F8000, 2, 0x4, 1, 0, 1, 0, [.full 0 32 .ro 0], 0⟩]

def msixRegs : List RegSpec := msixRegs0

def tablesRegs0 : List RegSpec := [
  ⟨0x400000, 4096, 0x20, 1, 0, 1, 0, [.full 0 1 .rw 0, .full 1 3 .rw 0, .full 4 4 .rw 0, .full 8 11 .rw 0, .full 19 1 .rw 0, .full 20 1 .rw 0, .full 21 1 .ro 0, .full 22 8 .rw 0], 0⟩,
  ⟨0x400004, 4096, 0x20, 1, 0, 1, 0, [.full 0 32 .rw 0], 0⟩,
  ⟨0x400008, 4096, 0x20, 1, 0, 1, 0, [.full 0 16 .rw 0, .full 16 13 .rw 0, .full 29 1 .rw 0], 0⟩,
  ⟨0x40000C, 4096, 0x20, 1, 0, 1, 0, [.full 0 3 .rw 0, .full 3 3 .rw 0, .full 6 3 .rw 0, .full 9 4 .rw 0, .full 13 1 .rw 0, .full 14 1 .rw 0, .full 15 1 .rw 0, .full 16 3 .rw 0, .full 19 3 .rw 0], 0⟩,
  ⟨0x400010, 4096, 0x20, 3, 0x4, 1, 0, [.full 0 16 .ro 0, .full 16 4 .ro 0, .full 20 3 .ro 0, .full 23 3 .ro 0], 0⟩,
  ⟨0x40001C, 4096, 0x20, 1, 0, 1, 0, [.full 0 24 .rw 0, .full 24 8 .ro 0], 0⟩,
  ⟨0x420000, 1024, 0x20, 1, 0, 1, 0, [.full 0 1 .ro 0, .full 1 1 .ro 0, .full 2 8 .ro 0], 0⟩,
  ⟨0x420004, 1024, 0x20, 1, 0, 1, 0, [.full 0 32 .ro 0], 0⟩,
  ⟨0x420008, 1024, 0x20, 1, 0, 1, 0, [.full 0 32 .ro 0], 0⟩,
  ⟨0x42000C, 1024, 0x20, 1, 0, 1, 0, [.full 0 32 .ro 0], 0⟩,
  ⟨0x420010, 1024, 0x20, 1, 0, 1, 0, [.full 0 32 .ro 0], 0⟩,
  ⟨0x420014, 1024, 0x20, 1, 0, 1, 0, [.full 0 32 .ro 0], 0⟩,
  ⟨0x420018, 1024, 0x20, 1, 0, 1, 0, [.full 0 32 .ro 0], 0⟩,
  ⟨0x42001C, 1024, 0x20, 1, 0, 1, 0, [.full 0 8 .ro 0xFF, .full 16 16 .ro 0], 0⟩,
  ⟨0x500000, 65536, 0x10, 1, 0, 1, 0, [.full 0 3 .rw 0, .full 3 2 .rw 0, .full 5 12 .rw 0, .full 17 4 .rw 0, .full 21 1 .rw 0], 0⟩,
  ⟨0x500004, 65536, 0x10, 1, 0, 1, 0, [.full 0 32 .rw 0], 0⟩,
  ⟨0x500008, 65536, 0x10, 1, 0, 1, 0, [.full 0 16 .rw 0, .full 16 12 .rw 0, .full 28 3 .rw 0, .full 31 1 .rw 0], 0⟩,
  ⟨0x50000C, 65536, 0x10, 1, 0, 1, 0, [.full 0 14 .rw 0], 0⟩,
  ⟨0x600000, 16384, 0x40, 12, 0x4, 1, 0, [.full 0 32 .rw 0], 0⟩,
  ⟨0x600030, 16384, 0x40, 1, 0, 1, 0, [.full 0 8 .rw 0, .full 8 8 .rw 0, .full 16 8 .rw 0, .full 24 3 .rw 0, .full 27 3 .rw 0], 0⟩,
  ⟨0x600034, 16384, 0x40, 1, 0, 1, 0, [.full 0 4 .rw 0, .full 4 1 .rw 0, .full 5 1 .rw 0, .full 6 1 .rw 0, .full 7 1 .rw 0, .full 8 1 .rw 0, .full 9 1 .rw 0, .full 10 6 .rw 0, .full 16 3 .rw 0], 0⟩,
  ⟨0x600038, 16384, 0x40, 1, 0, 1, 0, [.full 0 16 .rw 0, .full 16 16 .rw 0], 0⟩,
  ⟨0x60003C, 16384, 0x40, 1, 0, 1, 0, [.full 0 1 .rw 0, .full 1 2 .rw 0, .full 3 12 .rw 0, .full 16 8 .rw 0], 0⟩,
  ⟨0x700000, 16384, 0x4, 1, 0, 1, 0, [.full 0 32 .rc 0], 0⟩,
  ⟨0x710000, 68, 0x800, 13, 0x4, 1, 0, [.full 0 32 .rw 0], 0⟩,
  ⟨0x710034, 68, 0x800, 1, 0, 1, 0, [.full 0 16 .rw 0], 0⟩,
  ⟨0x710038, 68, 0x800, 2, 0x4, 1, 0, [], 0⟩,
  ⟨0x710400, 68, 0x800, 256, 0x4, 1, 0, [.full 0 2 .rw 0, .full 2 4 .rw 0, .full 16 2 .rw 0, .full 18 4 .rw 0], 0⟩,
  ⟨0x800000, 49152, 0x10, 1, 0, 1, 0, [.full 0 13 .rw 0x200, .full 13 1 .rw 0, .full 14 13 .rw 0, .full 27 1 .rw 0], A.QSC_WRITE_REJECT⟩,
  ⟨0x800004, 49152, 0x10, 1, 0, 1, 0, [.full 0 24 .rw 0], A.QSC_WRITE_REJECT⟩,
  ⟨0x800008, 49152, 0x10, 1, 0, 1, 0, [.full 0 32 .ro 0], 0⟩,
  ⟨0x80000C, 49152, 0x10, 1, 0, 1, 0, [.full 0 32 .rc 0], 0⟩,
  ⟨0x900000, 65536, 0x10, 1, 0, 1, 0, [.full 0 32 .rw 0], 0⟩,
  ⟨0x900004, 65536, 0x10, 1, 0, 1, 0, [.full 0 24 .rw 0, .full 24 1 .rw 0], A.QSC_WRITE_REJECT⟩,
  ⟨0x900008, 65536, 0x10, 1, 0, 1, 0, [.full 0 32 .rc 0], 0⟩,
  ⟨0x90000C, 65536, 0x10, 1, 0, 1, 0, [.full 0 32 .rc 0], 0⟩]

def tablesRegs : List RegSpec := tablesRegs0

/-- The registers of the block that BAR0 offset `off` lies in (R331). -/
def blockRegs (off : Nat) : List RegSpec :=
  if 0x0 ≤ off ∧ off < 0x10000 then glbRegs else
  if 0x10000 ≤ off ∧ off < 0x20000 then pwrRegs else
  if 0x20000 ≤ off ∧ off < 0x30000 then tbRegs else
  if 0x30000 ≤ off ∧ off < 0x40000 then pltRegs else
  if 0x40000 ≤ off ∧ off < 0x50000 then engRegs else
  if 0x80000 ≤ off ∧ off < 0x90000 then keyRegs else
  if 0x90000 ≤ off ∧ off < 0xA0000 then sealRegs else
  if 0xC0000 ≤ off ∧ off < 0xD0000 then chkRegs else
  if 0x100000 ≤ off ∧ off < 0x1C0000 then radRegs else
  if 0x1C0000 ≤ off ∧ off < 0x1E0000 then chnRegs else
  if 0x1E0000 ≤ off ∧ off < 0x200000 then trvRegs else
  if 0x200000 ≤ off ∧ off < 0x300000 then pktRegs else
  if 0x300000 ≤ off ∧ off < 0x380000 then qscRegs else
  if 0x380000 ≤ off ∧ off < 0x3C0000 then ethRegs else
  if 0x3C0000 ≤ off ∧ off < 0x3E0000 then drcRegs else
  if 0x3E0000 ≤ off ∧ off < 0x3F0000 then hdmRegs else
  if 0x3F0000 ≤ off ∧ off < 0x400000 then msixRegs else
  if 0x400000 ≤ off ∧ off < 0x1000000 then tablesRegs else
  []

end Sys2Proof.Machine
end

