-- ==== Sys2Proof/Machine/State.lean ====
section
/-! DEFINITION. The state of the block, as plain data. Every register, window and table of BAR0 lives in ONE register file, `State.regs`:
a list of (byte offset, word) pairs with rising offsets and no entry equal to the register's reset value, so that equal register files
are equal lists and the register file after reset is the empty list. What the manual gives the part and shows in no register lives in the
structures below, one per chapter. The commands wait in `State.pending`, first in, first out. -/

namespace Sys2Proof.Machine

/-- Why a command stops. No command does: the spec stops the device nowhere, and an access that names no register completes (R332). -/
inductive Fault where
deriving DecidableEq, Repr

/-- Why a command has no meaning. -/
inductive Refusal where
  /-- The row has no meaning in this model; raised by an arm of `exec` and by nothing else. Safe. -/
  | notModelled (mnemonic : String)
deriving DecidableEq, Repr

/-- The BAR0 register file: (byte offset, word), offsets rising, no word equal to the register's reset value. -/
abbrev RegFile := List (Nat × Word)

/-! ### Time (R214 to R245) -/

/-- A time base (R216): `t` counts units of 2^-48 ns, hidden fraction bits included, modulo 2^48 s; `rate` is the signed RATE; `slew` is
what remains of a slew in the same units; the pending fields hold adjustments committed and not yet applied (R217), a set and a slew in the
same units, a step in ns. -/
structure TimeBase where
  t : Nat
  rate : Int
  slew : Int
  setPend : Option Nat
  stepPend : Option Int
  slewPend : Option Int
  ratePend : Option Int
deriving DecidableEq, Repr

/-- An entry of a capture FIFO (R226, R244). -/
structure CapEntry where
  rising : Bool
  carried : Bool
  ns : Nat
  sec : Nat
  frac : Nat
deriving DecidableEq, Repr

/-- A frame stamp (R234). -/
structure Stamp where
  tb : Nat
  sec : Nat
  ns : Nat
  frac : Nat
deriving DecidableEq, Repr

/-- An entry of a transmit timestamp queue (R235). -/
structure StampEntry where
  tb : Nat
  attempt : Nat
  id : Nat
  ns : Nat
  sec : Nat
  frac : Nat
deriving DecidableEq, Repr

/-- The state of chapter "Datum, time bases and the calendar clock" that no register shows. `tclkOn`: TCLK runs; `carried`: XO32K carries the
time bases (R215); `xoPhase`: TCLK time since the last XO32K edge, in 2^-16 ns; `now`: nanoseconds the device has counted since the model's
reset (used for durations); `tsfOfs`: the TSF offsets in force (R223); `offs`: the offsets recorded since the last change of stage or REF, newest
first, at most 8 (R221); `sampleAt`: `now` of the last sample used; `freqN`, `freqD`: the servo's frequency in ppb, as a fraction (R221);
`cmpTarget`: the committed targets in ns (R228); `late`: the unit was armed with a target already passed; `jumped`: a set or step has carried
its base past its target (R229); `cap`: the capture FIFOs (R226); `txq`: the transmit timestamp queues, ports first (R235); `tout`, `pps`: pin
levels; `calSec`, `calSub`: calendar UTC seconds and subseconds; `calSet`: a set on its way to the always-on domain (R238); `calRuns`: the
calendar clock counts; `leapHold`: the inserted second is running (R239); `tclkNs`: nanoseconds that TCLK has run (R306); `stopPhase`: the TCLK time counted since the last XO32K edge
as TCLK stopped (R215); `ptpAt`: `now` at the last write that holds LOCKED (R220); `pulseEnd`: `tclkNs` at which each pin's pulse falls (R228); `cmpAt`: `now` as each compare unit fired
last (R230); `ppsUntil`: `now` at which PPS_OUT falls (R233); `adcDue`: a compare unit has asked for a housekeeping conversion (R470); `alarmDone`: the alarm has fired since it was
armed (R240); `stampReq`: frames sent whose stamp is asked for, as (queue, time base, attempt, identifier) (R235). -/
structure Tim where
  tb : List TimeBase
  tclkOn : Bool
  carried : Bool
  xoPhase : Nat
  now : Nat
  tsfOfs : List Int
  offs : List Int
  sampleAt : Option Nat
  freqN : Int
  freqD : Nat
  cmpTarget : List Nat
  late : List Bool
  jumped : List Bool
  cap : List (List CapEntry)
  txq : List (List StampEntry)
  tout : List Bool
  pps : Bool
  calSec : Nat
  calSub : Nat
  calSet : Option (Nat × Nat)
  calRuns : Bool
  leapHold : Bool
  tclkNs : Nat
  stopPhase : Nat
  ptpAt : Nat
  pulseEnd : List (Option Nat)
  cmpAt : List (Option Nat)
  ppsUntil : Nat
  adcDue : Bool
  alarmDone : Bool
  stampReq : List (Nat × Nat × Nat × Nat)
deriving DecidableEq, Repr

/-! ### Host access (R10, R263, R268, R326 to R330) -/

/-- A read latch (R10): the word that a read of offset `off` by master `m` returns until the lowest word is read again. -/
structure Latch where
  m : Master
  off : Nat
  val : Word
deriving DecidableEq, Repr

/-- An event record not yet written (R326). -/
structure EvtRec where
  off : Nat
  bit : Nat
  ns : Nat
  sec : Nat
deriving DecidableEq, Repr

/-- A staging buffer of one host path (R263, R268): which table, which entry, and the words staged. -/
structure Staging where
  m : Master
  table : Nat
  entry : Nat
  words : List (Nat × Word)
deriving DecidableEq, Repr

/-- One MSI-X vector's progress (R327): writebacks since it last signalled, and the time of the first of them. -/
structure VecState where
  count : Nat
  since : Option Nat
deriving DecidableEq, Repr

/-- A ring's traffic (R321): the frame begun on it, if any, as the number of descriptors already taken. -/
structure RingState where
  begun : Nat
  stopping : Bool
deriving DecidableEq, Repr

/-- The state of the host interface that no register shows. `held`: accesses waiting for the return from Sleep (after R420);
`secWait`: secondary request frames received, with their MACSEC bit (R328). -/
structure Hst where
  pcieUp : Bool
  perstLow : Bool
  d3hot : Bool
  latches : List Latch
  staging : List Staging
  evtWait : List EvtRec
  vecs : List VecState
  rings : List RingState
  held : List (Master × Nat × Option Word)
  secWait : List (List Byte × Bool)
deriving DecidableEq, Repr

/-! ### Power and start (R411 to R435) -/

/-- Where a start stands (R427 to R429). -/
inductive StartStage where
  /-- VIN below UVLO: the package is held in reset (R427). -/
  | unpowered
  /-- Off (R419): only the WAKE_N detector and the calendar clock run. -/
  | off
  /-- A reset has ended; START_SEQUENCE comes next. -/
  | begun
  /-- Held at the end of step 2 until VDDIO is present. -/
  | waitVddio
  /-- Held in reset at step 1 or in service: a rail lacks a needed phase (R443). -/
  | railHeld
  /-- TMODE selects manufacturing test: the device does not start (R451). -/
  | testMode
  /-- Steps 1 to 4 are done. -/
  | up
deriving DecidableEq, Repr

/-- A function that PWR_FUNC powers (R424): radios 0 to 2, ports L0 to L3, the Seal engine. -/
structure FuncState where
  on : Bool
  starting : Bool
  stopping : Bool
  latched : Option Bool
deriving DecidableEq, Repr

/-- The state of the power controller that no register shows. `vddio`: VDDIO is present; `asked`: the position (R415) asked and not yet granted, 0
before the first and 11 when all have granted; `noHost`: NO_HOST of the request; `edges`: edge wake sources latched during the entry actions or the
stay; `outcome`: what a start held at step 2 goes on with; `regulators`: the next start runs step 1; `offWake`: PWR_WAKE_EN as Off was entered;
`badPhases`: phases fenced (rail, phase); `vddio33`: the VDDIO setting found at step 2, 3.3 V or 1.8 V (R453); `funcs`: R424; `heldFunc`: a PWR_FUNC write held while stopping (R416); `idle`: Idle (R412); `wakeAt`: `Tim.now` at the edge that registered the wake (R421); `everStarted`:
a start has read the silicon revision. -/
structure Pwr where
  stage : StartStage
  vddio : Bool
  outcome : Option StartOutcome
  asked : Nat
  noHost : Bool
  edges : List Nat
  regulators : Bool
  offWake : Nat
  badPhases : List (Nat × Nat)
  vddio33 : Option Bool
  funcs : List FuncState
  heldFunc : Option Word
  idle : Bool
  everStarted : Bool
  wakeAt : Nat
deriving DecidableEq, Repr

/-! ### The Plate and the update (R12 to R44, R398 to R410) -/

/-- The loader at work (R36): the region being read (1 = A, 2 = S), its block count, the blocks that have arrived, and how far it is. -/
inductive LoadPhase where
  /-- Reading content and signature blocks. -/
  | reading
  /-- Every block has arrived; PLATE_SIGNATURE_CHECK comes next. -/
  | signature
  /-- Placed; SEED_APPLY comes next. -/
  | seeding
deriving DecidableEq, Repr

/-- See `LoadPhase`. -/
structure Loader where
  region : Nat
  n : Nat
  blocks : List (List Byte)
  phase : LoadPhase
deriving DecidableEq, Repr

/-- A role body in the Plate cache (R23, R25): its version, its bytes, and whether it comes from region S's Plate. -/
structure Body where
  version : Nat
  bytes : List Byte
  fromS : Bool
deriving DecidableEq, Repr

/-- What the proofing of region S recorded (R405): the Plate's blocks are in `Upd.regionS`. -/
structure BootRec where
  seq : Nat
  flags : Nat
  aVersion : Nat
  aBlocks : Nat
  sVersion : Nat
  sBlocks : Nat
  aDigest : List Byte
  sDigest : List Byte
  roleHash : List (List Byte)
deriving DecidableEq, Repr

/-- The state of the Plate loader that no register shows. `legend`: the 512 bytes of the fixed part as the fields are in force (R41);
`legendNew`: the same of the Plate being re-cut; `tmpl`: the Graticule template of each radio in force, as 64-bit entries; `bodies`: the bodies that
the roles run, by role code − 1; `seeds`: the staged SEED sections with their content offsets; `badPages`: Plate-cache pages waiting for a refetch,
each with the role code whose body lies in it, 0 for none (R346); `fromS`: the Plate in service was loaded from S and not yet copied (R401); `fromWait`: the load under way began in Plate-wait;
`applyLegend`: radios whose superframe length and template change at their next superframe boundary (R41). -/
structure Plt where
  loader : Option Loader
  legend : List Byte
  legendNew : List Byte
  tmpl : List (List Nat)
  bodies : List Body
  seeds : List (Nat × List Byte)
  badPages : List (Nat × Nat)
  fromS : Bool
  fromWait : Bool
  applyLegend : List Nat
deriving DecidableEq, Repr

/-- A flash command in progress (R401, R409). -/
inductive FlashOp where
  /-- OPEN: erase and boot record write. -/
  | openErase (n : Nat)
  /-- BLOCK: programming and read-back of block `i`. -/
  | program (i : Nat) (block : List Byte)
  /-- CANCEL: the boot record write. -/
  | cancel
  /-- A boot record write that no mailbox command waits for. -/
  | record
deriving DecidableEq, Repr

/-- The state of the update that no register shows: the external flash (R398: two boot record copies, regions A and S by block index, `none` where
erased), the size opened, the operation in progress, the copy's progress (R407). -/
structure Upd where
  boot0 : Option BootRec
  boot1 : Option BootRec
  inForce : Option BootRec
  regionA : List (Nat × List Byte)
  regionS : List (Nat × List Byte)
  openSize : Nat
  op : Option FlashOp
  proving : Bool
  copying : Bool
deriving DecidableEq, Repr

/-! ### Engines and roles (R45 to R77) -/

/-- A token in a role's input queue (R54 to R56); `seq` is set once it has been issued and not committed, `rep` is the repeat count, `pkt` the number
of the packet whose descriptor it carries, `again` says that it was in flight uncommitted on a fenced engine and runs again (R65). -/
structure Token where
  seq : Option Nat
  source : Nat
  hash : Nat
  timer : Option Nat
  rep : Nat
  body : List Byte
  pkt : Option Nat
  again : Bool
deriving DecidableEq, Repr

/-- An engine beside its ENG_STATUS register: scratchpad lines (line n × 1,024 + i of SPn, zero where unlisted), a self-test that the SUP role is to
start, the unit of a fault that struck during the self-test, and the location in the record of the fault that fenced it. -/
structure Engine where
  sp : List (Nat × BitVec 512)
  testAsked : Bool
  testFailed : Option Nat
  loc : Word
deriving DecidableEq, Repr

/-- A role: its input queue, the next sequence number, its ledger image (lines as an engine's scratchpads), ledger lines lost to an uncorrectable
error (R346), whether it is stopped (R67), the indirection entries that named it when it was shed (source × 512 + entry), its counter of
tokens committed (R53, R67), and while a producer stalls on its full queue the picoseconds of stall not yet counted (R77). -/
structure Role where
  queue : List Token
  nextSeq : Nat
  ledger : List (Nat × BitVec 512)
  badLines : List Nat
  stopped : Bool
  shedEntries : List Nat
  counter : Nat
  stall : Option Nat
deriving DecidableEq, Repr

/-- What the take-over controller does for a role: a take-over, the placing of a shed or stopped PKT role on a free blank (R443), or a take-over into
the working blank of a re-cut (R73). -/
inductive MoveKind where
  | takeover | restore | into
deriving DecidableEq, Repr

/-- A take-over (R64) that waits or runs: the role code, the engine fenced, the cause, and `Tim.now` at the fence. -/
structure TakeOver where
  role : Nat
  kind : MoveKind
  old : Nat
  cause : Nat
  fencedAt : Nat
deriving DecidableEq, Repr

/-- The re-cut (R69 to R73): the roles still to move in order, the roles moved, the step of the present move (0 none, 1 to 5, 6 = step 1 done and
held by a pause, 7 = its blank has become a take-over target, R73), its working blank, its old engine, the incoming body, and whether a pause or an abandonment has been asked for. -/
structure Recut where
  todo : List Nat
  moved : List Nat
  step : Nat
  blank : Nat
  old : Nat
  incoming : Option Body
  pauseAsked : Bool
  abandonAsked : Bool
deriving DecidableEq, Repr

/-- The state of the engine system that no register shows. `running`: the take-over running and its target engine; `degraded`: it took a shed
role's engine (R67); `clearing`: the old engine of a move being cleared (R71 step 5). -/
structure Eng where
  engines : List Engine
  roles : List Role
  running : Option (TakeOver × Nat)
  degraded : Bool
  waiting : List TakeOver
  recut : Option Recut
  clearing : Option Nat
deriving DecidableEq, Repr

/-! ### Faults (R436 to R448) -/

/-- The state of the fault handling that no register shows: clusters being reset, as (region, cluster, failing unit), their intake stopped; clusters
masked, as (region, cluster, `Tim.now`); permanent faults as (region, cluster, unit); fenced die-link lanes and the lanes carrying traffic (R440, R441). -/
structure Flt where
  resetting : List (Nat × Nat × Nat)
  recent : List (Nat × Nat × Nat)
  permanent : List (Nat × Nat × Nat)
  fencedLanes : List Nat
  trafficLanes : List Nat
deriving DecidableEq, Repr

/-! ### The Graticule (R149 to R179) -/

/-- A domain grant (R170), its four words. -/
structure Grant where
  w0 : Word
  w1 : Word
  w2 : Word
  w3 : Word
deriving DecidableEq, Repr

/-- The run a radio carries out (R152): its kind as executed, its other fields, its first slot index, its number of slots, and the guard in ns at its
first edge (R175). -/
structure Run where
  kind : Nat
  spid : Nat
  borrowed : Bool
  rest : Nat
  peer : Nat
  mlAlign : Bool
  first : Nat
  len : Nat
  guard : Nat
deriving DecidableEq, Repr

/-- A radio's Graticule: the working and the shadow table as 64-bit entries (R153, R154), the positions marked by the host (R173), the pending
grants in order of arrival (R171), the TB0 time in ns before which a waiting commit does not merge, whether a
DOMAIN_EN = 0 waits for its boundary (R174), the AP MLD mask in force (R168), the run in progress, the stations served in service periods of
this superframe (R158), the station last served in a ULT round, whether this run has polled for buffer reports (R160), consecutive uplink misses by station, BSSs whose beacon is still to go
out in this BCN run, whether group-addressed frames are still to go out (R157), the DTIM Count by BSS, and `Tim.now` at each station's
sounding feedback (R159), the beacon templates as they stood when the BCN run began, as (BSS, header word, bytes) (R157), the first slot of the quiet run in
which the radio rests (R162), and whether this run has sent its CTS-to-self (R163). -/
structure GrtRadio where
  work : List Nat
  shadow : List Nat
  marks : List Nat
  pend : List Grant
  commitAt : Option Nat
  takeBack : Bool
  maskIn : Nat
  run : Option Run
  served : List Nat
  lastUlt : Nat
  polled : Bool
  misses : List (Nat × Nat)
  bcnLeft : List Nat
  groupLeft : List Nat
  dtim : List Nat
  sounded : List (Nat × Nat)
  bcnTmpl : List (Nat × Word × List Byte)
  resting : Option Nat
  ctsDone : Bool
deriving DecidableEq, Repr

/-- The member's following of its Datum reference (R176, R177) beside TRV_DATUM_STATE: consecutive beacons accepted from the present reference,
whether one was accepted in the present reference period, `Tim.now` at the last one, E as holdover began, the W that a pending return to
LOCKED holds (in 10^-9 ns) with the epoch in which it became due, and the measured path delay in ns. -/
structure Hold where
  consec : Nat
  got : Bool
  lastBeacon : Option Nat
  eHold : Nat
  wHeld : Option (Nat × Nat)
  delay : Option Int
deriving DecidableEq, Repr

/-- A traffic identifier of a station (R168): the next sequence number, the MPDUs sent and not acknowledged as (packet, sequence number, retries), and the sequence numbers received,
newest first, at most 1,024. -/
structure TidState where
  next : Nat
  sent : List (Nat × Nat × Nat)
  board : List Nat
deriving DecidableEq, Repr

/-- The state of chapter "The Graticule" that no register shows. `claims`: EMLSR stations claimed, by which radio and until when in `Tim.now` (R169);
`ulAt`: `Tim.now` at each station's last uplink buffer report (R160); `tids`: what the links of a station share for each traffic identifier (R168), by station × 8 + TID. -/
structure Grt where
  radios : List GrtRadio
  claims : List (Nat × Nat × Nat)
  ulAt : List (Nat × Nat)
  hold : Hold
  tids : List (Nat × TidState)
deriving DecidableEq, Repr

/-- A radio's Graticule after a package reset. -/
def GrtRadio.reset : GrtRadio :=
  ⟨[], [], [], [], none, false, 0, none, [], 0, false, [], [], [], List.replicate 16 0, [], [], none, false⟩

/-- The Graticule after a package reset. -/
def Grt.reset : Grt := ⟨List.replicate 3 .reset, [], [], ⟨0, false, none, 100, none, none⟩, []⟩

/-! ### Chains and radios (R78 to R117) -/

/-- An RF chain beside CHN_CHAIN_STATUSn: the levels of its three front-end lines (R96), the radio it served when fenced, whether a self-test is
scheduled and `Tim.now` at the write that asked for it (R89), whether it rejoins at the next superframe boundary, half decibels taken off its gain
(R107), the channels with stored results, most recently used first, and the one whose results are in use (R92), accepted captures and `Tim.now` at the last
candidate (R103), the die temperature as read at the last adoption (R103, R471), and the target power in 0.25 dBm of its radio's last frame, none where it
sent nothing of it (R88, R103, R107). -/
structure Chain where
  pa : Bool
  lna : Bool
  trsw : Bool
  home : Nat
  test : Bool
  testAt : Nat
  rejoin : Bool
  gainCut : Nat
  stored : List (Nat × Channel)
  results : Option Channel
  accepted : Nat
  lastCand : Option Nat
  adoptT : Option Nat
  power : Option Int
deriving DecidableEq, Repr

/-- One calibration cycle of a radio (R98): the steps still to run, and whether it has overrun its period (R101). -/
structure CalCycle where
  todo : List (CalKind × Nat)
  overdue : Bool
deriving DecidableEq, Repr

/-- A radio beside CHN_RADIO_STATEn: its channel, held transmit requests (R94), the frame on the air, its fine adjustment in Hz and whether it is
settling (R93), the calibration step running, calibration ticks (R231), the 100 ms, 1 s and 10 s cycles, transmissions as (start, length) in ns
of `Tim.now` (R107), whether it has stopped, its permanent baseband and cipher faults (R440), whether it restarts at its next boundary (R41), and `Tim.now` at which
its last frame and its last exchange, responses included, end (R122, R159). -/
structure Radio where
  chan : Option Channel
  held : List TxReq
  tx : Option TxReq
  adjust : Int
  settling : Bool
  step : Option (CalKind × List Nat)
  ticks : Nat
  cycles : List CalCycle
  duty : List (Nat × Nat)
  stopped : Bool
  permanent : Nat
  restart : Bool
  airEnd : Nat
  exchEnd : Nat
deriving DecidableEq, Repr

/-- The state of chapter "RF chains" that no register shows. Traverse synthesiser: fenced, its cause, the synthesiser that stands in for it, the
one that will from the next Traverse slot, whether it takes back at the next slot boundary, whether the Traverse has no LO (R84, R85); a
substitution in progress as (spare, radio, fenced synthesiser) (R82); the channels by radio for which the spare holds a VCO band code (R83); synthesisers
under self-test; the chain that each cluster's estimator served last (R103); wires (R110, R111); XO80 running (R91). -/
structure Chn where
  chains : List Chain
  radios : List Radio
  trvFenced : Bool
  trvCause : Nat
  trvBy : Option Nat
  trvNext : Option Nat
  trvBack : Bool
  trvDown : Bool
  subst : Option (Nat × Nat × Nat)
  bandCodes : List (Nat × Channel)
  testing : List Nat
  estLast : List Nat
  extReq : Bool
  extPri : Bool
  extHigh : Bool
  extGnt : Bool
  extWait : Bool
  devReq : Bool
  devGnt : Bool
  xo80 : Bool
deriving DecidableEq, Repr

/-- What fuses hold (they outlive every reset): the eight regulatory profiles and their lock (R104, R106), and a profile being programmed (R109). -/
structure RegFuses where
  profiles : List (List Byte)
  lock : Bool
  busy : Option (Nat × List Byte)
deriving DecidableEq, Repr

/-- A chain after a package reset. -/
def Chain.reset : Chain := ⟨false, false, false, 3, false, 0, false, 0, [], none, 0, none, none, none⟩

/-- A radio after a package reset. -/
def Radio.reset : Radio := ⟨none, [], none, 0, false, none, 0, List.replicate 3 ⟨[], false⟩, [], false, 0, false, 0, 0⟩

/-- Chains and radios after a package reset. -/
def Chn.reset : Chn :=
  ⟨List.replicate 16 .reset, List.replicate 3 .reset, false, 0, none, none, false, false, none, [], [], [3, 7, 11, 15], false, false, false,
    false, false, false, false, false⟩

/-- Unprogrammed regulatory fuses. -/
def RegFuses.blank : RegFuses := ⟨List.replicate 8 (List.replicate 128 0#8), false, none⟩

/-! ### The stylus (R472 to R481) -/

/-- The state of the TAP controller's selection (R472): which instruction acts. -/
inductive TapInstr where
  | extest | sample | idcode | clamp | highz | dbgStatus | chal | resp | lock | haltCtrl | breakReg | access | bypass
deriving DecidableEq, Repr

/-- An issued challenge (R474): its 48 bytes, `Tim.now` at its issue, whether a response has used it. -/
structure Challenge where
  bytes : List Byte
  at_ : Nat
  used : Bool
deriving DecidableEq, Repr

/-- A breakpoint (R478). -/
structure Breakpoint where
  kind : Nat
  value : BitVec 64
  mask : BitVec 64
deriving DecidableEq, Repr

/-- The debug port: the fields of DBG_STATUS and HALT_CTRL (R481), the challenge (R474), the role code that the halted engine carried, the shadow queue and the capture buffer (R476, R477), eight
breakpoints for each engine, the responses waiting for verification, oldest first, each with the challenge it answers (empty: none that serves), and the result of the last access (R479). -/
structure Dbg where
  instr : TapInstr
  session : Bool
  verifying : List (List Byte × List Byte)
  fails : Nat
  haltTaken : Bool
  denied : Nat
  collide : Nat
  shadowLost : Nat
  issued : Nat
  chal : Option Challenge
  halted : Option Nat
  haltRole : Nat
  result : Nat
  running : Bool
  hitBp : Nat
  hit : Bool
  hitSeq : Nat
  shadow : List Token
  capture : List (List Byte)
  bps : List (List Breakpoint)
  accData : Word
  accStatus : Nat
deriving DecidableEq, Repr

/-- The debug port after a package reset. -/
def Dbg.reset : Dbg :=
  ⟨.idcode, false, [], 0, false, 0, 0, 0, 0, none, none, 0, 0, false, 0, false, 0, [], [], List.replicate 14 (List.replicate 8 ⟨0, 0#64, 0#64⟩), 0#32, 0⟩

/-! ### Modulation and measurement (R118 to R148) -/

/-- A Stipple map (R131): its version, width code, streams, rate, centre in MHz, activation time, and the load of every data subcarrier, one list a
stream. -/
structure StpMap where
  version : Nat
  width : Nat
  nss : Nat
  rate : Nat
  centre : Nat
  actS : Nat
  actNs : Nat
  loads : List (List Nat)
deriving DecidableEq, Repr

/-- A Stipple link beside its registers: active and pending maps of both directions (R126), a map computed or written that waits for its offer (R134),
`Tim.now` at each activation (R137), the SINR estimate of every stream and data subcarrier as a power ratio in 2^-16, 0 where not measured (R133),
PPDUs measured since the rx map went stale, whether the accept of the pending rx map has come, `Tim.now` at the last PPDU received with an echo
(R136) and at the last NDP sounding (R127), the words written through the map window (R147), `Tim.now` at the last computation of the rx map
(R133), and whether the peer is to be sounded before the next data PPDU (R127). -/
structure StpLink where
  rxMap : Option StpMap
  txMap : Option StpMap
  rxPend : Option StpMap
  txPend : Option StpMap
  rxNew : Option StpMap
  rxAt : Nat
  txAt : Nat
  snr : List (List Nat)
  since : Nat
  accepted : Bool
  echoAt : Option Nat
  soundAt : Option Nat
  win : List (Nat × Word)
  compAt : Nat
  soundDue : Bool
deriving DecidableEq, Repr

/-- A radio's receiver (R121 to R125): the power in hundredths of a decibel that the present reception started with, whether that detection was
triggered by noise, the noise floor of each 20 MHz channel, by its index in the contour, as a power ratio to −128 dBm in 2^-16 (R140), `Tim.now`
at each one's last counted window, the measurement command pending as (channel, dwell) (R142), its eight Stipple links, and
`Tim.now` until which a frame heard holds contention: an L-SIG duration or the NAV (R120, R128, R159), and the receive stamp of the present reception (R234). -/
structure Phy where
  rx : Option Int
  falseRx : Bool
  floor : List (Nat × Nat)
  floorAt : List (Nat × Nat)
  meas : Option (Nat × Nat)
  links : List StpLink
  busyUntil : Nat
  stamp : Option Stamp
deriving DecidableEq, Repr

/-- The estimates of a surveyed neighbour (R143, R148): `Tim.now` at the last one, and the last 16, newest first. -/
structure Survey where
  at_ : Option Nat
  last : List Int
deriving DecidableEq, Repr

/-- A link after a package reset. -/
def StpLink.reset : StpLink := ⟨none, none, none, none, none, 0, 0, [], 0, false, none, none, [], 0, false⟩

/-- A receiver after a package reset. -/
def Phy.reset : Phy := ⟨none, false, [], [], none, List.replicate 8 .reset, 0, none⟩

/-! ### The Traverse (R180 to R213) -/

/-- A queued Traverse frame (R188, R195): its type, its receiver (`none` = broadcast), its payload, and for a DELAY_RESP the TB0 time in ns at which it is to start,
36 µs after the request's end. -/
structure TFrame where
  type : Nat
  dest : Option Nat
  payload : List Byte
  due : Option Nat
deriving DecidableEq, Repr

/-- A delay exchange (R199, R202): requests sent so far, once the latest has gone out its session, sequence and t1 in ns, and the member's transmit slots since. -/
structure Exchange where
  tries : Nat
  sent : Option (Nat × Nat × Nat)
  slots : Nat
deriving DecidableEq, Repr

/-- A map object being assembled from MAP_OFFER fragments (R204): radio and link, sender's radio, version, object length, fragment count, and the
fragments that have arrived as (index, offset, data). -/
structure Assembly where
  radio : Nat
  link : Nat
  version : Nat
  total : Nat
  count : Nat
  frags : List (Nat × Nat × List Byte)
deriving DecidableEq, Repr

/-- A wake-up frame waiting for a Traverse slot (R209): WUR channel, WUR identifier, whether it ends the rendezvous (R210), and whether its wait for
wur_ms_per_s has been counted. -/
structure WurFrame where
  ch : Nat
  id : Nat
  meets : Bool
  limited : Bool
deriving DecidableEq, Repr

/-- The state of chapter "Traverse" that no register shows. `keys`: the two domain keys, 16 bytes each (R193); `next`: the armed next map as
(channels, version, epoch) (R183); `skipped`: channels removed by the contour skip (R184); `queue`: R195; `sentInSlot`, `slotLost`, `wurSlot`,
`blockedNoted`: this slot has sent, is lost, belongs to a wake-up frame, has been counted as blocked or held; `bucket`, `dwell`, `dwellPer`: R186,
as (channel, bucket) per slot of dwell, and trv_period_ms; `mayTx`: R205 FOLLOW; `sinr`: by member, SINR as a power ratio in 2^-16, frames measured and `Tim.now` at the last (R196); `floor`, `floorAt`:
R187; `bcnPeriod`: the reference period of the last beacon; `depth`, `root`: R200, R201; `exch`: R199, `exchDone`: tried in epoch `epochSeen`;
`joinLeft`, `leaveLeft`: frames still to send and, for LEAVE, `Tim.now` at the command (R205); `asm`: R204; `rxPort`, `beaconPort`: ports of the
last frame and of the reference's last beacon (R113); `rest`: the transceiver rests (R91); `txUntil`: TB0 ns at which the frame on the air ends;
`hold0`: until when a wake-up frame holds radio 0 off, `wurQueue`, `wurSent`: frames waiting, and those sent as (time, duration) (R209);
`rdvT`, `rdvSpan`, `rdvNext`: T in TB0 ns, S in ns and the time of the next calling frame (R210); `senseK`: the k drawn for the next frame, `rxEnd`: TB0 ns at which the last
frame heard ended (R195); `scanAt`: `Tim.now` as the scanned channel was taken (R205); `adjust`: Hz built into the retune of this slot, `bcnSlots`: the beacon slot in which each member's
last beacon came (R144); `wurCh`: the WUR channel of the last wake-up frame sent (R207); `wurPort`, `wurEnd`: the port that held the last wake-up frame received, and `Tim.now` at its end (R114). -/
structure Trv where
  session : Nat
  seq : Nat
  keys : List (List Byte)
  next : Option (Nat × Nat × Nat)
  skipped : Nat
  queue : List TFrame
  sentInSlot : Bool
  slotLost : Bool
  wurSlot : Bool
  blockedNoted : Bool
  bucket : Nat
  dwell : List (Nat × Nat)
  dwellPer : Nat
  mayTx : Bool
  sinr : List (Nat × Nat × Nat × Nat)
  floor : List (Nat × Nat)
  floorAt : List (Nat × Nat)
  bcnPeriod : Option Nat
  depth : Nat
  root : Nat
  exch : Option Exchange
  exchDone : Bool
  epochSeen : Nat
  joinLeft : Nat
  leaveLeft : Nat
  leaveAt : Nat
  asm : List Assembly
  rxPort : Nat
  beaconPort : Nat
  rest : Bool
  txUntil : Nat
  hold0 : Nat
  wurQueue : List WurFrame
  wurSent : List (Nat × Nat)
  rdvT : Nat
  rdvSpan : Nat
  rdvNext : Nat
  senseK : Option Nat
  rxEnd : Nat
  scanAt : Nat
  adjust : Int
  bcnSlots : List (Nat × Nat)
  wurCh : Nat
  wurPort : Nat
  wurEnd : Nat
deriving DecidableEq, Repr

/-- The Traverse after a package reset: domain keys zeroised (R193). -/
def Trv.reset : Trv where
  session := 0
  seq := 0
  keys := List.replicate 2 (List.replicate 16 0#8)
  next := none
  skipped := 0
  queue := []
  sentInSlot := false
  slotLost := false
  wurSlot := false
  blockedNoted := false
  bucket := 0
  dwell := []
  dwellPer := 0
  mayTx := false
  sinr := []
  floor := []
  floorAt := []
  bcnPeriod := none
  depth := 0
  root := 0
  exch := none
  exchDone := false
  epochSeen := 0
  joinLeft := 0
  leaveLeft := 0
  leaveAt := 0
  asm := []
  rxPort := 0
  beaconPort := 0
  rest := true
  txUntil := 0
  hold0 := 0
  wurQueue := []
  wurSent := []
  rdvT := 0
  rdvSpan := 0
  rdvNext := 0
  senseK := none
  rxEnd := 0
  scanAt := 0
  adjust := 0
  bcnSlots := []
  wurCh := 0
  wurPort := 0
  wurEnd := 0

/-! ### Packets, routes and flows (R246 to R283) -/

/-- A parse record (R253): the fields by code, META and NEXTHOP apart; the L3 and L4 kinds of META, outer and inner; TUNNEL; the offsets of the outer
L3 and L4 headers; the offset of what a tunnel carries and its EtherType (0x6558 = Ethernet); the offset of the header embedded in an ICMP error. -/
structure PRec where
  fields : List (Nat × List Byte)
  l3 : Nat
  l4 : Nat
  l3i : Nat
  l4i : Nat
  tunnel : Bool
  l3Off : Nat
  l4Off : Nat
  inner : Nat
  innerType : Nat
  err : Option Nat
deriving DecidableEq, Repr

/-- Where a packet leaves to (R289): an Ethernet port, a station, a host queue, the group queue of radio n and BSS t. -/
inductive Dest where
  | eth (p : Nat)
  | sta (st : Nat)
  | host (q : Nat)
  | group (n t : Nat)
deriving DecidableEq, Repr

/-- The step of R247 that a packet waits for. `meter` holds words 13 and 14 and the index of the rule that polices it; `await`: the packet waits for the
connection that packet `creator` creates (R274); `recirc`: DECAP or RECIRC (R271); `done`: it waits for its release (R248). -/
inductive PktStage where
  | fresh
  | classify
  | meter (egress : Bool) (w13 w14 : Word) (rule : Nat)
  | flow
  | route
  | create
  | await (creator : Nat)
  | egress
  | rewrite
  | recirc (decap : Bool)
  | done (d : Dest)
deriving DecidableEq, Repr

/-- A packet: its number in order of arrival, its bytes, source and PASS (R246, R247), station (0xFFFF = none), MACSEC, receive stamp; its parse record,
hash, indirection entry, PKT role and host queue; the classes of R288 by rule of egress, ingress and by connection; NO_FLOW; the NAT pool; the next hop;
the translation of its connection as (reply, XADDR, XPORT); the reason, detail, rule and next hop that a host queue reports; the transmit stamp asked for
as (time base, identifier); PROTECT of a management frame and whether it is one; its stage; whether it lies in the spill area (R291); whether a cell of it is lost
(R346); whether the token that brings the result it waits for has entered the input queue of its role (R46). -/
structure Pkt where
  id : Nat
  bytes : List Byte
  source : Nat
  pass : Nat
  station : Nat
  macsec : Bool
  stamp : Option Stamp
  rcd : PRec
  hash : Nat
  entry : Nat
  role : Nat
  hostQ : Nat
  ecls : Option Nat
  icls : Option Nat
  fcls : Option Nat
  noFlow : Bool
  nat : Option Nat
  nexthop : Nat
  xlate : Option (Bool × Word × Nat)
  reason : Nat
  detail : Nat
  rule : Nat
  txStamp : Option (Nat × Nat)
  protect : Bool
  mgmt : Bool
  stage : PktStage
  spilled : Bool
  bad : Bool
  result : Bool
deriving DecidableEq, Repr

/-- A pending create (R274): the packet that creates, the two keys, the two places and the two entries as words; in CACHE_ONLY operation the
places are none. -/
structure PendCreate where
  creator : Nat
  keyO : List Byte
  keyR : List Byte
  idxO : Nat
  idxR : Nat
  wordsO : List Word
  wordsR : List Word
deriving DecidableEq, Repr

/-- A touch on its way (R277): the entry, its key, the packet's length and TCP flags. -/
structure Touch where
  idx : Nat
  key : List Byte
  len : Nat
  flags : Nat
deriving DecidableEq, Repr

/-- A flow-cache entry (R273). -/
structure CacheEnt where
  index : Nat
  nat : Bool
  dir : Bool
  age : Nat
  sig : Nat
  xaddr : Word
  xport : Nat
  nexthop : Nat
deriving DecidableEq, Repr

/-- The state of chapter "Parsing, classification, routing and flows" that no register shows: packets waiting for the parser, packets in the PKT roles,
packets on their way to a queue (tokens of the QSC roles), the next packet number, the routes as (prefix, length, next hop), the result of the route
command running as (RESULT, FOUND_LENGTH, FOUND_NEXTHOP), the pending-create table, touches, the flow cache by set, most recently used first,
whether the FLUSH running removes STATIC connections, the range comparators as committed (W0, W1) (R264), and the reply entries whose next hop is
DROP for want of a route back (R274). -/
structure Path where
  ingress : List Pkt
  inRole : List Pkt
  toQueue : List Pkt
  nextId : Nat
  routes4 : List (Nat × Nat × Nat)
  routes6 : List (Nat × Nat × Nat)
  cmd : Option (Nat × Nat × Nat)
  pend : List PendCreate
  touches : List Touch
  cache : List (Nat × List CacheEnt)
  flushStatic : Bool
  ranges : List (Nat × Word × Word)
  noReply : List Nat
deriving DecidableEq, Repr

/-! ### Queues, shapers and policers (R284 to R308) -/

/-- A shaper or policer as committed (R297, R305): RATE, BURST, VALID, tokens in 2^-16 byte, and the microsecond clock at its last refill. -/
structure Bucket where
  rate : Nat
  burst : Nat
  valid : Bool
  tokens : Int
  last : Nat
deriving DecidableEq, Repr

/-- The state of chapter "Queueing, fair scheduling, shaping and policing" that no register shows: packets by queue index (R285), V by scheduler and F by
scheduler × 65,536 + child (R293), both by record index and 0 where unlisted, shapers and policers as committed, the MPDUs that AIR roles hold as (radio,
queue, packet) (R290), stations being flushed (R304), stations whose home moves (R287), the roots with a wake-up armed (R297), and spilling stopped until
device start (R291), and the packets that the host root has sent to receive rings as (ring, packet, bytes written) (R325). -/
structure Que where
  qs : List (Nat × List Pkt)
  vt : List (Nat × Nat)
  ft : List (Nat × Nat)
  shapers : List (Nat × Bucket)
  policers : List (Nat × Bucket)
  air : List (Nat × Nat × Pkt)
  flushing : List Nat
  moving : List Nat
  armed : List Nat
  spillGone : Bool
  toHost : List (Nat × Pkt × Nat)
deriving DecidableEq, Repr

/-! ### Ethernet ports (R309 to R317) -/

/-- A port: for each class the pause in force as the times of `Tim.now` between which it holds (R314), whether the FIFO has risen above XOFF and not
yet fallen below XON (R315), `Tim.now` at the last pause frame sent, whether the port is lost until device start (R440), and whether a write has just taken the link
down, with the frame then being received not yet reported (R310). -/
structure Port where
  pause : List (Option (Nat × Nat))
  above : Bool
  sentAt : Nat
  lost : Bool
  cut : Bool
deriving DecidableEq, Repr

/-! ### Memories (R337 to R367) -/

/-- A DRAM request (R359): client port, byte address of its 64-byte line, the bytes of a write, `Tim.now` at its arrival. -/
structure DReq where
  port : Nat
  addr : Nat
  data : Option (List Byte)
  at_ : Nat
deriving DecidableEq, Repr

/-- The state of chapter "On-chip memories and the DDR5 controller" that no register shows: the DRAM bytes (zero where unlisted, R353), requests waiting,
reads whose data has not returned, open rows as ((subchannel, bank, row), `Tim.now` at the last hit) (R360), the retry buffer, newest first (R363), `Tim.now` at the parity alerts as (subchannel,
time), consecutive cool readings by subchannel, packet-buffer banks fenced, `Tim.now` at the last cell error by bank, the retained banks as (role code,
scratchpad) from the entry to Deep until the restore (R348, R350), the read that stopped the controller in freeze mode (R364), the dram_rate that the training ended at this start was asked for (R353), and the level of DRAM_RESET_n (R468). -/
structure Mem where
  dram : List Host.Cell
  reqs : List DReq
  flight : List DReq
  rows : List ((Nat × Nat × Nat) × Nat)
  retry : List DReq
  alerts : List (Nat × Nat)
  cool : List Nat
  fenced : List Nat
  cellErr : List (Nat × Nat)
  retained : Option (List (Nat × Nat))
  failing : Option DReq
  trained : Option Nat
  resetN : Bool
deriving DecidableEq, Repr

/-- No parse record. -/
def PRec.empty : PRec := ⟨[], 0, 0, 0, 0, false, 0, 0, 0, 0, none⟩

/-- A packet not yet numbered or parsed. -/
def Pkt.fresh (bytes : List Byte) (source : Nat) : Pkt where
  id := 0
  bytes := bytes
  source := source
  pass := 0
  station := 0xFFFF
  macsec := false
  stamp := none
  rcd := PRec.empty
  hash := 0
  entry := 0
  role := 0
  hostQ := 0
  ecls := none
  icls := none
  fcls := none
  noFlow := false
  nat := none
  nexthop := 0
  xlate := none
  reason := 0
  detail := 0
  rule := 0
  txStamp := none
  protect := false
  mgmt := false
  stage := .fresh
  spilled := false
  bad := false
  result := false

/-- Chapter 8 after a package reset. -/
def Path.reset : Path := ⟨[], [], [], 0, [], [], none, [], [], [], false, [], []⟩

/-- Chapter 9 after a package reset. -/
def Que.reset : Que := ⟨[], [], [], [], [], [], [], [], [], false, []⟩

/-- A port after a package reset. -/
def Port.reset : Port := ⟨List.replicate 8 none, false, 0, false, false⟩

/-- Chapter 11 after a package reset. -/
def Mem.reset : Mem := ⟨[], [], [], [], [], [], [0, 0], [], [], none, none, none, false⟩


/-! ### Keys, ciphers, signatures and check units (R368 to R397) -/

/-- A key slot (R368, R372, R374, R375): its key and cipher, its key ID, the next transmit packet number (for a MACsec receive SA the next number
expected), the receive packet numbers, TX, the flags of R374 and R378, PARTNER, RADIO and BSS. -/
structure KeySlot where
  valid : Bool
  cipher : Nat
  keyid : Nat
  key : List Byte
  pn : Nat
  rx : List Nat
  tx : Bool
  exhausted : Bool
  near : Bool
  fault : Bool
  partner : Nat
  partnerEn : Bool
  radio : Nat
  bss : Nat
deriving DecidableEq, Repr

/-- An entry of a check unit's FIFO (R390). -/
inductive ChkEntry where
  | data (bs : List Byte)
  | value (v : Word)
  | ctrl (v : Word)
  | poly (v : Word)
  | init (v : Word)
  | xorout (v : Word)
deriving DecidableEq, Repr

/-- A check unit (R389, R390): its FIFO, the picoseconds spent on the first entry, the running value, and the settings in force. -/
structure ChkUnit where
  fifo : List ChkEntry
  spent : Nat
  value : Nat
  ctrl : Word
  poly : Word
  init : Word
  xorout : Word
deriving DecidableEq, Repr

/-- A Seal job as taken by GO (R381). -/
structure SealJob where
  decrypt : Bool
  key : List Byte
  iv : List Byte
  aadLen : Nat
  inLen : Nat
  outAddr : Nat
  tag : List Byte
deriving DecidableEq, Repr

/-- The state of chapter "Keys, ciphers, signatures and check units" that no register shows: slots by class × 8,192 + index, the identity key pair in
fuses as (public, private) (R386), the fuse operation running as (OP, SLOT, staged hash), the statement being signed (R387), the Seal job running,
whether its release waits for its end, `Tim.now` at the last write of a SEAL_ register (R380), and the check units. -/
structure Sec where
  slots : List (Nat × KeySlot)
  idKey : Option (List Byte × List Byte)
  fuse : Option (Nat × Nat × List Byte)
  signing : Option (List Byte)
  sealJob : Option SealJob
  sealRelease : Bool
  sealAt : Nat
  checks : List ChkUnit
deriving DecidableEq, Repr

/-- An empty slot. -/
def KeySlot.blank : KeySlot := ⟨false, 0, 0, [], 0, [], false, false, false, false, 0, false, 0, 0⟩

/-- A check unit after a reset. -/
def ChkUnit.reset : ChkUnit := ⟨[], 0, 0, 0#32, 0#32, 0#32, 0#32⟩

/-- Keys after a package reset: every slot zeroised (R368). -/
def Sec.reset : Sec := ⟨[], none, none, none, none, false, 0, List.replicate 4 .reset⟩

/-! ### What leaves the device -/

/-- What a subcarrier carries in one symbol (R129): its amplitudes on the I and the Q axis in units of 1 / √norm of the unit average power. -/
structure Iq where
  i : Int
  q : Int
  norm : Nat
deriving DecidableEq, Repr

/-- The end statuses of transmitted and refused frames (R82, R94, R110, R111, R374, R376). -/
inductive FrameStatus where
  | complete | late | regLimit | coexCut | synthCut | coexDenied | noKey | pnExhausted
deriving DecidableEq, Repr

/-- What a command sends out of the device, newest first in `State.out`: the model's own record, no register of the manual. -/
inductive Out where
  /-- The value a register read returns to its master. -/
  | readData (m : Master) (off : Nat) (v : Word)
  /-- An MSI-X message of a vector (R327). -/
  | msix (v : Nat)
  /-- The end status of radio n's frame `tag`, as its AIR role sees it (R82, R94, R111). -/
  | frameStatus (n tag : Nat) (st : FrameStatus)
  /-- A 16-byte event record written to the event ring (R326). -/
  | eventRecord (off bit ns sec : Nat)
  /-- An external effect of a committed token of role code c (R48, R57). -/
  | effect (c : Nat) (bytes : List Byte)
  /-- A frame sent by port p, FCS included. -/
  | ethFrame (p : Nat) (bytes : List Byte)
  /-- Frame data written to host memory (R321). -/
  | hostData (addr : Nat) (bytes : List Byte)
  /-- A descriptor written back: ring (0 to 15 transmit, 16 to 31 receive, 32 events), entry, words (R321). -/
  | writeback (r entry : Nat) (words : List Word)
  /-- The users that a draw returns to radio n's AIR role, as (station, TID, bytes) (R301). -/
  | draw (n : Nat) (users : List (Nat × Nat × Nat))
  /-- An 802.11 frame that radio n transmits. -/
  | airFrame (n : Nat) (bytes : List Byte)
  /-- Radio n sends a Stipple PPDU (R127): the LENGTH of its L-SIG, its SSIG (R128), `Tim.now` at the sounding by whose feedback it is beamformed, and its data symbols, by symbol, stream
  and subcarrier (R130). Its U-SIG names PHY version 7. -/
  | stipple (n lsig : Nat) (ssig : List Byte) (beam : Option Nat) (data : List (List (List Iq)))
  /-- Radio n sends a frame of a span to a member as an EHT PPDU at this MCS and with these streams (R136). -/
  | ehtData (n peer mcs streams : Nat)
  /-- Radio n sends a PPDU to stations (R159, R161). -/
  | ppdu (n : Nat) (p : Ppdu)
  /-- Radio n sends a trigger frame (R160): BSRP or Basic, the stations addressed, the random-access resource units, the length of the TB PPDUs in ns. CS Required is 0 (R159). -/
  | trigger (n : Nat) (bsrp : Bool) (sts : List Nat) (ra len : Nat)
  /-- Radio n sends an MU-RTS trigger to an EMLSR station with `pad` ns of padding (R169). -/
  | muRts (n st pad : Nat)
  /-- A management MPDU that radio n sends for the first time: the sequence number that its AIR role gives it, the key slot and packet number that protect it, if any, as (class, index,
  number), and its bytes, which an FCS follows (R323, R373). -/
  | mgmtFrame (n seq : Nat) (key : Option (Nat × Nat × Nat)) (bytes : List Byte)
  /-- Radio n sounds its channel to a member (R127). -/
  | sounding (n peer : Nat)
  /-- Radio n's CTS-to-self, with its duration in µs (R163). -/
  | cts (n us : Nat)
  /-- A Traverse frame, header through tag (R188), with its antenna port (R113), its 26-bit PHY header (R182), its power in 0.25 dBm and its channel. -/
  | trvFrame (port phy power ch : Nat) (bytes : List Byte)
  /-- A wake-up frame on a WUR channel: identifier, sender, HDR or LDR, power in 0.25 dBm (R209). -/
  | wurFrame (ch id sender : Nat) (hdr : Bool) (power : Nat)
  /-- A BAR2 read of the line at this DRAM address that completes as a poisoned TLP (R361, R362). -/
  | poisoned (addr : Nat)
  /-- What the test port shifts out (R472). -/
  | tdo (bytes : List Byte)
deriving DecidableEq, Repr

/-! ### The whole state -/

/-- The state of the block: the BAR0 register file, then what no register shows, chapter by chapter. `rfuse`: the regulatory fuses; `out`: what the block
has sent out, newest first, the model's own record (DESIGN CHOICE, log 11); `fresh`: the counter that free values are drawn with, the model's own
(DESIGN CHOICE, log 9); `pending`: the commands that wait, first in, first out, the model's own (DESIGN CHOICE, log 1). -/
structure State where
  regs : RegFile
  tim : Tim
  chn : Chn
  phy : List Phy
  surveys : List Survey
  grt : Grt
  trv : Trv
  hst : Hst
  pwr : Pwr
  plt : Plt
  upd : Upd
  eng : Eng
  flt : Flt
  path : Path
  que : Que
  ports : List Port
  mem : Mem
  sec : Sec
  dbg : Dbg
  rfuse : RegFuses
  out : List Out
  fresh : Nat
  pending : List Instr
deriving DecidableEq, Repr

/-! ### Reset -/

/-- A time base that stands at zero and runs at RATE 0. -/
def TimeBase.zero : TimeBase := ⟨0, 0, 0, none, none, none, none⟩

/-- Chapter 7 after a package reset. -/
def Tim.reset : Tim :=
  ⟨List.replicate 8 .zero, false, false, 0, 0, [0, 0, 0], [], none, 0, 1, List.replicate 16 0, List.replicate 16 false,
    List.replicate 16 false, List.replicate 16 [], List.replicate 7 [], List.replicate 4 false, false, 0, 0, none, false, false, 0,
    0, 0, List.replicate 4 none, List.replicate 16 none, 0, false, false, []⟩

/-- The host interface after a package reset. -/
def Hst.reset : Hst := ⟨false, false, false, [], [], [], List.replicate 64 ⟨0, none⟩, List.replicate 33 ⟨0, false⟩, [], []⟩

/-- The power controller after a package reset. -/
def Pwr.reset : Pwr := ⟨.begun, false, none, 0, false, [], true, 0, [], none, List.replicate 7 ⟨false, false, false, none⟩ ++ [⟨true, false, false, none⟩], none, false, false, 0⟩

/-- The Plate loader after a package reset. -/
def Plt.reset : Plt := ⟨none, [], [], [[], [], []], [], [], [], false, false, []⟩

/-- The update after a package reset, over an erased flash. -/
def Upd.reset : Upd := ⟨none, none, none, [], [], 0, none, false, false⟩

/-- An engine after a package reset. -/
def Engine.reset : Engine := ⟨[], false, none, 0xFFFFFFFF#32⟩

/-- A role after a package reset. -/
def Role.reset : Role := ⟨[], 0, [], [], false, [], 0, none⟩

/-- The engine system after a package reset. -/
def Eng.reset : Eng := ⟨List.replicate 14 .reset, List.replicate 12 .reset, none, false, [], none, none⟩

/-- Fault handling after a package reset. -/
def Flt.reset : Flt := ⟨[], [], [], [], List.range 44⟩

/-- The machine right after a package reset (R428): every register at its reset value, nothing placed, nothing waiting. DESIGN CHOICE (log 4). DESIGN CHOICE (log 5). DESIGN CHOICE (log 110). -/
def State.reset : State where
  regs := []
  tim := .reset
  chn := .reset
  phy := List.replicate 3 .reset
  surveys := List.replicate 64 ⟨none, []⟩
  grt := .reset
  trv := .reset
  hst := .reset
  pwr := .reset
  plt := .reset
  upd := .reset
  eng := .reset
  flt := .reset
  path := .reset
  que := .reset
  ports := List.replicate 4 .reset
  mem := .reset
  sec := .reset
  dbg := .reset
  rfuse := .blank
  out := []
  fresh := 0
  pending := []

end Sys2Proof.Machine
end

