-- ==== Sys2Proof/Machine/Store.lean ====
section
/-! DEFINITION. The stores of the block: sorted lists of (key, value) pairs with a default for the keys not listed, the register file of BAR0
over them, and the reading and writing of register fields. -/

namespace Sys2Proof.Machine

/-- The entry of key `k`, if listed. -/
def kvGet {α : Type} : List (Nat × α) → Nat → Option α
  | [], _ => none
  | (a, x) :: t, k => if a = k then some x else kvGet t k

/-- The list with key `k` holding `o`: `none` leaves no entry. Keys keep rising. -/
def kvPut {α : Type} : List (Nat × α) → Nat → Option α → List (Nat × α)
  | [], _, none => []
  | [], k, some x => [(k, x)]
  | (a, y) :: t, k, o =>
    if a < k then (a, y) :: kvPut t k o
    else
      let rest := ((a, y) :: t).filter (fun e => e.1 != k)
      match o with
      | none => rest
      | some x => (k, x) :: rest

/-- Keys strictly rise. -/
def kvSorted {α : Type} : List (Nat × α) → Bool
  | [] => true
  | [_] => true
  | (a, _) :: (b, y) :: t => decide (a < b) && kvSorted ((b, y) :: t)

/-- Keys strictly rise and no entry holds its key's default. -/
def kvWf {α : Type} [DecidableEq α] (d : Nat → α) (l : List (Nat × α)) : Bool :=
  kvSorted l && l.all (fun e => decide (e.2 ≠ d e.1))

/-- Reading with a default. DESIGN CHOICE (log 14). -/
def kvRead {α : Type} (d : Nat → α) (l : List (Nat × α)) (k : Nat) : α := (kvGet l k).getD (d k)

/-- Writing, keeping the canonical form. DESIGN CHOICE (log 14). -/
def kvWrite {α : Type} [DecidableEq α] (d : Nat → α) (l : List (Nat × α)) (k : Nat) (x : α) : List (Nat × α) :=
  kvPut l k (if x = d k then none else some x)

/-! ### The register map -/

/-- Which repetition of `r` lies at offset `off`, as its three indices. -/
def RegSpec.at (r : RegSpec) (off : Nat) : Option (Nat × Nat × Nat) :=
  if off < r.base then none else
  let d := off - r.base
  let i := if r.s1 = 0 then 0 else min (d / r.s1) (r.n1 - 1)
  let d := d - i * r.s1
  let j := if r.s2 = 0 then 0 else min (d / r.s2) (r.n2 - 1)
  let d := d - j * r.s2
  let k := if r.s3 = 0 then 0 else min (d / r.s3) (r.n3 - 1)
  if d - k * r.s3 = 0 ∧ i < r.n1 ∧ j < r.n2 ∧ k < r.n3 then some (i, j, k) else none

/-- The record indices that R285 gives to nothing: 32,872 to 36,863 and 40,960. DESIGN CHOICE (log 23). -/
def reservedRecord (off : Nat) : Bool :=
  let i := (off - 0x800000) / 16
  decide (0x800000 ≤ off) && decide (off < 0x8C0000) && ((decide (32872 ≤ i) && decide (i < 36864)) || decide (i = 40960))

/-- The register at offset `off`; `none` where no block or window defines one (R332). -/
def regAt (off : Nat) : Option RegSpec := if reservedRecord off then none else (blockRegs off).find? (fun r => (r.at off).isSome)

/-- A word with value `v` in bits [lo + w - 1 : lo] and zeros elsewhere. -/
def fieldWord (lo w v : Nat) : Word := BitVec.ofNat 32 (v % 2 ^ w * 2 ^ lo)

/-- The bits of a word that a field covers. -/
def fieldMask (lo w : Nat) : Word := fieldWord lo w (2 ^ w - 1)

/-- A word with one field replaced. -/
def setField (x : Word) (lo w v : Nat) : Word := (x &&& ~~~(fieldMask lo w)) ||| fieldWord lo w v

/-- A field of a word. -/
def getField (x : Word) (lo w : Nat) : Nat := bits x.toNat lo w

/-- The reset word of a register as its field table gives it. DESIGN CHOICE (log 6). -/
def specReset (r : RegSpec) : Word := r.fields.foldl (fun x f => x ||| fieldWord f.lo f.w f.reset) 0#32

/-- The extracts of the four key profiles at reset (R260): field code, start, length, packed as CLS_PROFILE (R282). -/
def profileReset (k e : Nat) : Word :=
  let x (code start len : Nat) : Word := fieldWord 0 8 code ||| fieldWord 8 4 start ||| fieldWord 12 5 len
  let tab : List (List (Nat × Nat × Nat)) := [
    [(0x06, 12, 4), (0x07, 12, 4), (0x0D, 0, 2), (0x0E, 0, 2), (0x08, 0, 1), (0x13, 0, 2), (0x04, 0, 2), (0x03, 0, 2)],
    [(0x06, 0, 8), (0x07, 0, 8), (0x0D, 0, 2), (0x0E, 0, 2), (0x08, 0, 1), (0x13, 0, 2)],
    [(0x01, 0, 6), (0x02, 0, 6), (0x03, 0, 2), (0x04, 0, 2), (0x05, 0, 2), (0x13, 0, 2)],
    [(0x11, 0, 4), (0x26, 12, 4), (0x27, 12, 4), (0x2D, 0, 2), (0x2E, 0, 2), (0x28, 0, 1), (0x13, 0, 2)]]
  match (tab.getD k []).getD e (0, 0, 0) with
  | (c, st, l) => x c st l

/-- The reset value of word 0 of a queue, node or root record (R292). -/
def queueReset0 (i : Nat) : Word :=
  let w (weight : Nat) (spill : Nat) : Word := fieldWord 0 13 weight ||| fieldWord 27 1 spill
  if i < 32768 then
    let t := i % 8
    w (if t = 6 ∨ t = 7 then 2048 else if t = 4 ∨ t = 5 then 1024 else if t = 0 ∨ t = 3 then 512 else 128) 1
  else if i < 32800 then w 512 1
  else if i < 32816 then w 512 0
  else if 36864 ≤ i ∧ i < 40960 then w 512 0
  else 0#32

/-- The reset value of word 1 of a queue, node or root record (R292). -/
def queueReset1 (i : Nat) : Word :=
  if i < 32768 then 262144#32 else if i < 32800 then 2097152#32 else if i < 32816 then 1048576#32 else if i < 32864 then 131072#32 else 0#32

/-- Target and base priority of the DRAM client ports at reset (R359), as DRC_PORTk_CTRL holds them. -/
def portReset (k : Nat) : Word :=
  match [(10, 6), (40, 4), (10, 6), (200, 2), (20, 5), (20, 5), (100, 3), (400, 1), (2000, 0), (1000, 0)].getD k (0, 0) with
  | (t, p) => fieldWord 0 12 t ||| fieldWord 12 3 p

/-- What a register reads right after reset (each chapter's Reset column; 0 where nothing is mapped). Registers whose reset value depends
on their index come first. Values the manual takes from fuses, silicon, the Legend or the boot record are set when those are read. DESIGN CHOICE (log 6). PRESUMED (log 7). -/
def resetWord (off : Nat) : Word :=
  if off = A.CHN_SYNTH_STATUS 1 then 1#32 else
  if off = A.CHN_SYNTH_STATUS 2 then 2#32 else
  if off = A.CHN_SYNTH_STATUS 3 then 4#32 else
  if off = A.CMP_CTRL 13 then 0x188#32 else
  if off = A.CMP_CTRL 14 then 0x1C8#32 else
  if off = A.CMP_CTRL 15 then 0x208#32 else
  if off = A.CMP_PERIOD 13 ∨ off = A.CMP_PERIOD 14 ∨ off = A.CMP_PERIOD 15 then 100000000#32 else
  if 0x201100 ≤ off ∧ off < 0x201300 then profileReset ((off - 0x201100) % 128 / 32) ((off - 0x201100) % 32 / 4) else
  if 0x300000 ≤ off ∧ off < 0x300020 then
    BitVec.ofNat 32 (0x11111111 * ((off - 0x300000) / 4)) else
  if 0x3C0100 ≤ off ∧ off < 0x3C01A0 ∧ off % 16 = 0 then portReset ((off - 0x3C0100) / 16) else
  if 0x3F0000 ≤ off ∧ off < 0x3F0400 ∧ off % 16 = 12 then 1#32 else
  if 0x710400 ≤ off ∧ off < 0x732400 ∧ 0x400 ≤ (off - 0x710000) % 0x800 then
    let i := ((off - 0x710000) % 0x800 - 0x400) / 2
    let ent (i : Nat) : Nat := i % 4 + 4 * (i % 16)
    BitVec.ofNat 32 (ent i + 65536 * ent (i + 1)) else
  if 0x800000 ≤ off ∧ off < 0x8C0000 then
    let i := (off - 0x800000) / 16
    if off % 16 = 0 then queueReset0 i else if off % 16 = 4 then queueReset1 i else 0#32
  else
  match regAt off with
  | some r => specReset r
  | none => 0#32

/-! ### The register file -/

/-- The word at offset `off` of the register file. -/
def State.rd (s : State) (off : Nat) : Word := kvRead resetWord s.regs off

/-- The register file with `v` at offset `off`. -/
def State.wr (s : State) (off : Nat) (v : Word) : State := { s with regs := kvWrite resetWord s.regs off v }

/-- A field of a register, as a number. -/
def State.get (s : State) (f : Fld) : Nat := getField (s.rd f.off) f.lo f.w

/-- A field of a register set to a number (its low bits). -/
def State.put (s : State) (f : Fld) (v : Nat) : State := s.wr f.off (setField (s.rd f.off) f.lo f.w v)

/-- A field at 1. -/
def State.isSet (s : State) (f : Fld) : Bool := s.get f == 1

/-- A counter advanced by `n`, saturating at all ones (R9). -/
def State.count (s : State) (off : Nat) (n : Nat) : State := s.wr off (BitVec.ofNat 32 (min ((s.rd off).toNat + n) 0xFFFFFFFF))

/-- A counter advanced by one, saturating (R9). -/
def State.bump (s : State) (off : Nat) : State := s.count off 1

/-- A narrower counting field advanced by one, saturating at all ones (R9). -/
def State.bumpField (s : State) (f : Fld) : State := s.put f (min (s.get f + 1) (2 ^ f.w - 1))

/-- A field raised to `v` where it holds less. -/
def State.putMax (s : State) (f : Fld) (v : Nat) : State := if s.get f < v then s.put f v else s

end Sys2Proof.Machine
end

