-- ==== Sys2Proof/Machine/Ops.lean ====
section
/-! DEFINITION. The operations every chapter shares: the present time of TB0, events of rising W1C bits, packed locations, the fault record, and
the gate that a register access passes. -/

namespace Sys2Proof.Machine

/-- What a command answers. -/
abbrev Res := Host.Outcome State Fault Refusal

/-! ### Free values -/

/-- A truth value the spec leaves open. DESIGN CHOICE (log 106). -/
def State.freeB (s : State) : Bool × State := (Config.freeBool s.fresh, { s with fresh := s.fresh + 1 })

/-- A word the spec leaves open. DESIGN CHOICE (log 106). -/
def State.freeW (s : State) : Word × State := (Config.freeWord s.fresh, { s with fresh := s.fresh + 1 })

/-- A number the spec leaves open. DESIGN CHOICE (log 106). -/
def State.freeN (s : State) : Nat × State := (Config.freeNat s.fresh, { s with fresh := s.fresh + 1 })

/-- An integer the spec leaves open. -/
def State.freeInt (s : State) : Int × State :=
  ((Config.freeNat s.fresh : Int) - (Config.freeNat (s.fresh + 1) : Int), { s with fresh := s.fresh + 2 })

/-! ### The balls (R473) -/

/-- R473: EXTEST, CLAMP or HIGHZ is selected: every ball is taken from its device function. DESIGN CHOICE (log 108). -/
def State.ballsTaken (s : State) : Bool :=
  match s.dbg.instr with
  | .extest | .clamp | .highz => true
  | _ => false

/-! ### Time of TB0 -/

/-- 2^48: the units of a time base in one nanosecond (R216). -/
def unitsPerNs : Nat := 2 ^ 48

/-- Nanoseconds in a second. -/
def nsPerS : Nat := 1000000000

/-- The nanoseconds that TB0 reads, seconds included. -/
def State.tb0Ns (s : State) : Nat :=
  match s.tim.tb with
  | b :: _ => b.t / unitsPerNs
  | [] => 0

/-! ### Events (R326) -/

/-- The number of entries of ring `r` that the host has posted and the device has not taken (R321). -/
def State.posted (s : State) (r : Nat) : Nat :=
  let size := 2 ^ s.get (F.HDM_RING_CTRL_LOG2_SIZE r)
  (s.get (F.HDM_RING_IDX_TAIL r) + size - s.get (F.HDM_RING_IDX_HEAD r) % size) % size

/-- The event ring's index among the rings. -/
def eventRing : Nat := 32

/-- A W1C bit rises (R326): where its block is enabled a record waits for the event ring, or is lost when no record is posted for it. DESIGN CHOICE (log 24). -/
def State.noteRise (s : State) (off b : Nat) : State :=
  let blk := off / 0x10000
  if blk < 64 ∧ bit (s.rd (A.HDM_EVT_BLOCKS (blk / 32))).toNat (blk % 32) then
    if s.isSet (F.HDM_RING_CTRL_EN eventRing) ∧ s.hst.evtWait.length < s.posted eventRing then
      let t := s.tb0Ns
      { s with hst := { s.hst with evtWait := s.hst.evtWait ++ [⟨off, b, t % nsPerS, t / nsPerS % 2 ^ 32⟩] } }
    else (s.bump A.HDM_EVT_LOST).put F.HDM_EVT_STATUS_LOST 1
  else s

/-- Hardware sets a W1C bit; a rise from 0 to 1 is an event (R326). DESIGN CHOICE (log 24). -/
def State.raise (s : State) (f : Fld) : State := if s.isSet f then s else (s.put f 1).noteRise f.off f.lo

/-! ### Locations (R2 to R5) -/

/-- The region codes of R3. -/
inductive Region where
  | ctl | eng | pkt | bbd | rfe
deriving DecidableEq, Repr

/-- R3. -/
def Region.code : Region → Nat
  | .ctl => 0 | .eng => 1 | .pkt => 2 | .bbd => 3 | .rfe => 4

/-- R3: the die a region lies on. -/
def Region.die : Region → Nat
  | .rfe => 1 | _ => 0

/-- R2. DESIGN CHOICE (log 26). -/
def packLoc (member : Nat) (r : Region) (cluster unit : Nat) : Word :=
  BitVec.ofNat 32 (member % 1024 * 2 ^ 22 + r.die * 2 ^ 21 + r.code * 2 ^ 18 + cluster % 256 * 2 ^ 10 + unit % 1024)

/-- The packed location of a unit of this device: member 0 while it has not joined a domain (R2); a device in FOLLOW, which has heard its domain, counts as having joined
it, one in SCAN does not. DESIGN CHOICE (log 26). -/
def State.loc (s : State) (r : Region) (cluster unit : Nat) : Word :=
  packLoc (if s.get F.TRV_STATUS_DOMAIN < 2 then 0 else s.get F.TRV_MEMBER_MEMBER) r cluster unit

/-- R5: no fault. -/
def noLoc : Word := 0xFFFFFFFF#32

/-! ### The fault record (R444, R445) -/

/-- Moves the present record to the most recent one, adding `over` to its flags. -/
def State.fltShift (s : State) (doneBit overlap : Bool) : State :=
  let info := (s.rd A.GLB_FLT_PRESENT_INFO).toNat
  let s := s.wr A.GLB_FLT_LAST_LOC (s.rd A.GLB_FLT_PRESENT_LOC)
  let s := s.wr A.GLB_FLT_LAST_INFO (BitVec.ofNat 32 info)
  let s := if doneBit then s.put F.GLB_FLT_LAST_INFO_DONE 1 else s
  let s := if overlap then s.put F.GLB_FLT_LAST_INFO_OVERLAP 1 else s
  let s := s.wr A.GLB_FLT_LAST_S (s.rd A.GLB_FLT_PRESENT_S)
  let s := s.wr A.GLB_FLT_LAST_NS (s.rd A.GLB_FLT_PRESENT_NS)
  let s := s.wr A.GLB_FLT_PRESENT_LOC noLoc
  let s := s.wr A.GLB_FLT_PRESENT_INFO 0#32
  let s := s.wr A.GLB_FLT_PRESENT_S 0#32
  let s := s.wr A.GLB_FLT_PRESENT_NS 0#32
  s.put F.GLB_FLT_STATUS_PRESENT 0

/-- A most recent record is held. -/
def State.lastHeld (s : State) : Bool := s.rd A.GLB_FLT_LAST_LOC != noLoc

/-- The class codes of the fault record (after R445). -/
inductive FaultClass where
  | onChip | engine | synth | chain | fbrx | phase | lane | dramDevice | dramLine | cluster | clock | retention | serdes
deriving DecidableEq, Repr

/-- See `FaultClass`. -/
def FaultClass.code : FaultClass → Nat
  | .onChip => 1 | .engine => 2 | .synth => 3 | .chain => 4 | .fbrx => 5 | .phase => 6 | .lane => 7 | .dramDevice => 8 | .dramLine => 9
  | .cluster => 10 | .clock => 11 | .retention => 12 | .serdes => 13

/-- A detected fault fills the present record, displacing the earlier ones (R444). `outcome`: 0 masked, 1 degraded, 2 function lost. While the package
is Off or held in reset there is no record. DEDUCED (log 25). -/
def State.faultRecord (s : State) (c : FaultClass) (outcome cause : Nat) (loc : Word) (us : Nat) : State :=
  if s.pwr.stage ≠ .up then s else
  let s := if s.isSet F.GLB_FLT_STATUS_PRESENT then
      let s := if s.lastHeld then s.bump A.GLB_FLT_LOST else s
      s.fltShift false true
    else s
  let t := s.tb0Ns
  let s := s.wr A.GLB_FLT_PRESENT_LOC loc
  let s := s.wr A.GLB_FLT_PRESENT_INFO (fieldWord 0 4 c.code ||| fieldWord 4 2 outcome ||| fieldWord 8 4 cause ||| fieldWord 12 16 (min us 0xFFFF))
  let s := s.wr A.GLB_FLT_PRESENT_S (BitVec.ofNat 32 (t / nsPerS))
  let s := s.wr A.GLB_FLT_PRESENT_NS (BitVec.ofNat 32 (t % nsPerS))
  let s := s.put F.GLB_FLT_STATUS_PRESENT 1
  let s := s.bump (A.GLB_FLT_COUNT c.code)
  s.raise F.GLB_FLT_STATUS_EVENT

/-- Handling of the fault at `loc` ends (R444): DONE sets and the present record moves to most recent; a record displaced before its end takes
DONE where it stands. -/
def State.faultDone (s : State) (loc : Word) : State :=
  if s.isSet F.GLB_FLT_STATUS_PRESENT ∧ s.rd A.GLB_FLT_PRESENT_LOC = loc then s.fltShift true false
  else if s.lastHeld ∧ s.rd A.GLB_FLT_LAST_LOC = loc then s.put F.GLB_FLT_LAST_INFO_DONE 1
  else s

/-- The duration and outcome of a record changed while its fault is being handled, where it stands present or displaced. DEDUCED (log 25). -/
def State.faultUpdate (s : State) (loc : Word) (outcome us : Nat) : State :=
  if s.isSet F.GLB_FLT_STATUS_PRESENT ∧ s.rd A.GLB_FLT_PRESENT_LOC = loc then
    (s.put F.GLB_FLT_PRESENT_INFO_OUTCOME outcome).put F.GLB_FLT_PRESENT_INFO_INTERRUPT_US (min us 0xFFFF)
  else if s.lastHeld ∧ s.rd A.GLB_FLT_LAST_LOC = loc ∧ !s.isSet F.GLB_FLT_LAST_INFO_DONE then
    (s.put F.GLB_FLT_LAST_INFO_OUTCOME outcome).put F.GLB_FLT_LAST_INFO_INTERRUPT_US (min us 0xFFFF)
  else s

/-- A fault whose handling ends at once (R444). DEDUCED (log 25). -/
def State.faultNow (s : State) (c : FaultClass) (outcome cause : Nat) (loc : Word) (us : Nat) : State :=
  (s.faultRecord c outcome cause loc us).faultDone loc

/-! ### The gate of a register access (R14, R329, R332, R420, R479) -/

/-- The Plate is in service (R43). -/
def State.inService (s : State) : Bool := s.get F.PLT_STATUS_STATE == 4

/-- Offsets of the GLB_, PWR_ and PLT_ blocks, open before service (R14). -/
def openEarly (off : Nat) : Bool := off < 0x20000 || (0x30000 ≤ off && off < 0x40000)

/-- Offsets of the PWR_ block. -/
def inPwr (off : Nat) : Bool := 0x10000 ≤ off && off < 0x20000

/-- Offsets that the secondary host may not reach (R329): KEY_, SEAL_, CHK_, PLT_, HDM_ and the MSI-X area. -/
def secondaryForbidden (off : Nat) : Bool :=
  (0x80000 ≤ off && off < 0xA0000) || (0xC0000 ≤ off && off < 0xD0000) || (0x30000 ≤ off && off < 0x40000) ||
    (0x3E0000 ≤ off && off < 0x400000)

/-- Offsets that a master may not reach at all: R329 for the secondary host; the KEY_ and SEAL_ blocks, the domain key slots and the MSI-X area for the
stylus (R479). -/
def forbiddenTo (m : Master) (off : Nat) : Bool :=
  match m with
  | .pcie => false
  | .secondary => secondaryForbidden off
  | .stylus => (0x80000 ≤ off && off < 0xA0000) || (0x1E0040 ≤ off && off < 0x1E0060) || (0x3F0000 ≤ off && off < 0x400000)

/-- What becomes of an access before it reaches a register. -/
inductive Gate where
  /-- It reaches its register. -/
  | pass
  /-- Before service, outside the open blocks: a read returns 0, a write is discarded and counted (R14). -/
  | early
  /-- Forbidden to the master: nothing done (R329). -/
  | forbidden
  /-- Held until the return from Sleep (after R420). -/
  | held
  /-- The device is not there to answer: in reset, in Off, in Deep (R411, R428). -/
  | dead
deriving DecidableEq, Repr

/-- The device answers register accesses: a start has passed its step 3 (R429) and the part is not in Deep (R411). -/
def State.answers (s : State) : Bool :=
  s.pwr.stage == .up && !((s.get F.PWR_STATUS_STATE == 4 || s.get F.PWR_STATUS_STATE == 5) && s.get F.PWR_STATUS_TARGET == 2)

/-- The part rests in Sleep or is on its way back from it. -/
def State.asleep (s : State) : Bool :=
  (s.get F.PWR_STATUS_STATE == 4 || s.get F.PWR_STATUS_STATE == 5) && s.get F.PWR_STATUS_TARGET == 1

/-- R416: the cluster at a position of R415 has been asked and is stopping, until release or the return to Run. -/
def State.stopping (s : State) (pos : Nat) : Bool := s.isSet F.PWR_STATUS_STOPPING && decide (pos ≤ s.pwr.asked)

/-- The gate of an access. -/
def State.gate (s : State) (m : Master) (off : Nat) : Gate :=
  if !s.answers then .dead
  else if s.asleep && !inPwr off && m == .pcie then .held
  else if !s.inService && !openEarly off then .early
  else if forbiddenTo m off then .forbidden
  else .pass

/-- A value returned to a master. -/
def State.answer (s : State) (m : Master) (off : Nat) (v : Word) : State := { s with out := .readData m off v :: s.out }

/-- Master `m`'s read latches hold these words until their lowest word is read again (R10). DEDUCED (log 17). -/
def State.latch (s : State) (m : Master) (ws : List (Nat × Word)) : State :=
  let keep := s.hst.latches.filter (fun l => !(l.m == m && ws.any (fun w => w.1 == l.off)))
  { s with hst := { s.hst with latches := keep ++ ws.map (fun w => ⟨m, w.1, w.2⟩) } }

/-- The latched word of master `m` at `off`, if its lowest word has been read (R10). -/
def State.latched (s : State) (m : Master) (off : Nat) : Option Word :=
  (s.hst.latches.find? (fun l => l.m == m && l.off == off)).map (fun l => l.val)

/-- A host write of `v` to `off` whose effect is `op`, through the gate. -/
def State.hostWrite (s : State) (m : Master) (off : Nat) (v : Word) (op : State → State) : State :=
  match s.gate m off with
  | .pass => op s
  | .early => s.bump A.PLT_STRUCT_REJECT
  | .forbidden => s
  | .held => { s with hst := { s.hst with held := s.hst.held ++ [(m, off, some v)] } }
  | .dead => s

/-- A host read of `off` whose effect is `op` (which answers the value), through the gate. -/
def State.hostRead (s : State) (m : Master) (off : Nat) (op : State → State) : State :=
  match s.gate m off with
  | .pass => op s
  | .early => s.answer m off 0#32
  | .forbidden => s
  | .held => { s with hst := { s.hst with held := s.hst.held ++ [(m, off, none)] } }
  | .dead => s

/-! ### Writing a register by its field table (R7, R8) -/

/-- Every field that a write sets carries a value its rule allows. -/
def RegSpec.legal (r : RegSpec) (v : Word) : Bool :=
  r.fields.all fun f =>
    match f.acc with
    | .rw | .wo => let x := getField v f.lo f.w; f.min ≤ x && x ≤ f.max
    | _ => true

/-- The word after a write of `v` by the access types of R7: RW takes the value, a 1 clears W1C, the rest stands. A WO word written before the
write that commits it is kept for that commit; a WO command bit is not kept. `shown` lets neither be read back. -/
def RegSpec.written (r : RegSpec) (old v : Word) : Word :=
  r.fields.foldl (fun x f =>
    match f.acc with
    | .rw => setField x f.lo f.w (getField v f.lo f.w)
    | .wo => if f.w = 32 then v else x
    | .w1c => setField x f.lo f.w (getField (x &&& ~~~v) f.lo f.w)
    | _ => x) old

/-- The word of an RC read: every field of the register at its reset value (R7). -/
def RegSpec.cleared (r : RegSpec) (off : Nat) (old : Word) : Word :=
  r.fields.foldl (fun x f => setField x f.lo f.w (getField (resetWord off) f.lo f.w)) old

/-- The register has a field of access type RC. -/
def RegSpec.isRc (r : RegSpec) : Bool := r.fields.any (fun f => f.acc == .rc)

/-- What a read returns of a stored word: WO fields and reserved bits read 0 (R7, R8). -/
def RegSpec.shown (r : RegSpec) (x : Word) : Word :=
  r.fields.foldl (fun y f => if f.acc = .wo then y else y ||| fieldWord f.lo f.w (getField x f.lo f.w)) 0#32

/-- Limits that tie two fields together or are not a range of one field; each row is the rule that states it. -/
def crossLegal (off : Nat) (v : Word) : Bool :=
  let g (lo w : Nat) : Nat := getField v lo w
  if off = A.TRV_HOLD_CTRL then g 12 6 ≤ g 18 6                                        -- R179: GUARD_MAX from GUARD_MIN
  else if 0x380000 ≤ off ∧ off < 0x380100 ∧ off % 0x40 = 0x18 then g 16 16 < g 0 16    -- R334: XON below XOFF
  else if 0x380000 ≤ off ∧ off < 0x380100 ∧ off % 0x40 = 0x00 then
    g 5 2 ≤ 2 ∧ (off % 0x100 ≥ 0x80 → g 5 2 ≠ 2)                                       -- R334: RS-FEC for 25GBASE-R only
  else if 0x1C0080 ≤ off ∧ off < 0x1C008C then                                         -- R97: the T/R switch rests while the PA is on
    g 0 7 + 10 ≤ g 8 7 ∧ g 16 7 + 10 ≤ g 24 7
  else if 0x204000 ≤ off ∧ off < 0x205000 ∧ off % 16 = 8 then g 0 16 ≤ g 16 16         -- R283: PORT_HIGH from PORT_LOW
  else if off = A.TB_PPS_OFFSET then                                                   -- R243: ±500,000,000 ns
    -500000000 ≤ sint 32 v.toNat ∧ sint 32 v.toNat ≤ 500000000
  else if 0x20810 ≤ off ∧ off < 0x20A10 ∧ off % 0x20 = 0x10 then
    v.toNat = 0 ∨ 1000 ≤ v.toNat                                                       -- R228: 0 or 1,000 ns upward
  else if 0x20400 ≤ off ∧ off < 0x20600 ∧ off % 0x20 = 0 then g 0 5 ≤ 21               -- R226: other codes are reserved
  else if 0x300020 ≤ off ∧ off < 0x300030 then -64 ≤ sint 9 (g 0 9)                    -- R308: −64 to +255
  else if 0x3E0000 ≤ off ∧ off < 0x3E0210 ∧ off % 16 = 0 then g 0 12 = 0               -- R336: 4 KiB-aligned
  else if off = A.HDM_BAR2_BASE_LO then g 0 26 = 0                                     -- R336: bits [25:0] 0
  else true

/-- A plain write by the field table: a value outside its range is discarded whole and counted where the chapter names a counter; otherwise
the fields take it by their access types. -/
def State.tableWrite (s : State) (off : Nat) (v : Word) : State :=
  match regAt off with
  | none => s.bump A.GLB_UNMAPPED_WRITE
  | some r =>
    if r.legal v && crossLegal off v then s.wr off (r.written (s.rd off) v)
    else if r.reject = 0 then s else s.bump r.reject

end Sys2Proof.Machine
end

