-- ==== Sys2Proof/Machine/Legend.lean ====
section
/-! DEFINITION. The fields of the Legend in force (R27), read from its 512 bytes. -/

namespace Sys2Proof.Machine

/-- A Legend field of `w` bytes at `off`, in the bytes of a Legend. -/
def legAt (bs : List Byte) (off w : Nat) : Nat := leAt bs off w

/-- A Legend field in force. -/
def State.leg (s : State) (off w : Nat) : Nat := legAt s.plt.legend off w

/-- R27: the radio served by a chain; 0xFF = unassigned. -/
def State.chainRadio (s : State) (c : Nat) : Nat := s.leg (0x008 + c) 1
/-- R27, R79: the synthesiser that serves radio n. -/
def State.legendSynth (s : State) (n : Nat) : Nat := s.leg (0x018 + n) 1
/-- R27: bit k of radio_enable. -/
def State.radioEnable (s : State) (k : Nat) : Bool := bit (s.leg 0x01B 1) k
/-- R27: the regulatory profile of the Legend. -/
def State.regProfile (s : State) : Nat := s.leg 0x01C 1
/-- R27: every role journals to its counterproof ledger. -/
def State.counterproof (s : State) : Bool := s.leg 0x01D 1 == 1
/-- R27. -/
def State.dramOrder (s : State) : Nat := s.leg 0x01E 1
/-- R27: the engines preferred by role code c (1 to 12). -/
def State.rolePref (s : State) (c : Nat) : Nat := s.leg (0x020 + 2 * (c - 1)) 2
/-- R27, R29. -/
def State.portMode (s : State) (p : Nat) : Nat := s.leg (0x038 + p) 1
/-- R27: 0 = QSC0, 1 = QSC1, for root k. -/
def State.qscOf (s : State) (k : Nat) : Nat := b2n (bit (s.leg 0x03C 1) k)
/-- R27. -/
def State.ptpPort (s : State) : Nat := s.leg 0x03D 1
/-- R27: 0xFF = none. -/
def State.hostSecondary (s : State) : Nat := s.leg 0x03E 1
/-- R27: the superframe length of radio n, in TU. -/
def State.superframeTu (s : State) (n : Nat) : Nat := s.leg (0x048 + 2 * n) 2
/-- R27: classifier rules of partition q, in units of 256. -/
def State.clsPartition (s : State) (q : Nat) : Nat := s.leg (0x050 + q) 1
/-- R27. -/
def State.flowLog2 (s : State) : Nat := s.leg 0x054 1
/-- R27. -/
def State.spillMib (s : State) : Nat := s.leg 0x056 2
/-- R27. -/
def State.routeCap (s : State) (v6 : Bool) : Nat := if v6 then s.leg 0x05C 4 else s.leg 0x058 4
/-- R27: the scratchpads of role code c kept in Deep. -/
def State.retainMask (s : State) (c : Nat) : Nat := s.leg (0x060 + 2 * (c - 1)) 2

end Sys2Proof.Machine
end

