-- ==== Sys2Proof/Machine/PlateCheck.lean ====
section
/-! DEFINITION. The checks of a Plate (R15 to R33, R78, R156, R280, R307, R340), each answering the error code and detail of R39 for its first
failure, in the order of R483. The loader, proofing and staging share them. -/

namespace Sys2Proof.Machine

/-- A failure: the code and the detail of R39. -/
abbrev PlateFail := Option (Nat × Nat)

/-- The first failure of a list of checks. -/
def firstFail (l : List PlateFail) : PlateFail := l.findSome? id

/-- A condition that must hold. -/
def need (b : Bool) (code detail : Nat) : PlateFail := if b then none else some (code, detail)

/-! ### Blocks and streams -/

/-- R15: the block is whole and its stored CRC matches its data. -/
def blockOk (b : List Byte) : Bool := b.length == 4096 && crc32c (b.take 4092) == leAt b 4092 4

/-- R16: the content stream of the first `n` blocks. -/
def contentOf (blocks : List (List Byte)) (n : Nat) : List Byte := (blocks.take n).flatMap (fun b => b.take 4092)

/-- The Plate file of `n` blocks. -/
def fileOf (blocks : List (List Byte)) (n : Nat) : List Byte := (blocks.take n).flatMap id

/-! ### Header (R17, R18) -/

/-- Bytes [a, b) are all zero. -/
def zerosIn (bs : List Byte) (a b : Nat) : Bool := (slice bs a (b - a)).all (fun x => x == 0#8)

/-- The offset of the first non-zero byte of [a, b). -/
def firstNonZero (bs : List Byte) (a b : Nat) : Nat :=
  a + ((slice bs a (b - a)).findIdx (fun x => x != 0#8))

/-- The legal block counts (R18, R482). -/
def blockCountOk (n : Nat) : Bool := 3 ≤ n && n ≤ 3072

/-- R18: the header of content stream `c`, for silicon revision `rev` and a region of `n` blocks. -/
def headerCheck (c : List Byte) (rev n : Nat) : PlateFail :=
  firstFail [
    need (leAt c 0 4 == 0x544C5059) 2 0,
    need (leAt c 0x20 4 == 0x9640 && bit (leAt c 0x24 2) rev) 8 rev,
    need (leAt c 4 2 == 1) 2 4,
    need (leAt c 6 2 == 256) 2 6,
    need (leAt c 0xC 2 ≤ 64) 2 0xC,
    need (leAt c 0xE 2 == 0) 2 (firstNonZero c 0xE 0x10),
    need (leAt c 0x10 4 % 4096 == 0 && blockCountOk (leAt c 0x10 4 / 4096) && leAt c 0x10 4 / 4096 == n) 2 0x10,
    need (leAt c 0x14 4 ≤ (n - 2) * 4092) 2 0x14,
    need (leAt c 0x18 4 == 256) 2 0x18,
    need (13 ≤ leAt c 0x1C 2 && leAt c 0x1C 2 ≤ 64) 2 0x1C,
    need (leAt c 0x1E 2 == 32) 2 0x1E,
    need (zerosIn c 0x26 0x28) 2 (firstNonZero c 0x26 0x28),
    need (zerosIn c 0x34 0x40) 2 (firstNonZero c 0x34 0x40),
    need (zerosIn c 0x80 0x100) 2 (firstNonZero c 0x80 0x100)]

/-! ### Section table (R19, R20) -/

/-- A section-table entry (R19). -/
structure SecEntry where
  idx : Nat
  kind : Nat
  role : Nat
  flags : Nat
  version : Nat
  off : Nat
  len : Nat
  rsv : Bool
deriving DecidableEq, Repr

/-- The entries of the table of content stream `c`. -/
def sections (c : List Byte) : List SecEntry :=
  (List.range (leAt c 0x1C 2)).map fun i =>
    let o := 256 + 32 * i
    ⟨i, leAt c o 1, leAt c (o + 1) 1, leAt c (o + 2) 2, leAt c (o + 4) 4, leAt c (o + 8) 4, leAt c (o + 0xC) 4, zerosIn c (o + 0x10) (o + 0x20)⟩

/-- R19: an entry on its own, against the table's end and content_length, a section of no bytes too. DESIGN CHOICE (log 111). -/
def entryOk (e : SecEntry) (tableEnd contentLen : Nat) : Bool :=
  1 ≤ e.kind && e.kind ≤ 3 &&
  (if e.kind = 2 then 1 ≤ e.role && e.role ≤ 12 else e.role == 0) &&
  e.flags == 0 && e.rsv && e.off % 64 == 0 &&
  (e.kind != 1 || 512 ≤ e.len) &&
  tableEnd ≤ e.off && e.off + e.len ≤ contentLen

/-- Two sections share a byte. A section of no bytes shares none. DESIGN CHOICE (log 111). -/
def secOverlap (a b : SecEntry) : Bool := a.off < b.off + b.len && b.off < a.off + a.len && 0 < a.len && 0 < b.len

/-- R20: the section table, entries in ascending index, missing sections last. -/
def sectionCheck (c : List Byte) : PlateFail :=
  let l := sections c
  let cnt := l.length
  let tEnd := 256 + 32 * cnt
  let clen := leAt c 0x14 4
  let bad (e : SecEntry) : Bool :=
    let before := l.take e.idx
    !entryOk e tEnd clen ||
    (e.kind == 1 && before.any (fun b => b.kind == 1)) ||
    (e.kind == 2 && before.any (fun b => b.kind == 2 && b.role == e.role)) ||
    (e.kind == 3 && 51 ≤ (before.filter (fun b => b.kind == 3)).length) ||
    before.any (secOverlap e)
  match l.find? bad with
  | some e => some (4, e.idx)
  | none =>
    need (l.any (fun e => e.kind == 1) && (List.range 12).all (fun r => l.any (fun e => e.kind == 2 && e.role == r + 1))) 4 cnt

/-- The LEGEND section's entry. -/
def legendSec (c : List Byte) : Option SecEntry := (sections c).find? (fun e => e.kind == 1)

/-- The ROLE section's entry of role code r. -/
def roleSec (c : List Byte) (r : Nat) : Option SecEntry := (sections c).find? (fun e => e.kind == 2 && e.role == r)

/-- The bytes of a section. -/
def secBytes (c : List Byte) (e : SecEntry) : List Byte := slice c e.off e.len

/-- Whole 4 KiB pages (R25). -/
def pagesOf (bytes : Nat) : Nat := ceilDiv bytes 4096

/-- R25: the pages of the Plate cache that the Plate needs, from its section-table lengths. -/
def cachePages (c : List Byte) : Nat :=
  (sections c).foldl (fun n e => if e.kind = 1 then n + pagesOf e.len else if e.kind = 2 then n + pagesOf (e.len - 7952) else n) 0

/-- R25. -/
def cacheCheck (c : List Byte) : PlateFail := need (cachePages c ≤ 2048) 0xC (4 * cachePages c)

/-! ### Role sections (R23, R24) -/

/-- R23, R24: a ROLE section, verified against the vendor root key hash. -/
def roleCheck (c : List Byte) (rootHash : List Byte) (e : SecEntry) : PlateFail :=
  let x := secBytes c e
  let blen := leAt x 8 4
  let key := slice x (0x40 + blen) 32
  need (leAt x 0 1 == e.role && leAt x 1 1 == 1 && leAt x 2 2 == 0 && leAt x 4 4 == e.version &&
    64 ≤ blen && blen ≤ 1048576 && blen % 64 == 0 && zerosIn x 0xE 0x40 && e.len == 7952 + blen &&
    Config.sha256 key == rootHash &&
    Config.slhDsaVerify key (Config.sha256 (slice x 0 (0x40 + blen))) (slice x (0x60 + blen) 7856)) 5 e.role

/-- The last file block that a section touches. -/
def lastBlock (e : SecEntry) : Nat := (e.off + e.len - 1) / 4092

/-- The ROLE sections ending in block b, in ascending section-table index (R483). -/
def rolesEnding (c : List Byte) (b : Nat) : List SecEntry := (sections c).filter (fun e => e.kind == 2 && lastBlock e == b)

/-! ### SEED sections (R31 to R33, R280, R307, R340) -/

/-- The SEED sections in table order. -/
def seedSecs (c : List Byte) : List SecEntry := (sections c).filter (fun e => e.kind == 3)

/-- A SEED record (R31): where it stands in the content stream, its header fields and its entries. -/
structure SeedRec where
  at_ : Nat
  table : Nat
  entrySize : Nat
  first : Nat
  count : Nat
  rsv : Nat
  room : Nat
  data : List Byte
deriving DecidableEq, Repr

/-- The records of one SEED section whose bytes are `bs` from content offset `base + o` on; `fuel` bounds the walk. -/
def seedRecs : Nat → Nat → List Byte → List SeedRec
  | 0, _, _ => []
  | fuel + 1, off, bs =>
    if bs.length = 0 then [] else
    let sz := leAt bs 2 2
    let n := leAt bs 8 4
    let body := sz * n
    let used := (16 + body + 3) / 4 * 4
    ⟨off, leAt bs 0 2, sz, leAt bs 4 4, n, leAt bs 0xC 4, bs.length, slice bs 16 (min body (bs.length - 16))⟩ ::
      (if used ≤ bs.length then seedRecs fuel (off + used) (bs.drop used) else [])

/-- R340: where the SEED sections outgrow the 27,648 cells of the staging area: the content offset of the first byte without a cell, and that of the
record that it belongs to, the first that does not wholly fit. -/
def stagingOver (c : List Byte) : Option (Nat × Nat) :=
  let rec go : Nat → List SecEntry → Option (Nat × Nat)
    | _, [] => none
    | left, e :: t =>
      if ceilDiv e.len 256 ≤ left then go (left - ceilDiv e.len 256) t
      else
        let recs := seedRecs e.len e.off (secBytes c e)
        let over_ := recs.find? (fun r => left * 256 < r.at_ - e.off + 16 + r.entrySize * r.count)
        some (e.off + left * 256, (over_.map SeedRec.at_).getD e.off)
  go 27648 (seedSecs c)

/-- R340, R483: staging fails at the content block that brings the first byte without a cell. DESIGN CHOICE (log 111). -/
def stagingCheck (c : List Byte) (b : Nat) : PlateFail :=
  match stagingOver c with
  | some (first, rec_) => need (b < first / 4092) 0xE rec_
  | none => none

/-- The entry size of a SEED table (R280, R307); `none` for an unknown table (R32). -/
def seedSize (table : Nat) : Option Nat :=
  match table with
  | 0x0001 => some 64 | 0x0002 => some 8 | 0x0003 => some 64 | 0x0004 => some 4
  | 0x0010 => some 8 | 0x0011 => some 20 | 0x0020 => some 8 | 0x0021 => some 8
  | _ => none

/-- The number of entries a SEED table takes under a Legend (R27, R33, R280, R285, R305). -/
def seedLimit (leg : List Byte) (table : Nat) : Nat :=
  match table with
  | 0x0001 => 256 * (legAt leg 0x50 1 + legAt leg 0x51 1 + legAt leg 0x52 1 + legAt leg 0x53 1)
  | 0x0002 => 256 | 0x0003 => 68 * 17 | 0x0004 => 68
  | 0x0010 => legAt leg 0x58 4 | 0x0011 => legAt leg 0x5C 4
  | 0x0020 => 65536 | 0x0021 => 49152 | _ => 0

/-- R285: the records that a seed may not name: 32,872 to 36,863 and 40,960 are no records. DESIGN CHOICE (log 46). -/
def seedsNoRecord (first count : Nat) : Bool :=
  (decide (first < 36864) && decide (32872 < first + count)) || (decide (first ≤ 40960) && decide (40960 < first + count))

/-- R31, R33: a SEED record. -/
def seedRecCheck (leg : List Byte) (r : SeedRec) : PlateFail :=
  need (r.rsv == 0 && 16 ≤ r.room && r.count != 0 && seedSize r.table == some r.entrySize && 16 + r.entrySize * r.count ≤ r.room &&
    r.first + r.count ≤ seedLimit leg r.table &&
    !(r.table == 0x21 && seedsNoRecord r.first r.count)) 0xE r.at_

/-! ### Signature block and rollback (R21, R22, R408) -/

/-- The 8,184 bytes of the signature block: the data of the last two blocks. -/
def sigBlock (blocks : List (List Byte)) (n : Nat) : List Byte :=
  ((blocks.getD (n - 2) []).take 4092) ++ ((blocks.getD (n - 1) []).take 4092)

/-- R22: the signature block, against the fused hash of each signer and whether its slot is usable (neither empty nor revoked). -/
def signatureCheck (blocks : List (List Byte)) (n : Nat) (hashOf : Nat → List Byte) (usable : Nat → Bool) : PlateFail :=
  let b := sigBlock blocks n
  let signer := leAt b 4 1
  need (leAt b 0 4 == 0x47495359 && signer ≤ 4 && zerosIn b 5 8 && zerosIn b 0x1EF8 0x1FF8 &&
    Config.sha256 (slice b 8 32) == hashOf signer &&
    usable signer &&
    Config.sha256 (fileOf blocks (n - 2)) == slice b 0x28 32 &&
    Config.slhDsaVerify (slice b 8 32) (slice b 0 0x48) (slice b 0x48 7856)) 6 signer

/-- R408: the rollback value against the fuse counter. -/
def rollbackCheck (c : List Byte) (counter : Nat) : PlateFail := need (counter ≤ leAt c 0xC 2) 7 counter

/-! ### The Legend (R27 to R30, R78) -/

/-- R29: the port mode is allowed on the port. -/
def portModeOk (p m : Nat) : Bool := if p < 2 then m ≤ 2 else m == 0 || (2 ≤ m && m ≤ 5)

/-- The fixed-part fields of R27 after the first three, in ascending offset: offset and whether the value is in range. An array whose elements are ranged one by one names
the failing element; cls_partition and retain_mask, ranged as a whole, name their start. DESIGN CHOICE (log 111). -/
def legendFields (l : List Byte) : List (Nat × Bool) :=
  let g := legAt l
  let ok (e : Nat × Bool) : Nat × Bool := e
  ((List.range 16).map fun c => ok (0x008 + c, g (0x008 + c) 1 ≤ 2 || g (0x008 + c) 1 == 0xFF)) ++
  ((List.range 3).map fun k =>
    ok (0x018 + k, g (0x018 + k) 1 ≤ 2 && (List.range k).all (fun j => g (0x018 + j) 1 != g (0x018 + k) 1))) ++
  [ok (0x01B, g 0x01B 1 < 32), ok (0x01C, g 0x01C 1 ≤ 7), ok (0x01D, g 0x01D 1 ≤ 1), ok (0x01E, g 0x01E 1 ≤ 2), ok (0x01F, g 0x01F 1 ≤ 2)] ++
  ((List.range 12).map fun r => ok (0x020 + 2 * r, g (0x020 + 2 * r) 2 != 0 && g (0x020 + 2 * r) 2 < 2 ^ 14)) ++
  ((List.range 4).map fun p => ok (0x038 + p, portModeOk p (g (0x038 + p) 1))) ++
  [ok (0x03D, g 0x03D 1 ≤ 3), ok (0x03E, g 0x03E 1 ≤ 3 || g 0x03E 1 == 0xFF), ok (0x03F, g 0x03F 1 == 0)] ++
  ((List.range 8).map fun n => ok (0x040 + n, g (0x040 + n) 1 ≤ (if n = 0 then 2 else 6))) ++
  ((List.range 3).map fun n => ok (0x048 + 2 * n, 20 ≤ g (0x048 + 2 * n) 2 && g (0x048 + 2 * n) 2 ≤ 1000)) ++
  [ok (0x04E, g 0x04E 2 == 0),
   ok (0x050, let t := g 0x050 1 + g 0x051 1 + g 0x052 1 + g 0x053 1; 1 ≤ t && t ≤ 64),
   ok (0x054, 16 ≤ g 0x054 1 && g 0x054 1 ≤ 25), ok (0x055, g 0x055 1 == 0), ok (0x056, g 0x056 2 ≤ 1024),
   ok (0x058, g 0x058 4 ≤ 524288 && g 0x058 4 % 4096 == 0), ok (0x05C, g 0x05C 4 ≤ 131072 && g 0x05C 4 % 4096 == 0),
   ok (0x060, (List.range 12).foldl (fun n r => n + popcount 16 (g (0x060 + 2 * r) 2)) 0 ≤ 64),
   ok (firstNonZero l 0x078 0x200, zerosIn l 0x078 0x200)]

/-- R28 with R78, the DRAM check excepted: the combinations in the order listed, with the offset of the first field involved: the lowest of the fields that the rule
ties together, an array by its start. DESIGN CHOICE (log 111). -/
def legendCombos (l : List Byte) : List (Nat × Bool) :=
  let g := legAt l
  let en (n : Nat) : Bool := bit (g 0x01B 1) n
  let chains (n : Nat) : Nat := ((List.range 16).filter (fun c => g (0x008 + c) 1 == n)).length
  let uses (code : Nat) : Nat := ((List.range 8).filter (fun n => g (0x040 + n) 1 == code)).length
  let radiosOf (cc : Nat) : List Nat := ((List.range 4).map (fun i => g (0x008 + 4 * cc + i) 1)).filter (· ≤ 2) |>.eraseDups
  [(0x008, (List.range 3).all (fun n => if en n then 1 ≤ chains n && chains n ≤ 8 else chains n == 0)),
   (0x008, (List.range 4).all (fun cc => (radiosOf cc).length ≤ 2)),
   (0x040, [1, 2, 3, 4, 5, 6].all (fun c => uses c ≤ 1)),
   (0x01B, !en 3 || uses 1 == 1),
   (0x01B, (List.range 3).all (fun n => uses (3 + n) == 0 || en n)),
   (0x038, uses 2 == 0 || g (0x038 + g 0x03D 1) 1 != 0),
   (0x038, g 0x03E 1 == 0xFF || g (0x038 + g 0x03E 1) 1 != 0)]

/-- The first failing row of a field or combination list. -/
def firstBad (code : Nat) (l : List (Nat × Bool)) : PlateFail := (l.find? (fun e => !e.2)).map (fun e => (code, e.1))

/-! ### Slot tables (R154 to R156) -/

/-- Fields of a 64-bit slot-table entry (R154). -/
def slotKind (x : Nat) : Nat := bits x 0 4
/-- R154: 1 = domain-owned. -/
def slotOwner (x : Nat) : Bool := bit x 4
/-- R154. -/
def slotBorrowed (x : Nat) : Bool := bit x 5
/-- R154. -/
def slotRest (x : Nat) : Nat := bits x 6 2
/-- R154. -/
def slotSpid (x : Nat) : Nat := bits x 8 8
/-- R154. -/
def slotPeer (x : Nat) : Nat := bits x 16 10
/-- R154. -/
def slotMlAlign (x : Nat) : Bool := bit x 26
/-- R154. -/
def slotGrant (x : Nat) : Nat := bits x 32 16

/-- R155: slot kinds. -/
def kQUI : Nat := 0
/-- R155. -/
def kBCN : Nat := 1
/-- R155. -/
def kDLS : Nat := 2
/-- R155. -/
def kULT : Nat := 3
/-- R155. -/
def kCTN : Nat := 4
/-- R155. -/
def kCAL : Nat := 5
/-- R155. -/
def kSTP : Nat := 6
/-- R155. -/
def kINS : Nat := 7

/-- R156, the field rules of one entry. -/
def slotFieldsOk (x : Nat) : Bool :=
  let k := slotKind x
  k ≤ 7 && bits x 27 5 == 0 && bits x 48 16 == 0 &&
  (slotSpid x == 0 || k == kDLS || k == kULT) &&
  (!slotBorrowed x || k == kDLS || k == kULT || k == kSTP) &&
  (slotPeer x == 0 || k == kSTP || k == kINS || slotBorrowed x)

/-- A run kind that ends a quiet stretch (R156). -/
def endsStretch (k : Nat) : Bool := k == kBCN || k == kDLS || k == kULT || k == kCTN

/-- R156: the position from which the BCN rule fails, if it does: position 0 not BCN, more than 16 BCN slots, or BCN elsewhere. -/
def bcnBad (t : List Nat) : Option Nat :=
  let ks := t.map slotKind
  let run := (ks.takeWhile (· == kBCN)).length
  if run = 0 then some 0
  else if 16 < run then some 16
  else match (indexed ks).find? (fun e => run ≤ e.1 && e.2 == kBCN) with
    | some e => some e.1
    | none => none

/-- The quiet stretches of a table that starts with a run of another kind: start position, length, and whether a CAL, STP or INS slot lies in it. -/
def stretches (t : List Nat) : List (Nat × Nat × Bool) :=
  let step (acc : List (Nat × Nat × Bool) × Option (Nat × Nat × Bool)) (e : Nat × Nat) : List (Nat × Nat × Bool) × Option (Nat × Nat × Bool) :=
    let k := slotKind e.2
    if endsStretch k then (match acc.2 with | some x => (acc.1 ++ [x], none) | none => acc)
    else
      let prot := k == kCAL || k == kSTP || k == kINS
      match acc.2 with
      | some (p, n, b) => (acc.1, some (p, n + 1, b || prot))
      | none => (acc.1, some (e.1, 1, prot))
  match (indexed t).foldl step ([], none) with
  | (l, some x) => l ++ [x]
  | (l, none) => l

/-- R156: the first position of a protected stretch of more than 127 slots. Position 0 is BCN where this is asked, so no stretch wraps. -/
def stretchBad (t : List Nat) : Option Nat := ((stretches t).find? (fun x => x.2.2 && 127 < x.2.1)).map (fun x => x.1)

/-- R156: a slot table is valid. -/
def slotTableOk (t : List Nat) : Bool := t.all slotFieldsOk && (bcnBad t).isNone && (stretchBad t).isNone

/-- The template of radio n in a Legend section (R30). -/
def templateOf (l : List Byte) (n : Nat) : List Nat :=
  let tu (k : Nat) : Nat := legAt l (0x048 + 2 * k) 2
  let base := 512 + 32 * (List.range n).foldl (fun a k => a + tu k) 0
  (List.range (4 * tu n)).map (fun p => leAt l (base + 8 * p) 8)

/-- The Legend offset of entry p of radio n's template. -/
def templateOff (l : List Byte) (n p : Nat) : Nat :=
  512 + 32 * (List.range n).foldl (fun a k => a + legAt l (0x048 + 2 * k) 2) 0 + 8 * p

/-- R156 on the template: field rules over all radios first, then the BCN and stretch rules. A disabled radio's entries are ignored (R30). -/
def templateCheck (l : List Byte) : PlateFail :=
  let en (n : Nat) : Bool := bit (legAt l 0x01B 1) n
  let ok (x : Nat) : Bool := slotFieldsOk x && !slotOwner x && slotGrant x == 0
  let field (n : Nat) : PlateFail :=
    if !en n then none else
    ((indexed (templateOf l n)).find? (fun e => !ok e.2)).map (fun e => (9, templateOff l n e.1))
  let shape (n : Nat) : PlateFail :=
    if !en n then none else
    let t := templateOf l n
    match bcnBad t with
    | some p => some (0xA, templateOff l n p)
    | none => (stretchBad t).map (fun p => (0xA, templateOff l n p))
  firstFail ((List.range 3).map field ++ (List.range 3).map shape)

/-- R30: the Legend section's length. -/
def legendLenCheck (l : List Byte) (len : Nat) : PlateFail :=
  need (len == 512 + 32 * (legAt l 0x48 2 + legAt l 0x4A 2 + legAt l 0x4C 2)) 0xA 0x048

/-- Step 5 of R483 on a Legend section of length `len`: layout fields, the role sections' legend_layout, the other fields, the combinations, the profile check
of R107, the length, the template. `roleLayout r` is role code r's legend_layout; `profileOk p`: the lock bit is not blown or profile p is written. -/
def legendCheck (l : List Byte) (len : Nat) (roleLayout : Nat → Nat) (profileOk : Nat → Bool) : PlateFail :=
  firstFail [
    need (legAt l 0 2 == 1) 9 0, need (legAt l 2 2 == 0x200) 9 2, need (legAt l 4 4 == 0x200) 9 4,
    ((List.range 12).find? (fun r => legAt l 0 2 < roleLayout (r + 1))).map (fun r => (5, r + 1)),
    firstBad 9 (legendFields l), firstBad 0xA (legendCombos l),
    need (profileOk (legAt l 0x01C 1)) 0xD (legAt l 0x01C 1),
    legendLenCheck l len, templateCheck l]

/-- R28: the DRAM found holds the flow table, the spill area and 256 MiB more. -/
def dramCheck (l : List Byte) (mib : Nat) : PlateFail :=
  need (2 ^ legAt l 0x54 1 * 64 + legAt l 0x56 2 * 2 ^ 20 + 256 * 2 ^ 20 ≤ mib * 2 ^ 20) 0xB mib

end Sys2Proof.Machine
end

