-- ==== Sys2Proof/Machine/PowerOps.lean ====
section
/-! DEFINITION. The power controller's operations that other chapters meet (R411 to R424): wake sources and their record, the release of the
clusters, and the functions that PWR_FUNC powers. -/

namespace Sys2Proof.Machine

/-! ### Wake sources (R420, R423) -/

/-- PWR_STATUS.STATE. -/
def State.pwrState (s : State) : Nat := s.get F.PWR_STATUS_STATE

/-- R420: wake source code c acts; FAULT (8) always does. -/
def State.wakeEnabled (s : State) (c : Nat) : Bool := c == 8 || bit (s.rd A.PWR_WAKE_EN).toNat (c - 1)

/-- R423: the wake record takes a source, the state left and the calendar time. -/
def State.lastWake (s : State) (src origin : Nat) : State :=
  let w := fieldWord 0 4 src ||| fieldWord 4 3 origin ||| fieldWord 7 15 s.tim.calSub
  (s.wr A.PWR_LAST_WAKE w).wr A.PWR_LAST_WAKE_S (BitVec.ofNat 32 s.tim.calSec)

/-- The Traverse is lost until device start (R440). -/
def State.trvLost (s : State) : Bool := s.flt.permanent.any (fun e => (e.1 == 3 && e.2.1 == 3) || e == (4, 5, 0) || e == (4, 4, 4))

/-! ### PWR_FUNC (R424, R435) -/

/-- A function that is off and has nothing to do. -/
def FuncState.down : FuncState := ⟨false, false, false, none⟩

/-- Function i of PWR_FUNC. -/
def State.func (s : State) (i : Nat) : FuncState := s.pwr.funcs.getD i .down

/-- Function i changed. -/
def State.funcMod (s : State) (i : Nat) (f : FuncState → FuncState) : State := { s with pwr := { s.pwr with funcs := modAt s.pwr.funcs i f } }

/-- The functions that the Legend does not disable (R424). -/
def State.funcMask (s : State) : Nat :=
  (List.range 8).foldl (fun a i =>
    a + (if (i < 3 ∧ s.radioEnable i) ∨ (3 ≤ i ∧ i < 7 ∧ s.portMode (i - 3) ≠ 0) ∨ i = 7 then 2 ^ i else 0)) 0

/-- PWR_FUNC_STATUS shows the functions (R435). -/
def State.funcShow (s : State) : State :=
  let m (p : FuncState → Bool) : Nat := (indexed s.pwr.funcs).foldl (fun (a : Nat) (e : Nat × FuncState) => if p e.2 then a + 2 ^ e.1 else a) 0
  s.wr A.PWR_FUNC_STATUS (fieldWord 0 8 (m (·.on)) ||| fieldWord 8 8 (m (·.stopping)) ||| fieldWord 16 8 (m (·.latched.isSome)))

/-- R424: what a written bit does to a function: a change while the opposite one runs is latched, the last one written counting. -/
def FuncState.want (f : FuncState) (b : Bool) : FuncState :=
  if f.stopping then { f with latched := if b then some true else none }
  else if f.starting then { f with latched := if b then none else some false }
  else if f.on == b then f
  else if b then { f with on := true, starting := true }
  else { f with stopping := true }

/-- The bits of PWR_FUNC act on the functions. -/
def State.funcApply (s : State) (v : Nat) : State :=
  ({ s with pwr := { s.pwr with funcs := (indexed s.pwr.funcs).map (fun (e : Nat × FuncState) => e.2.want (bit v e.1)), heldFunc := none } }).funcShow

/-- A write of PWR_FUNC (R424), held while clusters stop (R416). -/
def State.funcWrite (s : State) (v : Word) : State :=
  let v := v.toNat % 256 &&& s.funcMask
  let s := s.wr A.PWR_FUNC (BitVec.ofNat 32 v)
  if s.isSet F.PWR_STATUS_STOPPING then { s with pwr := { s.pwr with heldFunc := some (BitVec.ofNat 32 v) } } else s.funcApply v

/-- A change to PWR_FUNC held while stopping applies (R416). -/
def State.heldFuncApply (s : State) : State :=
  match s.pwr.heldFunc with
  | some v => s.funcApply v.toNat
  | none => s

/-! ### Release (R417) -/

/-- The handshake or the commit window ends: the clusters are released and PWR_STATUS shows the outcome. -/
def State.pwrRelease (s : State) (result reason cluster : Nat) : State :=
  let s := s.wr A.PWR_STATUS (fieldWord 5 3 result ||| fieldWord 8 4 cluster ||| fieldWord 12 4 reason)
  ({ s with pwr := { s.pwr with asked := 0, noHost := false, edges := [] } }).heldFuncApply

/-- R414, R417: a take-over that begins during the handshake counts as refusal reason 3. -/
def State.pwrTakeover (s : State) : State := if s.pwrState = 1 then s.pwrRelease 2 3 0 else s

/-- An edge of an enabled edge source (R420): it cancels the handshake (R417), is lost in the commit window (R418), and is latched from the entry
actions until its registration (R419, R421). -/
def State.edgeWake (s : State) (c : Nat) : State :=
  if !s.wakeEnabled c then s
  else match s.pwrState with
    | 1 => (s.lastWake c 0).pwrRelease 3 0 0
    | 2 => s.bump A.PWR_WAKE_LOST
    | 3 | 4 => if s.pwr.edges.contains c ∨ s.get F.PWR_STATUS_TARGET = 3 then s else { s with pwr := { s.pwr with edges := c :: s.pwr.edges } }
    | _ => s

/-- TIN0 has an edge (source 6, as PWR_WAKE_CTRL.TIN_EDGE selects). -/
def State.tinWake (s : State) (rising : Bool) : State :=
  let e := s.get F.PWR_WAKE_CTRL_TIN_EDGE
  if e = 3 ∨ (e = 1 ∧ rising) ∨ (e = 2 ∧ !rising) then s.edgeWake 6 else s

/-- FIRED of compare unit c has risen (source 7, where PWR_WAKE_CTRL.CMP names the unit). -/
def State.cmpWake (s : State) (c : Nat) : State := if s.get F.PWR_WAKE_CTRL_CMP = c then s.edgeWake 7 else s

end Sys2Proof.Machine
end

