-- ==== Sys2Proof/Machine/TimeBases.lean ====
section
/-! DEFINITION. The time bases (R214 to R225), their views of TB0, captures (R226, R227), the calendar count (R237 to R241), and what each XO32K
edge and TCLK tick does to them. -/

namespace Sys2Proof.Machine

/-! ### The eight time bases -/

/-- One second of a time base, in its units. -/
def unitsPerS : Nat := nsPerS * unitsPerNs

/-- S wraps from 2^48 − 1 to 0 (R216). -/
def tbWrap : Nat := 2 ^ 48 * unitsPerS

/-- Time base n. -/
def State.tbAt (s : State) (n : Nat) : TimeBase := s.tim.tb.getD n TimeBase.zero

/-- Time base n changed. -/
def State.tbMod (s : State) (n : Nat) (f : TimeBase → TimeBase) : State := { s with tim := { s.tim with tb := modAt s.tim.tb n f } }

/-- R27, R218: time base n counts by itself (sources 0 to 2; TB0 always). -/
def State.tbCounts (s : State) (n : Nat) : Bool := n == 0 || s.get (F.TB_STATUS_SOURCE n) ≤ 2

/-- The advance of a base over `dt` (in 2^-16 ns) of its clock: scaled by RATE (R216), without slew. -/
def TimeBase.advance (b : TimeBase) (dt : Nat) : Int := (dt * 2 ^ 32 : Nat) + (dt : Int) * b.rate / (2 ^ 16 : Nat)

/-- The share of the slew in progress that falls due over `dt` at `slewMax` ppm (R217). -/
def TimeBase.slewShare (b : TimeBase) (dt slewMax : Nat) : Int :=
  let m : Int := (dt * 2 ^ 32 * slewMax / 1000000 : Nat)
  if 0 ≤ b.slew then min b.slew m else max b.slew (-m)

/-- A base moved by `d` units, modulo the wrap of S. -/
def TimeBase.add (b : TimeBase) (d : Int) : TimeBase := { b with t := (((b.t : Int) + d) % (tbWrap : Nat)).toNat }

/-- A tick (or, while carried, an XO32K edge) that ends a period `dt`: adjustments committed before it apply (R217). A set replaces the time and
beats a step; either cancels the slew in progress; a slew committed with them starts after. -/
def TimeBase.tick (b : TimeBase) (dt slewMax : Nat) : TimeBase :=
  let rate := b.ratePend.getD b.rate
  let b := { b with rate := rate }
  let moved := b.add (b.advance dt + b.slewShare dt slewMax)
  let b := match b.setPend, b.stepPend with
    | some v, _ => { b with t := v, slew := 0 }
    | none, some d => { moved.add (d * (unitsPerNs : Nat)) with slew := 0 }
    | none, none => { moved with slew := b.slew - b.slewShare dt slewMax }
  let b := match b.slewPend with
    | some v => { b with slew := v }
    | none => b
  { b with setPend := none, stepPend := none, slewPend := none, ratePend := none }

/-- One TCLK period in 2^-16 ns (R214). -/
def tclkDt : Nat := 4 * 2 ^ 16

/-- R225: the value a counting base starts with, from the calendar. -/
def State.startValue (s : State) : Nat :=
  if s.isSet F.CAL_STATUS_LOST then 0 else
  let sec := ((s.tim.calSec : Int) + sint 16 (s.get F.CAL_LEAP_TAI_UTC)) % ((2 ^ 48 : Nat) : Int)
  let ns := s.tim.calSub * 30517578125 / 1000000
  (sec.toNat * nsPerS + ns) * unitsPerNs

/-! ### Views of TB0 (R223, R224) and reads -/

/-- TB0's time in units. -/
def State.tb0 (s : State) : Nat := (s.tbAt 0).t

/-- TB0 in nanoseconds, seconds included. -/
def State.t0 (s : State) : Nat := s.tb0 / unitsPerNs

/-- The Graticule's slot index (R149). -/
def State.slotIndex (s : State) : Nat := s.t0 / 256000

/-- The Traverse slot number j (R181): slots of 1.25 ms from the TB0 origin. -/
def State.trvSlot (s : State) : Nat := s.t0 / 1250000

/-- R223: the TSF of radio n, in µs modulo 2^64. -/
def State.tsf (s : State) (n : Nat) : Nat :=
  (((s.t0 / 1000 : Nat) : Int) + s.tim.tsfOfs.getD n 0 * (s.superframeTu n : Int) * 1024) % ((2 ^ 64 : Nat) : Int) |>.toNat

/-- What a base reads, in units of 2^-48 ns: its own count, TB0 shifted by the TSF offset (R223), or the Traverse slot clock (R224). -/
def State.tbValue (s : State) (n : Nat) : Nat :=
  let src := s.get (F.TB_STATUS_SOURCE n)
  if s.tbCounts n then (s.tbAt n).t
  else if src ≤ 5 then
    let k := src - 3
    (((s.tb0 : Int) + s.tim.tsfOfs.getD k 0 * (s.superframeTu k : Int) * 1024 * 1000 * (unitsPerNs : Nat)) % ((tbWrap : Nat) : Int)).toNat
  else s.trvSlot % 2 ^ 48 * unitsPerS + s.t0 % 1250000 * unitsPerNs + s.tb0 % unitsPerNs

/-- Nanoseconds field of a time value. -/
def tvN (v : Nat) : Nat := v / unitsPerNs % nsPerS
/-- Seconds field of a time value. -/
def tvS (v : Nat) : Nat := v / unitsPerS % 2 ^ 48
/-- The 16 fraction bits that can be read. -/
def tvF (v : Nat) : Nat := v % unitsPerNs / 2 ^ 32

/-- TIME0, TIME1 and TIME2 of base n (R242). -/
def State.timeWords (s : State) (n : Nat) : Word × Word × Word :=
  let v := s.tbValue n
  (BitVec.ofNat 32 (tvN v), BitVec.ofNat 32 (tvS v % 2 ^ 32), BitVec.ofNat 32 (tvS v / 2 ^ 32 + tvF v * 2 ^ 16))

/-! ### Ticks (R216, R217, R219, R229) -/

/-- Compare unit c is armed. DEDUCED (log 78). -/
def State.cmpArmed (s : State) (c : Nat) : Bool := s.isSet (F.CMP_CTRL_ARM c)

/-- The committed target of compare unit c, in ns (R228). -/
def State.cmpTarget (s : State) (c : Nat) : Nat := s.tim.cmpTarget.getD c 0

/-- The time in ns of the base that compare unit c names. -/
def State.cmpTime (s : State) (c : Nat) : Nat := s.tbValue (s.get (F.CMP_CTRL_TB c)) / unitsPerNs

/-- Base n jumps at the next tick: a set or step is pending on it, or on TB0 for a view (R219). -/
def State.jumps (s : State) (n : Nat) : Bool :=
  let b := if s.tbCounts n then s.tbAt n else s.tbAt 0
  b.setPend.isSome || b.stepPend.isSome

/-- The bases after a period `dt` (in 2^-16 ns) of their clock: those that count by themselves have ticked. -/
def State.tickAll (s : State) (dt : Nat) : List TimeBase :=
  (indexed s.tim.tb).map fun (n, b) => if s.tbCounts n then b.tick dt (s.get (F.TB_CTRL_SLEW_MAX n)) else b

/-- Every counting base ticks over a period `dt` (in 2^-16 ns). A set or step of TB0 ends the runs in progress (R219); one that carries a
base past the target of an armed compare unit is noted for that unit (R229). -/
def State.tickBases (s : State) (dt : Nat) : State :=
  let t : State := { s with tim := { s.tim with tb := s.tickAll dt } }
  let jumped := (List.range 16).map fun c =>
    s.tim.jumped.getD c false ||
      (s.cmpArmed c && s.jumps (s.get (F.CMP_CTRL_TB c)) && decide (s.cmpTime c < s.cmpTarget c) && decide (s.cmpTarget c ≤ t.cmpTime c))
  let t := { t with tim := { t.tim with jumped := jumped } }
  if s.jumps 0 then { t with grt := { t.grt with radios := t.grt.radios.map (fun r => { r with run := none }) } } else t

/-! ### Frame and event stamps (R227, R234) -/

/-- The state with other time bases: what a stamp away from the present tick reads. -/
def State.withBases (s : State) (l : List TimeBase) : State := { s with tim := { s.tim with tb := l } }

/-- The value a stamp in base n takes now, `sub` ns into the tick; while carried, that of the first XO32K edge after the event (R227). A view takes it from TB0. -/
def State.stampOf (s : State) (n sub : Nat) : Nat :=
  if s.tim.carried then (s.withBases (s.tickAll (s.rd A.TB_XO32K_PERIOD).toNat)).tbValue n
  else (s.withBases (s.tim.tb.map (fun b => b.add ((sub * unitsPerNs : Nat) : Int)))).tbValue n

/-- The value a stamp in base n took `ago` ns before now. DEDUCED (log 82). -/
def State.stampBack (s : State) (n ago : Nat) : Nat :=
  if s.tim.carried then s.stampOf n 0 else (s.withBases (s.tim.tb.map (fun b => b.add (-(b.advance (ago * 2 ^ 16)))))).tbValue n

/-- The receive stamp of an interface, in the time base of TB_RX_SEL, of a point `ago` ns before now (R234). `i`: ports 0 to 3, radios 4 to 6. -/
def State.rxStamp (s : State) (i ago : Nat) : Stamp :=
  let tb := getField (s.rd A.TB_RX_SEL) (3 * i) 3
  let v := s.stampBack tb ago
  ⟨tb, tvS v, tvN v, tvF v⟩

/-! ### Captures (R226, R227) -/

/-- A capture of unit c, stamped in its time base. DEDUCED (log 82). -/
def State.capture (s : State) (c : Nat) (rising : Bool) (sub : Nat) : State :=
  let fifo := s.tim.cap.getD c []
  if fifo.length < 4 then
    let v := s.stampOf (s.get (F.CAP_CTRL_TB c)) sub
    let e : CapEntry := ⟨rising, s.tim.carried, tvN v, tvS v, tvF v⟩
    let s := { s with tim := { s.tim with cap := s.tim.cap.set c (fifo ++ [e]) } }
    s.put (F.CAP_STATUS_COUNT c) (fifo.length + 1)
  else (s.bump (A.CAP_OVF c)).raise (F.CAP_STATUS_OVF c)

/-- EDGE selects this edge (R244); sources that are events and not levels count as rising. -/
def edgeTaken (edge : Nat) (rising : Bool) : Bool :=
  (edge == 1 && rising) || (edge == 2 && !rising) || edge == 3

/-- Every capture unit whose source and edge selection take this event captures it (R226). -/
def State.captureAll (s : State) (src : Nat) (rising : Bool) (sub : Nat) : State :=
  (List.range 16).foldl (fun s c =>
    if s.get (F.CAP_CTRL_SOURCE c) = src ∧ edgeTaken (s.get (F.CAP_CTRL_EDGE c)) rising then s.capture c rising sub else s) s

/-! ### Calendar (R237 to R241) -/

/-- Days of a proleptic Gregorian year. -/
def leapYear (y : Nat) : Bool := y % 4 == 0 && (y % 100 != 0 || y % 400 == 0)

/-- Days of month m of year y. -/
def monthDays (y m : Nat) : Nat :=
  if m = 2 then (if leapYear y then 29 else 28) else if m = 4 ∨ m = 6 ∨ m = 9 ∨ m = 11 then 30 else 31

/-- Days from 1970-01-01 to 1 January of year y. -/
def daysToYear (y : Nat) : Nat := (y - 1970) * 365 + ((y - 1) / 4 - 492) - ((y - 1) / 100 - 19) + ((y - 1) / 400 - 4)

/-- The month (1 to 12) and day (1 to 31) of the day numbered d in year y, counting months from m. -/
def monthDay (y : Nat) : Nat → Nat → Nat → Nat × Nat
  | 0, m, d => (m, d + 1)
  | k + 1, m, d => if d < monthDays y m then (m, d + 1) else monthDay y k (m + 1) (d - monthDays y m)

/-- The year, month and day of a day count since 1970-01-01. -/
def civil (days : Nat) : Nat × Nat × Nat :=
  let y0 := 1970 + days / 366
  let y := ((List.range 24).map (· + y0)).foldl (fun b y => if daysToYear y ≤ days then y else b) y0
  match monthDay y 11 1 (days - daysToYear y) with
  | (m, d) => (y, m, d)

/-- CAL_DATE for a count of seconds (R245); `none` outside 1970 to 9999. -/
def calDate (sec : Nat) : Option Word :=
  let days := sec / 86400
  if daysToYear 10000 ≤ days then none else
  match civil days with
  | (y, m, d) => some (fieldWord 0 14 y ||| fieldWord 14 4 m ||| fieldWord 18 5 d ||| fieldWord 23 3 ((days + 3) % 7 + 1))

/-- CAL_TIME for a count of seconds (R245). -/
def calTime (sec : Nat) : Word :=
  let r := sec % 86400
  fieldWord 0 5 (r / 3600) ||| fieldWord 5 6 (r / 60 % 60) ||| fieldWord 11 6 (r % 60)

/-- CAL_DATE and CAL_TIME as they read now: during an inserted second, 23:59:60 of the day before (R239); 0 out of range (R237). -/
def State.calFields (s : State) : Word × Word :=
  if s.tim.leapHold then
    ((calDate (s.tim.calSec - 1)).getD 0#32, fieldWord 0 5 23 ||| fieldWord 5 6 59 ||| fieldWord 11 6 60)
  else match calDate s.tim.calSec with
    | some d => (d, calTime s.tim.calSec)
    | none => (0#32, 0#32)

/-- The alarm word of CAL_ALARM0 to 2, in subseconds. -/
def State.calAlarmAt (s : State) : Nat :=
  (s.get F.CAL_ALARM1_S_LO + s.get F.CAL_ALARM2_S_HI * 2 ^ 32) * 32768 + s.get F.CAL_ALARM0_SUBSEC

/-- The calendar count in subseconds. -/
def State.calCount (s : State) : Nat := s.tim.calSec * 32768 + s.tim.calSub

/-- R240: at an XO32K edge, the armed alarm fires, once, when the count has reached or passed it. DEDUCED (log 81). -/
def State.calAlarmCheck (s : State) : State :=
  if s.isSet F.CAL_CTRL_ALARM_EN ∧ !s.tim.alarmDone ∧ s.calAlarmAt ≤ s.calCount then
    ({ s with tim := { s.tim with alarmDone := true } } : State).raise F.CAL_STATUS_ALARM
  else s

/-- R238: at an XO32K edge, a set that has crossed into the always-on domain takes effect. -/
def State.calSetApply (s : State) : State :=
  match s.tim.calSet with
  | none => s
  | some (sec, sub) =>
    let s := { s with tim := { s.tim with calSec := sec, calSub := sub, calSet := none, calRuns := true, leapHold := false } }
    (s.put F.CAL_STATUS_BUSY 0).put F.CAL_STATUS_LOST 0

/-- The LEAP_AT second (R239). -/
def State.leapAt (s : State) : Nat := s.get F.CAL_LEAP_AT0_S_LO + s.get F.CAL_LEAP_AT1_S_HI * 2 ^ 32

/-- TAI − UTC moved by one second, and LEAP_NEXT back to 0 (R239). -/
def State.leapDone (s : State) (d : Int) : State :=
  (s.put F.CAL_LEAP_TAI_UTC (uint 16 (sint 16 (s.get F.CAL_LEAP_TAI_UTC) + d))).put F.CAL_CTRL_LEAP_NEXT 0

/-- R237, R239: the subseconds wrap and the count advances by one second, a scheduled leap second inserted or deleted. -/
def State.calWrap (s : State) : State :=
  let s := { s with tim := { s.tim with calSub := 0 } }
  let next := (s.tim.calSec + 1) % 2 ^ 48
  if s.tim.leapHold then
    ({ s with tim := { s.tim with leapHold := false } }).leapDone 1
  else if s.get F.CAL_CTRL_LEAP_NEXT = 1 ∧ next = s.leapAt then
    { s with tim := { s.tim with calSec := next, leapHold := true } }
  else if s.get F.CAL_CTRL_LEAP_NEXT = 2 ∧ next + 1 = s.leapAt then
    ({ s with tim := { s.tim with calSec := s.leapAt } }).leapDone (-1)
  else { s with tim := { s.tim with calSec := next } }

/-- TCLK stops (R215): the bases hold the value of its last tick until the next XO32K edge. -/
def State.tclkHalt (s : State) : State :=
  if s.tim.tclkOn then { s with tim := { s.tim with tclkOn := false, stopPhase := s.tim.xoPhase } } else s

/-- What an XO32K edge does to the bases (R215): those that it carries add the measured period; at the first edge after TCLK has stopped they add the rest of it and are carried from
then on. Without a stable XO32K (R427) nothing carries them. DEDUCED (log 81). -/
def State.carryEdge (s : State) : State :=
  let per := (s.rd A.TB_XO32K_PERIOD).toNat
  if s.tim.carried then s.tickBases per
  else if !s.tim.tclkOn ∧ s.isSet F.PWR_CLK_STATUS_XO32K_OK then
    let s := s.tickBases (per - s.tim.stopPhase)
    { s with tim := { s.tim with carried := true } }
  else s

/-- One subsecond on (R237). DEDUCED (log 81). -/
def State.calTick (s : State) : State :=
  if !s.tim.calRuns then s
  else if s.tim.calSub < 32767 then { s with tim := { s.tim with calSub := s.tim.calSub + 1 } }
  else s.calWrap.captureAll 15 true 0

/-- What an XO32K edge does: the bases it carries, one subsecond of the calendar, a pending set, the alarm. DEDUCED (log 81). -/
def State.xoEdge (s : State) : State := s.carryEdge.calTick.calSetApply.calAlarmCheck

/-- The XO32K edge that a command stands for: while TCLK is off, what is left of the period passes until it. DEDUCED (log 81). -/
def State.nextEdge (s : State) : State :=
  let per := (s.rd A.TB_XO32K_PERIOD).toNat
  (if s.tim.tclkOn then s else { s with tim := { s.tim with now := s.tim.now + (per - s.tim.xoPhase) / 2 ^ 16, xoPhase := 0 } }).xoEdge

/-- The first XO32K edge after TCLK is stable (R215): the bases advance by the period and TCLK ticks count on from there. -/
def State.tclkResume (s : State) : State :=
  if s.tim.tclkOn then s
  else
    let s := s.nextEdge
    { s with tim := { s.tim with tclkOn := true, carried := false } }

/-! ### Transmit stamps (R235, R236) -/

/-- The capacity of a transmit timestamp queue: 16 for a port, 32 for a radio (R235). -/
def txqCap (q : Nat) : Nat := if q < 4 then 16 else 32

/-- A stamp point passes: an entry is made, or discarded when the queue is full (R236). -/
def State.txStamp (s : State) (q tb attempt id : Nat) : State :=
  let l := s.tim.txq.getD q []
  if l.length < txqCap q then
    let v := s.stampOf tb 0
    let e : StampEntry := ⟨tb, min attempt 15, id, tvN v, tvS v, tvF v⟩
    ({ s with tim := { s.tim with txq := s.tim.txq.set q (l ++ [e]) } }).put (F.TXQ_STATUS_COUNT q) (l.length + 1)
  else (s.bump (A.TXQ_OVF q)).raise (F.TXQ_STATUS_OVF q)

/-- A frame sent on queue q's interface asks for a stamp, as (time base, identifier), on its transmission `attempt` (R235). -/
def State.stampAsk (s : State) (q : Nat) (ask : Option (Nat × Nat)) (attempt : Nat) : State :=
  match ask with
  | some (tb, id) => { s with tim := { s.tim with stampReq := s.tim.stampReq ++ [(q, tb, min attempt 15, id)] } }
  | none => s

/-! ### Pins (R228, R230) -/

/-- TOUTp takes a level; an edge is capture source 16 + p (R226). -/
def State.drivePin (s : State) (p : Nat) (b : Bool) : State :=
  if s.tim.tout.getD p false = b then s else ({ s with tim := { s.tim with tout := s.tim.tout.set p b } } : State).captureAll (16 + p) b 0

/-- R228: the pulses whose WIDTH has passed fall. -/
def State.pulseTick (s : State) : State :=
  (List.range 4).foldl (fun (s : State) p =>
    match s.tim.pulseEnd.getD p none with
    | some e => if e ≤ s.tim.tclkNs then ({ s with tim := { s.tim with pulseEnd := s.tim.pulseEnd.set p none } } : State).drivePin p false else s
    | none => s) s

/-! ### The tick of an idle block -/

/-- One TCLK period passes: the time bases tick while TCLK runs, and XO32K edges fall as its period completes (R214, R243). DESIGN CHOICE (log 2). -/
def State.idleTick (s : State) : State :=
  let s : State := { s with tim := { s.tim with now := s.tim.now + 4 } }
  let s := if s.tim.tclkOn then (({ s with tim := { s.tim with tclkNs := s.tim.tclkNs + 4 } } : State).tickBases tclkDt).pulseTick else s
  let ph := s.tim.xoPhase + tclkDt
  let per := (s.rd A.TB_XO32K_PERIOD).toNat
  if per ≤ ph then ({ s with tim := { s.tim with xoPhase := ph - per } }).xoEdge
  else { s with tim := { s.tim with xoPhase := ph } }

end Sys2Proof.Machine
end

