-- ==== Sys2Proof/Machine/TimeRows.lean ====
section
/-! DEFINITION. The commands of chapter "Datum, time bases and the calendar clock" (R214 to R245), but for compare units, whose calibration
ticks belong to the chains. -/

namespace Sys2Proof.Machine

/-! ### Adjustments (R217, R218, R220) -/

/-- R179: no reference entry is valid, so the member is the domain's root (R176). -/
def State.isRoot (s : State) : Bool := (List.range 4).all (fun k => !s.isSet (F.TRV_DATUM_REF_VALID k))

/-- R218: base n accepts the adjustment; `moves` for a set or a step, not for a rate or a slew. DEDUCED (log 79). -/
def State.tbAccepts (s : State) (n : Nat) (moves : Bool) : Bool :=
  let src := s.get (F.TB_STATUS_SOURCE n)
  src == 0 || src == 2 || (src == 1 && (s.get F.TRV_STATUS_DOMAIN == 0 || (!moves && s.isRoot)))

/-- A write committing an adjustment of base n: refused writes are discarded and counted (R218). -/
def State.tbCommit (s : State) (n : Nat) (moves : Bool) (op : State → State) : State :=
  if s.tbAccepts n moves then op s else s.bump A.TB_WRITE_REJECT

/-- The time that TBn_SET0 to TBn_SET2 hold, hidden fraction bits cleared (R217). -/
def State.setValue (s : State) (n : Nat) : Nat :=
  ((s.get (F.TB_SET1_S_LO n) + s.get (F.TB_SET2_S_HI n) * 2 ^ 32) * nsPerS + s.get (F.TB_SET0_N n)) * unitsPerNs + s.get (F.TB_SET2_F n) * 2 ^ 32

/-- R220: a write holds LOCKED of the PTP base. -/
def State.ptpHeld (s : State) (n : Nat) : State :=
  if s.get (F.TB_STATUS_SOURCE n) = 2 then { s with tim := { s.tim with ptpAt := s.tim.now } } else s

/-- A write of TBn_CTRL. LOCKED is kept on the PTP base only (R220, R242). DEDUCED (log 79). -/
def State.tbCtrlWrite (s : State) (n : Nat) (v : Word) : State :=
  let max := getField v 2 10
  if max = 0 ∨ 1000 < max then s.bump A.TB_WRITE_REJECT
  else if bit v.toNat 0 && !s.tbAccepts n true then s.bump A.TB_WRITE_REJECT
  else
    let s := s.put (F.TB_CTRL_SLEW_MAX n) max
    let s := if s.get (F.TB_STATUS_SOURCE n) = 2 then s.put (F.TB_CTRL_LOCKED n) (getField v 1 1) else s
    let s := if bit v.toNat 1 then s.ptpHeld n else s
    if bit v.toNat 0 then s.tbMod n (fun b => { b with setPend := some (s.setValue n) }) else s

/-- R217: a set takes effect at the next tick. -/
def execTbSet (m : Master) (n : Fin 8) (v : Word) (s : State) : Res :=
  .next (s.hostWrite m (A.TB_CTRL n) v (fun s => s.tbCtrlWrite n v))

/-- R217: a write of TBn_STEP_HI adds the signed 64-bit step at the next tick. -/
def State.tbStepWrite (s : State) (n : Nat) (v : Word) : State :=
  s.tbCommit n true (fun s =>
    let d := sint 64 (v.toNat * 2 ^ 32 + s.get (F.TB_STEP_LO_STEP n))
    s.tbMod n (fun b => { b with stepPend := some d }))

/-- R217: a step. -/
def execTbStep (m : Master) (n : Fin 8) (v : Word) (s : State) : Res :=
  .next (s.hostWrite m (A.TB_STEP_HI n) v (fun s => s.tbStepWrite n v))

/-- R217: a write of TBn_SLEW replaces what remains of a slew. -/
def State.tbSlewWrite (s : State) (n : Nat) (v : Word) : State :=
  s.tbCommit n false (fun s => (s.ptpHeld n).tbMod n (fun b => { b with slewPend := some (sint 32 v.toNat * (unitsPerNs : Nat)) }))

/-- R217: a slew. -/
def execTbSlew (m : Master) (n : Fin 8) (v : Word) (s : State) : Res :=
  .next (s.hostWrite m (A.TB_SLEW n) v (fun s => s.tbSlewWrite n v))

/-- R217: a write of TBn_RATE_HI replaces RATE, its low word as last written to TBn_RATE_LO. -/
def State.tbRateWrite (s : State) (n : Nat) (v : Word) : State :=
  s.tbCommit n false (fun s =>
    let r := sint 40 (getField v 0 8 * 2 ^ 32 + s.get (F.TB_RATE_LO_RATE n))
    ((s.ptpHeld n).put (F.TB_RATE_HI_RATE n) (getField v 0 8)).tbMod n (fun b => { b with ratePend := some r }))

/-- R217: a rate. -/
def execTbRate (m : Master) (n : Fin 8) (v : Word) (s : State) : Res :=
  .next (s.hostWrite m (A.TB_RATE_HI n) v (fun s => s.tbRateWrite n v))

/-! ### PTP (R220, R222) and the Datum servo (R221) -/

/-- The base of a source, if the Legend has one. -/
def State.baseOf (s : State) (src : Nat) : Option Nat := (List.range 8).find? (fun n => s.get (F.TB_STATUS_SOURCE n) == src)

/-- The servo steers TB0 and with it every base of source 1 (R218, R221). DESIGN CHOICE (log 80). -/
def State.steer (s : State) (f : TimeBase → TimeBase) : State :=
  { s with tim := { s.tim with tb := (indexed s.tim.tb).map (fun e => if e.1 = 0 ∨ s.get (F.TB_STATUS_SOURCE e.1) = 1 then f e.2 else e.2) } }

/-- R220: LOCKED of the PTP base. DEDUCED (log 79). -/
def State.ptpLocked (s : State) : Bool :=
  match s.baseOf 2 with
  | some n => s.isSet (F.TB_CTRL_LOCKED n)
  | none => false

/-- R222: PTP steering is in force. -/
def State.ptpInForce (s : State) : Bool := s.isSet F.TB_DATUM_CTRL_PTP_STEER && s.ptpLocked

/-- R220: 4 s have passed since the last write that holds LOCKED. -/
def execPtpLockedExpire (s : State) : Res :=
  .next (match s.baseOf 2 with
    | some n => if s.tim.ptpAt + 4000000000 ≤ s.tim.now then s.put (F.TB_CTRL_LOCKED n) 0 else s
    | none => s)

/-- Root mean square of the recorded offsets in whole ns, rounded down. DESIGN CHOICE (log 80). -/
def rmsOf (l : List Int) : Nat := if l.length = 0 then 0 else isqrt (l.foldl (fun a o => a + o.natAbs * o.natAbs) 0 / l.length)

/-- The frequency after a sample o over dt = dtN / dtD seconds, held within ±100,000 ppb (R221). DESIGN CHOICE (log 80). -/
def freqAfter (fN : Int) (fD : Nat) (o : Int) (ki dtN dtD : Nat) : Int × Nat :=
  let n := fN * (16 * dtN : Nat) - o * (ki * dtD * fD : Nat)
  let d := fD * (16 * dtN)
  if 100000 * (d : Int) < n then (100000, 1) else if n < -(100000 * (d : Int)) then (-100000, 1)
  else
    let g := Nat.gcd n.natAbs d
    (n / (g : Nat), d / g)

/-- R221: apply(o, dt) with dt = dtN / dtD seconds. Where dt is 0, or no sample has been used before, the frequency correction is left open:
a free value within the clamp. DESIGN CHOICE (log 80). -/
def State.servoApply (s : State) (o : Int) (dt : Option (Nat × Nat)) : State :=
  let ki := s.get F.TB_DATUM_CTRL_KI
  let s := if s.get F.TRV_DATUM_STATE_STAGE = 0 ∨ s.get F.TRV_STATUS_DOMAIN = 2 then
      match dt with
      | some (dtN + 1, dtD) =>
        let f := freqAfter s.tim.freqN s.tim.freqD o ki (dtN + 1) dtD
        { s with tim := { s.tim with freqN := f.1, freqD := f.2 } }
      | _ =>
        let x := s.freeInt
        { x.2 with tim := { x.2.tim with freqN := clampInt (-100000) 100000 x.1, freqD := 1 } }
    else s
  let rate := roundDiv (s.tim.freqN * (2 ^ 48 : Nat)) (s.tim.freqD * 1000000000)
  let s := if s.get F.TRV_DATUM_STATE_STAGE = 0 ∨ s.get F.TRV_STATUS_DOMAIN = 2 then s.steer (fun x => { x with ratePend := some rate }) else s
  let s := s.steer (fun x => { x with slewPend := some (-o * (s.get F.TB_DATUM_CTRL_KP : Int) * (2 ^ 44 : Nat)) })
  let offs := (o :: s.tim.offs).take 8
  let s := { s with tim := { s.tim with offs := offs, sampleAt := some s.tim.now } }
  let s := s.wr A.TB_DATUM_OFFSET (BitVec.ofInt 32 o)
  let s := s.wr A.TB_DATUM_FREQ (BitVec.ofInt 32 (roundDiv s.tim.freqN s.tim.freqD))
  s.wr A.TB_DATUM_RESIDUAL (BitVec.ofNat 32 (rmsOf offs))

/-- The signed 64-bit TB_DATUM_PTP_OFS. -/
def State.ptpOfs (s : State) : Int := sint 64 ((s.rd A.TB_DATUM_PTP_OFS_HI).toNat * 2 ^ 32 + (s.rd A.TB_DATUM_PTP_OFS_LO).toNat)

/-- R222: o = TB0 − (PTP base + TB_DATUM_PTP_OFS), both read in one tick, in whole ns. -/
def State.ptpOffset (s : State) : Int :=
  match s.baseOf 2 with
  | some n => (s.tb0 : Int) / (unitsPerNs : Nat) - ((s.tbAt n).t : Int) / (unitsPerNs : Nat) - s.ptpOfs
  | none => 0

/-- R221, R222: every millisecond of PTP steering; outside a domain and at its root the servo applies nothing. DESIGN CHOICE (log 80). -/
def execPtpSteer (s : State) : Res := .next (if s.ptpInForce ∧ s.get F.TRV_STATUS_DOMAIN ≠ 0 ∧ !s.isRoot then s.servoApply s.ptpOffset (some (1, 1000)) else s)

/-! ### Captures (R226) -/

/-- R226: a source event is captured by every unit that takes it; an edge of TIN0 may also wake the device (R420). DEDUCED (log 82). -/
def execCaptureEvent (src : Fin 22) (rising : Bool) (sub : Fin 4) (s : State) : Res := 
  .next (let t := s.captureAll src rising sub; if src = 0 then t.tinWake rising else t)

/-- A write of CAPc_CTRL: the fields, then a software capture where SW is 1 and the unit's source is 9. -/
def State.capCtrlWrite (s : State) (c : Nat) (v : Word) : State :=
  if 21 < getField v 0 5 then s.bump A.TB_WRITE_REJECT
  else
    let s := s.wr (A.CAP_CTRL c) (fieldWord 0 10 (getField v 0 10))
    if bit v.toNat 10 ∧ s.get (F.CAP_CTRL_SOURCE c) = 9 ∧ edgeTaken (s.get (F.CAP_CTRL_EDGE c)) true then s.capture c true 0 else s

/-- R226: a write of CAPc_CTRL. -/
def execCapSw (m : Master) (c : Fin 16) (v : Word) (s : State) : Res :=
  .next (s.hostWrite m (A.CAP_CTRL c) v (fun s => s.capCtrlWrite c v))

/-- The four words of a capture entry (R244). -/
def CapEntry.words (e : CapEntry) : Word × Word × Word × Word :=
  (fieldWord 0 1 1 ||| fieldWord 1 1 (b2n e.rising) ||| fieldWord 2 1 (b2n e.carried), BitVec.ofNat 32 e.ns, BitVec.ofNat 32 (e.sec % 2 ^ 32),
    fieldWord 0 16 (e.sec / 2 ^ 32) ||| fieldWord 16 16 e.frac)

/-- R226: the oldest entry is removed and DATA1 to DATA3 latched; with the FIFO empty VALID reads 0. -/
def State.capRead (s : State) (m : Master) (c : Nat) : State :=
  match s.tim.cap.getD c [] with
  | [] => s.answer m (A.CAP_DATA0 c) 0#32
  | e :: l =>
    let w := e.words
    let s := { s with tim := { s.tim with cap := s.tim.cap.set c l } }
    let s := s.put (F.CAP_STATUS_COUNT c) l.length
    (s.latch m [(A.CAP_DATA1 c, w.2.1), (A.CAP_DATA2 c, w.2.2.1), (A.CAP_DATA3 c, w.2.2.2)]).answer m (A.CAP_DATA0 c) w.1

/-- R226: a read of CAPc_DATA0. -/
def execCapDataRead (m : Master) (c : Fin 16) (s : State) : Res := .next (s.hostRead m (A.CAP_DATA0 c) (fun s => s.capRead m c))

/-! ### Compare targets (R228, R229) -/

/-- R229: whether unit c, armed, stands before a target already passed. -/
def State.cmpArmCheck (s : State) (c : Nat) : State :=
  { s with tim := { s.tim with late := s.tim.late.set c (s.cmpArmed c && decide (s.cmpTarget c ≤ s.cmpTime c)), jumped := s.tim.jumped.set c false } }

/-- A write of CMPm_TARGET0 commits the three target words (R228). -/
def State.cmpTargetWrite (s : State) (c : Nat) (v : Word) : State :=
  let n := getField v 0 30
  if 999999999 < n then s.bump A.TB_WRITE_REJECT
  else
    let s := s.put (F.CMP_TARGET0_N c) n
    let t := (s.get (F.CMP_TARGET1_S_LO c) + s.get (F.CMP_TARGET2_S_HI c) * 2 ^ 32) * nsPerS + n
    ({ s with tim := { s.tim with cmpTarget := s.tim.cmpTarget.set c t } }).cmpArmCheck c

/-- R228: a write of CMPm_TARGET0. -/
def execCmpTargetCommit (m : Master) (c : Fin 16) (v : Word) (s : State) : Res :=
  .next (s.hostWrite m (A.CMP_TARGET0 c) v (fun s => s.cmpTargetWrite c v))

/-- R230: a lower-numbered unit that is armed, or that has fired in this tick, names the pin of unit c. -/
def State.cmpOverruled (s : State) (c : Nat) : Bool :=
  let o := s.get (F.CMP_CTRL_OUTPUT c)
  decide (1 ≤ o) && decide (o ≤ 4) &&
    (List.range c).any (fun d => (s.cmpArmed d || s.tim.cmpAt.getD d none == some s.tim.now) && s.get (F.CMP_CTRL_OUTPUT d) == o)

/-- R230: armed units that a lower-numbered one overrules show CONFLICT. -/
def State.cmpConflicts (s : State) : State :=
  (List.range 16).foldl (fun (s : State) c => if s.cmpArmed c && s.cmpOverruled c && !s.isSet (F.CMP_STATUS_CONFLICT c) then s.raise (F.CMP_STATUS_CONFLICT c) else s) s

/-- A write of CMPm_CTRL: the fields, SKIPPED cleared, a past target noted (R229, R244), conflicts over a pin shown (R230). -/
def State.cmpCtrlWrite (s : State) (c : Nat) (v : Word) : State :=
  if 2 < getField v 4 2 ∨ 8 < getField v 6 4 then s.bump A.TB_WRITE_REJECT
  else (((s.wr (A.CMP_CTRL c) (fieldWord 0 10 (getField v 0 10))).put (F.CMP_STATUS_SKIPPED c) 0).cmpArmCheck c).cmpConflicts

/-! ### PPS (R233) -/

/-- PPS_OUT takes a level; an edge is capture source 20 (R226). -/
def State.drivePps (s : State) (b : Bool) : State :=
  if s.tim.pps = b then s else ({ s with tim := { s.tim with pps := b } } : State).captureAll 20 b 0

/-- R233: the last tick, or while carried the last XO32K edge, took the chosen base plus TB_PPS_OFFSET to a whole second. DESIGN CHOICE (log 83). -/
def State.ppsReached (s : State) : Bool :=
  let x := ((s.tbValue (s.get F.TB_PPS_CTRL_TB) : Int) / (unitsPerNs : Nat) + sint 32 (s.rd A.TB_PPS_OFFSET).toNat) % (nsPerS : Nat)
  decide (x < if s.tim.carried then ((s.rd A.TB_XO32K_PERIOD).toNat / 2 ^ 16 + 1 : Nat) else 5)

/-- R233: PPS_OUT rises while EN is 1 as its base reaches a whole second, and falls WIDTH µs later. DESIGN CHOICE (log 83). -/
def execPpsPulse (high : Bool) (s : State) : Res :=
  .next (
    if high then
      if s.isSet F.TB_PPS_CTRL_EN && !s.tim.pps && s.ppsReached then
        ({ s with tim := { s.tim with ppsUntil := s.tim.now + s.get F.TB_PPS_CTRL_WIDTH * 1000 } } : State).drivePps true
      else s
    else if s.tim.ppsUntil ≤ s.tim.now then s.drivePps false else s)

/-- A write of TB_PPS_CTRL: PPS_OUT is low while EN is 0 (R233). -/
def State.ppsCtrlWrite (s : State) (v : Word) : State :=
  let s := s.tableWrite A.TB_PPS_CTRL v
  if s.isSet F.TB_PPS_CTRL_EN then s else s.drivePps false

/-! ### Transmit timestamp queues (R235, R236) -/

/-- R235: the stamp point passes of a frame sent whose stamp has been asked for. -/
def State.stampPoint (s : State) (q tb attempt id : Nat) : State :=
  let e := (q, tb, min attempt 15, id)
  if s.tim.stampReq.contains e then ({ s with tim := { s.tim with stampReq := s.tim.stampReq.erase e } } : State).txStamp q tb attempt id else s

/-- R235. -/
def execTxStamp (q : Fin 7) (tb : Fin 8) (attempt : Nat) (id : BitVec 16) (s : State) : Res := .next (s.stampPoint q tb attempt id.toNat)

/-- The four words of a stamp (R235). -/
def StampEntry.words (e : StampEntry) : Word × Word × Word × Word :=
  (fieldWord 0 1 1 ||| fieldWord 1 3 e.tb ||| fieldWord 4 4 e.attempt ||| fieldWord 16 16 e.id, BitVec.ofNat 32 e.ns,
    BitVec.ofNat 32 (e.sec % 2 ^ 32), fieldWord 0 16 (e.sec / 2 ^ 32) ||| fieldWord 16 16 e.frac)

/-- R235: the oldest stamp is removed and HEAD1 to HEAD3 latched. -/
def State.txqRead (s : State) (m : Master) (q : Nat) : State :=
  match s.tim.txq.getD q [] with
  | [] => s.answer m (A.TXQ_HEAD0 q) 0#32
  | e :: l =>
    let w := e.words
    let s := { s with tim := { s.tim with txq := s.tim.txq.set q l } }
    let s := s.put (F.TXQ_STATUS_COUNT q) l.length
    (s.latch m [(A.TXQ_HEAD1 q, w.2.1), (A.TXQ_HEAD2 q, w.2.2.1), (A.TXQ_HEAD3 q, w.2.2.2)]).answer m (A.TXQ_HEAD0 q) w.1

/-- R235: a read of TXQ_HEAD0. -/
def execTxqHeadRead (m : Master) (q : Fin 7) (s : State) : Res := .next (s.hostRead m (A.TXQ_HEAD0 q) (fun s => s.txqRead m q))

/-! ### Calendar (R237 to R241) -/

/-- R237: CAL_NOW0 answers the subseconds and latches the rest of the count and the calendar fields. -/
def State.calNowRead (s : State) (m : Master) : State :=
  let f := s.calFields
  (s.latch m [(A.CAL_NOW1, BitVec.ofNat 32 (s.tim.calSec % 2 ^ 32)), (A.CAL_NOW2, fieldWord 0 16 (s.tim.calSec / 2 ^ 32)), (A.CAL_DATE, f.1),
    (A.CAL_TIME, f.2)]).answer m A.CAL_NOW0 (fieldWord 0 15 s.tim.calSub)

/-- R237: a read of CAL_NOW0. -/
def execCalNowRead (m : Master) (s : State) : Res := .next (s.hostRead m A.CAL_NOW0 (fun s => s.calNowRead m))

/-- A write of CAL_CTRL (R238 to R240, R245). A leap second scheduled for a LEAP_AT that is not a multiple of 86,400, and a SET while BUSY, are
discarded and counted. -/
def State.calCtrlWrite (s : State) (v : Word) : State :=
  let leap := getField v 2 2
  if leap = 3 then s.bump A.TB_WRITE_REJECT
  else if leap ≠ 0 ∧ s.leapAt % 86400 ≠ 0 then s.bump A.TB_WRITE_REJECT
  else if bit v.toNat 0 ∧ s.isSet F.CAL_STATUS_BUSY then s.bump A.TB_WRITE_REJECT
  else
    let s := (s.put F.CAL_CTRL_ALARM_EN (getField v 1 1)).put F.CAL_CTRL_LEAP_NEXT leap
    let s : State := if bit v.toNat 1 then s else { s with tim := { s.tim with alarmDone := false } }
    if bit v.toNat 0 then
      let set := (s.get F.CAL_SET1_S_LO + s.get F.CAL_SET2_S_HI * 2 ^ 32, s.get F.CAL_SET0_SUBSEC)
      ({ s with tim := { s.tim with calSet := some set } }).put F.CAL_STATUS_BUSY 1
    else s

/-- R238: a write of CAL_CTRL. -/
def execCalSet (m : Master) (v : Word) (s : State) : Res := .next (s.hostWrite m A.CAL_CTRL v (fun s => s.calCtrlWrite v))

/-- The offsets of the calendar domain's registers (R245). -/
def calOffsets : List Nat :=
  [A.CAL_SET0, A.CAL_SET1, A.CAL_SET2, A.CAL_CTRL, A.CAL_STATUS, A.CAL_LEAP, A.CAL_LEAP_AT0, A.CAL_LEAP_AT1, A.CAL_ALARM0, A.CAL_ALARM1, A.CAL_ALARM2]

/-- R241: the calendar clock stops and its domain loses everything. -/
def State.calStop (s : State) : State :=
  let s := { s with tim := { s.tim with calRuns := false, calSec := 0, calSub := 0, calSet := none, leapHold := false, alarmDone := false } }
  calOffsets.foldl (fun s o => s.wr o (resetWord o)) s

/-- R241: VBAT falls below 1.6 V; with VIN present nothing happens. -/
def execVbatLoss (s : State) : Res := .next (if s.pwr.stage = .unpowered then s.calStop.put F.PWR_CLK_STATUS_XO32K_OK 0 else s)

end Sys2Proof.Machine
end

