-- ==== Sys2Proof/Machine/Graticule.lean ====
section
/-! DEFINITION. The Graticule's tables: positions and runs (R149 to R152), the working and shadow tables (R153 to R156), grants, commits and the
take-back of domain slots (R170 to R174). -/

namespace Sys2Proof.Machine

/-! ### Grid -/

/-- Nanoseconds in a slot (R149). -/
def slotNs : Nat := 256000

/-- Slots in an epoch (R151). -/
def epochSlots : Nat := 4000

/-- Radio n's Graticule. -/
def State.gr (s : State) (n : Nat) : GrtRadio := s.grt.radios.getD n .reset

/-- Radio n's Graticule changed. -/
def State.grMod (s : State) (n : Nat) (f : GrtRadio → GrtRadio) : State :=
  { s with grt := { s.grt with radios := modAt s.grt.radios n f } }

/-- Slots in a superframe of radio n (R150). -/
def State.sfSlots (s : State) (n : Nat) : Nat := 4 * s.superframeTu n

/-- The position of slot i on radio n (R150). -/
def State.position (s : State) (n i : Nat) : Nat := i % s.sfSlots n

/-- The epoch number (R151). -/
def State.epoch (s : State) : Nat := s.slotIndex / epochSlots % 2 ^ 32

/-- R151: the radio takes domain grants. -/
def State.grantsOk (s : State) (n : Nat) : Bool := s.superframeTu n != 0 && 1000 % s.superframeTu n == 0

/-- R171: epoch `e` is not later than `present`, modulo 2^32. -/
def notLater (e present : Nat) : Bool := (present + 2 ^ 32 - e % 2 ^ 32) % 2 ^ 32 < 2 ^ 31

/-! ### Entries and runs -/

/-- Entry p of radio n's working table. -/
def State.slotEntry (s : State) (n p : Nat) : Nat := (s.gr n).work.getD p 0

/-- R152: two slots belong to one run. -/
def sameRun (a b : Nat) : Bool :=
  let k := slotKind a
  k == slotKind b && ((k != kDLS && k != kULT) || (slotSpid a == slotSpid b && slotBorrowed a == slotBorrowed b)) &&
    ((k != kSTP && k != kINS) || slotPeer a == slotPeer b)

/-- R126, R165: a Stipple link of radio n to member `peer` is enabled. -/
def State.stpLinked (s : State) (n peer : Nat) : Bool :=
  (List.range 8).any fun k =>
    let v := s.get (F.RAD_STP_LINK_CFG_SURVEY n k)
    s.isSet (F.RAD_STP_LINK_CFG_ENABLE n k) && s.get (F.RAD_STP_LINK_CFG_PEER n k) == peer && s.isSet (F.CHN_SURVEY0_VALID v) &&
      s.isSet (F.CHN_SURVEY0_STIPPLE_PEER v) && s.get (F.CHN_SURVEY0_PATH v) == n + 1 && s.get (F.CHN_SURVEY0_MEMBER v) == peer

/-- R177: the slot at p stands beside an INS run or a quiet domain-owned run. -/
def State.besideQuiet (s : State) (n p : Nat) : Bool :=
  let size := s.sfSlots n
  [(p + size - 1) % size, (p + 1) % size].any fun q =>
    let g := s.slotEntry n q
    (slotKind g == kINS || (slotKind g == kQUI && slotOwner g)) && !sameRun (s.slotEntry n p) g

/-- The kind of position p of radio n as executed: STP without an enabled link is QUI (R165), as are the slots that CAPPED and DETACHED
withdraw (R177). -/
def State.execKind (s : State) (n p : Nat) : Nat :=
  let w := s.slotEntry n p
  let k := slotKind w
  let stage := s.get F.TRV_DATUM_STATE_STAGE
  if k = kSTP ∧ !s.stpLinked n (slotPeer w) then kQUI
  else if stage = 3 ∧ slotOwner w then kQUI
  else if stage = 2 ∧ (slotBorrowed w ∨ k = kSTP ∨ s.besideQuiet n p) then kQUI
  else k

/-- R152: positions p and q of radio n belong to one run: their entries agree, and either both are executed as their KIND says or neither is (R165, R177). -/
def State.oneRun (s : State) (n p q : Nat) : Bool := sameRun (s.slotEntry n p) (s.slotEntry n q) && s.execKind n p == s.execKind n q

/-- The number of slots of the run that starts at position p of radio n. -/
def State.runLen (s : State) (n p : Nat) : Nat :=
  1 + ((List.range (s.sfSlots n - p - 1)).takeWhile (fun d => s.oneRun n p (p + 1 + d))).length

/-- The guard in force on radio n, in ns (R175). -/
def State.guardNs (s : State) (n : Nat) : Nat := s.get (F.RAD_GRT_GUARD_GUARD_NS n)

/-- The run that starts in slot i (R152); one treated as QUI keeps the REST of its own entry (R165, R177). -/
def State.runAt (s : State) (n i : Nat) : Run :=
  let p := s.position n i
  let e := s.slotEntry n p
  ⟨s.execKind n p, slotSpid e, slotBorrowed e, slotRest e, slotPeer e, slotMlAlign e, i, s.runLen n p, s.guardNs n⟩

/-- A slot edge of radio n lies at the start of slot i (R152); the first slot after a jump of TB0 starts a run of its own (R219). -/
def State.isEdge (s : State) (n i : Nat) : Bool :=
  let p := s.position n i
  (s.gr n).run.isNone || p == 0 || !s.oneRun n (p - 1) p

/-- The kind of radio n's run in progress, as executed; QUI while none is. -/
def State.runKind (s : State) (n : Nat) : Nat := ((s.gr n).run.map (fun r => r.kind)).getD kQUI

/-- The TB0 time in ns at which a run ends. -/
def Run.endNs (r : Run) : Nat := (r.first + r.len) * slotNs

/-- The usable end of the run in progress: its end less G (R152). -/
def State.usableEnd (s : State) (n : Nat) : Nat := (((s.gr n).run.map Run.endNs).getD 0) - s.guardNs n

/-- The first moment of the run in progress at which radio n may transmit: a guard recomputed since its first edge does not move it (R152, R175). -/
def State.usableStart (s : State) (n : Nat) : Nat := ((s.gr n).run.map (fun r => r.first * slotNs + r.guard)).getD 0

/-- A kind that bounds quiet stretches (R156). -/
def activeKind (k : Nat) : Bool := k == kBCN || k == kDLS || k == kULT || k == kCTN

/-- R155: a run of a kind carries frames of a kind. -/
def runCarries (kind : Nat) (k : TxKind) : Bool :=
  match k with
  | .dls => kind == kDLS
  | .stp => kind == kSTP
  | .trigger => kind == kULT
  | .beacon => kind == kBCN
  | .cts => activeKind kind
  | .contention => kind == kCTN

/-- R152, R155, R163: the run in progress lets radio n send a frame of a kind from `start` on for `dur` ns; after a CTS-to-self it sends nothing more. -/
def State.runAllows (s : State) (n : Nat) (k : TxKind) (start dur : Nat) : Bool :=
  match (s.gr n).run with
  | none => false
  | some r => runCarries r.kind k && decide (s.usableStart n ≤ start) && decide (start + dur ≤ s.usableEnd n) && !(s.gr n).ctsDone

/-- The kind of the run after `r` on radio n, as executed. -/
def State.nextKind (s : State) (n : Nat) (r : Run) : Nat := s.execKind n (s.position n (r.first + r.len))

/-- R99, R110: a kind whose edges calibration steps and low-priority grants keep away from. -/
def scheduledKind (k : Nat) : Bool := k == kBCN || k == kDLS || k == kULT || k == kSTP

/-! ### The template (R153) -/

/-- R153: at device start and at every restart both tables come from the template; grants, marks and a waiting commit go. -/
def State.reloadTables (s : State) (n : Nat) : State :=
  let t := s.plt.tmpl.getD n []
  let s := s.grMod n (fun g =>
    { g with work := t, shadow := t, marks := [], pend := [], commitAt := none, takeBack := false, run := none, served := [], bcnLeft := [],
             groupLeft := [], bcnTmpl := [], resting := none, ctsDone := false })
  let s := s.put (F.RAD_GRT_STATUS_PENDING n) 0
  let s := s.put (F.RAD_GRT_STATUS_COMMIT_BUSY n) 0
  s.raise (F.RAD_GRT_STATUS_RELOADED n)

/-! ### Grants (R170 to R172) -/

/-- The fields of a grant (R170). -/
def Grant.id (g : Grant) : Nat := getField g.w0 0 16
/-- R170. -/
def Grant.radio (g : Grant) : Nat := getField g.w0 16 2
/-- R170. -/
def Grant.isLocal (g : Grant) : Bool := getField g.w0 18 1 == 1
/-- R170. -/
def Grant.kind (g : Grant) : Nat := getField g.w0 20 4
/-- R170. -/
def Grant.first (g : Grant) : Nat := getField g.w1 0 12
/-- R170. -/
def Grant.count (g : Grant) : Nat := getField g.w1 12 12
/-- R170. -/
def Grant.epoch (g : Grant) : Nat := g.w3.toNat
/-- R170: reserved bits are clear. -/
def Grant.reservedOk (g : Grant) : Bool := getField g.w0 27 5 == 0 && getField g.w1 24 8 == 0 && getField g.w2 18 14 == 0

/-- The table entry that a grant writes (R172): KIND, OWNER 1, BORROWED, REST, SPID, PEER, ML_ALIGN, GRANT_ID. -/
def Grant.entry (g : Grant) : Nat :=
  g.kind + 2 ^ 4 + getField g.w0 19 1 * 2 ^ 5 + getField g.w0 24 2 * 2 ^ 6 + getField g.w2 10 8 * 2 ^ 8 + getField g.w2 0 10 * 2 ^ 16 +
    getField g.w0 26 1 * 2 ^ 26 + g.id * 2 ^ 32

/-- An entry after a grant: LOCAL sets OWNER to 0 and GRANT_ID and leaves the rest (R172). -/
def Grant.apply (g : Grant) (w : Nat) : Nat :=
  if g.isLocal then w % 2 ^ 32 - bits w 4 1 * 2 ^ 4 + g.id * 2 ^ 32 else g.entry

/-- The slots of the BCN run. -/
def bcnLen (t : List Nat) : Nat := (t.takeWhile (fun x => slotKind x == kBCN)).length

/-- R171: a grant for radio n is rejected. A COUNT of 0 lies outside R170. The fields that a LOCAL grant ignores are not checked. DEDUCED (log 60). -/
def State.grantBad (s : State) (n : Nat) (g : Grant) : Bool :=
  !s.grantsOk n || !s.isSet (F.RAD_GRT_CTRL_DOMAIN_EN n) || g.radio != n || g.id == 0 || !g.reservedOk ||
    (!g.isLocal && (g.kind == kBCN || 7 < g.kind)) || g.count == 0 || decide (s.sfSlots n < g.first + g.count) ||
    decide (g.first < bcnLen (s.gr n).work) || (!g.isLocal && !slotFieldsOk g.entry)

/-- R171: a grant submitted to radio n by either path. DEDUCED (log 60). -/
def State.submitGrant (s : State) (n : Nat) (g : Grant) : State :=
  if s.grantBad n g then s.bump (A.RAD_GRT_GRANT_REJECT n)
  else if 256 ≤ (s.gr n).pend.length then s.bump (A.RAD_GRT_GRANT_DROP n)
  else
    let s := if notLater g.epoch s.epoch then s.bump (A.RAD_GRT_GRANT_LATE n) else s
    let s := s.grMod n (fun r => { r with pend := r.pend ++ [g] })
    s.put (F.RAD_GRT_STATUS_PENDING n) (s.gr n).pend.length

/-- A range of a table changed, at the positions that `keep` allows. -/
def overRange (t : List Nat) (first count : Nat) (keep : Nat → Bool) (f : Nat → Nat) : List Nat :=
  (indexed t).map (fun e => if first ≤ e.1 ∧ e.1 < first + count ∧ keep e.1 then f e.2 else e.2)

/-- R172 step 1: one due grant is applied to the working table and the unmarked shadow entries, and undone alone where the table breaks R156. DEDUCED (log 60). -/
def State.applyGrant (s : State) (n : Nat) (g : Grant) : State :=
  let r := s.gr n
  let work := overRange r.work g.first g.count (fun _ => true) g.apply
  if slotTableOk work then
    let shadow := overRange r.shadow g.first g.count (fun p => !r.marks.contains p) g.apply
    s.grMod n (fun r => { r with work := work, shadow := shadow })
  else s.bump (A.RAD_GRT_GRANT_REJECT n)

/-- R172 step 1 at the start of epoch e: every pending grant that has fallen due, in order of arrival. -/
def State.applyGrants (s : State) (n e : Nat) : State :=
  let due := (s.gr n).pend.filter (fun g => notLater g.epoch e)
  let s := s.grMod n (fun r => { r with pend := r.pend.filter (fun g => !notLater g.epoch e) })
  let s := due.foldl (fun s g => s.applyGrant n g) s
  s.put (F.RAD_GRT_STATUS_PENDING n) (s.gr n).pend.length

/-! ### Host commits (R173) -/

/-- The fields a host write gives an entry: KIND, BORROWED, REST, SPID, PEER and ML_ALIGN; OWNER and the upper word are ignored. -/
def hostFields (lo : Nat) : Nat := lo % 2 ^ 4 + bits lo 5 22 * 2 ^ 5

/-- R173 step 1: a write of word x of the shadow window. Positions beyond the superframe are ignored and counted (R13, R153); reserved bits read 0 (R8). -/
def State.shadowWrite (s : State) (n x : Nat) (v : Word) : State :=
  let p := x / 2
  if s.sfSlots n ≤ p then s.bump A.PLT_STRUCT_REJECT
  else if s.isSet (F.RAD_GRT_STATUS_COMMIT_BUSY n) then s.bump (A.RAD_GRT_LOCAL_REJECT n)
  else
    let marked (l : List Nat) : List Nat := if l.contains p then l else p :: l
    s.grMod n (fun r =>
      { r with marks := marked r.marks,
               shadow := if x % 2 = 0 then r.shadow.set p (r.shadow.getD p 0 - r.shadow.getD p 0 % 2 ^ 32 + hostFields v.toNat +
                 bits (r.shadow.getD p 0) 4 1 * 2 ^ 4) else r.shadow })

/-- R173 step 2: a commit waits for the first superframe boundary at least 64 µs away. A GO while one waits changes nothing. DEDUCED (log 61). -/
def State.grtCommit (s : State) (n : Nat) : State :=
  if s.isSet (F.RAD_GRT_STATUS_COMMIT_BUSY n) then s
  else (s.grMod n (fun r => { r with commitAt := some (s.t0 + 64000) })).put (F.RAD_GRT_STATUS_COMMIT_BUSY n) 1

/-- R173 steps 3 to 5: marked entries are merged where OWNER is 0, the result checked, the shadow table refreshed. -/
def State.mergeCommit (s : State) (n : Nat) : State :=
  let r := s.gr n
  let work := (indexed r.work).map (fun e =>
    if r.marks.contains e.1 ∧ !slotOwner e.2 then hostFields (r.shadow.getD e.1 0) else e.2)
  let kept := (r.marks.filter (fun p => slotOwner (r.work.getD p 0))).length
  let s := s.count (A.RAD_GRT_LOCAL_REJECT n) kept
  let ok := slotTableOk work
  let final := if ok then work else r.work
  let s := s.grMod n (fun r => { r with work := final, shadow := final, marks := [], commitAt := none })
  let s := s.put (F.RAD_GRT_STATUS_COMMIT_BUSY n) 0
  if ok then s else s.raise (F.RAD_GRT_STATUS_COMMIT_ERROR n)

/-! ### Taking domain slots back (R174, R448) -/

/-- An entry with OWNER 0, its other fields unchanged. -/
def disown (w : Nat) : Nat := w - bits w 4 1 * 2 ^ 4

/-- R174 at the superframe boundary. DEDUCED (log 61). -/
def State.takeBackNow (s : State) (n : Nat) : State :=
  let s := s.grMod n (fun r => { r with work := r.work.map disown, shadow := r.shadow.map disown, pend := [], takeBack := false })
  s.put (F.RAD_GRT_STATUS_PENDING n) 0

/-- A write of RADn_GRT_CTRL (R174, R178): out of range it is discarded whole; a secondary write never clears DOMAIN_EN (R448). DEDUCED (log 61). -/
def State.grtCtrlWrite (s : State) (m : Master) (n : Nat) (v : Word) : State :=
  let sched := getField v 0 10
  if sched = 0 ∨ 512 < sched ∨ 8 < getField v 10 4 then s
  else
    let old := s.get (F.RAD_GRT_CTRL_DOMAIN_EN n)
    let s := s.wr (A.RAD_GRT_CTRL n) (setField (s.rd (A.RAD_GRT_CTRL n)) 0 17 (getField v 0 17))
    if bit v.toNat 16 then s
    else if m = .secondary then (s.put (F.RAD_GRT_CTRL_DOMAIN_EN n) old).bump (A.RAD_GRT_LOCAL_REJECT n)
    else s.grMod n (fun r => { r with takeBack := true })

/-! ### Commands -/

/-- R171: the write of RADn_GRT_GRANT_IN word 3 submits the grant of words 0 to 2 as written. -/
def execGrantSubmit (m : Master) (n : Fin 3) (v : Word) (s : State) : Res :=
  .next (s.hostWrite m (A.RAD_GRT_GRANT_IN n 3) v (fun s =>
    s.submitGrant n ⟨s.rd (A.RAD_GRT_GRANT_IN n 0), s.rd (A.RAD_GRT_GRANT_IN n 1), s.rd (A.RAD_GRT_GRANT_IN n 2), v⟩))

/-- R173: a write through the shadow window. -/
def execShadowWrite (m : Master) (n : Fin 3) (x : Fin 8192) (v : Word) (s : State) : Res :=
  .next (s.hostWrite m (A.RAD_SHADOW n x) v (fun s => s.shadowWrite n x v))

/-- R173: a write of RADn_GRT_COMMIT. -/
def execGrtCommit (m : Master) (n : Fin 3) (v : Word) (s : State) : Res :=
  .next (s.hostWrite m (A.RAD_GRT_COMMIT n) v (fun s => if bit v.toNat 0 then s.grtCommit n else s))

/-- R174: a write of RADn_GRT_CTRL. -/
def execDomainEnWrite (m : Master) (n : Fin 3) (v : Word) (s : State) : Res :=
  .next (s.hostWrite m (A.RAD_GRT_CTRL n) v (fun s => s.grtCtrlWrite m n v))

end Sys2Proof.Machine
end

