-- ==== Sys2Proof/Machine/RegProfile.lean ====
section
/-! DEFINITION. Regulatory profiles (R104 to R109): their layout, the profile in force and the limits it sets. -/

namespace Sys2Proof.Machine

/-- The valid byte of a written profile (R104). -/
def profileMark (b : List Byte) : Bool := leAt b 0 1 == 0xA5

/-- R104: the Traverse dwell rules. -/
def dwellOk (b : List Byte) : Bool :=
  let dwell := leAt b 0x34 2
  let period := leAt b 0x36 2
  if period = 0 then dwell == 0 else period % 64 == 0 && 64 ≤ period && period ≤ 65472 && 2 ≤ dwell && dwell ≤ period

/-- R104: the stored CRC matches. -/
def profileCrcOk (b : List Byte) : Bool := crc32c (slice b 0 0x7C) == leAt b 0x7C 4

/-- R104: a profile read at start counts as written. -/
def profileGood (b : List Byte) : Bool := profileMark b && profileCrcOk b && dwellOk b

/-- The bytes of fused profile p. -/
def State.profile (s : State) (p : Nat) : List Byte := s.rfuse.profiles.getD p []

/-- CHN_REG_STATUS.WRITTEN of profile p. -/
def State.profileWritten (s : State) (p : Nat) : Bool := bit (s.get F.CHN_REG_STATUS_WRITTEN) p

/-- The number of the profile enforced. -/
def State.activeProfile (s : State) : Nat := s.get F.CHN_REG_STATUS_ACTIVE_PROFILE

/-- A field of the profile enforced. -/
def State.prof (s : State) (off w : Nat) : Nat := leAt (s.profile s.activeProfile) off w

/-- R104: profile bytes allow the 20 MHz channel `c` of a band, numbered as its map numbers it. -/
def subAllowed (b : List Byte) (band c : Nat) : Bool :=
  match band with
  | 0 => 1 ≤ c && c ≤ 14 && bit (leAt b 0x04 2) c
  | 1 => 36 ≤ c && c ≤ 177 && bit (leAt b 0x08 24) c
  | 2 => c ≤ 58 && bit (leAt b 0x20 8) c
  | _ => false

/-- R105: a profile allows a channel. -/
def channelAllowed (b : List Byte) (ch : Channel) : Bool :=
  ch.subs != [] && ch.subs.all (subAllowed b ch.band) && ch.width ≤ leAt b (0x28 + ch.band) 1

/-- Every 20 MHz channel of every band that profile `a` allows, profile `b` allows. -/
def mapsWithin (a b : List Byte) : Bool :=
  let sub (x y : Nat) : Bool := x &&& y == x
  sub (leAt a 0x04 2) (leAt b 0x04 2) && sub (leAt a 0x08 24) (leAt b 0x08 24) && sub (leAt a 0x20 8) (leAt b 0x20 8)

/-- A duty ceiling as a comparable number: 0 means no ceiling (R104), the loosest. -/
def dutyRank (x : Nat) : Nat := if x = 0 then 256 else x

/-- R108: profile `a` is no looser than profile `b`. -/
def profileWithin (a b : List Byte) : Bool :=
  let le (o w : Nat) : Bool := leAt a o w ≤ leAt b o w
  mapsWithin a b && [0x28, 0x29, 0x2A].all (le · 1) && (List.range 48).all (fun i => le (0x40 + i) 1) &&
    [0x30, 0x31, 0x32].all (fun o => dutyRank (leAt a o 1) ≤ dutyRank (leAt b o 1)) &&
    le 0x34 2 && le 0x38 1 && le 0x3A 1 && le 0x3B 1 && le 0x3C 2 &&
    leAt a 0x2C 2 == leAt b 0x2C 2 && leAt a 0x36 2 == leAt b 0x36 2 && leAt b 0x39 1 ≤ leAt a 0x39 1

/-- R106, R107: transmitters may radiate: the lock bit is blown and the profile in force written, or a stylus session stands open;
with the balls taken nothing is on the air (R473). -/
def State.mayRadiate (s : State) : Bool :=
  !s.ballsTaken && (if s.rfuse.lock then s.profileWritten s.activeProfile else s.dbg.session)

/-- R107: the power ceiling of chain c in a band, in 0.25 dBm: the lower of the profile's and CHN_TX_CAPn; 0 = the chain may not transmit. -/
def State.powerCeiling (s : State) (c band : Nat) : Nat :=
  let cap := getField (s.rd (A.CHN_TX_CAP c)) (8 * band) 8
  min (s.prof (0x40 + 16 * band + c) 1) cap

/-- R88, R103, R107: the target power of chain c in 0.25 dBm, less 1 dB each for a failed feedback receiver and a stale predistortion, less the
gain reductions of R107. -/
def State.targetPower (s : State) (c band : Nat) : Int :=
  (s.powerCeiling c band : Int) - 4 * (s.get (F.CHN_CHAIN_STATUS_FBRX_FAULT c) : Int) - 4 * (s.get (F.CHN_CHAIN_STATUS_DPD_STALE c) : Int) -
    2 * ((s.chn.chains.getD c .reset).gainCut : Int)

end Sys2Proof.Machine
end

