-- ==== Sys2Proof/Machine/Links.lean ====
section
/-! DEFINITION. Radios and their Stipple links as records, decibels of measured powers, and the map objects of R131 with their checks (R130 to R137). -/

namespace Sys2Proof.Machine

/-! ### Records -/

/-- Radio n. -/
def State.rad (s : State) (n : Nat) : Radio := s.chn.radios.getD n .reset
/-- Radio n changed. -/
def State.radMod (s : State) (n : Nat) (f : Radio → Radio) : State := { s with chn := { s.chn with radios := modAt s.chn.radios n f } }
/-- Radio n's receiver. -/
def State.ph (s : State) (n : Nat) : Phy := s.phy.getD n .reset
/-- Radio n's receiver changed. -/
def State.phMod (s : State) (n : Nat) (f : Phy → Phy) : State := { s with phy := modAt s.phy n f }
/-- Link k of radio n. -/
def State.link (s : State) (n k : Nat) : StpLink := (s.ph n).links.getD k .reset
/-- Link k of radio n changed. -/
def State.linkMod (s : State) (n k : Nat) (f : StpLink → StpLink) : State := s.phMod n (fun p => { p with links := modAt p.links k f })

/-! ### Decibels -/

/-- A power ratio in 2^-16 is at least `v` quarter decibels: x / 2^16 ≥ 10^(v / 40). DESIGN CHOICE (log 53). -/
def atLeastQdb (x v : Nat) : Bool := 10 ^ v * 2 ^ 640 ≤ x ^ 40

/-- Bisection for `quarterDb` from bit k - 1 down. -/
def qdbAux (x : Nat) : Nat → Nat → Nat
  | 0, r => r
  | k + 1, r => qdbAux x k (if atLeastQdb x (r + 2 ^ k) then r + 2 ^ k else r)

/-- A power ratio in 2^-16 as whole quarter decibels, rounded down, held within 0 to 1,023. DESIGN CHOICE (log 53). -/
def quarterDb (x : Nat) : Nat := qdbAux x 10 0

/-- Power `m` lies more than 3 dB above `level` (R140): (m / level)^10 > 10^3. DESIGN CHOICE (log 53). -/
def above3Db (m level : Nat) : Bool := 10 ^ 3 * level ^ 10 < m ^ 10

/-- R140: a counted window of power `m` against the level held: the first is taken, a higher one than 3 dB above it ignored, the rest averaged with
weight 1/64. Answers whether it counted into the level. -/
def contourStep (level : Option Nat) (m : Nat) : Option Nat :=
  match level with
  | none => some m
  | some l => if above3Db m l then none else some ((63 * l + m) / 64)

/-! ### Channels -/

/-- The centre in MHz of 20 MHz channel c of a band, 6 GHz channels by their k (R141). -/
def subCentre (band c : Nat) : Nat :=
  match band with
  | 0 => if c = 14 then 2484 else 2407 + 5 * c
  | 1 => 5000 + 5 * c
  | _ => 5955 + 20 * c

/-- The centre frequency in MHz of a channel. -/
def channelCentre (ch : Channel) : Nat := (ch.subs.map (subCentre ch.band)).sum / max 1 ch.subs.length

/-- R141: the index in the contour of the 20 MHz channel `c` of a band as R104's maps number it. -/
def contourIndex (band c : Nat) : Option Nat :=
  match band with
  | 0 => if 1 ≤ c ∧ c ≤ 14 then some (c - 1) else none
  | 1 => if 36 ≤ c ∧ (c - 36) / 4 ≤ 35 then some ((c - 36) / 4) else none
  | 2 => if c ≤ 58 then some c else none
  | _ => none

/-- R141, R142: the same from the channel number, which at 6 GHz is 4k + 1. -/
def contourOfNumber (band c : Nat) : Option Nat := if band = 2 then (if c % 4 = 1 then contourIndex 2 (c / 4) else none) else contourIndex band c

/-! ### Map objects (R130, R131) -/

/-- R130: the data subcarriers of a width code. -/
def dataTones (w : Nat) : Nat := [234, 468, 980, 1960, 3920].getD w 0

/-- Raw segment data: two loads a byte, the even one low. -/
def rawLoads : List Nat → List Byte
  | a :: b :: t => BitVec.ofNat 8 (a % 16 + b % 16 * 16) :: rawLoads t
  | [a] => [BitVec.ofNat 8 (a % 16)]
  | [] => []

/-- Equal neighbours gathered as (load, length), lengths up to 4,095. -/
def runsOf : List Nat → List (Nat × Nat)
  | [] => []
  | a :: t =>
    match runsOf t with
    | (b, n) :: r => if a = b ∧ n < 4095 then (b, n + 1) :: r else (a, 1) :: (b, n) :: r
    | [] => [(a, 1)]

/-- Run segment data. -/
def runLoads (l : List Nat) : List Byte := (runsOf l).flatMap (fun r => leBytes 2 (r.1 % 16 + r.2 * 16))

/-- One segment: its encoding, a reserved byte, its length and its data; the shorter encoding where `short`, raw on a tie. -/
def segment (short : Bool) (l : List Nat) : List Byte :=
  let raw := rawLoads l
  let runs := runLoads l
  if short ∧ runs.length < raw.length then 1#8 :: 0#8 :: (leBytes 2 runs.length ++ runs) else 0#8 :: 0#8 :: (leBytes 2 raw.length ++ raw)

/-- The object of a map (R131). -/
def mapObject (short : Bool) (m : StpMap) : List Byte :=
  leBytes 2 m.version ++ [BitVec.ofNat 8 m.width, BitVec.ofNat 8 m.nss, BitVec.ofNat 8 m.rate, 0#8] ++ leBytes 2 m.centre ++ leBytes 4 m.actS ++
    leBytes 4 m.actNs ++ m.loads.flatMap (segment short)

/-- The loads of raw data. -/
def rawDecode (d : List Byte) : List Nat := d.flatMap (fun b => [b.toNat % 16, b.toNat / 16])

/-- The loads of run data, entry by entry. -/
def runDecode (d : List Byte) : List Nat :=
  (List.range (d.length / 2)).flatMap (fun i => let e := leAt d (2 * i) 2; List.replicate (e / 16) (e % 16))

/-- The loads of `n` segments. -/
def segmentsDecode : Nat → List Byte → List (List Nat)
  | 0, _ => []
  | n + 1, bs =>
    let len := leAt bs 2 2
    let d := (bs.drop 4).take len
    (if leAt bs 0 1 = 0 then rawDecode d else runDecode d) :: segmentsDecode n (bs.drop (4 + len))

/-- The map that an object holds. -/
def mapDecode (bs : List Byte) : StpMap :=
  { version := leAt bs 0 2, width := leAt bs 2 1, nss := leAt bs 3 1, rate := leAt bs 4 1, centre := leAt bs 6 2, actS := leAt bs 8 4, actNs := leAt bs 12 4,
    loads := segmentsDecode (leAt bs 3 1) (bs.drop 16) }

/-- R132: the first condition under which link k of radio n rejects a map, numbered from 1; 0 = none. -/
def State.mapReason (s : State) (n k : Nat) (m : StpMap) : Nat :=
  let any (p : Nat → Bool) : Bool := m.loads.any (fun l => l.any p)
  let fits : Bool := match (s.rad n).chan with
    | some ch => ch.width == m.width && channelCentre ch == m.centre
    | none => false
  if any (· == 15) then 1
  else if any (fun b => decide (s.get (F.RAD_STP_LINK_CFG_MAX_BITS n k) < b)) then 2
  else if m.loads.any (fun l => l.length != dataTones m.width) then 3
  else if !fits then 4
  else if s.get (F.CHN_RADIO_STATE_CHAINS n) < m.nss ∨ s.get (F.RAD_STP_LINK_CFG_NSS n k) + 1 < m.nss then 5
  else if s.get (F.RAD_STP_LINK_CFG_RATE n k) ≠ m.rate then 6
  else 0

/-! ### Links (R126, R137) -/

/-- R126: link k of radio n is configured and its surveyed neighbour agrees. -/
def State.linkCfg (s : State) (n k : Nat) : Bool :=
  let v := s.get (F.RAD_STP_LINK_CFG_SURVEY n k)
  s.isSet (F.RAD_STP_LINK_CFG_ENABLE n k) && s.isSet (F.CHN_SURVEY0_VALID v) && s.isSet (F.CHN_SURVEY0_STIPPLE_PEER v) &&
    s.get (F.CHN_SURVEY0_PATH v) == n + 1 && s.get (F.CHN_SURVEY0_MEMBER v) == s.get (F.RAD_STP_LINK_CFG_PEER n k)

/-- The link of radio n to a member. -/
def State.linkTo (s : State) (n member : Nat) : Option Nat :=
  (List.range 8).find? (fun k => s.linkCfg n k && s.get (F.RAD_STP_LINK_CFG_PEER n k) == member)

/-- R126: link k of radio n is enabled: the working table holds STP slots for its peer as well. -/
def State.linkOn (s : State) (n k : Nat) : Bool :=
  s.linkCfg n k && (s.gr n).work.any (fun w => slotKind w == kSTP && slotPeer w == s.get (F.RAD_STP_LINK_CFG_PEER n k))

/-- R137: a map that was activated at `since` no longer fits radio n: its channel, its chains, or its age. -/
def State.mapUnfit (s : State) (n : Nat) (m : StpMap) (since : Nat) : Bool :=
  (match (s.rad n).chan with
    | some ch => ch.width != m.width || channelCentre ch != m.centre
    | none => true) ||
  decide (s.get (F.CHN_RADIO_STATE_CHAINS n) < m.nss) || decide (since + s.get (F.RAD_STP_CTRL_MAX_AGE n) * 1000000000 < s.tim.now)

/-- R137: the active maps of link k that no longer fit become stale. -/
def State.linkStale (s : State) (n k : Nat) : State :=
  let l := s.link n k
  let tx : Bool := match l.txMap with
    | some m => s.mapUnfit n m l.txAt
    | none => false
  let rx : Bool := match l.rxMap with
    | some m => s.mapUnfit n m l.rxAt
    | none => false
  let s := if tx then s.put (F.RAD_STP_LINK_STATUS_TX_STALE n k) 1 else s
  if rx ∧ !s.isSet (F.RAD_STP_LINK_STATUS_RX_STALE n k) then (s.put (F.RAD_STP_LINK_STATUS_RX_STALE n k) 1).linkMod n k (fun l => { l with since := 0 })
  else s

/-- R137 for every link of radio n. -/
def State.mapsStale (s : State) (n : Nat) : State := (List.range 8).foldl (fun (s : State) k => s.linkStale n k) s

end Sys2Proof.Machine
end

