-- ==== Sys2Proof/Machine/Chains.lean ====
section
/-! DEFINITION. Chains, synthesisers and radios (R78 to R103, R110 to R112): the operations that several commands share. -/

namespace Sys2Proof.Machine

/-! ### Records -/

/-- Chain c. -/
def State.chain (s : State) (c : Nat) : Chain := s.chn.chains.getD c .reset
/-- Chain c changed. -/
def State.chainMod (s : State) (c : Nat) (f : Chain → Chain) : State := { s with chn := { s.chn with chains := modAt s.chn.chains c f } }
/-! ### States of radios and chains (R90, R96, R115) -/

/-- CHN_RADIO_STATEn.STATE codes (R115). -/
def rOff : Nat := 0
/-- R115. -/
def rSleep : Nat := 1
/-- R115. -/
def rStandby : Nat := 2
/-- R115. -/
def rSynthOn : Nat := 3
/-- R115. -/
def rRx : Nat := 4
/-- R115. -/
def rTx : Nat := 5

/-- The state of radio n. -/
def State.rstate (s : State) (n : Nat) : Nat := s.get (F.CHN_RADIO_STATE_STATE n)

/-- A chain is fenced (R115 STATE 5). -/
def State.chainFenced (s : State) (c : Nat) : Bool := s.get (F.CHN_CHAIN_STATUS_STATE c) == 5

/-- The chains of radio n that are in service. -/
def State.chainsOf (s : State) (n : Nat) : List Nat :=
  (List.range 16).filter (fun c => s.get (F.CHN_CHAIN_STATUS_RADIO c) == n && !s.chainFenced c)

/-- The three front-end lines of a chain. -/
def State.lines (s : State) (c : Nat) (pa lna trsw : Bool) : State := s.chainMod c (fun x => { x with pa := pa, lna := lna, trsw := trsw })

/-- The chain STATE that goes with a radio state (R115). DEDUCED (log 51). -/
def chainStateOf (r : Nat) : Nat := if r = rOff then 0 else if r = rRx then 2 else if r = rTx then 3 else 1

/-- R104: chain c may transmit in its radio's band: the profile in force gives it a power. -/
def State.chainMayTx (s : State) (n c : Nat) : Bool := s.prof (0x40 + 16 * n + c) 1 != 0

/-- The chains of radio n that send its frames (R104). -/
def State.txChains (s : State) (n : Nat) : List Nat := (s.chainsOf n).filter (s.chainMayTx n)

/-- R88, R103, R107: every chain of radio n that may transmit takes its target power for a frame; the others send nothing of it. -/
def State.setPowers (s : State) (n : Nat) : State :=
  (s.chainsOf n).foldl (fun (s : State) c => s.chainMod c (fun x => { x with power := if s.chainMayTx n c then some (s.targetPower c n) else none })) s

/-- R96: the chains of radio n take the state and the lines of their radio. A calibrating chain is left alone unless the radio goes Off; a chain that may not transmit
idles while its radio sends (R104). -/
def State.chainsFollow (s : State) (n : Nat) : State :=
  let r := s.rstate n
  let s := (s.chainsOf n).foldl (fun s c =>
    if s.get (F.CHN_CHAIN_STATUS_STATE c) = 4 ∧ r ≠ rOff then s
    else
      let tx := r == rTx && s.chainMayTx n c
      (s.put (F.CHN_CHAIN_STATUS_STATE c) (if r = rTx ∧ !tx then 1 else chainStateOf r)).lines c tx (r == rRx) tx) s
  (s.put (F.CHN_RADIO_STATE_CHAINS n) (s.chainsOf n).length).mapsStale n

/-- The synthesiser that serves radio n. -/
def State.synthOf (s : State) (n : Nat) : Option Nat :=
  (List.range 4).find? (fun k => s.get (F.CHN_SYNTH_STATUS_SERVES k) == n && !s.isSet (F.CHN_SYNTH_STATUS_FENCED k))

/-- The spare synthesiser (R79), while no substitution has already claimed it. -/
def State.spareSynth (s : State) : Option Nat :=
  (List.range 4).find? (fun k =>
    s.get (F.CHN_SYNTH_STATUS_SERVES k) == 4 && !s.isSet (F.CHN_SYNTH_STATUS_FENCED k) && s.chn.trvNext != some k &&
      s.chn.subst.map (fun e => e.1) != some k)

/-- LOCKED of the synthesiser serving radio n. -/
def State.synthLock (s : State) (n : Nat) (b : Bool) : State :=
  match s.synthOf n with
  | some k => s.put (F.CHN_SYNTH_STATUS_LOCKED k) (b2n b)
  | none => s

/-- Radio n enters a state. In Off its chains and its synthesiser are unpowered and no step runs (R90). -/
def State.setRadio (s : State) (n r : Nat) : State :=
  let s := if r = rOff then ((s.synthLock n false).radMod n (fun x => { x with step := none })).put (F.CHN_RADIO_STATE_CAL_STEP n) 0 else s
  (s.put (F.CHN_RADIO_STATE_STATE n) r).chainsFollow n

/-- R79: a chain that no radio has, or that waits for its new one, is unpowered and its lines are held as for a fenced chain. -/
def State.chainUnpowered (s : State) (c : Nat) : State :=
  (if s.chainFenced c then s else s.put (F.CHN_CHAIN_STATUS_STATE c) 0).lines c false false false

/-- R125: the reception in progress on radio n is lost and counted. -/
def State.rxAbort (s : State) (n : Nat) : State :=
  if (s.ph n).rx.isSome then (s.phMod n (fun p => { p with rx := none, falseRx := false })).bump (A.RAD_RX_ABORT n) else s

/-! ### Ends of frames and coexistence (R110 to R112) -/

/-- The status of a frame goes to its AIR role. -/
def State.status (s : State) (n tag : Nat) (st : FrameStatus) : State := { s with out := .frameStatus n tag st :: s.out }

/-- Radios subject to the EXT interface while it is enabled. -/
def State.extMasked (s : State) (n : Nat) : Bool := s.isSet F.CHN_COEX_CTRL_EXT_EN && bit (s.get F.CHN_COEX_CTRL_EXT_RADIOS) n

/-- Radios subject to the DEV interface while it is enabled. -/
def State.devMasked (s : State) (n : Nat) : Bool := s.isSet F.CHN_COEX_CTRL_DEV_EN && bit (s.get F.CHN_COEX_CTRL_DEV_RADIOS) n

/-- A masked radio is transmitting. -/
def State.extBusy (s : State) : Bool := (List.range 3).any (fun n => s.extMasked n && s.rstate n == rTx)

/-- R110: a masked radio lies in a BCN, DLS, ULT or STP slot. -/
def State.extScheduled (s : State) : Bool := (List.range 3).any (fun n => s.extMasked n && (s.gr n).run.isSome && scheduledKind (s.runKind n))

/-- R110: a request that waits is granted once it may be: a high-priority one when no masked radio transmits, a low-priority one when none
transmits or lies in a scheduled slot either. -/
def State.extRetry (s : State) : State :=
  if s.chn.extReq ∧ s.chn.extWait ∧ s.isSet F.CHN_COEX_CTRL_EXT_EN ∧ !s.extBusy ∧ (s.chn.extHigh ∨ !s.extScheduled) then
    { s with chn := { s.chn with extGnt := true, extWait := false } }
  else s

/-- The frame on the air ends with a status: the front end returns to receive (R96) and a waiting request is answered (R110). -/
def State.endTx (s : State) (n : Nat) (st : FrameStatus) : State :=
  match (s.rad n).tx with
  | none => s
  | some r =>
    let s := s.radMod n (fun x => { x with tx := none, airEnd := s.tim.now, exchEnd := if st = .complete then s.tim.now + r.resp else s.tim.now })
    ((s.status n r.tag st).setRadio n rRx).extRetry

/-- R110, R111: a transmission is cut for coexistence and counted. -/
def State.coexCut (s : State) (n : Nat) : State :=
  if (s.rad n).tx.isSome then (s.endTx n .coexCut).bump A.CHN_COEX_TRUNC else s

/-! ### Transmit admission (R94, R107) -/

/-- Time that transmissions of a radio share with the window (now − w, now], in ns. -/
def dutySum (l : List (Nat × Nat)) (now w : Nat) : Nat :=
  l.foldl (fun a e => a + (min (e.1 + e.2) now - max e.1 (now - w))) 0

/-- R107: the whole duration of a frame fits under the duty ceiling of the radio's band. -/
def State.dutyFits (s : State) (n dur : Nat) : Bool :=
  let w := s.prof 0x2C 2 * 1000000
  let band := ((s.rad n).chan.map (fun c => c.band)).getD n
  let ceil := s.prof (0x30 + band) 1
  w == 0 || ceil == 0 || (dutySum (s.rad n).duty s.tim.now w + dur) * 256 ≤ ceil * w

/-- R118: radio n knows a PPDU format. -/
def formatOn (n f : Nat) : Bool :=
  match f with
  | 0 => n == 0
  | 1 => true
  | 2 => n ≤ 1
  | 3 => n == 1
  | 4 => true
  | 5 => true
  | _ => false

/-- The largest count of 26-tone RUs of a width code (R118, IEEE 802.11). PRESUMED (log 63). -/
def ruCount (w : Nat) : Nat := [9, 18, 37, 74, 148].getD w 9

/-- R118: the highest MCS of a format, or the last of its rates. -/
def mcsMax (f : Nat) : Nat := [3, 7, 31, 9, 11, 13].getD f 0

/-- R118: the widest width code of a format on radio n. -/
def widthMax (n f : Nat) : Nat := min ([0, 4, 1, 3, 3, 4].getD f 0) ([1, 3, 4].getD n 0)

/-- R118: radio n may send or receive a PPDU of this form. -/
def formOk (n : Nat) (f : PhyForm) : Bool :=
  formatOn n f.format && f.mcs ≤ mcsMax f.format && f.width ≤ widthMax n f.format && (!f.punctured || (1 ≤ n && 2 ≤ f.width && 4 ≤ f.format)) &&
    f.mpdus ≤ 1024

/-- R119: a form with no more streams than the radio has chains in service, and no wider than its channel. -/
def State.formFits (s : State) (n : Nat) (f : PhyForm) : PhyForm :=
  { f with streams := min f.streams (s.get (F.CHN_RADIO_STATE_CHAINS n)), width := min f.width (((s.rad n).chan.map (fun c => c.width)).getD 0) }

/-- Radio n sends: a request on the air, or a frame of an exchange. -/
def State.onAir (s : State) (n : Nat) : Bool := (s.rad n).tx.isSome || decide (s.tim.now < (s.rad n).airEnd)

/-- The medium is free for contention on radio n: nothing is being received or taken for a PPDU, no deferral runs, and the last exchange is over (R120, R123, R128, R159). DEDUCED (log 48). -/
def State.mediumFree (s : State) (n : Nat) : Bool := (s.ph n).rx.isNone && decide ((s.ph n).busyUntil ≤ s.tim.now) && decide ((s.rad n).exchEnd ≤ s.tim.now)

/-- What becomes of a transmit request. -/
inductive Admission where
  | regLimit | late | wait | start
deriving DecidableEq, Repr

/-- R94, in its order. A scheduled frame that waits for the arbiter (R111), whose radio is not ready, or that is held, is LATE once its start has passed the slot start
plus the guard. A contention frame waits for the medium. A radio none of whose chains may transmit is refused as one over its limits (R104). A frame that the run in progress does not let start at `start` waits (R152, R155).
DEDUCED (log 48). -/
def State.admissionAt (s : State) (n : Nat) (r : TxReq) (start : Nat) : Admission :=
  let past : Bool := match r.startBy with
    | some t => t < s.t0
    | none => false
  if !s.mayRadiate || !s.dutyFits n r.dur || (s.chainsOf n != [] && s.txChains n == []) then .regLimit
  else if past then .late
  else if s.extMasked n && s.chn.extGnt then .wait
  else if n == 0 && s.t0 < s.trv.hold0 then .wait
  else if s.devMasked n && !s.chn.devGnt then .wait
  else if (s.rad n).settling || (s.rad n).step.isSome || (s.rad n).tx.isSome || decide (s.tim.now + (start - s.t0) < (s.rad n).airEnd) then .wait
  else if r.kind == .contention && !s.mediumFree n then .wait
  else if s.rstate n == rRx && s.runAllows n r.kind start (r.dur + r.resp) then .start
  else .wait

/-- R94 for a frame that starts now. -/
def State.admission (s : State) (n : Nat) (r : TxReq) : Admission := s.admissionAt n r s.t0

/-- R111: DEV_REQ rises as a contention frame of a masked radio becomes ready. -/
def State.devReady (s : State) (n : Nat) (r : TxReq) : State :=
  if s.devMasked n ∧ r.startBy.isNone then { s with chn := { s.chn with devReq := true } } else s

/-- R94: a request is sent, refused, returned LATE, or held. A frame on the air is charged to the duty window (R107), and the response it solicits is expected for the time given (R122).
DEDUCED (log 48). -/
def State.admitTx (s : State) (n : Nat) (r : TxReq) : State :=
  match s.admission n r with
  | .regLimit => (s.bump (A.CHN_REG_DUTY_HIT n)).status n r.tag .regLimit
  | .late => (s.bump (A.CHN_TX_LATE n)).status n r.tag .late
  | .wait => ((s.devReady n r).radMod n (fun x => { x with held := x.held ++ [r] })).put (F.CHN_RADIO_STATE_HOLD n) 1
  | .start => ((s.devReady n r).radMod n (fun x => { x with tx := some r, airEnd := s.tim.now + r.dur, exchEnd := s.tim.now + r.dur + r.resp, duty := x.duty ++ [(s.tim.now, r.dur)] })).setPowers n |>.setRadio n rTx

/-- Held requests are judged again, in their order, once a hold ends. -/
def State.releaseHeld (s : State) (n : Nat) : State :=
  let l := (s.rad n).held
  l.foldl (fun s r => s.admitTx n r) ((s.radMod n (fun x => { x with held := [] })).put (F.CHN_RADIO_STATE_HOLD n) 0)

/-- Held requests of every radio. -/
def State.releaseAll (s : State) : State := ((s.releaseHeld 0).releaseHeld 1).releaseHeld 2

/-- R118, R119: a request in a form that radio n knows is admitted with the streams and the width that it has; no other is made. DESIGN CHOICE (log 112). -/
def State.requestTx (s : State) (n : Nat) (r : TxReq) : State :=
  let f := s.formFits n r.form
  if formOk n f then s.admitTx n { r with form := f } else s

/-! ### Stops and fences (R85 to R87) -/

/-- A radio that stops leaves the air until the next device start, or its restart. DEDUCED (log 51). -/
def State.radioStop (s : State) (n : Nat) : State :=
  let s := (s.endTx n .synthCut).rxAbort n
  (s.radMod n (fun x => { x with stopped := true })).setRadio n rOff

/-- The packed location of chain c (R80). -/
def State.chainLoc (s : State) (c : Nat) : Word := s.loc .rfe (c / 4) (c % 4)

/-- R87: chain c is fenced with a cause: its lines drop, its radio goes on with the chains left and sounds again, or stops with its last one. -/
def State.fenceChain (s : State) (c cause : Nat) : State :=
  let n := s.get (F.CHN_CHAIN_STATUS_RADIO c)
  let s := (s.put (F.CHN_CHAIN_STATUS_STATE c) 5).put (F.CHN_CHAIN_STATUS_FENCE_CAUSE c) cause
  let s := (s.lines c false false false).chainMod c (fun x => { x with home := n, test := false, rejoin := false, power := none })
  let s := s.wr A.CHN_LAST_FAULT_LOC (s.chainLoc c)
  if n < 3 then
    let s := ((s.put (F.CHN_RADIO_STATE_CHAINS n) (s.chainsOf n).length).mapsStale n).grMod n (fun g => { g with sounded := [] })
    if s.chainsOf n = [] ∧ s.rstate n ≠ rOff then s.radioStop n else s
  else s

/-! ### Calibration (R92, R98 to R101) -/

/-- The longest a step takes, in ns (R98). -/
def calNs : CalKind → Nat
  | .rxDc => 2000 | .txLo => 6000 | _ => 8000

/-- The cycle of a kind: 0 = 100 ms, 1 = 1 s, 2 = 10 s (R98). -/
def calCycle : CalKind → Nat
  | .rxDc => 0 | .feedback => 2 | _ => 1

/-- R96: a receive-path step raises Cnn_LNA_EN. -/
def calReceive : CalKind → Bool
  | .rxDc => true | .rxIq => true | _ => false

/-- The steps of one cycle over the chains of a radio (R98). -/
def cycleSteps (i : Nat) (chains : List Nat) : List (CalKind × Nat) :=
  let per (k : CalKind) (m : Nat) : List (CalKind × Nat) := chains.flatMap (fun c => List.replicate m (k, c))
  match i with
  | 0 => per .rxDc 1
  | 1 => per .txLo 2 ++ per .txIq 4 ++ per .rxIq 4 ++ (chains.take 1).map (fun c => (.interChain, c))
  | _ => per .feedback 2

/-- The period of cycle i of radio n ends: an unfinished cycle is overdue and goes on (R101), a finished one starts afresh. DEDUCED (log 49). -/
def State.cycleEnd (s : State) (n i : Nat) : State :=
  match (s.rad n).cycles[i]? with
  | none => s
  | some y =>
    if y.todo = [] then s.radMod n (fun x => { x with cycles := x.cycles.set i ⟨cycleSteps i (s.chainsOf n), false⟩ })
    else (s.radMod n (fun x => { x with cycles := x.cycles.set i { y with overdue := true } })).put (F.CHN_CAL_STATUS_OVERDUE n) 1

/-- R103: the present die temperature of the Air die, as R471 codes it, lies more than 10 °C from another reading. -/
def movedTenC (a b : Nat) : Bool := decide (20 < sint 10 a - sint 10 b) || decide (20 < sint 10 b - sint 10 a)

/-- R98, R103: temperature tracking, the 100 ms kind that reads only: a chain of radio n whose die has moved by more than 10 °C since its last adoption is stale. DEDUCED (log 49). -/
def State.tempTrack (s : State) (n : Nat) : State :=
  let t := s.get F.PWR_MON_TEMP_TJ_D1
  (s.chainsOf n).foldl (fun (s : State) c =>
    match (s.chain c).adoptT with
    | some a => if movedTenC a t then s.put (F.CHN_CHAIN_STATUS_DPD_STALE c) 1 else s
    | none => s) s

/-- R231: a calibration tick of radio n: 1 tick ends a 100 ms cycle, 10 a 1 s cycle, 100 a 10 s cycle; the temperature is tracked at each. DEDUCED (log 49). -/
def State.calTickRadio (s : State) (n : Nat) : State :=
  let t := (s.rad n).ticks + 1
  let s := (s.tempTrack n).radMod n (fun x => { x with ticks := t })
  let s := s.cycleEnd n 0
  let s := if t % 10 = 0 then s.cycleEnd n 1 else s
  if t % 100 = 0 then s.cycleEnd n 2 else s

/-- R92: results are stored for a chain's channel; the eight channels of each radio used last are kept. -/
def storeResult (l : List (Nat × Channel)) (n : Nat) (ch : Channel) : List (Nat × Channel) :=
  let mine := (n, ch) :: (l.filter (fun e => e.1 == n && e.2 != ch))
  mine.take 8 ++ l.filter (fun e => e.1 != n)

/-- How far two channels' centres lie apart, in MHz. -/
def centreGap (a b : Channel) : Nat := (channelCentre a - channelCentre b) + (channelCentre b - channelCentre a)

/-- R92: the stored channel of radio n nearest to `ch`, the one used last where two are equally near. DEDUCED (log 49). -/
def nearestStored (l : List (Nat × Channel)) (n : Nat) (ch : Channel) : Option Channel :=
  (l.filter (fun e => e.1 == n)).foldl (fun (o : Option Channel) e =>
    match o with
    | some b => if centreGap e.2 ch < centreGap b ch then some e.2 else o
    | none => some e.2) none

/-- R92: results of chain c on radio n's channel are stored and in use. -/
def State.takeResult (s : State) (c n : Nat) (ch : Channel) : State :=
  s.chainMod c (fun x => { x with stored := storeResult x.stored n ch, results := some ch })

/-- R92: chain c takes radio n's channel: stored results, or the nearest stored channel's and a stale predistortion. -/
def State.loadResults (s : State) (c n : Nat) (ch : Channel) : State :=
  if (s.chain c).stored.contains (n, ch) then s.takeResult c n ch
  else (s.chainMod c (fun x => { x with results := nearestStored x.stored n ch })).put (F.CHN_CHAIN_STATUS_DPD_STALE c) 1

/-- A step of radio n over: its chains leave calibration. -/
def State.leaveStep (s : State) (n : Nat) (l : List Nat) : State :=
  let s := l.foldl (fun s c => if s.get (F.CHN_CHAIN_STATUS_STATE c) = 4 then s.put (F.CHN_CHAIN_STATUS_STATE c) 1 else s) s
  ((s.radMod n (fun x => { x with step := none })).put (F.CHN_RADIO_STATE_CAL_STEP n) 0).chainsFollow n

/-! ### Restarts (R41, R90) -/

/-- R90: radio n goes through Off to Standby: its baseband is reset, its chains powered and calibrated, its tables reloaded (R153). A radio
that the Legend or PWR_FUNC has off, or that has stopped, stays Off. -/
def State.radioRestart (s : State) (n : Nat) : State :=
  let s := (s.endTx n .synthCut).rxAbort n
  let s := s.radMod n (fun x => { x with held := [], adjust := 0, settling := false, restart := false })
  let s := (s.put (F.CHN_RADIO_STATE_HOLD n) 0).setRadio n rOff
  let s := s.reloadTables n
  if s.radioEnable n ∧ !(s.rad n).stopped ∧ (s.func n).on ∧ !(s.func n).stopping ∧ s.isSet F.PWR_CLK_STATUS_XO80_OK ∧ s.chainsOf n ≠ [] then
    let s := match (s.rad n).chan with
      | some ch => (s.chainsOf n).foldl (fun (s : State) c => s.takeResult c n ch) s
      | none => s
    s.setRadio n rStandby
  else s

/-- R91: XO80 may stop: every radio and the Traverse transceiver rest in Sleep or Off. -/
def State.mayStopXo80 (s : State) : Bool := (List.range 3).all (fun n => s.rstate n ≤ rSleep) && s.trv.rest

/-- The neighbour table cleared (R191). -/
def State.nbrClear (s : State) : State :=
  { s with regs := s.regs.filter (fun e => !(decide (0x420000 ≤ e.1) && decide (e.1 < 0x428000))), trv := { s.trv with sinr := [] } }

/-- R60, R126, R153, R164, R191: what an AIR role or the TRV role keeps in its scratchpads is zero after a take-over that brings no ledger: the slot tables, the claims and the
Stipple maps of the radio, or the neighbour entries. DESIGN CHOICE (log 42). -/
def State.roleLost (s : State) (c : Nat) : State :=
  if c = 4 then s.nbrClear
  else if c = 0 ∨ 4 < c then s
  else
    let n := c - 1
    let s := s.grMod n (fun g => { g with work := g.work.map (fun _ => 0), shadow := g.shadow.map (fun _ => 0), marks := [], pend := [], commitAt := none })
    let s := (s.put (F.RAD_GRT_STATUS_PENDING n) 0).put (F.RAD_GRT_STATUS_COMMIT_BUSY n) 0
    let s : State := { s with grt := { s.grt with claims := s.grt.claims.filter (fun e => e.2.1 != n) } }
    (List.range 8).foldl (fun (s : State) k =>
      let s := s.linkMod n k (fun l => { StpLink.reset with soundAt := l.soundAt, win := l.win })
      (s.wr (A.RAD_STP_LINK_VER n k) 0#32).wr (A.RAD_STP_LINK_STATUS n k) 0#32) s

/-- XO80 stops where R91 lets it, and runs otherwise. DEDUCED (log 34). -/
def State.xo80Follow (s : State) : State := { s with chn := { s.chn with xo80 := !s.mayStopXo80 } }

end Sys2Proof.Machine
end

