-- ==== Sys2Proof/Machine/ChainRows.lean ====
section
/-! DEFINITION. The commands of chapter "RF chains, synthesisers and the radio state machine" (R78 to R117) and of the compare units (R228 to
R231), whose outputs include the calibration ticks. -/

namespace Sys2Proof.Machine

/-! ### Synthesisers (R81 to R85) -/

/-- The packed location of synthesiser k; 4 is the Traverse synthesiser (R80). -/
def State.synthLoc (s : State) (k : Nat) : Word := if k = 4 then s.loc .rfe 5 1 else s.loc .rfe 4 k

/-- R84, R85: the Traverse loses its LO: the slot in progress is lost and counted, as is a frame that it cuts (R195), and a spare takes over from the next slot, if there is
one. Answers the outcome of the fault record. -/
def State.trvLoseLo (s : State) : Nat × State :=
  let s := { s with trv := { s.trv with slotLost := true }, chn := { s.chn with trvBy := none, trvDown := true } }
  let s := s.bump A.TRV_SLOT_LOST
  let s : State := if s.t0 < s.trv.txUntil then ({ s with trv := { s.trv with txUntil := s.t0 } } : State).bump A.TRV_TX_ABORT else s
  match s.spareSynth with
  | some k => (0, { s with chn := { s.chn with trvNext := some k } })
  | none => (2, s)

/-- The substitution in progress set (R82). -/
def State.setSubst (s : State) (o : Option (Nat × Nat × Nat)) : State := { s with chn := { s.chn with subst := o } }

/-- The synthesiser that stands in for the Traverse's from its next slot (R84). -/
def State.setTrvNext (s : State) (o : Option Nat) : State := { s with chn := { s.chn with trvNext := o } }

/-- R84, R85: the Traverse loses its LO; the fault is recorded, and its handling ends where nothing can stand in. -/
def State.synthFaultLo (s : State) (cause : Nat) (loc : Word) : State :=
  let r := s.trvLoseLo
  let t := r.2.faultRecord .synth r.1 cause loc 0
  if r.1 = 2 then t.faultDone loc else t

/-- The Traverse synthesiser fails (R84): another stands in for it from the next slot, or the Traverse has no LO. -/
def State.synthFaultTrv (s : State) (cause : Nat) : State :=
  let loc := s.synthLoc 4
  if s.chn.trvFenced then s else
  let serving := s.chn.trvBy.isNone && s.chn.trvNext.isNone
  let s := ({ s with chn := { s.chn with trvFenced := true, trvCause := cause } }).wr A.CHN_LAST_FAULT_LOC loc
  if serving then s.synthFaultLo cause loc else s.faultRecord .synth 0 cause loc 0

/-- Synthesiser k of the pool fails (R81): the spare takes over its radio, or the radio stops; an idle spare is only fenced. -/
def State.synthFaultPool (s : State) (k cause serves : Nat) : State :=
  let loc := s.synthLoc k
  match s.chn.subst with
  | some (sp, n, _) =>
    if sp = k then (((s.setSubst none).radioStop n).faultRecord .synth 2 cause loc 0).faultDone loc
    else if serves < 3 then ((s.radioStop serves).faultRecord .synth 2 cause loc 0).faultDone loc
    else s.faultRecord .synth 0 cause loc 0
  | none =>
    if serves < 3 then
      match s.spareSynth with
      | some sp =>
        let s := (s.endTx serves .synthCut).rxAbort serves
        let s := if s.rstate serves < rSynthOn then s else s.setRadio serves rStandby
        (s.setSubst (some (sp, serves, k))).faultRecord .synth 0 cause loc 0
      | none => ((s.radioStop serves).faultRecord .synth 2 cause loc 0).faultDone loc
    else if serves = 3 then s.synthFaultLo cause loc
    else (s.setTrvNext (if s.chn.trvNext = some k then s.spareSynth else s.chn.trvNext)).faultRecord .synth 0 cause loc 0

/-- R81 to R85: synthesiser k is fenced. A spare that serves nothing, and one whose work a spare takes over, keep their record open until the
self-test; a fault without a spare stops the radio or the Traverse and is done at once (R444). DEDUCED (log 33). -/
def State.synthFault (s : State) (k cause : Nat) : State :=
  if k = 4 then s.synthFaultTrv cause
  else if s.isSet (F.CHN_SYNTH_STATUS_FENCED k) then s
  else
    let serves := s.get (F.CHN_SYNTH_STATUS_SERVES k)
    let s := (s.put (F.CHN_SYNTH_STATUS_FENCED k) 1).put (F.CHN_SYNTH_STATUS_FENCE_CAUSE k) cause
    let s := (s.put (F.CHN_SYNTH_STATUS_LOCKED k) 0).put (F.CHN_SYNTH_STATUS_SERVES k) 5
    (s.wr A.CHN_LAST_FAULT_LOC (s.synthLoc k)).synthFaultPool k cause serves

/-- R81: cause 1, loss of lock; cause 2, frequency. -/
def execSynthFault (k : Fin 5) (freq : Bool) (s : State) : Res := .next (s.synthFault k (if freq then 2 else 1))

/-- R82 step 5: the spare serves the radio at nominal frequency, and the radio returns to Synth-on; one that was Off or asleep stays so, its new synthesiser unpowered.
DEDUCED (log 33). -/
def State.spareLocked (s : State) (us : Nat) : State :=
  match s.chn.subst with
  | none => s
  | some (sp, n, k) =>
    let s := { s with chn := { s.chn with subst := none } }
    let rests := s.rstate n = rOff ∨ s.rstate n = rSleep
    let s := (s.put (F.CHN_SYNTH_STATUS_SERVES sp) n).put (F.CHN_SYNTH_STATUS_LOCKED sp) (if rests then 0 else 1)
    let s := (s.bump A.CHN_SYNTH_SWITCH_COUNT).radMod n (fun x => { x with adjust := 0, settling := false })
    let s := { s with chn := { s.chn with bandCodes := [] } }
    (if rests then s else s.setRadio n rSynthOn).faultUpdate (s.synthLoc k) 0 us

/-- R82. -/
def execSynthSpareLocked (us : Nat) (s : State) : Res := .next (s.spareLocked us)

/-- Synthesiser k is fenced. -/
def State.synthFenced (s : State) (k : Nat) : Bool := if k = 4 then s.chn.trvFenced else s.isSet (F.CHN_SYNTH_STATUS_FENCED k)

/-- R85: the SUP role self-tests a fenced synthesiser. -/
def execSynthSelftestStart (k : Fin 5) (s : State) : Res :=
  .next (if s.synthFenced k ∧ !s.chn.testing.contains k then { s with chn := { s.chn with testing := k.val :: s.chn.testing } } else s)

/-- R83: a synthesiser about to be the spare searches the VCO band code of every radio's present channel. DEDUCED (log 33). -/
def State.bandSearches (s : State) : State :=
  { s with chn := { s.chn with bandCodes := (List.range 3).filterMap (fun n => (s.rad n).chan.map (fun ch => (n, ch))) } }

/-- R85: a radio synthesiser that passes becomes the spare, the Traverse synthesiser takes back at the next slot boundary, one that fails stays
fenced with cause 3. -/
def State.synthTested (s : State) (k : Nat) (pass : Bool) : State :=
  if !s.chn.testing.contains k then s else
  let s := { s with chn := { s.chn with testing := s.chn.testing.filter (· != k) } }
  if k = 4 then
    if pass then
      let s := { s with chn := { s.chn with trvFenced := false, trvBack := true } }
      if s.chn.trvBy.isSome then s else s.faultDone (s.synthLoc k)
    else ({ s with chn := { s.chn with trvCause := 3 } }).faultDone (s.synthLoc k)
  else if pass then
    (((s.put (F.CHN_SYNTH_STATUS_FENCED k) 0).bandSearches).put (F.CHN_SYNTH_STATUS_SERVES k) 4).faultDone (s.synthLoc k)
  else (s.put (F.CHN_SYNTH_STATUS_FENCE_CAUSE k) 3).faultDone (s.synthLoc k)

/-- R85. -/
def execSynthSelftestEnd (k : Fin 5) (pass : Bool) (s : State) : Res := .next (s.synthTested k pass)

/-! ### Chains (R86 to R89) -/

/-- R86 to R88: a check of a chain fails. Cause 4 is disabled while the feedback receiver has failed. -/
def State.chainFault (s : State) (c cause : Nat) : State :=
  let n := s.get (F.CHN_CHAIN_STATUS_RADIO c)
  if s.chainFenced c ∨ 2 < n ∨ (cause = 4 ∧ s.isSet (F.CHN_CHAIN_STATUS_FBRX_FAULT c)) then s else
  let s := s.fenceChain c cause
  s.faultNow .chain (if (s.rad n).stopped then 2 else 1) cause (s.chainLoc c) 0

/-- R86. -/
def execChainFault (c : Fin 16) (cause : Fin 5) (s : State) : Res := .next (s.chainFault c (cause + 1))

/-- R89: a write naming a fenced chain schedules its self-test; one fenced with cause 7 or 8 stays so. -/
def State.reinstateWrite (s : State) (v : Word) : State :=
  let c := getField v 0 4
  let cause := s.get (F.CHN_CHAIN_STATUS_FENCE_CAUSE c)
  if s.chainFenced c ∧ cause ≠ 7 ∧ cause ≠ 8 then s.chainMod c (fun x => { x with test := true, testAt := s.tim.now }) else s

/-- R89. -/
def execChnChainReinstate (m : Master) (v : Word) (s : State) : Res :=
  .next (s.hostWrite m A.CHN_CHAIN_REINSTATE v (fun s => s.reinstateWrite v))

/-- R89: the self-test of chain c may run: in a CAL run of the radio that it served, a superframe after the write in a QUI or INS run, a second after it at any time. -/
def State.testDue (s : State) (c : Nat) : Bool :=
  let x := s.chain c
  let age := s.tim.now - x.testAt
  let k := s.runKind x.home
  let runs := x.home < 3 && (s.gr x.home).run.isSome
  x.test && (decide (1000000000 ≤ age) || (runs && k == kCAL) || (runs && (k == kQUI || k == kINS) && decide (s.sfSlots x.home * slotNs ≤ age)))

/-- R89: on a pass the chain rejoins at its radio's next superframe boundary; on a fail it stays fenced with cause 6. -/
def State.chainTested (s : State) (c : Nat) (pass : Bool) : State :=
  if !s.testDue c then s
  else if pass then s.chainMod c (fun x => { x with test := false, rejoin := true })
  else (s.chainMod c (fun x => { x with test := false })).put (F.CHN_CHAIN_STATUS_FENCE_CAUSE c) 6

/-- R89. -/
def execChainSelftest (c : Fin 16) (pass : Bool) (s : State) : Res := .next (s.chainTested c pass)

/-! ### Radios (R90 to R93) -/

/-- R90. -/
def execRadioRestart (n : Fin 3) (s : State) : Res := .next ((s.radioRestart n).xo80Follow)

/-- R90: the transitions between states that an order makes; Off is left by a restart only. -/
def mayMove (a b : Nat) : Bool :=
  match a, b with
  | _, 0 => true
  | 1, 2 => true
  | 2, 3 => true
  | 3, 4 => true
  | 3, 5 => true
  | 4, 5 => true
  | 5, 4 => true
  | 4, 3 => true
  | 5, 3 => true
  | 3, 2 => true
  | 2, 1 => true
  | _, _ => false

/-- R90: radio n is ordered to a state. Leaving TX ends the frame on the air; the synthesiser locks on the way to Synth-on and is off in Standby;
held requests are judged again in RX. -/
def State.radioOrder (s : State) (n nx : Nat) : State :=
  let a := s.rstate n
  if !mayMove a nx then s
  else if a = rTx then
    let s := s.endTx n .complete
    let s := if s.rstate n = nx then s else s.setRadio n nx
    (if nx = rRx then s.releaseHeld n else s).xo80Follow
  else
    let s := if nx = rStandby ∧ a = rSynthOn then s.synthLock n false else if nx = rSynthOn ∧ a = rStandby then s.synthLock n true else s
    let s := if nx = rOff ∨ nx = rSynthOn then s.rxAbort n else s
    let s := if nx = rOff then s.synthLock n false else s
    let s := s.setRadio n nx
    (if nx = rRx then s.releaseHeld n else s).xo80Follow

/-- R90. -/
def execRadioStateChange (n : Fin 3) (nx : Fin 6) (s : State) : Res := .next (s.radioOrder n nx)

/-- R83: the spare holds the VCO band code of radio n's channel. -/
def State.bandSearch (s : State) (n : Nat) (ch : Channel) : State :=
  if s.spareSynth.isSome then { s with chn := { s.chn with bandCodes := (n, ch) :: s.chn.bandCodes.filter (fun e => e.1 != n) } } else s

/-- The 20 MHz channels of a list follow one another in a band's numbering (R104). -/
def contiguous (band : Nat) : List Nat → Bool
  | a :: b :: l => b == a + (if band = 2 then 1 else 4) && contiguous band (b :: l)
  | _ => true

/-- R118: radio n works in band n, up to 40, 160 and 320 MHz, on adjoining 20 MHz channels only. DESIGN CHOICE (log 112). -/
def radioFits (n : Nat) (ch : Channel) : Bool := ch.band == n && ch.width ≤ [1, 3, 4].getD n 0 && ch.subs.length == 2 ^ ch.width && contiguous n ch.subs

/-- R83, R90, R92, R105: an in-band channel change; a channel that is not allowed, or that the radio does not support (R118), is refused and
counted. DESIGN CHOICE (log 112). -/
def State.channelChange (s : State) (n : Nat) (ch : Channel) : State :=
  if !channelAllowed (s.profile s.activeProfile) ch ∨ !radioFits n ch then s.bump A.CHN_WRITE_REJECT
  else if s.rstate n = rRx ∨ s.rstate n = rSynthOn then
    let s := (s.rxAbort n).setRadio n rSynthOn
    let s := (s.bandSearch n ch).radMod n (fun x => { x with chan := some ch, adjust := 0 })
    let s := (s.phMod n (fun p => { p with links := p.links.map (fun l => { l with snr := [] }) })).mapsStale n
    (s.chainsOf n).foldl (fun s c => s.loadResults c n ch) s
  else s

/-- R90. -/
def execChannelChange (n : Fin 3) (ch : Channel) (s : State) : Res := .next (s.channelChange n ch)

/-- R93: an adjustment from nominal, clamped to ±300 kHz; held requests go on once it has settled. -/
def State.fineAdjust (s : State) (n : Nat) (hz : Int) (settled : Bool) : State :=
  let s := s.radMod n (fun x => { x with adjust := clampInt (-300000) 300000 hz, settling := !settled })
  if settled then s.releaseHeld n else s

/-- R93. -/
def execFineAdjust (n : Fin 3) (hz : Int) (settled : Bool) (s : State) : Res := .next (s.fineAdjust n hz settled)

/-- R94, R118, R119. -/
def execTxRequest (n : Fin 3) (r : TxReq) (s : State) : Res := .next (s.requestTx n r)

/-! ### Calibration (R98 to R103) -/

/-- R231: a compare unit that gives radio n's calibration ticks is armed: its cycles go on. -/
def State.cyclesOn (s : State) (n : Nat) : Bool := (List.range 16).any (fun c => s.cmpArmed c && s.get (F.CMP_CTRL_OUTPUT c) == 6 + n)

/-- R99, R231: a step may start now. -/
def State.stepAllowed (s : State) (n : Nat) (kind : CalKind) (idle : Bool) : Bool :=
  let r := s.rad n
  if !s.cyclesOn n || s.isSet (F.CHN_CAL_CTRL_FREEZE n) || r.step.isSome || r.settling || s.onAir n then false else
  match (s.gr n).run with
  | none => false
  | some run =>
    let fin := s.t0 + calNs kind
    if run.kind = kCAL then fin + s.guardNs n ≤ run.endNs
    else
      s.isSet (F.CHN_CAL_CTRL_OPPORTUNISTIC n) && run.kind == kCTN && idle && r.held == [] && kind != .interChain &&
        (!scheduledKind (s.nextKind n run) || fin + 8000 + s.guardNs n ≤ run.endNs)

/-- R99, R96: a step starts on chain c, or on every chain of the radio for the inter-chain step, whose lines drop; a receive-path step raises
LNA_EN. -/
def State.stepStart (s : State) (n : Nat) (kind : CalKind) (c : Nat) (idle : Bool) : State :=
  let due := (s.rad n).cycles.any (fun y => y.todo.any (fun e => e.1 == kind && (e.2 == c || kind == .interChain)))
  if !due ∨ !(s.chainsOf n).contains c ∨ !s.stepAllowed n kind idle then s else
  let l := if kind = .interChain then s.chainsOf n else [c]
  let s := l.foldl (fun s c => (s.put (F.CHN_CHAIN_STATUS_STATE c) 4).lines c false (calReceive kind) false) s
  (s.radMod n (fun x => { x with step := some (kind, l) })).put (F.CHN_RADIO_STATE_CAL_STEP n) 1

/-- R99. -/
def execCalStepStart (n : Fin 3) (kind : CalKind) (c : Fin 16) (idle : Bool) (s : State) : Res := .next (s.stepStart n kind c idle)

/-- A step taken off its cycle; a cycle that completes in its period clears OVERDUE (R101). -/
def State.stepDone (s : State) (n : Nat) (kind : CalKind) (c : Nat) : State :=
  let i := calCycle kind
  match (s.rad n).cycles[i]? with
  | none => s
  | some y =>
    let todo := match y.todo.find? (fun e => e.1 == kind && (e.2 == c || kind == .interChain)) with
      | some e => y.todo.erase e
      | none => y.todo
    let s := s.radMod n (fun x => { x with cycles := x.cycles.set i ⟨todo, y.overdue && todo != []⟩ })
    if todo = [] ∧ !y.overdue then s.put (F.CHN_CAL_STATUS_OVERDUE n) 0 else s

/-- R88: a feedback receiver fails its reference tone. -/
def State.fbrxFault (s : State) (c : Nat) : State :=
  if s.isSet (F.CHN_CHAIN_STATUS_FBRX_FAULT c) then s
  else (s.put (F.CHN_CHAIN_STATUS_FBRX_FAULT c) 1).faultNow .fbrx 1 0 (s.loc .rfe (c / 4) (4 + c % 4)) 0

/-- R92, R100: the step ends, its result is stored for the chain's channel, and held requests go on. -/
def State.stepEnd (s : State) (n : Nat) (ok : Bool) : State :=
  match (s.rad n).step with
  | none => s
  | some (kind, l) =>
    let s := s.leaveStep n l
    let s := s.stepDone n kind (l.headD 0)
    let s := if kind = .feedback ∧ !ok then l.foldl (fun s c => s.fbrxFault c) s
      else match (s.rad n).chan with
        | some ch => l.foldl (fun s c => s.takeResult c n ch) s
        | none => s
    s.releaseHeld n

/-- R100. -/
def execCalStepEnd (n : Fin 3) (ok : Bool) (s : State) : Res := .next (s.stepEnd n ok)

/-- R101: cycles of radio n that still have steps to run show OVERDUE. -/
def State.calOverdue (s : State) (n : Nat) : State :=
  if s.cyclesOn n ∧ (s.rad n).cycles.any (fun y => y.todo != []) then
    (s.radMod n (fun x => { x with cycles := x.cycles.map (fun y => { y with overdue := y.overdue || y.todo != [] }) })).put (F.CHN_CAL_STATUS_OVERDUE n) 1
  else s

/-- R101: the period of a cycle ends with steps left in it. -/
def execCalOverdue (n : Fin 3) (s : State) : Res := .next (s.calOverdue n)

/-- R102, R107: a capture of a frame with at least 16 µs of data near the operating power goes to the estimator if the frame ended complete and the
receiver did not saturate, and is discarded and counted otherwise; a frame over the ceiling takes half a decibel off the chain. DEDUCED (log 49). -/
def State.dpdCapture (s : State) (c dataUs : Nat) (inRange : Bool) (fin : FrameEnd) (saturated hot : Bool) : State :=
  let n := s.get (F.CHN_CHAIN_STATUS_RADIO c)
  if 2 < n then s else
  let s := if hot then s.chainMod c (fun x => { x with gainCut := x.gainCut + 1 }) else s
  if s.isSet (F.CHN_CHAIN_STATUS_FBRX_FAULT c) ∨ s.isSet (F.CHN_CAL_CTRL_FREEZE n) ∨ !s.isSet (F.CHN_CAL_CTRL_DPD_EN n) ∨ dataUs < 16 ∨ !inRange then s
  else if fin = .complete ∧ !saturated then s.chainMod c (fun x => { x with accepted := min (x.accepted + 1) 17 })
  else s.bump (A.CHN_DPD_DISCARD n)

/-- R102. -/
def execDpdCapture (c : Fin 16) (dataUs : Nat) (inRange : Bool) (fin : FrameEnd) (saturated : Bool) (hot : Bool) (s : State) : Res :=
  .next (s.dpdCapture c dataUs inRange fin saturated hot)

/-- R103: chain c has the captures for a candidate, its last one is 10 ms past, and its predistortion may change now. -/
def State.dpdReady (s : State) (c : Nat) : Bool :=
  let n := s.get (F.CHN_CHAIN_STATUS_RADIO c)
  let x := s.chain c
  let early : Bool := match x.lastCand with
    | some t => s.tim.now < t + 10000000
    | none => false
  n < 3 && 17 ≤ x.accepted && !early && (s.rad n).tx.isNone && !s.isSet (F.CHN_CAL_CTRL_FREEZE n) && s.isSet (F.CHN_CAL_CTRL_DPD_EN n) &&
    !s.isSet (F.CHN_CHAIN_STATUS_FBRX_FAULT c)

/-- R103: the chain that cluster q's estimator serves next: the first that is ready after the one it served last. DEDUCED (log 49). -/
def State.estimatorTurn (s : State) (q : Nat) : Option Nat :=
  ((List.range 4).map (fun i => 4 * q + (s.chn.estLast.getD q 0 + 1 + i) % 4)).find? s.dpdReady

/-- R103: a candidate from 16 accepted captures, at most one per 10 ms, is tested against the next capture and adopted at a frame boundary; an estimator serves the
chains of its cluster in turn. -/
def State.dpdAdopt (s : State) (c : Nat) (noWorse : Bool) : State :=
  if s.estimatorTurn (c / 4) ≠ some c then s
  else
    let s : State := { s with chn := { s.chn with estLast := s.chn.estLast.set (c / 4) c } }
    let s := s.chainMod c (fun x => { x with accepted := 16, lastCand := some s.tim.now })
    if noWorse then (s.chainMod c (fun x => { x with adoptT := some (s.get F.PWR_MON_TEMP_TJ_D1) })).put (F.CHN_CHAIN_STATUS_DPD_STALE c) 0 else s

/-- R103. -/
def execDpdAdopt (c : Fin 16) (noWorse : Bool) (s : State) : Res := .next (s.dpdAdopt c noWorse)

/-! ### Regulatory profiles (R108, R109) -/

/-- R108: a profile that is written, no looser than the Legend's, and that allows every radio's present channel takes force. -/
def State.regSelectWrite (s : State) (v : Word) : State :=
  let p := getField v 0 3
  let ok := s.profileWritten p && profileWithin (s.profile p) (s.profile s.regProfile) &&
    (List.range 3).all (fun n => match (s.rad n).chan with
      | some ch => channelAllowed (s.profile p) ch
      | none => true)
  if ok then (s.put F.CHN_REG_SELECT_PROFILE p).put F.CHN_REG_STATUS_ACTIVE_PROFILE p else s.bump A.CHN_WRITE_REJECT

/-- R108. -/
def execChnRegSelect (m : Master) (v : Word) (s : State) : Res := .next (s.hostWrite m A.CHN_REG_SELECT v (fun s => s.regSelectWrite v))

/-- The 128 staged bytes of CHN_FUSE_DATA. -/
def State.fuseStaged (s : State) : List Byte := wordBytes ((List.range 32).map (fun i => s.rd (A.CHN_FUSE_DATA i)))

/-- R109: a write of CHN_FUSE_CTRL. Programming starts, or ERROR sets and nothing is blown; LOCK cannot be undone, and puts the Legend's
profile in force (R107). A write while BUSY changes nothing. DEDUCED (log 52). -/
def State.fuseCtrlWrite (s : State) (v : Word) : State :=
  let p := getField v 0 3
  let keyOk := getField v 16 16 = 0x9640
  if s.stopping 4 ∧ (bit v.toNat 3 ∨ bit v.toNat 4) then s.bump A.PWR_STOPPING_REJECT
  else if s.isSet F.CHN_FUSE_STATUS_BUSY then s
  else
    let s := if bit v.toNat 3 then
        let b := s.fuseStaged
        if s.rfuse.lock ∨ profileMark (s.profile p) ∨ !profileCrcOk b ∨ !dwellOk b ∨ !keyOk then s.raise F.CHN_FUSE_STATUS_ERROR
        else ({ s with rfuse := { s.rfuse with busy := some (p, b) } }).put F.CHN_FUSE_STATUS_BUSY 1
      else s
    if bit v.toNat 4 then
      if keyOk then
        let s := ({ s with rfuse := { s.rfuse with lock := true } }).put F.CHN_REG_STATUS_LOCKED 1
        ((s.put F.CHN_REG_SELECT_PROFILE s.regProfile).put F.CHN_REG_STATUS_ACTIVE_PROFILE s.regProfile).raise F.CHN_FUSE_STATUS_DONE
      else s.raise F.CHN_FUSE_STATUS_ERROR
    else s

/-- R109: PROGRAM. -/
def execFuseProgram (m : Master) (v : Word) (s : State) : Res := .next (s.hostWrite m A.CHN_FUSE_CTRL v (fun s => s.fuseCtrlWrite v))

/-- R109: LOCK. -/
def execFuseLock (m : Master) (v : Word) (s : State) : Res := .next (s.hostWrite m A.CHN_FUSE_CTRL v (fun s => s.fuseCtrlWrite v))

/-- R109: programming ends. -/
def State.fuseDone (s : State) : State :=
  match s.rfuse.busy with
  | none => s
  | some (p, b) =>
    let s := { s with rfuse := { s.rfuse with profiles := s.rfuse.profiles.set p b, busy := none } }
    let s := if profileGood b then s.put F.CHN_REG_STATUS_WRITTEN (s.get F.CHN_REG_STATUS_WRITTEN ||| 2 ^ p) else s
    (s.put F.CHN_FUSE_STATUS_BUSY 0).raise F.CHN_FUSE_STATUS_DONE

/-- R109. -/
def execFuseProgramDone (s : State) : Res := .next s.fuseDone

/-! ### Coexistence (R110 to R112) -/

/-- R110: a high-priority request: a transmission of a masked radio is cut where EXT_TRUNCATE is 1, else finishes first. -/
def State.extHighRequest (s : State) : State :=
  let s := { s with chn := { s.chn with extHigh := true, extWait := true } }
  let s := if s.isSet F.CHN_COEX_CTRL_EXT_EN ∧ s.isSet F.CHN_COEX_CTRL_EXT_TRUNCATE then
      (List.range 3).foldl (fun s n => if s.extMasked n then s.coexCut n else s) s
    else s
  s.extRetry

/-- R110: EXT_REQ rises. DEDUCED (log 50). -/
def State.extRise (s : State) (pri : Bool) : State :=
  let s := { s with chn := { s.chn with extReq := true, extPri := pri, extHigh := pri, extWait := true } }
  if pri then s.extHighRequest else s.extRetry

/-- R110. -/
def execExtReqRise (pri : Bool) (s : State) : Res := .next (if s.chn.extReq then s else s.extRise pri)

/-- R110: a later rise of EXT_PRI counts as a new high-priority request, the wire having fallen since an earlier one. DEDUCED (log 50). -/
def execExtPriRise (s : State) : Res :=
  .next (let s := { s with chn := { s.chn with extPri := true } }
    if s.chn.extReq then s.extHighRequest else s)

/-- R110: EXT_REQ falls, and EXT_PRI with it: EXT_GNT falls and masked radios may transmit again. DEDUCED (log 50). -/
def execExtReqFall (s : State) : Res :=
  .next (({ s with chn := { s.chn with extReq := false, extPri := false, extHigh := false, extGnt := false, extWait := false } }).releaseAll)

/-- R110: a low-priority grant held before a scheduled slot is withdrawn; the request waits again. -/
def execExtGntPreslotDrop (s : State) : Res :=
  .next (if s.chn.extGnt ∧ !s.chn.extHigh then { s with chn := { s.chn with extGnt := false, extWait := true } } else s)

/-- R110, R112: a write of CHN_COEX_CTRL acts on the wires at once: a disabled interface answers nothing and holds nothing back, an enabled one takes up a request that
stands. DEDUCED (log 50). -/
def State.coexCtrlWrite (s : State) (v : Word) : State :=
  let s := s.tableWrite A.CHN_COEX_CTRL v
  let s : State := if s.isSet F.CHN_COEX_CTRL_EXT_EN then { s with chn := { s.chn with extWait := s.chn.extReq && !s.chn.extGnt } }
    else { s with chn := { s.chn with extGnt := false, extWait := s.chn.extReq } }
  let s : State := if s.isSet F.CHN_COEX_CTRL_DEV_EN then s else { s with chn := { s.chn with devReq := false } }
  let s := if s.chn.extReq ∧ s.chn.extHigh ∧ s.chn.extWait then s.extHighRequest else s.extRetry
  s.releaseAll

/-- R111: a transmission of radio n, or with DEV_REQ_RX an ULT slot, is due within DEV_LEAD. -/
def State.devDue (s : State) (n : Nat) : Bool :=
  let lead := s.get F.CHN_COEX_CTRL_DEV_LEAD * 1000
  let asks (k : Nat) : Bool := k == kBCN || k == kDLS || k == kSTP || (k == kULT && s.isSet F.CHN_COEX_CTRL_DEV_REQ_RX)
  s.sfSlots n != 0 && (List.range (lead / slotNs + 2)).any (fun i =>
    let x := s.slotIndex + i
    decide (x * slotNs ≤ s.t0 + lead) && asks (s.runAt n x).kind)

/-- R111: DEV_REQ rises for a masked radio, DEV_LEAD before a scheduled transmission or as a contention frame is ready. DEDUCED (log 50). -/
def execDevReqRaise (n : Fin 3) (s : State) : Res :=
  .next (if s.devMasked n ∧ (s.devDue n ∨ (s.rad n).held ≠ []) then { s with chn := { s.chn with devReq := true } } else s)

/-- R111: DEV_GNT rises: frames that wait for it go on. -/
def execDevGntRise (s : State) : Res := .next (({ s with chn := { s.chn with devGnt := true } }).releaseAll)

/-- R111: DEV_GNT falls: with DEV_TRUNCATE at 1 a transmission on a masked radio is cut. -/
def execDevGntFall (s : State) : Res :=
  .next (
    let s := { s with chn := { s.chn with devGnt := false } }
    if s.isSet F.CHN_COEX_CTRL_DEV_TRUNCATE then (List.range 3).foldl (fun s n => if s.devMasked n then s.coexCut n else s) s else s)

/-- R111: the contention frame that has waited longest for DEV_GNT is returned and counted. DEDUCED (log 50). -/
def State.devTimeout (s : State) (n : Nat) : State :=
  match (s.rad n).held.find? (fun r => r.startBy.isNone) with
  | some r =>
    if s.devMasked n ∧ !s.chn.devGnt then
      let s := s.radMod n (fun x => { x with held := x.held.erase r })
      let s := s.put (F.CHN_RADIO_STATE_HOLD n) (b2n ((s.rad n).held != []))
      (s.bump A.CHN_COEX_DENIED).status n r.tag .coexDenied
    else s
  | none => s

/-- R111. -/
def execDevTimeout (n : Fin 3) (s : State) : Res := .next (s.devTimeout n)

/-- R111: DEV_REQ falls once no masked radio transmits, waits or has a transmission due within DEV_LEAD. -/
def execDevReqRelease (s : State) : Res :=
  .next (
    if (List.range 3).any (fun n => s.devMasked n && ((s.rad n).tx.isSome || (s.rad n).held != [] || s.devDue n)) then s
    else { s with chn := { s.chn with devReq := false } })

/-! ### Compare units (R228 to R231) -/

/-- The pin action of unit c on TOUTp: a pulse rises and falls WIDTH ticks later, a toggle inverts the level. DESIGN CHOICE (log 83). -/
def State.cmpPin (s : State) (c p : Nat) : State :=
  let until_ (s : State) (e : Option Nat) : State := { s with tim := { s.tim with pulseEnd := s.tim.pulseEnd.set p e } }
  match s.get (F.CMP_CTRL_ACTION c) with
  | 1 => (until_ s (some (s.tim.tclkNs + 4 * s.get (F.CMP_WIDTH_TICKS c)))).drivePin p true
  | 2 => (until_ s none).drivePin p (!s.tim.tout.getD p false)
  | _ => s

/-- What unit c does to its output as it fires: a pin unless a lower unit drives it (R230), the housekeeping converter (R470), a calibration tick (R231). DESIGN CHOICE (log 83). -/
def State.cmpOutput (s : State) (c : Nat) : State :=
  let o := s.get (F.CMP_CTRL_OUTPUT c)
  if 1 ≤ o ∧ o ≤ 4 then
    if s.cmpOverruled c then s.raise (F.CMP_STATUS_CONFLICT c) else s.cmpPin c (o - 1)
  else if o = 5 then (if s.isSet F.PWR_MON_CTRL_EXT_TRIG then { s with tim := { s.tim with adcDue := true } } else s)
  else if 6 ≤ o ∧ o ≤ 8 then s.calTickRadio (o - 6)
  else s

/-- R228, R229: unit c fires at the first tick at or past its target. A one-shot unit disarms; a periodic one adds its period, or after a
forward jump moves to its first fire time after the new time and counts those passed over. DEDUCED (log 78). -/
def State.cmpFire (s : State) (c : Nat) : State :=
  if !s.cmpArmed c ∨ s.cmpTime c < s.cmpTarget c then s else
  let now := s.cmpTime c
  let target := s.cmpTarget c
  let per := (s.rd (A.CMP_PERIOD c)).toNat
  let late := s.tim.late.getD c false
  let jumped := s.tim.jumped.getD c false
  let s := s.cmpOutput c
  let s := if s.isSet (F.CMP_STATUS_FIRED c) then s else (s.raise (F.CMP_STATUS_FIRED c)).cmpWake c
  let s := if late then s.raise (F.CMP_STATUS_MISSED c) else s
  let s := { s with tim := { s.tim with late := s.tim.late.set c false, jumped := s.tim.jumped.set c false, cmpAt := s.tim.cmpAt.set c (some s.tim.now) } }
  if per = 0 then s.put (F.CMP_CTRL_ARM c) 0
  else if jumped then
    let k := (now - target) / per
    let s := s.put (F.CMP_STATUS_SKIPPED c) (min (s.get (F.CMP_STATUS_SKIPPED c) + k) 255)
    { s with tim := { s.tim with cmpTarget := s.tim.cmpTarget.set c (target + (k + 1) * per) } }
  else { s with tim := { s.tim with cmpTarget := s.tim.cmpTarget.set c (target + per) } }

/-- R228. -/
def execCompareFire (c : Fin 16) (s : State) : Res := .next (s.cmpFire c)

end Sys2Proof.Machine
end

