-- ==== Sys2Proof/Machine/Holdover.lean ====
section
/-! DEFINITION. The guard and the loss of the Datum reference (R175 to R177): E, W, G, the stages and the reference member. -/

namespace Sys2Proof.Machine

/-- TRV_DATUM_STATE.STAGE: 0 LOCKED, 1 HOLDOVER, 2 CAPPED, 3 DETACHED (R179). -/
def State.dstage (s : State) : Nat := s.get F.TRV_DATUM_STATE_STAGE

/-- TRV_STATUS.DOMAIN: 0 OUT, 1 SCAN, 2 FOLLOW, 3 MEMBER (R212). -/
def State.dom (s : State) : Nat := s.get F.TRV_STATUS_DOMAIN

/-- The following of the reference changed. -/
def State.holdMod (s : State) (f : Hold → Hold) : State := { s with grt := { s.grt with hold := f s.grt.hold } }

/-- R175: E in ns while LOCKED. -/
def State.eNow (s : State) : Nat := if s.ptpInForce then 25 else 100

/-- R175: E in ns; in holdover it keeps its value. -/
def State.eNs (s : State) : Nat := if s.dstage = 0 then s.eNow else s.grt.hold.eHold

/-- R176, R177: W in 10^-9 ns: 0 while LOCKED and for a root, held once a return to LOCKED is due, else growing since the last accepted beacon. -/
def State.wNum (s : State) : Nat :=
  if s.dstage = 0 ∨ s.isRoot then 0
  else match s.grt.hold.wHeld with
    | some (w, _) => w
    | none => s.get F.TRV_HOLD_CTRL_HOLD_DRIFT_PPB * (s.tim.now - s.grt.hold.lastBeacon.getD s.tim.now)

/-- The uncapped guard in 10^-9 ns (R175). -/
def State.guardNum (s : State) : Nat :=
  max (s.get F.TRV_HOLD_CTRL_GUARD_MIN * 1000) (2 * s.eNs + s.get F.TRV_HOLD_CTRL_PROP * 10) * nsPerS + s.wNum

/-- The greatest guard in 10^-9 ns. -/
def State.guardMaxNum (s : State) : Nat := s.get F.TRV_HOLD_CTRL_GUARD_MAX * 1000 * nsPerS

/-- R175: G in ns, rounded up to the next 10 ns; CAPPED and DETACHED hold it at GUARD_MAX (R177). -/
def State.guardNow (s : State) : Nat :=
  if 2 ≤ s.dstage then s.get F.TRV_HOLD_CTRL_GUARD_MAX * 1000 else ceilDiv (min s.guardMaxNum s.guardNum) (10 * nsPerS) * 10

/-- A new stage withdraws slots, or gives them back, at once: a run in progress whose kind as executed changes begins afresh (R177). -/
def State.runsFollow (s : State) : State :=
  (List.range 3).foldl (fun (s : State) n =>
    match (s.gr n).run with
    | some r =>
      if s.execKind n (s.position n s.slotIndex) = r.kind then s
      else s.grMod n (fun g => { g with run := some (s.runAt n s.slotIndex) })
    | none => s) s

/-- The member enters a stage: the offsets recorded so far no longer count (R221). -/
def State.stageTo (s : State) (st : Nat) : State :=
  let s : State := s.put F.TRV_DATUM_STATE_STAGE st
  ({ s with tim := { s.tim with offs := [] } } : State).runsFollow

/-- Reference entry k is valid. -/
def State.refValid (s : State) (k : Nat) : Bool := s.isSet (F.TRV_DATUM_REF_VALID k)

/-- The entry now followed. -/
def State.refNow (s : State) : Nat := s.get F.TRV_DATUM_STATE_REF

/-- The present reference member. -/
def State.refMember (s : State) : Option Nat := if s.refValid s.refNow then some (s.get (F.TRV_DATUM_REF_MEMBER s.refNow)) else none

/-- REF names entry k: a new reference starts with no count, no path delay and a delay exchange at once (R177, R199, R221). DEDUCED (log 66). -/
def State.refTo (s : State) (k : Nat) : State :=
  if s.refNow = k then s
  else
    let s := (s.put F.TRV_DATUM_STATE_REF k).put F.TB_DATUM_STATUS_DELAY_KNOWN 0
    let s := s.holdMod (fun h => { h with consec := 0, got := false, delay := none })
    { s with tim := { s.tim with offs := [] }, trv := { s.trv with exch := none, exchDone := false } }

/-- REF moves to the next valid entry, cyclically. -/
def State.refNext (s : State) : State :=
  match [1, 2, 3].find? (fun d => s.refValid ((s.refNow + d) % 4)) with
  | some d => s.refTo ((s.refNow + d) % 4)
  | none => s

/-- R177: the third consecutive miss while LOCKED. -/
def State.enterHoldover (s : State) : State :=
  let e := s.eNow
  let s := (s.bump A.TRV_HOLDOVER_COUNT).holdMod (fun h => { h with eHold := e, wHeld := none })
  ((s.stageTo 1).refNext).put F.TRV_DATUM_STATE_MISSES 0

/-- R177, R205: CAPPED gives way to DETACHED; a member goes on hopping as in FOLLOW, without a scan, and sends nothing. DEDUCED (log 66). -/
def State.enterDetached (s : State) : State :=
  let s := s.stageTo 3
  if s.dom = 3 then { (s.put F.TRV_STATUS_DOMAIN 2) with trv := { s.trv with mayTx := false } } else s

/-- R177: HOLDOVER to CAPPED and CAPPED to DETACHED, each at once. -/
def State.stageCheck (s : State) : State :=
  let s := if s.dstage = 1 ∧ s.guardMaxNum < s.guardNum then s.stageTo 2 else s
  if s.dstage = 2 ∧ 256000 * nsPerS < s.wNum then s.enterDetached else s

/-- R175: the guard is recomputed, the same for all radios. DEDUCED (log 66). -/
def State.guardRecompute (s : State) : State :=
  let s := s.stageCheck
  let g := s.guardNow
  (List.range 3).foldl (fun (s : State) n => s.put (F.RAD_GRT_GUARD_GUARD_NS n) g) s

/-- R175. -/
def execGuardRecompute (s : State) : Res := .next s.guardRecompute

/-- R176, R177: a reference period ends. A root, and a member outside a domain or scanning, follows no reference. -/
def State.periodEnd (s : State) : State :=
  if s.isRoot ∨ s.dom < 2 then s
  else if s.grt.hold.got then (s.holdMod (fun h => { h with got := false })).put F.TRV_DATUM_STATE_MISSES 0
  else
    let m := s.get F.TRV_DATUM_STATE_MISSES + 1
    let s := s.holdMod (fun h => { h with consec := 0 })
    if m < 3 then s.put F.TRV_DATUM_STATE_MISSES m
    else if s.dstage = 0 then s.enterHoldover
    else if s.dstage = 3 then s
    else (s.refNext).put F.TRV_DATUM_STATE_MISSES 0

/-- R177. -/
def execReferencePeriodEnd (s : State) : Res := .next s.periodEnd

/-- R177: the conditions for the return to LOCKED hold. -/
def State.relockReady (s : State) : Bool :=
  s.dstage != 0 && 2 ≤ s.grt.hold.consec && s.grt.hold.delay.isSome && s.tim.offs != [] && decide (s.get F.TB_DATUM_RESIDUAL_NS < s.eNs)

/-- R177: the return to LOCKED waits for the next epoch boundary, W held meanwhile. -/
def State.relockDue (s : State) : State :=
  if s.relockReady ∧ s.grt.hold.wHeld.isNone then
    let w := s.wNum
    s.holdMod (fun h => { h with wHeld := some (w, s.epoch) })
  else s

/-- R177, R205: the member is LOCKED; one that followed joins. -/
def State.locked (s : State) : State :=
  let s := ((s.holdMod (fun h => { h with wHeld := none })).stageTo 0).put F.TRV_DATUM_STATE_MISSES 0
  if s.dom = 2 then { (s.put F.TRV_STATUS_DOMAIN 3) with trv := { s.trv with joinLeft := 3 } } else s

/-- R177, R205: at an epoch boundary a due return takes effect. -/
def State.relock (s : State) : State :=
  match s.grt.hold.wHeld with
  | some (_, e) => if s.epoch = e then s else s.locked
  | none => s

/-- R176: a member left without a valid reference entry is the root and LOCKED: at once where it is in the domain, at the next epoch boundary where it follows (R205). DEDUCED (log 66). -/
def State.rootFollow (s : State) : State :=
  if !s.isRoot ∨ s.dstage = 0 then s
  else if s.dom = 3 then s.locked
  else if s.dom = 2 ∧ s.grt.hold.wHeld.isNone then s.holdMod (fun h => { h with wHeld := some (0, s.epoch) })
  else s

end Sys2Proof.Machine
end

