-- ==== Sys2Proof/Machine/Keys.lean ====
section
/-! DEFINITION. The key store (R368 to R378): slots, the key commands, packet numbers. -/

namespace Sys2Proof.Machine

/-! ### Slots -/

/-- The number of slots of a class: 0 pairwise, 1 group, 2 MACsec (R368). -/
def classSize (c : Nat) : Nat := if c = 0 then 8192 else 64

/-- Slot `i` of class `c`. -/
def State.slot (s : State) (c i : Nat) : KeySlot := kvRead (fun _ => KeySlot.blank) s.sec.slots (c * 8192 + i)

/-- Slot `i` of class `c` replaced. -/
def State.setSlot (s : State) (c i : Nat) (k : KeySlot) : State :=
  { s with sec := { s.sec with slots := kvWrite (fun _ => KeySlot.blank) s.sec.slots (c * 8192 + i) k } }

/-- R370: the class of slots takes a cipher. -/
def cipherOf (c cipher : Nat) : Bool :=
  match c with
  | 0 => 1 ≤ cipher && cipher ≤ 4
  | 1 => 1 ≤ cipher && cipher ≤ 8
  | 2 => 9 ≤ cipher && cipher ≤ 12
  | _ => false

/-- The bytes of a key of a cipher: the odd codes are the 128-bit ones (R370). -/
def keyBytes (cipher : Nat) : Nat := if cipher % 2 = 1 then 16 else 32

/-- R374: the last packet number a slot can use. -/
def lastPn (cipher : Nat) : Nat :=
  if cipher = 9 ∨ cipher = 10 then 2 ^ 32 - 1 else if cipher = 11 ∨ cipher = 12 then 2 ^ 64 - 1 else 2 ^ 48 - 1

/-- A slot raises a flag of KEY_EVENT, which names it (R374, R378). -/
def State.keyFlag (s : State) (f : Fld) (c i : Nat) : State :=
  ((s.raise f).put F.KEY_EVENT_CLASS c).put F.KEY_EVENT_SLOT i

/-! ### Packet numbers (R373, R374) -/

/-- A slot that may encrypt: valid, not faulted, not exhausted (R376, R378). -/
def KeySlot.sends (k : KeySlot) : Bool := k.valid && !k.fault && !k.exhausted

/-- R373, R374: an encryption takes the slot's next packet number; `none` where the slot refuses to transmit. DEDUCED (log 93). -/
def State.takePn (s : State) (c i : Nat) : Option Nat × State :=
  let k := s.slot c i
  let last := lastPn k.cipher
  if !k.sends then (none, s)
  else if last < k.pn then (none, (s.setSlot c i { k with exhausted := true }).keyFlag F.KEY_EVENT_EXHAUSTED c i)
  else
    let near := k.near || decide ((last + 1) / 16 * 15 ≤ k.pn + 1)
    let done := decide (k.pn = last)
    let s' := s.setSlot c i { k with pn := k.pn + 1, near := near, exhausted := done }
    let s' := if near ∧ !k.near then s'.keyFlag F.KEY_EVENT_NEAR c i else s'
    (some k.pn, if done then s'.keyFlag F.KEY_EVENT_EXHAUSTED c i else s')

/-- A transmission refused for want of a key or of packet numbers is counted (R374, R376). -/
def State.pnAssigned (s : State) (c i : Nat) : State :=
  match s.takePn c i with
  | (some _, t) => t
  | (none, t) => t.bump A.KEY_TX_REFUSED

/-- R378: an uncorrectable error in a slot. -/
def State.slotFault (s : State) (c i : Nat) : State :=
  (s.setSlot c i { s.slot c i with fault := true }).keyFlag F.KEY_EVENT_FAULT c i

/-! ### Key commands (R371, R372) -/

/-- The staged key of `n` bytes; words not written since the last command are zero (R371). -/
def State.stagedKey (s : State) (n : Nat) : List Byte := (wordBytes ((List.range 8).map (fun w => s.rd (A.KEY_STAGE w)))).take n

/-- KEY_STAGE zeroised (R371). -/
def State.clearStage (s : State) : State := (List.range 8).foldl (fun (s : State) w => s.wr (A.KEY_STAGE w) 0#32) s

/-- An MPDU held for retry under pairwise slot `i`: sent before, to a station whose slot it is (R168, R372). -/
def State.heldUnder (s : State) (i : Nat) (e : Nat × Nat × Pkt) : Bool :=
  decide (e.2.1 < 32768) && s.isSet (F.STA_W2_KEY_VALID (e.2.1 / 8)) && s.get (F.STA_W2_KEY (e.2.1 / 8)) == i &&
    ((kvGet s.grt.tids e.2.1).map (fun t => t.sent.any (fun x => x.1 == e.2.2.id))).getD false

/-- R372: every MPDU held for retry under pairwise slot `i` is abandoned and counted; its cells are freed (R290). -/
def State.abandonRetries (s : State) (c i : Nat) : State :=
  if c = 0 then
    let n := (s.que.air.filter (s.heldUnder i)).length
    ({ s with que := { s.que with air := s.que.air.filter (fun e => !s.heldUnder i e) } } : State).count A.KEY_RETRY_ABANDON n
  else s

/-- A group slot's kind: data or BIP (R372). -/
def isBip (cipher : Nat) : Bool := 5 ≤ cipher && cipher ≤ 8

/-- R372: TX set on group slot `i` and cleared on every other of its radio, BSS and kind. -/
def State.setTx (s : State) (i : Nat) : State :=
  let k := s.slot 1 i
  let l := s.sec.slots.map fun e =>
    let x := e.2
    if 8192 ≤ e.1 ∧ e.1 < 16384 ∧ x.radio = k.radio ∧ x.bss = k.bss ∧ isBip x.cipher = isBip k.cipher ∧ x.valid then (e.1, { x with tx := e.1 == 8192 + i })
    else e
  { s with sec := { s.sec with slots := l } }

/-- R372, R394: the result of a key command, 0 where it is carried out. DEDUCED (log 93). -/
def State.keyRefusal (s : State) (op c i cipher : Nat) : Nat :=
  if op = 0 ∨ 5 < op ∨ c = 3 ∨ (op = 4 ∧ c ≠ 1) ∨ (op = 5 ∧ c ≠ 0) then 4
  else if classSize c ≤ i then 1
  else if op = 1 ∧ !cipherOf c cipher then 2
  else if (op = 4 ∨ op = 5) ∧ !(s.slot c i).valid then 3
  else 0

/-- R371, R372: a LOAD. -/
def State.keyLoaded (s : State) (c i cipher keyid : Nat) : State :=
  let pn := (s.rd A.KEY_PN_LO).toNat + (s.rd A.KEY_PN_HI).toNat * 2 ^ 32
  let aux (lo w : Nat) : Nat := getField (s.rd A.KEY_AUX) lo w
  (s.abandonRetries c i).setSlot c i
    ⟨true, cipher, keyid, s.stagedKey (keyBytes cipher), if pn = 0 then 1 else pn, List.replicate 10 0, false, false, false, false, aux 0 13, aux 13 1 == 1,
      aux 14 2, aux 16 4⟩

/-- R372: a READ. -/
def State.keyShown (s : State) (c i : Nat) : State :=
  let k := s.slot c i
  let w := fieldWord 0 1 (b2n k.valid) ||| fieldWord 1 4 k.cipher ||| fieldWord 5 3 k.keyid ||| fieldWord 8 1 (b2n k.tx) ||| fieldWord 9 1 (b2n k.exhausted) |||
    fieldWord 10 1 (b2n k.near) ||| fieldWord 11 1 (b2n k.fault) ||| fieldWord 12 13 k.partner ||| fieldWord 25 1 (b2n k.partnerEn) |||
    fieldWord 26 2 k.radio ||| fieldWord 28 4 k.bss
  ((s.wr A.KEY_INFO w).wr A.KEY_INFO_PN_LO (BitVec.ofNat 32 k.pn)).wr A.KEY_INFO_PN_HI (BitVec.ofNat 32 (k.pn / 2 ^ 32))

/-- A write of KEY_CMD (R371, R372): a non-zero OP starts a command, which ends within 1 µs and zeroises KEY_STAGE. DEDUCED (log 93). -/
def State.keyCmdWrite (s : State) (v : Word) : State :=
  let op := getField v 0 3
  let c := getField v 3 2
  let i := getField v 5 13
  let cipher := getField v 18 4
  if op = 0 then s
  else if s.stopping 2 then s.bump A.PWR_STOPPING_REJECT
  else
    let r := s.keyRefusal op c i cipher
    let t := if r ≠ 0 then s
      else match op with
        | 1 => s.keyLoaded c i cipher (getField v 22 3)
        | 2 => (s.abandonRetries c i).setSlot c i .blank
        | 3 => s.keyShown c i
        | 4 => s.setTx i
        | _ => s.setSlot c i { s.slot c i with partner := getField (s.rd A.KEY_AUX) 0 13, partnerEn := getField (s.rd A.KEY_AUX) 13 1 == 1 }
    t.clearStage.wr A.KEY_CMD_STATUS (fieldWord 1 3 r)

/-- R368: the key store, the domain key slots, KEY_STAGE and the Seal keys are zeroised. -/
def State.zeroise (s : State) : State :=
  let s : State := { s with sec := { s.sec with slots := [], sealJob := none, sealRelease := false },
                            trv := { s.trv with keys := List.replicate 2 (List.replicate 16 0#8) } }
  let s := (List.range 8).foldl (fun (s : State) w => s.wr (A.SEAL_KEY w) 0#32) s.clearStage
  (List.range 4).foldl (fun (s : State) w => s.wr (A.SEAL_TAG w) 0#32) s

/-! ### The Seal lock (R380) -/

/-- R380: the lock is free and the key, IV and tag registers are zeroised. -/
def State.sealFree (s : State) : State :=
  let s : State := { s with sec := { s.sec with sealRelease := false } }
  let s := (List.range 8).foldl (fun (s : State) w => s.wr (A.SEAL_KEY w) 0#32) (s.put F.SEAL_OWNER_OWNER 0)
  let s := (List.range 3).foldl (fun (s : State) w => s.wr (A.SEAL_IV w) 0#32) s
  (List.range 4).foldl (fun (s : State) w => s.wr (A.SEAL_TAG w) 0#32) s

/-- R381, R382: the job ends with a result; a release that waits for its end takes effect (R380). -/
def State.sealEnd (s : State) (result : Nat) : State :=
  let s : State := { s with sec := { s.sec with sealJob := none, sealAt := s.tim.now } }
  let s := ((s.put F.SEAL_STATUS_BUSY 0).put F.SEAL_STATUS_RESULT result).raise F.SEAL_STATUS_DONE
  if s.sec.sealRelease then s.sealFree else s

end Sys2Proof.Machine
end

