-- ==== Sys2Proof/Machine/Dram.lean ====
section
/-! DEFINITION. The bytes of the DDR5 memory (R351 to R355): one canonical list of (address, byte) pairs; a byte not listed reads zero, as the
initialisation of R353 leaves it. -/

namespace Sys2Proof.Machine

/-- What an unlisted DRAM byte reads as (R353). DESIGN CHOICE (log 105). -/
def dramDefault (_ : Nat) : Byte := 0#8

/-- The form of a DRAM image: addresses rise and no entry holds the default. -/
def dramWf (l : List Host.Cell) : Bool := kvWf dramDefault l

/-- One byte of DRAM. DESIGN CHOICE (log 105). -/
def State.dramByte (s : State) (a : Nat) : Byte := kvRead dramDefault s.mem.dram a

/-- `n` bytes of DRAM from address `a`. -/
def State.dramRead (s : State) (a n : Nat) : List Byte := (List.range n).map (fun i => s.dramByte (a + i))

/-- One byte of DRAM written. -/
def State.dramPut (s : State) (a : Nat) (b : Byte) : State := { s with mem := { s.mem with dram := kvWrite dramDefault s.mem.dram a b } }

/-- Bytes written to DRAM from address `a` on. -/
def State.dramWrite (s : State) : Nat → List Byte → State
  | _, [] => s
  | a, b :: bs => (s.dramPut a b).dramWrite (a + 1) bs

/-- R355: the xor that places a second copy on the other subchannel. -/
def State.mirrorXor (s : State) : Nat := if s.dramOrder = 2 then 0x100 else 0x40

/-- R355: the second copy of the line at `a`, below 0x0800_0000. -/
def State.mirrorOf (s : State) (a : Nat) : Nat := (a + 0x08000000) ^^^ s.mirrorXor

/-- A 64-byte line written as the controller writes it: both copies in the mirrored region (R355). -/
def State.lineWrite (s : State) (a : Nat) (bs : List Byte) : State :=
  let s := s.dramWrite a bs
  if a < 0x08000000 then s.dramWrite (s.mirrorOf a) bs else s

/-- R362: a device of subchannel `sc` has been lost. -/
def State.lostSc (s : State) (sc : Nat) : Bool := if sc = 0 then s.isSet F.DRC_STATUS_LOST0 else s.isSet F.DRC_STATUS_LOST1

/-- R362: losses on both subchannels leave no DRAM at all. -/
def State.dramGone (s : State) : Bool := s.lostSc 0 && s.lostSc 1

/-- R364: the controller is frozen; requests wait in it. -/
def State.frozen (s : State) : Bool := s.isSet F.DRC_STATUS_FROZEN

/-- R354: the first address of the flow table. -/
def flowBase : Nat := 0x10000000

/-- R354: the first address of the spill area. -/
def State.spillBase (s : State) : Nat := flowBase + 2 ^ s.flowLog2 * 64

/-- R354: the first address after the spill area. -/
def State.spillEnd (s : State) : Nat := s.spillBase + s.spillMib * 2 ^ 20

/-- The device keeps data at a DRAM address in a form that the manual does not lay out: trie nodes, the spill index, copies of the trie first levels, the Deep image, second copies of
these (R354, R355), spilled cells. DESIGN CHOICE (log 88). -/
def State.deviceKept (s : State) (a : Nat) : Bool :=
  let b := a % 0x08000000
  (decide (a < flowBase) && (decide (b < 0x07080000) || (decide (0x07100000 ≤ b) && decide (b < 0x07EC0000)))) || (decide (s.spillBase ≤ a) && decide (a < s.spillEnd))

/-- The word read at a DRAM address. DESIGN CHOICE (log 88). -/
def State.dramWord (s : State) (a : Nat) : Word × State :=
  let w : Word := BitVec.ofNat 32 (leNat (s.dramRead a 4))
  if s.deviceKept a ∧ w = 0#32 then s.freeW else (w, s)

/-- R362: a read of a DRAM address that a loss has withdrawn: the flow table and the spill area after one loss, everything after two. -/
def State.withdrawn (s : State) (a : Nat) : Bool := s.dramGone || ((s.lostSc 0 || s.lostSc 1) && decide (flowBase ≤ a) && decide (a < s.spillEnd))

/-- R272: the sixteen words of flow entry i. DESIGN CHOICE (log 88). -/
def State.flowWords (s : State) (i : Nat) : List Word := leWords 16 (s.dramRead (flowBase + 64 * i) 64)

/-- Flow entry i written. DESIGN CHOICE (log 88). -/
def State.flowWrite (s : State) (i : Nat) (ws : List Word) : State := s.dramWrite (flowBase + 64 * i) (wordBytes ws)

/-- R356: the number of bank-group bits and of bank bits of the devices found (R352). -/
def State.bankBits (s : State) : Nat × Nat :=
  let x16 := s.isSet F.DRC_CONFIG_WIDTH
  let g16 := s.isSet F.DRC_CONFIG_DENSITY
  (if x16 then 2 else 3, if g16 then 2 else 1)

/-- R356: the column of a DRAM address, COL[5:0], by the order in force. -/
def State.dramColumn (s : State) (a : Nat) : Nat :=
  let (g, b) := s.bankBits
  match s.dramOrder with
  | 0 => bits a 7 6
  | 1 => bits a (7 + g) 6
  | _ => bits a 6 2 + 4 * bits a (9 + g + b) 4

/-- A DRAM address as subchannel, bank (group × 4 + bank) and row, by the order in force (R356). -/
def State.dramPlace (s : State) (a : Nat) : Nat × Nat × Nat :=
  let (g, b) := s.bankBits
  let row := a / 2 ^ (13 + g + b) % 2 ^ 16
  let x (lo w : Nat) : Nat := bits a lo w
  match s.dramOrder with
  | 0 => (x 6 1, x (13 + b) g * 4 + x 13 b, row)
  | 1 => (x 6 1, (x 7 g ^^^ bits row 0 g) * 4 + (x (13 + g) b ^^^ bits row g b), row)
  | _ => (x 8 1, (x 9 g ^^^ bits row 0 g) * 4 + (x (9 + g) b ^^^ bits row g b), row)

end Sys2Proof.Machine
end

