-- ==== Sys2Proof/Machine/Engines.lean ====
section
/-! DEFINITION. Engines and roles (R45 to R77): input queues, tokens in flight, the counterproof ledger, fencing, and the take-over controller
with its shedding. -/

namespace Sys2Proof.Machine

/-! ### Records and states -/

/-- Engine e. -/
def State.engine (s : State) (e : Nat) : Engine := s.eng.engines.getD e .reset
/-- Engine e changed. -/
def State.engMod (s : State) (e : Nat) (f : Engine → Engine) : State := { s with eng := { s.eng with engines := modAt s.eng.engines e f } }
/-- Role code c (1 to 12). DESIGN CHOICE (log 40). -/
def State.role (s : State) (c : Nat) : Role := s.eng.roles.getD (c - 1) .reset
/-- Role code c changed. -/
def State.roleMod (s : State) (c : Nat) (f : Role → Role) : State :=
  if c = 0 then s else { s with eng := { s.eng with roles := modAt s.eng.roles (c - 1) f } }

/-- ENG_STATUS.STATE codes (R75). -/
def eTest : Nat := 0
/-- R75. -/
def eBlank : Nat := 1
/-- R75. -/
def eServing : Nat := 2
/-- R75. -/
def eLoading : Nat := 3
/-- R75. -/
def eFenced : Nat := 4
/-- R75. -/
def eHalted : Nat := 5

/-- The state of engine e. -/
def State.estate (s : State) (e : Nat) : Nat := s.get (F.ENG_STATUS_STATE e)
/-- The role code that engine e holds. -/
def State.erole (s : State) (e : Nat) : Nat := s.get (F.ENG_STATUS_ROLE e)
/-- The engine that holds role code c; 15 = none (R77). -/
def State.roleAt (s : State) (c : Nat) : Nat := s.get (F.ENG_ROLE_AT_ENGINE (c - 1))
/-- The blanks, lowest first. -/
def State.blanks (s : State) : List Nat := (List.range 14).filter (fun e => s.estate e == eBlank)

/-- A PKT role code (R52). -/
def isPkt (c : Nat) : Bool := 5 ≤ c && c ≤ 8

/-- A re-cut is running or paused (R76 PHASE). -/
def State.recutLive (s : State) : Bool := s.get F.ENG_RECUT_STATUS_PHASE == 1 || s.get F.ENG_RECUT_STATUS_PHASE == 2

/-- An engine of R37's preference: the lowest-numbered in the set, else the lowest-numbered. -/
def preferred (pref : Nat) (l : List Nat) : Option Nat :=
  match l.find? (fun e => bit pref e) with
  | some e => some e
  | none => l.head?

/-- R70: the working blank for a role code, by role_pref of the new Legend. -/
def State.workingBlank (s : State) (c : Nat) : Option Nat := preferred (legAt s.plt.legendNew (0x020 + 2 * (c - 1)) 2) s.blanks

/-- R70: the spare of a re-cut running or paused: from step 2 of a move until its old engine is clear every blank left is held back from the re-cut; before it, the blank
that is not the working blank of the move that comes. -/
def State.recutSpare (s : State) : Option Nat :=
  match s.eng.recut with
  | none => none
  | some r =>
    if !s.recutLive then none
    else if (2 ≤ r.step ∧ r.step ≤ 5) ∨ r.step = 7 then s.blanks.head?
    else match r.todo with
      | [] => none
      | c :: _ => s.blanks.find? (fun e => s.workingBlank c != some e)

/-- PLT_STATUS.BLANKS and ENG_STATUS.SPARE follow the engines (R43, R70, R75). -/
def State.engSync (s : State) : State :=
  let s := s.put F.PLT_STATUS_BLANKS s.blanks.length
  let sp := s.recutSpare
  (List.range 14).foldl (fun s e => s.put (F.ENG_STATUS_SPARE e) (b2n (sp == some e))) s

/-- Engine e takes a state, a role code and a body flag; its clock runs (R75). -/
def State.setEngine (s : State) (e st c body : Nat) : State :=
  let s := (s.put (F.ENG_STATUS_STATE e) st).put (F.ENG_STATUS_ROLE e) c
  ((s.put (F.ENG_STATUS_BODY e) body).put (F.ENG_STATUS_IDLE e) 0).engSync

/-! ### Input queues (R54 to R56) -/

/-- Places in an input queue (R54). DESIGN CHOICE (log 36). -/
def queueCap : Nat := 4096

/-- What becomes of a token offered to a role. -/
inductive Offered where
  /-- It takes an entry. -/
  | queued
  /-- It raises the repeat count of the waiting token of its timer. -/
  | folded
  /-- The queue is full and its producer stalls. -/
  | stalled
  /-- The queue of a stopped role is full and the token is lost (R67). -/
  | lost
deriving DecidableEq, Repr

/-- R56, R67. -/
def State.offered (s : State) (c : Nat) (t : Token) : Offered :=
  let q := (s.role c).queue
  if t.timer.isSome ∧ q.any (fun x => x.seq.isNone && x.timer == t.timer) then .folded
  else if q.length < queueCap then .queued
  else if (s.role c).stopped then .lost
  else .stalled

/-- The 16-bit indirection entry that a hash selects for a source (R258). -/
def State.indirect (s : State) (src h : Nat) : Nat :=
  let i := h % 512
  bits (s.rd (A.HASH_IND src (i / 2))).toNat (16 * (i % 2)) 16

/-- The PKT role code that a hash names for a source (R258). -/
def State.pktRole (s : State) (src h : Nat) : Nat := 5 + s.indirect src h % 4

/-- ENG_QUEUE_PEAK follows the occupancy (R77). -/
def State.peak (s : State) (c : Nat) : State := s.putMax (F.ENG_QUEUE_PEAK_PEAK (c - 1)) (min (s.role c).queue.length queueCap)

/-- R56: the youngest waiting token of a timer takes one more repeat. DESIGN CHOICE (log 36). -/
def foldTimer (t : Token) : List Token → List Token
  | [] => []
  | x :: l =>
    if x.seq.isNone && x.timer == t.timer && !l.any (fun y => y.seq.isNone && y.timer == t.timer) then { x with rep := min (x.rep + 1) 255 } :: l
    else x :: foldTimer t l

/-- A producer begins to stall on the full queue of role code c; the period of the engine clock in which it begins counts (R77). DESIGN CHOICE (log 36). -/
def State.stallOn (s : State) (c : Nat) : State :=
  if (s.role c).stall.isSome then s else (s.roleMod c (fun r => { r with stall := some 0 })).bump (A.ENG_QUEUE_STALL (c - 1))

/-- R77: `ps` picoseconds pass, in periods of `per`, in which a producer stalls on the full queue of each role that has one waiting. DESIGN CHOICE (log 36). -/
def State.stallTime (s : State) (ps per : Nat) : State :=
  ((List.range 12).map (· + 1)).foldl (fun (s : State) c =>
    match (s.role c).stall with
    | some x => (s.roleMod c (fun r => { r with stall := some ((x + ps) % per) })).count (A.ENG_QUEUE_STALL (c - 1)) ((x + ps) / per)
    | none => s) s

/-- R56: a token is offered to role code c. A token for a shed PKT role goes where the rewritten entry of its hash names (R67). A producer that stalls does so until an
entry is released (R77). DESIGN CHOICE (log 36). -/
def State.offer (s : State) (c : Nat) (t : Token) : State :=
  let c := if isPkt c ∧ s.isSet (F.ENG_ROLE_AT_SHED (c - 1)) then s.pktRole t.source t.hash else c
  match s.offered c t with
  | .queued => (s.roleMod c (fun r => { r with queue := r.queue ++ [t] })).peak c
  | .folded => s.roleMod c (fun r => { r with queue := foldTimer t r.queue })
  | .stalled => s.stallOn c
  | .lost => s.bump (A.ENG_QUEUE_STALL (c - 1))

/-! ### Tokens in flight (R45, R47, R57, R58) -/

/-- The tokens of role code c in flight, oldest first. -/
def State.inFlight (s : State) (c : Nat) : List Token := (s.role c).queue.filter (fun t => t.seq.isSome)

/-- R248: the release window of a PKT role is full: 1,024 completed packets wait for an earlier one. -/
def State.windowFull (s : State) (c : Nat) : Bool :=
  1024 ≤ (s.path.inRole.filter (fun p => p.role == c && (match p.stage with | .done _ => true | _ => false))).length

/-- A token that carries a packet on its first pass. -/
def State.firstPass (s : State) (t : Token) : Bool :=
  match t.pkt with
  | some k => s.path.inRole.any (fun p => p.id == k && p.pass == 0 && p.stage == .classify && !p.result)
  | none => false

/-- The next token that role code c may issue: one that runs again keeps its place (R65), a packet's first token waits while the release window is full (R248). -/
def State.nextToken (s : State) (c : Nat) : Option Token :=
  (s.role c).queue.find? (fun t => t.seq.isNone && (t.again || !(isPkt c && s.windowFull c && s.firstPass t)))

/-- The token `t` of a queue takes a sequence number and stands behind the tokens in flight, so that the queue keeps the order of issue (R47, R55). -/
def numberToken (t : Token) (n : Nat) (q : List Token) : List Token :=
  let waiting := (q.filter (fun x => x.seq.isNone)).erase t
  q.filter (fun x => x.seq.isSome) ++ { t with seq := some n, again := false } :: waiting

/-- R476: a copy of a token that the halted engine's role issues goes to the shadow queue, or is lost. -/
def State.shadowCopy (s : State) (c : Nat) (t : Token) : State :=
  if s.dbg.halted.isSome ∧ s.dbg.haltRole = c then
    if s.dbg.shadow.length < 1024 then { s with dbg := { s.dbg with shadow := s.dbg.shadow ++ [t] } }
    else { s with dbg := { s.dbg with shadowLost := min (s.dbg.shadowLost + 1) 1023 } }
  else s

/-- R45, R47: engine e issues the next token of its role, numbering it. -/
def State.issue (s : State) (e : Nat) : State :=
  let c := s.erole e
  if s.estate e ≠ eServing ∨ s.isSet (F.ENG_STATUS_IDLE e) ∨ 16 ≤ (s.inFlight c).length ∨ s.roleAt c ≠ e ∨ s.pwr.idle ∨ s.stopping 10 then s
  else match s.nextToken c with
    | none => s
    | some t =>
      let n := (s.role c).nextSeq
      let s := s.roleMod c (fun r => { r with queue := numberToken t n r.queue, nextSeq := (n + 1) % 2 ^ 32 })
      s.shadowCopy c { t with seq := some n }

/-- A scratchpad line of an engine. -/
def spLine (l : List (Nat × BitVec 512)) (i : Nat) : BitVec 512 := kvRead (fun _ => 0#512) l i

/-- A scratchpad image with one line written. -/
def spWrite (l : List (Nat × BitVec 512)) (i : Nat) (v : BitVec 512) : List (Nat × BitVec 512) := kvWrite (fun _ => 0#512) l i v

/-- The lines of a token's writes applied to an image (R57 step 3); lines beyond the scratchpads do not exist. -/
def spApply (l : List (Nat × BitVec 512)) (ws : List (Nat × BitVec 512)) : List (Nat × BitVec 512) :=
  ws.foldl (fun l w => if w.1 < 16384 then spWrite l w.1 w.2 else l) l

/-- R57 steps 2 and 3: the oldest token in flight of role code c retires on engine e and commits: its writes reach the ledger, its effects leave,
its input-queue entry is released. Without counterproof there is no ledger (R60). DESIGN CHOICE (log 40). -/
def State.commit (s : State) (e c : Nat) (ws : List (Nat × BitVec 512)) (fx : List (List Byte)) : State :=
  match s.inFlight c with
  | [] => s
  | t :: _ =>
    let s := s.engMod e (fun x => { x with sp := spApply x.sp ws })
    let s := s.roleMod c (fun r =>
      { r with queue := r.queue.filter (fun x => x.seq != t.seq), counter := r.counter + 1, stall := none,
               ledger := if s.counterproof then spApply r.ledger ws else r.ledger })
    { s with out := (fx.map (fun b => Out.effect c b)).reverse ++ s.out }

/-- The restart point (R55, R61, R65): the tokens in flight of role code c are uncommitted and will be issued again in their order, under their numbers. -/
def State.uncommit (s : State) (c : Nat) : State :=
  match s.inFlight c with
  | [] => s
  | t :: _ => s.roleMod c (fun r =>
      { r with queue := r.queue.map (fun x => { x with seq := none, again := x.again || x.seq.isSome }), nextSeq := t.seq.getD r.nextSeq })

/-! ### Shedding and stopping (R67, R443) -/

/-- PKT roles that are serving or wait for a take-over. -/
def State.remaining (s : State) (besides : Nat) : List Nat :=
  [5, 6, 7, 8].filter (fun c => c != besides && !s.isSet (F.ENG_ROLE_AT_SHED (c - 1)) && !(s.role c).stopped)

/-- Role code c serves on its engine. -/
def State.servingRole (s : State) (c : Nat) : Bool :=
  s.roleAt c < 14 && s.estate (s.roleAt c) == eServing && !s.isSet (F.ENG_ROLE_AT_MOVING (c - 1))

/-- Role code c runs: an engine serves it, at present or until the cut of its move (R64, R72). -/
def State.roleRuns (s : State) (c : Nat) : Bool := s.roleAt c < 14 && s.estate (s.roleAt c) == eServing

/-- A 16-bit half of an indirection word given a role; every other bit stays. -/
def State.putEntryRole (s : State) (src i r : Nat) : State :=
  let off := A.HASH_IND src (i / 2)
  s.wr off (setField (s.rd off) (16 * (i % 2)) 2 r)

/-- Every indirection entry of every source, in ascending source and entry order, as source × 512 + entry. -/
def allEntries : List Nat := (List.range 68).flatMap (fun s => (List.range 512).map (fun i => s * 512 + i))

/-- R67: the entries that name role code c are given to the remaining roles in turn. Answers the entries rewritten. -/
def State.rewriteEntries (s : State) (c : Nat) (takers : List Nat) : List Nat × State :=
  allEntries.foldl (fun (acc : List Nat × State) k =>
    if acc.2.indirect (k / 512) (k % 512) % 4 + 5 = c then
      (acc.1 ++ [k], acc.2.putEntryRole (k / 512) (k % 512) (takers.getD (acc.1.length % takers.length) 5 - 5))
    else acc) ([], s)

/-- R67: PKT role c is shed: entries rewritten, tokens re-steered in queue order by their own hashes, its counter added to the lowest-numbered
remaining role. -/
def State.shed (s : State) (c : Nat) (takers : List Nat) : State :=
  let s := s.uncommit c
  let q := (s.role c).queue
  let n := (s.role c).counter
  let r := s.rewriteEntries c takers
  let s := r.2.roleMod c (fun x => { x with queue := [], shedEntries := r.1, counter := 0 })
  let s : State := { s with path := { s.path with inRole := s.path.inRole.map (fun p =>
    if p.role = c then { p with role := s.pktRole p.source p.hash } else p) } }
  let s := q.foldl (fun (s : State) t =>
    let d := s.pktRole t.source t.hash
    (s.roleMod d (fun x => { x with queue := x.queue ++ [t] })).peak d) s
  let s := match takers with
    | [] => s
    | d :: _ => s.roleMod d (fun x => { x with counter := x.counter + n })
  ((s.put (F.ENG_ROLE_AT_ENGINE (c - 1)) 15).put (F.ENG_ROLE_AT_SHED (c - 1)) 1).put (F.ENG_ROLE_AT_MOVING (c - 1)) 0

/-- R67: a role stops: it has no engine, and its queued tokens stay. -/
def State.stopRole (s : State) (c : Nat) : State :=
  let s := (s.uncommit c).roleMod c (fun r => { r with stopped := true })
  (s.put (F.ENG_ROLE_AT_ENGINE (c - 1)) 15).put (F.ENG_ROLE_AT_MOVING (c - 1)) 0

/-! ### The take-over controller (R62 to R67) -/

/-- The packed location of a unit of engine e (R2, R62). -/
def State.engLoc (s : State) (e unit : Nat) : Word := s.loc .eng e unit

/-- The body flag of role code c: 1 = the Plate in region S (R75); once every role runs that Plate, it is the active one. DEDUCED (log 120). -/
def State.bodyFlag (s : State) (c : Nat) : Nat := b2n ((s.plt.bodies.getD (c - 1) ⟨0, [], false⟩).fromS && s.plt.bodies.any (fun b => !b.fromS))

/-- R477: the halted engine is released to a take-over. -/
def State.takeHalted (s : State) : State :=
  { s with dbg := { s.dbg with halted := none, running := false, shadow := [], haltTaken := true } }

/-- The engine that held a role lets it go (R75). -/
def State.letGo (s : State) (e : Nat) : State := if e < 14 ∧ s.estate e ≠ eServing then s.put (F.ENG_STATUS_ROLE e) 0 else s

/-- The record of a fault on engine e is done (R444). -/
def State.engDone (s : State) (e : Nat) : State := s.faultDone (s.engine e).loc

/-- R63, R66, R67, R477: the controller begins a move of role `t.role` and chooses its engine, or deals with the lack of one. -/
def State.beginMove (s : State) (t : TakeOver) : State :=
  let c := t.role
  let go (s : State) (e : Nat) (deg : Bool) : State :=
    let s : State := s.setEngine e eLoading c (s.bodyFlag c)
    { s with eng := { s.eng with running := some (t, e), degraded := deg } }
  let target : Option Nat :=
    match s.recutSpare with
    | some e => some e
    | none => preferred (s.rolePref c) s.blanks
  match t.kind, target, s.dbg.halted with
  | .into, _, _ => { s with eng := { s.eng with running := some (t, (s.eng.recut.map (fun r => r.blank)).getD 0), degraded := false } }
  | _, some e, _ => go s e false
  | .restore, none, _ => s.put (F.ENG_ROLE_AT_MOVING (c - 1)) 0
  | .takeover, none, some h => go s.takeHalted h false
  | .takeover, none, none =>
    let rem := s.remaining c
    let victims := rem.filter (fun v => s.servingRole v)
    if isPkt c ∧ rem ≠ [] then
      let s := (s.shed c rem).letGo t.old
      (s.faultUpdate (s.engine t.old).loc 1 0).engDone t.old
    else if !isPkt c ∧ 2 ≤ rem.length then
      match victims.getLast? with
      | some v =>
        let e := s.roleAt v
        go (s.shed v (rem.filter (· != v))) e true
      | none => ((s.stopRole c).letGo t.old |>.faultUpdate (s.engine t.old).loc 2 0).engDone t.old
    else ((s.stopRole c).letGo t.old |>.faultUpdate (s.engine t.old).loc 2 0).engDone t.old

/-- R66: while no move runs, the waiting ones begin in their order. -/
def State.nextMoveTk (s : State) : Nat → State
  | 0 => s
  | k + 1 =>
    match s.eng.running, s.eng.waiting with
    | none, t :: l => (({ s with eng := { s.eng with waiting := l } }).beginMove t).nextMoveTk k
    | _, _ => s

/-- A move joins the controller's queue and begins when it may. -/
def State.requestMove (s : State) (t : TakeOver) : State :=
  let s := if t.kind = .restore then s else s.pwrTakeover
  let s := s.put (F.ENG_ROLE_AT_MOVING (t.role - 1)) 1
  let s := { s with eng := { s.eng with waiting := s.eng.waiting ++ [t] } }
  s.nextMoveTk s.eng.waiting.length

/-- R443, R67: a blank that has become free takes a shed PKT role, or the stopped last one, lowest code first. -/
def State.blankFree (s : State) : State :=
  let queued (c : Nat) : Bool := s.eng.waiting.any (fun t => t.role == c) || (s.eng.running.map (fun t => t.1.role)) == some c
  match [5, 6, 7, 8].find? (fun c => (s.isSet (F.ENG_ROLE_AT_SHED (c - 1)) || (s.role c).stopped) && !queued c) with
  | some c => if s.blanks = [] then s else s.requestMove ⟨c, .restore, 15, 0, s.tim.now⟩
  | none => s

/-! ### The re-cut's moves (R70 to R73) -/

/-- The present move of a re-cut is cancelled: its working blank is a blank again unless it was fenced. DEDUCED (log 38). -/
def State.cancelMove (s : State) : State :=
  match s.eng.recut with
  | none => s
  | some r =>
    let c := r.todo.headD 0
    let s := if c = 0 then s else s.put (F.ENG_ROLE_AT_MOVING (c - 1)) 0
    let s := if 2 ≤ r.step ∧ r.step ≤ 4 then
        (if s.estate r.blank = eLoading then s.setEngine r.blank eBlank 0 0 else s.put (F.ENG_STATUS_ROLE r.blank) 0) else s
    ({ s with eng := { s.eng with recut := some { r with step := 0, incoming := none } } }).engSync

/-- The re-cut pauses with a cause (R73, R76); one whose abandonment waits for a cut that a fault has taken away is abandoned instead. DEDUCED (log 38). -/
def State.pauseRecut (s : State) (cause : Nat) : State :=
  if s.recutLive then
    if (s.eng.recut.map (fun r => r.abandonAsked)) = some true then (s.put F.ENG_RECUT_STATUS_PHASE 4).engSync else
    let s := (s.put F.ENG_RECUT_STATUS_PHASE 2).put F.ENG_RECUT_STATUS_PAUSE_CAUSE cause
    { s with eng := { s.eng with recut := s.eng.recut.map (fun r => { r with pauseAsked := false }) } }
  else s

/-! ### Fencing (R61, R62, R73, R477) -/

/-- Engine e is fenced with a cause at a unit: state, location and record. OUTCOME starts at masked for causes 1 to 5 (R61, R445), unless a role loses its state with the
engine, no ledger being kept (R60). -/
def State.fenceEngine (s : State) (e cause unit : Nat) : State :=
  let loc := s.engLoc e unit
  let c := if s.estate e = eServing then s.erole e else 0
  let s := s.wr A.ENG_LAST_TAKEOVER_LOC loc
  let s := (s.put (F.ENG_STATUS_FENCE_CAUSE e) cause).setEngine e eFenced c (s.get (F.ENG_STATUS_BODY e))
  let s := s.engMod e (fun x => { x with loc := loc, testAsked := true, testFailed := none })
  s.faultRecord .engine (if cause ≤ 5 ∧ (s.counterproof ∨ c = 0) then 0 else 1) cause loc 0

/-- R66: the take-over target of a role faults before cut-over, while its move waits or runs: the move goes on from step 3 with another blank. -/
def State.targetLost (s : State) (e : Nat) : State :=
  let s : State := match s.eng.running with
    | some (t, d) => if d = e then { s with eng := { s.eng with running := none, waiting := t :: s.eng.waiting } } else s
    | none => s
  let wb := s.eng.recut.map (fun x => (x.step, x.blank)) = some (7, e)
  let s : State := if wb then
      { s with eng := { s.eng with waiting := s.eng.waiting.map (fun t => { t with kind := if t.kind = .into then .takeover else t.kind }),
                                   recut := s.eng.recut.map (fun x => { x with step := 0, incoming := none }) } }
    else s
  s.nextMoveTk s.eng.waiting.length

/-- R61 to R67, R73, R477: a fault on engine e, by what the engine was doing. DEDUCED (log 38). -/
def State.engineFault (s : State) (e cause unit : Nat) : State :=
  let st := s.estate e
  if st = eFenced then s
  else if st = eTest then s.engMod e (fun x => { x with testFailed := some (x.testFailed.getD unit) })
  else
    let c := s.erole e
    let r := s.eng.recut
    let step : Nat := if s.recutLive then (r.map (fun x => x.step)).getD 0 else 0
    let next := (r.bind (fun x => x.todo.head?)).bind s.workingBlank
    let isWb := (2 ≤ step ∧ step ≤ 4 ∧ r.map (fun x => x.blank) = some e) ∨ ((step = 1 ∨ step = 6) ∧ st = eBlank ∧ next = some e)
    let isOld := 2 ≤ step ∧ step ≤ 4 ∧ r.map (fun x => x.old) = some e
    let pre := s.fenceEngine e cause unit
    if st = eHalted then { pre with dbg := { pre.dbg with halted := none, running := false, shadow := [] } }
    else if st = eServing then
      let s := pre.uncommit c
      let t : TakeOver := ⟨c, .takeover, e, cause, s.tim.now⟩
      if isOld then
        let s : State := { s with eng := { s.eng with recut := r.map (fun x => { x with step := 7 }) } }
        (s.pauseRecut 2).requestMove { t with kind := .into }
      else
        let s := if s.recutLive then (if step ≤ 4 ∨ step = 6 then s.cancelMove else s).pauseRecut 2 else s
        s.requestMove t
    else if isWb ∧ s.eng.running.map (fun x => x.2) ≠ some e then (pre.cancelMove).pauseRecut 1
    else if s.eng.clearing = some e then
      let s : State := { pre with eng := { pre.eng with clearing := none, recut := r.map (fun x => if x.step = 5 then { x with step := 0 } else x) } }
      s.pauseRecut 2
    else pre.targetLost e

end Sys2Proof.Machine
end

