-- ==== Sys2Proof/Machine/Parse.lean ====
section
/-! DEFINITION. The parser (R249 to R253): headers recognised in a frame's first 256 bytes, the parse record, the failure codes; and the Toeplitz
hash with its input (R256, R257). -/

namespace Sys2Proof.Machine

/-- What the parser answers: a failure code of R250 (0 = none) and the record of what was found. -/
abbrev Parsed := Nat × PRec

/-- A header at [o, e) lies within the frame of `len` bytes and within the first 256; else the failure code (R249, R250). -/
def hdr (len e : Nat) : Nat := if len < e then 1 else if 256 < e then 2 else 0

/-- The record with a field added. -/
def PRec.add (r : PRec) (code : Nat) (bs : List Byte) : PRec := { r with fields := r.fields ++ [(code, bs)] }

/-- The record with a field added or replaced. -/
def PRec.set (r : PRec) (code : Nat) (bs : List Byte) : PRec := { r with fields := r.fields.filter (fun f => f.1 != code) ++ [(code, bs)] }

/-- Field `code` of a record: its bytes, or zeros (R253). -/
def PRec.field (r : PRec) (code n : Nat) : List Byte :=
  match r.fields.find? (fun f => f.1 == code) with
  | some f => f.2
  | none => List.replicate n 0#8

/-- The packet carries field `code`. -/
def PRec.has (r : PRec) (code : Nat) : Bool := r.fields.any (fun f => f.1 == code)

/-- The sum of the 16-bit words of a byte string, ones' complement folded. -/
def onesSum (bs : List Byte) : Nat :=
  let rec go : List Byte → Nat
    | a :: b :: t => a.toNat * 256 + b.toNat + go t
    | [a] => a.toNat * 256
    | [] => 0
  let x := go bs
  let y := x % 65536 + x / 65536
  let z := y % 65536 + y / 65536
  z % 65536 + z / 65536

/-- The IPv4-mapped form of an address (R253). -/
def mapped (a : List Byte) : List Byte := List.replicate 10 0#8 ++ [0xFF#8, 0xFF#8] ++ a

/-- IP_FLAGS of R253: fragment, non-first fragment, options or extensions, DF; PPPoE is added by the caller. -/
def ipFlags (frag later opts df : Bool) : Nat := b2n frag + 2 * b2n later + 4 * b2n opts + 16 * b2n df

/-- What follows an IP header: the protocol, its offset, the end of the IP payload, whether layer 4 is present. -/
structure IpEnd where
  proto : Nat
  off : Nat
  stop : Nat
  l4 : Bool
  v6 : Bool

/-- What a tunnel carries: the offset and the EtherType, 0x6558 for Ethernet. -/
structure Carried where
  off : Nat
  type : Nat

/-- The fields of an IP header, by `base` (0 outer, 0x20 inner). -/
def PRec.ip (r : PRec) (base : Nat) (src dst : List Byte) (proto tos ttl flags : Nat) : PRec :=
  (((((r.add (base + 6) src).add (base + 7) dst).add (base + 8) [BitVec.ofNat 8 proto]).add (base + 9) [BitVec.ofNat 8 tos]).add (base + 0xA)
    [BitVec.ofNat 8 ttl]).add (base + 0xB) [BitVec.ofNat 8 flags]

/-- L3 kind of a record, outer or inner. -/
def PRec.withL3 (r : PRec) (inner : Bool) (k off : Nat) : PRec := if inner then { r with l3i := k } else { r with l3 := k, l3Off := off }

/-- L4 kind of a record, outer or inner. -/
def PRec.withL4 (r : PRec) (inner : Bool) (k off : Nat) : PRec := if inner then { r with l4i := k } else { r with l4 := k, l4Off := off }

/-- IPv4 at offset o (R249): the failure code, the record and what follows. -/
def parseV4 (bs : List Byte) (inner : Bool) (pppoe : Bool) (o : Nat) (r : PRec) : Nat × PRec × Option IpEnd :=
  let len := bs.length
  let base := if inner then 0x20 else 0
  let e0 := hdr len (o + 20)
  if e0 ≠ 0 then (e0, r, none) else
  let ihl := beAt bs o 1 % 16
  let total := beAt bs (o + 2) 2
  if beAt bs o 1 / 16 ≠ 4 ∨ ihl < 5 then (4, r, none) else
  let e1 := hdr len (o + 4 * ihl)
  if e1 ≠ 0 then (e1, r, none)
  else if total < 4 * ihl ∨ len < o + total ∨ onesSum (slice bs o (4 * ihl)) ≠ 0xFFFF then (4, r, none)
  else
    let ff := beAt bs (o + 6) 2
    let frag := ff % 16384 ≠ 0
    let later := ff % 8192 ≠ 0
    let proto := beAt bs (o + 9) 1
    let fl := ipFlags frag later (5 < ihl) (bit ff 14) + 8 * b2n pppoe
    let r := (r.ip base (mapped (slice bs (o + 12) 4)) (mapped (slice bs (o + 16) 4)) proto (beAt bs (o + 1) 1) (beAt bs (o + 8) 1) fl).withL3 inner 1 o
    (0, r, some ⟨proto, o + 4 * ihl, o + total, !later, false⟩)

/-- IPv6 extension headers from `q` on: failure, next header, offset, headers passed, (fragment, later fragment) (R249). -/
def parseExts (bs : List Byte) (stop : Nat) : Nat → Nat → Nat → Nat → Bool → Bool → Nat × Nat × Nat × Nat × Bool × Bool
  | 0, next, q, n, fr, la => (0, next, q, n, fr, la)
  | k + 1, next, q, n, fr, la =>
    if la ∨ !(next = 0 ∨ next = 43 ∨ next = 44 ∨ next = 60) then (0, next, q, n, fr, la)
    else if 4 ≤ n then (5, next, q, n, fr, la)
    else
      let e0 := hdr bs.length (q + 8)
      if e0 ≠ 0 then (e0, next, q, n, fr, la) else
      let size := if next = 44 then 8 else (beAt bs (q + 1) 1 + 1) * 8
      if stop < q + size then (5, next, q, n, fr, la)
      else if 256 < q + size then (2, next, q, n, fr, la)
      else
        let ff := beAt bs (q + 2) 2
        let f := next = 44 ∧ (ff / 8 ≠ 0 ∨ bit ff 0)
        let l := next = 44 ∧ ff / 8 ≠ 0
        parseExts bs stop k (beAt bs q 1) (q + size) (n + 1) (fr || f) (la || l)

/-- IPv6 at offset o (R249); another version is not recognised and ends parsing (R251). DEDUCED (log 117). -/
def parseV6 (bs : List Byte) (inner : Bool) (pppoe : Bool) (o : Nat) (r : PRec) : Nat × PRec × Option IpEnd :=
  let len := bs.length
  let base := if inner then 0x20 else 0
  let e0 := hdr len (o + 40)
  if o < len ∧ beAt bs o 1 / 16 ≠ 6 then (0, r, none)
  else if e0 ≠ 0 then (e0, r, none)
  else
    let stop := min len (o + 40 + beAt bs (o + 4) 2)
    let (code, next, q, n, frag, later) := parseExts bs stop 6 (beAt bs (o + 6) 1) (o + 40) 0 false false
    let w0 := beAt bs o 4
    let fl := ipFlags frag later (n != 0) false + 8 * b2n pppoe
    let r := (r.ip base (slice bs (o + 8) 16) (slice bs (o + 24) 16) next (w0 / 2 ^ 20 % 256) (beAt bs (o + 7) 1) fl).withL3 inner 2 o
    let r := r.add (base + 0xC) (beBytes 4 (w0 % 2 ^ 20))
    if code ≠ 0 then (code, r, none) else (0, r, some ⟨next, q, stop, !later, true⟩)

/-- Layer 4 (R249): the failure code, the record, and what a tunnel carries. A tunnel found inside a tunnel is recognised and not entered. DEDUCED (log 117). -/
def parseL4 (bs : List Byte) (vxlan : Nat) (inner : Bool) (x : IpEnd) (r : PRec) : Nat × PRec × Option Carried :=
  let len := bs.length
  let base := if inner then 0x20 else 0
  let q := x.off
  let at2 (o : Nat) : List Byte := slice bs o 2
  let ports (r : PRec) : PRec := (r.add (base + 0xD) (at2 q)).add (base + 0xE) (at2 (q + 2))
  if !x.l4 then (0, r, none) else
  match x.proto with
  | 6 =>
    let e0 := hdr len (q + 20)
    if e0 ≠ 0 then (e0, r, none) else
    let d := beAt bs (q + 12) 1 / 16
    if d < 5 then (6, r, none) else
    let e1 := hdr len (q + 4 * d)
    if e1 ≠ 0 then (e1, r, none) else (0, ((ports r).add (base + 0xF) (slice bs (q + 13) 1)).withL4 inner 1 q, none)
  | 17 =>
    let e0 := hdr len (q + 8)
    if e0 ≠ 0 then (e0, r, none) else
    let n := beAt bs (q + 4) 2
    if n < 8 ∨ x.stop < q + n then (6, r, none) else
    let r := (ports r).withL4 inner 2 q
    if beAt bs (q + 2) 2 = vxlan ∧ !inner then
      let e1 := hdr len (q + 16)
      if e1 ≠ 0 then (e1, r, none)
      else if !bit (beAt bs (q + 8) 1) 3 then (7, r, none)
      else (0, { (r.add 0x11 (0#8 :: slice bs (q + 12) 3)) with tunnel := true }, some ⟨q + 16, 0x6558⟩)
    else (0, r, none)
  | 1 | 58 =>
    let e0 := hdr len (q + 8)
    if e0 ≠ 0 then (e0, r, none) else
    let v6 := x.proto = 58
    let ty := beAt bs q 1
    let echo := if v6 then ty = 128 ∨ ty = 129 else ty = 0 ∨ ty = 8
    let err := if v6 then 1 ≤ ty ∧ ty ≤ 4 else ty = 3 ∨ ty = 4 ∨ ty = 5 ∨ ty = 11 ∨ ty = 12
    let r := (r.add (base + 0xD) (at2 q)).add (base + 0xE) (if echo then at2 (q + 4) else beBytes 2 0)
    let r := r.withL4 inner (if v6 then 4 else 3) q
    (0, if err ∧ !inner then { r with err := some (q + 8) } else r, none)
  | 47 =>
    let e0 := hdr len (q + 4)
    if e0 ≠ 0 then (e0, r, none) else
    let f := beAt bs q 2
    if f % 8 ≠ 0 ∨ bit f 14 then (7, r, none) else
    let size := 4 + 4 * b2n (bit f 15) + 4 * b2n (bit f 13) + 4 * b2n (bit f 12)
    let e1 := hdr len (q + size)
    if e1 ≠ 0 then (e1, r, none) else
    let r := r.withL4 inner 5 q
    if inner then (0, r, none) else
    let r := if bit f 13 then r.add 0x11 (slice bs (q + 4 + 4 * b2n (bit f 15)) 4) else r
    let ty := beAt bs (q + 2) 2
    (0, { r with tunnel := true, inner := q + size, innerType := ty }, if ty = 0x800 ∨ ty = 0x86DD ∨ ty = 0x6558 then some ⟨q + size, ty⟩ else none)
  | 50 =>
    let e0 := hdr len (q + 4)
    if e0 ≠ 0 then (e0, r, none)
    else (0, (if inner then r else r.add 0x10 (slice bs q 4)).withL4 inner 6 q, none)
  | _ => (0, r, none)

/-- VLAN tags from the type field at `p` on: the failure, the type found, its offset, and the record (R249). `max` tags are recognised. DEDUCED (log 117). -/
def parseTags (bs : List Byte) (alt : Nat) (inner : Bool) (max : Nat) : Nat → Nat → Nat → PRec → Nat × Nat × Nat × PRec
  | 0, p, _, r => (0, beAt bs p 2, p, r)
  | k + 1, p, n, r =>
    let ty := beAt bs p 2
    if !(ty = 0x8100 ∨ ty = 0x88A8 ∨ (alt ≠ 0 ∧ ty = alt)) then (0, ty, p, r)
    else if max ≤ n then (if inner then 0 else 3, ty, p, r)
    else
      let e0 := hdr bs.length (p + 6)
      if e0 ≠ 0 then (e0, ty, p, r)
      else parseTags bs alt inner max k (p + 4) (n + 1) (r.add ((if inner then 0x20 else 0) + 4 + n) (slice bs (p + 2) 2))

/-- Ethernet at `o`: the failure, the record, and the layer-3 header found as (offset, EtherType, PPPoE) (R249). -/
def parseEth (bs : List Byte) (alt : Nat) (inner : Bool) (o : Nat) (r : PRec) : Nat × PRec × Option (Nat × Nat × Bool) :=
  let base := if inner then 0x20 else 0
  let e0 := hdr bs.length (o + 14)
  if e0 ≠ 0 then (e0, r, none) else
  let r := (r.add (base + 1) (slice bs o 6)).add (base + 2) (slice bs (o + 6) 6)
  let (code, ty, p, r) := parseTags bs alt inner (if inner then 1 else 2) 3 (o + 12) 0 r
  if code ≠ 0 then (code, r, none)
  else if ty < 0x600 then (0, r, none)
  else
    let r := r.add (base + 3) (beBytes 2 ty)
    if ty = 0x8864 ∧ !inner then
      let e1 := hdr bs.length (p + 10)
      if e1 ≠ 0 then (e1, r, none)
      else if beAt bs (p + 2) 1 ≠ 0x11 ∨ beAt bs (p + 3) 1 ≠ 0 then (0, r, none)
      else
        let r := r.add 0x16 (slice bs (p + 4) 2)
        let ppp := beAt bs (p + 8) 2
        (0, r, if ppp = 0x21 then some (p + 10, 0x800, true) else if ppp = 0x57 then some (p + 10, 0x86DD, true) else none)
    else (0, r, if ty = 0x800 ∨ ty = 0x86DD then some (p + 2, ty, false) else none)

/-- Layers 3 and 4 at the place found. -/
def parseIp (bs : List Byte) (vxlan : Nat) (inner : Bool) (l : Nat × Nat × Bool) (r : PRec) : Nat × PRec × Option Carried :=
  let (code, r, x) := if l.2.1 = 0x800 then parseV4 bs inner l.2.2 l.1 r else parseV6 bs inner l.2.2 l.1 r
  match x with
  | some x => if code ≠ 0 then (code, r, none) else parseL4 bs vxlan inner x r
  | none => (code, r, none)

/-- R249 to R253: the parse of a frame. `vxlan`, `alt`: PRS_CTRL. -/
def parse (vxlan alt : Nat) (bs : List Byte) : Parsed :=
  let (code, r, l) := parseEth bs alt false 0 PRec.empty
  match l with
  | none => (code, r)
  | some l =>
    if code ≠ 0 then (code, r) else
    let (code, r, c) := parseIp bs vxlan false l r
    match c with
    | none => (code, r)
    | some c =>
      if code ≠ 0 then (code, r) else
      let r := { r with tunnel := true, inner := c.off, innerType := c.type }
      let (code, r, l) := if c.type = 0x6558 then parseEth bs alt true c.off r else (0, r, some (c.off, c.type, false))
      match l with
      | none => (code, r)
      | some l =>
        if code ≠ 0 then (code, r) else
        let (code, r, _) := parseIp bs vxlan true l r
        (code, r)

/-! ### Hashing (R256, R257) -/

/-- Bit i of a byte string, most significant bit of byte 0 first. -/
def bitAt (bs : List Byte) (i : Nat) : Bool := bit (bs.getD (i / 8) 0#8).toNat (7 - i % 8)

/-- The Toeplitz hash of R257, bit by bit: the key window, the index of the next key bit, the hash. -/
def toeplitzStep (key : List Byte) (acc : Nat × Nat × Nat) (b : Bool) : Nat × Nat × Nat :=
  let (win, next, h) := acc
  (win * 2 % 2 ^ 32 + b2n (bitAt key next), next + 1, if b then h ^^^ win else h)

/-- R257. -/
def toeplitz (key input : List Byte) : Nat :=
  let bs := (List.range (8 * input.length)).map (bitAt input)
  (bs.foldl (toeplitzStep key) (beAt key 0 4, 32, 0)).2.2

/-- Byte strings in ascending order (R256 SYMMETRIC). -/
def ordered (sym : Bool) (a b : List Byte) : List Byte := if sym ∧ beNat b < beNat a then b ++ a else a ++ b

/-- The hash input of R256 for a FIELDS word. -/
def hashInput (fields : Nat) (r : PRec) : List Byte :=
  let inner := bit fields 7 && r.tunnel
  let base := if inner then 0x20 else 0
  let sym := bit fields 8
  let l3 := if inner then r.l3i else r.l3
  let l4 := if inner then r.l4i else r.l4
  let frag := bit (beNat (r.field (base + 0xB) 1)) 0
  let addr (c : Nat) : List Byte := if l3 = 1 then (r.field (base + c) 16).drop 12 else r.field (base + c) 16
  let opt (b : Bool) (x : List Byte) : List Byte := if b then x else []
  opt (bit fields 0 && l3 == 0 && r.has (base + 1)) (ordered sym (r.field (base + 1) 6) (r.field (base + 2) 6)) ++
  opt (bit fields 1 && r.has (base + 4)) (beBytes 2 (beNat (r.field (base + 4) 2) % 4096)) ++
  opt (bit fields 2 && l3 != 0) (ordered sym (addr 6) (addr 7)) ++
  opt (bit fields 3 && l3 != 0) (r.field (base + 8) 1) ++
  opt (bit fields 4 && (l4 == 1 || l4 == 2) && !frag) (ordered sym (r.field (base + 0xD) 2) (r.field (base + 0xE) 2)) ++
  opt (bit fields 5 && r.has 0x10) (r.field 0x10 4) ++
  opt (bit fields 6 && r.has 0x11) (r.field 0x11 4)

/-- The hash of a record under the context of source `src` (R256, R257). -/
def State.pktHash (s : State) (src : Nat) (r : PRec) : Nat :=
  let key := wordBytes ((List.range 13).map (fun w => s.rd (A.HASH_KEY src w)))
  toeplitz key (hashInput (getField (s.rd (A.HASH_FIELDS src)) 0 9) r)

/-- META of a packet (R253). -/
def metaOf (source pass : Nat) (r : PRec) : List Byte :=
  beBytes 2 (source % 128 + pass * 2 ^ 7 + r.l3 * 2 ^ 9 + r.l4 * 2 ^ 12 + b2n r.tunnel * 2 ^ 15)

end Sys2Proof.Machine
end

