-- ==== Sys2Proof/Machine/Packets.lean ====
section
/-! DEFINITION. The packet path (R246 to R271): packets in the PKT roles, default actions, classification and its verdicts, next hops, and the
rewriting of headers with incremental checksums. -/

namespace Sys2Proof.Machine

/-! ### Packets in the roles -/

/-- Packet `k` among those in the PKT roles. -/
def State.pktAt (s : State) (k : Nat) : Option Pkt := s.path.inRole.find? (fun p => p.id == k)

/-- Packet `k` changed. -/
def State.pktMod (s : State) (k : Nat) (f : Pkt → Pkt) : State :=
  { s with path := { s.path with inRole := s.path.inRole.map (fun p => if p.id = k then f p else p) } }

/-- Packet `k` goes on to a stage. -/
def State.toStage (s : State) (k : Nat) (g : PktStage) : State := s.pktMod k (fun p => { p with stage := g })

/-- Packet `k` is dropped. -/
def State.pktDrop (s : State) (k : Nat) : State := { s with path := { s.path with inRole := s.path.inRole.filter (fun p => p.id != k) } }

/-- Packet `k` is completed for the host, with a reason of R270. -/
def State.pktHost (s : State) (k q reason detail : Nat) : State :=
  s.pktMod k (fun p => { p with stage := .done (.host q), reason := reason, detail := detail })

/-- A copy of a packet goes to the host with reason MIRROR (R254, R265). -/
def State.mirror (s : State) (p : Pkt) (rule : Nat) : State :=
  { s with path := { s.path with toQueue := s.path.toQueue ++ [{ p with stage := .done (.host p.hostQ), reason := 4, rule := rule }] } }

/-- R440: a unit of a PKT cluster is permanently faulty. -/
def State.dead (s : State) (cluster unit : Nat) : Bool := s.flt.permanent.contains (2, cluster, unit)

/-- R440: a PKT cluster takes work; while it is being reset its inputs wait. -/
def State.intake (s : State) (cluster : Nat) : Bool := !s.ballsTaken && !s.flt.resetting.any (fun e => e.1 == 2 && e.2.1 == cluster)

/-! ### Next hops (R268) -/

/-- A next hop past 65,535 stands for the DROP of R274: a reply entry without a route back. -/
def noRouteBack : Nat := 65536

/-- Word `w` of next hop `h`. -/
def State.nhWord (s : State) (h w : Nat) : Word := if h < 65536 then s.rd (A.NH_W0 h + 4 * w) else 0#32

/-- The KIND of next hop `h`; a reserved code acts as one of the five, left free. -/
def State.nhKind (s : State) (h : Nat) : Nat :=
  let k := getField (s.nhWord h 0) 0 3
  if k ≤ 4 then k else Config.freeNat s.fresh % 5

/-- R268: the next hop that a GROUP chooses for a hash; any other next hop is itself. -/
def State.nhMember (s : State) (h hash : Nat) : Nat :=
  if s.nhKind h = 4 then
    let w := s.nhWord h 1
    let m := (getField w 0 16 + hash / 65536 % max 1 (getField w 16 7)) % 65536
    if s.nhKind m = 4 then noRouteBack else m
  else h

/-- R267: a station entry is VALID. -/
def State.staValid (s : State) (st : Nat) : Bool := s.isSet (F.STA_W0_VALID st)

/-- The way out of a next hop that is no GROUP; `none` = dropped, counted in RTE_NH_DROP. -/
def State.nhDest (s : State) (h : Nat) : Option Dest :=
  let w := s.nhWord h 0
  match s.nhKind h with
  | 1 => some (.eth (getField w 3 2))
  | 2 => if s.staValid (getField w 5 12) then some (.sta (getField w 5 12)) else none
  | 3 => some (.host (getField w 17 4))
  | _ => none

/-- Packet `k` leaves unchanged by next hop `h` (R254). -/
def State.forwardPlain (s : State) (k h : Nat) : State :=
  match s.pktAt k with
  | none => s
  | some p =>
    let m := s.nhMember h p.hash
    match s.nhDest m with
    | none => (s.bump A.RTE_NH_DROP).pktDrop k
    | some (.host q) => (s.pktMod k (fun p => { p with nexthop := m })).pktHost k q 8 0
    | some d => (s.pktMod k (fun p => { p with nexthop := m })).toStage k (.done d)

/-! ### Default actions (R254, R255) -/

/-- A default action of R254 on packet `k`, with the reason and detail it would carry to the host. -/
def State.defaultAction (s : State) (k act reason detail : Nat) : State :=
  match s.pktAt k with
  | none => s
  | some p =>
    match act with
    | 0 => s.pktHost k p.hostQ reason detail
    | 1 => s.pktDrop k
    | 2 => s.forwardPlain k (s.get (F.PRS_DEFAULT_TARGET p.source))
    | _ => (s.mirror p 0).forwardPlain k (s.get (F.PRS_DEFAULT_TARGET p.source))

/-- The NO_MATCH action of packet `k` (R254, R266). -/
def State.noMatch (s : State) (k reason : Nat) : State :=
  match s.pktAt k with
  | none => s
  | some p => (s.bump (A.PRS_SRC_NOMATCH p.source)).defaultAction k (s.get (F.PRS_DEFAULT_NO_MATCH p.source)) reason 0

/-! ### Parsing and hashing (R247 to R258) -/

/-- A packet parsed and hashed: the failure code and the packet with its record, hash, indirection entry, role and host queue. -/
def State.parsed (s : State) (p : Pkt) : Nat × Pkt :=
  let (code, r) := parse (s.get F.PRS_CTRL_VXLAN_PORT) (s.get F.PRS_CTRL_TPID_ALT) p.bytes
  let h := s.pktHash p.source r
  let e := s.indirect p.source h
  (code, { p with rcd := r, hash := h, entry := h % 512, role := 5 + e % 4, hostQ := e / 4 % 16, stage := .classify })

/-- A packet that failed its parse takes the PARSE_FAIL action (R250, R254). It is in its role, so that it leaves in order (R248). DEDUCED (log 84). -/
def State.parseFailed (s : State) (p : Pkt) (code : Nat) : State :=
  let s := (s.bump (A.PRS_FAIL (code - 1))).bump (A.PRS_SRC_FAIL p.source)
  s.defaultAction p.id (s.get (F.PRS_DEFAULT_PARSE_FAIL p.source)) 1 code

/-- The token of a packet (R247 step 3). -/
def Pkt.token (p : Pkt) : Token := ⟨none, p.source, p.hash, none, 0, [], some p.id, false⟩

/-- The role that a packet's token goes to (R67). -/
def State.pktTakes (s : State) (p : Pkt) : Nat := if s.isSet (F.ENG_ROLE_AT_SHED (p.role - 1)) then s.pktRole p.source p.hash else p.role

/-- The parser has a lane left (R440). -/
def State.parserUp (s : State) : Bool := !([0, 1, 2, 3].all (fun u => s.dead 0 u))

/-- A token of packet `k` is in the input queue of a PKT role: it waits there, or it is in flight and not yet committed (R55). DEDUCED (log 113). -/
def State.pktToken (s : State) (k : Nat) : Bool := [5, 6, 7, 8].any (fun c => (s.role c).queue.any (fun t => t.pkt == some k))

/-- What a packet's verdict needs of its role: no token of the packet is uncommitted, so that nothing it does leaves the engine before retirement (R48, R58). DEDUCED (log 113). -/
def State.afterToken (s : State) (k : Nat) (f : State → State) : State := if s.pktToken k then s else f s

/-- R46: the result that packet `k` waits for. The token that asked for it must have ended; the result then returns as a new token to the input queue of the packet's
role, stalling while that is full; and when this token has committed, what the role does with the result takes effect (R48, R58). `due` says which packets wait for such
a result. DEDUCED (log 113). -/
def State.onResult (s : State) (k : Nat) (due : PktStage → Bool) (f : State → State) : State :=
  match s.pktAt k with
  | none => s
  | some p =>
    if !due p.stage ∨ s.pktToken k then s
    else if p.result then f (s.pktMod k (fun p => { p with result := false }))
    else match s.offered p.role p.token with
      | .lost => (s.offer p.role p.token).pktDrop k
      | .stalled => s.offer p.role p.token
      | _ => (s.pktMod k (fun p => { p with result := true })).offer p.role p.token

/-- R247 steps 1 to 3 on a packet already numbered; `none` where its role's queue is full and the packet waits. -/
def State.admitPkt (s : State) (p : Pkt) : Option State :=
  let (code, p) := s.parsed p
  let p := { p with role := s.pktTakes p }
  let put (s : State) : State := { s with path := { s.path with inRole := s.path.inRole ++ [p] } }
  if code ≠ 0 then some ((put s).parseFailed p code)
  else match s.offered p.role p.token with
    | .stalled => none
    | .lost => some (s.offer p.role p.token)
    | _ => some ((put s).offer p.role p.token)

/-- PACKET_PARSE: the oldest waiting packet of source `src`. A stopping ETH0 hands no frame to the parser (R416). -/
def State.parseNext (s : State) (src : Nat) : State :=
  match s.path.ingress.find? (fun p => p.source == src) with
  | none => s
  | some p =>
    if !s.parserUp ∨ (src < 4 ∧ s.stopping 8) then s else
    let q := { p with id := s.path.nextId }
    let rest := s.path.ingress.eraseP (fun x => x.source == src)
    match ({ s with path := { s.path with ingress := rest, nextId := s.path.nextId + 1 } } : State).admitPkt q with
    | some t => t
    | none => s.bump (A.ENG_QUEUE_STALL (s.pktTakes (s.parsed q).2 - 1))

/-! ### Classification (R259 to R265) -/

/-- The bytes of each field code of R253; 0 for a code that names no field. -/
def fieldLen (code : Nat) : Nat :=
  let base (c : Nat) : Nat := [0, 6, 6, 2, 2, 2, 16, 16, 1, 1, 1, 1, 4, 2, 2, 1].getD c 0
  if code < 0x10 then base code
  else if code < 0x20 then [4, 4, 2, 2, 2, 2, 2].getD (code - 0x10) 0
  else if code < 0x30 then base (code - 0x20) else 0

/-- Field `code` of a packet, for a lookup in the ingress or the egress partition (R253). -/
def Pkt.field (p : Pkt) (egress : Bool) (code : Nat) : List Byte :=
  if code = 0x12 then beBytes 2 p.bytes.length
  else if code = 0x13 then metaOf p.source p.pass p.rcd
  else if code = 0x14 then beBytes 2 (if egress then p.nexthop else 0)
  else if code = 0x15 then beBytes 2 p.station
  else if 0x20 ≤ code ∧ !p.rcd.tunnel then List.replicate (fieldLen code) 0#8
  else slice (p.rcd.field code (fieldLen code)) 0 (fieldLen code)

/-- The extracts of profile `k` of partition `q`, up to the first of length 0, as (code, start, length) (R260). -/
def State.extracts (s : State) (q k : Nat) : List (Nat × Nat × Nat) :=
  ((List.range 8).map (fun e => (s.get (F.CLS_PROFILE_FIELD q k e), s.get (F.CLS_PROFILE_START q k e), s.get (F.CLS_PROFILE_LENGTH q k e)))).takeWhile
    (fun x => x.2.2 != 0)

/-- The 24-byte key of a packet under a profile (R260). -/
def State.ruleKey (s : State) (q k : Nat) (egress : Bool) (p : Pkt) : List Byte :=
  slice ((s.extracts q k).flatMap (fun x => slice (p.field egress x.1) x.2.1 x.2.2)) 0 24

/-- The words of range comparator i as committed (R264). -/
def State.rangeAt (s : State) (i : Nat) : Word × Word := kvRead (fun _ => (0#32, 0#32)) s.path.ranges i

/-- Range comparator i reports in range (R264). -/
def State.inRange (s : State) (i : Nat) (egress : Bool) (p : Pkt) : Bool :=
  let (w0, w1) := s.rangeAt i
  let x := beNat (p.field egress (getField w1 0 8)) &&& getField w1 16 16
  getField w1 8 1 == 1 && decide (getField w0 0 16 ≤ x) && decide (x ≤ getField w0 16 16)

/-- R262: rule x matches a packet. -/
def State.ruleMatches (s : State) (q x : Nat) (egress : Bool) (p : Pkt) : Bool :=
  let key := s.ruleKey q (getField (s.rd (A.RULE_W15 x)) 1 2) egress p
  let words := (List.range 6).all fun w =>
    ((BitVec.ofNat 32 (leAt key (4 * w) 4) ^^^ s.rd (A.RULE_KEY x w)) &&& s.rd (A.RULE_KEY x (6 + w))) == 0#32
  let w12 := s.rd (A.RULE_W12 x)
  words && [0, 1, 2].all (fun k =>
    getField w12 (24 + k) 1 == 0 || (s.inRange (getField w12 (8 * k) 8) egress p == (getField w12 (27 + k) 1 == 1)))

/-- The first rule of partition q (R259). -/
def State.ruleBase (s : State) (q : Nat) : Nat := ((List.range q).map (fun i => 256 * s.clsPartition i)).sum

/-- The VALID rules of partition q, ascending, without the fenced banks of R440. -/
def State.rulesOf (s : State) (q : Nat) : List Nat :=
  let lo := s.ruleBase q
  let hi := lo + 256 * s.clsPartition q
  s.regs.filterMap fun e =>
    let x := (e.1 - 0x600000) / 64
    if 0x600000 ≤ e.1 ∧ e.1 < 0x700000 ∧ e.1 % 64 = 60 ∧ lo ≤ x ∧ x < hi ∧ getField e.2 0 1 = 1 ∧ !s.dead 1 (x / 256) then some x else none

/-- R440: both key builders, or both copies of the range comparators, have failed: every lookup returns no match. -/
def State.classifierLost (s : State) : Bool := (s.dead 1 0x40 && s.dead 1 0x42) || (s.dead 1 0x41 && s.dead 1 0x43)

/-- The winning rule of a lookup (R262). -/
def State.classify (s : State) (q : Nat) (egress : Bool) (p : Pkt) : Option Nat :=
  if s.classifierLost then none else
  ((s.rulesOf q).filter (fun x => s.ruleMatches q x egress p)).foldl (fun best x =>
    match best with
    | none => some x
    | some y => if getField (s.rd (A.RULE_W15 y)) 3 12 < getField (s.rd (A.RULE_W15 x)) 3 12 then some x else best) none

/-- The ingress partition of a source (R259). -/
def ingressPartition (src : Nat) : Nat := if src < 4 then 0 else if src < 52 then 1 else 3

/-! ### Header changes -/

/-- Bytes at offset `o` replaced. -/
def patch (bs : List Byte) (o : Nat) (new : List Byte) : List Byte := bs.take o ++ new ++ bs.drop (o + new.length)

/-- The 16-bit words of a byte string. -/
def words16 : List Byte → List Nat
  | a :: b :: t => (a.toNat * 256 + b.toNat) :: words16 t
  | [a] => [a.toNat * 256]
  | [] => []

/-- A sum folded into 16 bits with end-around carry. -/
def fold16 (x : Nat) : Nat :=
  let y := x % 65536 + x / 65536
  let z := y % 65536 + y / 65536
  z % 65536 + z / 65536

/-- A checksum updated for words that change from `old` to `new`, incrementally. -/
def checksumUpdate (c : Nat) (old new : List Byte) : Nat :=
  65535 - fold16 (65535 - c + ((words16 old).map (fun m => 65535 - m)).sum + (words16 new).sum)

/-- The checksum at offset `c` updated for a change of covered bytes. -/
def fixChecksum (bs : List Byte) (c : Nat) (old new : List Byte) : List Byte := patch bs c (beBytes 2 (checksumUpdate (beAt bs c 2) old new))

/-- Bytes at an even offset within the IPv4 header at `l3` replaced, with its checksum. -/
def patchV4 (bs : List Byte) (l3 o : Nat) (new : List Byte) : List Byte :=
  fixChecksum (patch bs (l3 + o) new) (l3 + 10) (slice bs (l3 + o) new.length) new

/-- R261: the packet's DSCP set. -/
def Pkt.withDscp (p : Pkt) (d : Nat) : Pkt :=
  let l3 := p.rcd.l3Off
  let tos := 4 * d + beNat (p.rcd.field 9 1) % 4
  let bs :=
    if p.rcd.l3 = 1 then patchV4 p.bytes l3 0 (slice p.bytes l3 1 ++ beBytes 1 tos)
    else if p.rcd.l3 = 2 then
      let w := beAt p.bytes l3 2
      patch p.bytes l3 (beBytes 2 (w / 4096 * 4096 + tos * 16 + w % 16))
    else p.bytes
  if p.rcd.l3 = 0 then p else { p with bytes := bs, rcd := p.rcd.set 9 (beBytes 1 tos) }

/-- A packet is an IP fragment. -/
def Pkt.fragment (p : Pkt) : Bool := bit (beNat (p.rcd.field 0xB 1)) 0

/-! ### Verdicts (R265) -/

/-- The egress lookup of packet `k` comes next, with its next hop resolved (R259, R268). -/
def State.toEgress (s : State) (k h : Nat) : State :=
  s.pktMod k (fun p => { p with nexthop := s.nhMember h p.hash, stage := .egress })

/-- The verdict of a rule applied to packet `k`, policing past. A reserved VERDICT acts as one of the six, left free. -/
def State.verdict (s : State) (k : Nat) (egress : Bool) (w13 w14 : Word) (rule : Nat) : State :=
  let raw := getField w13 0 4
  let (v, s) := if raw ≤ 5 then (raw, s) else let r := s.freeN; (r.1 % 6, r.2)
  let on (b : Nat) : Bool := getField w13 b 1 == 1
  match s.pktAt k with
  | none => s
  | some p =>
    if v = 1 then s.pktDrop k else
    let s := s.pktMod k (fun p => { p with rule := rule })
    let s := if on 9 then s.pktMod k (fun p => p.withDscp (getField w13 10 6)) else s
    let cls := if on 6 then some (getField w13 16 3) else none
    let s := s.pktMod k (fun p => if egress then { p with ecls := cls.or p.ecls } else { p with icls := cls.or p.icls })
    let s := match s.pktAt k with
      | some p => if on 4 then s.mirror p rule else s
      | none => s
    if v = 2 then s.pktHost k p.hostQ 3 0
    else if egress then s.toStage k .rewrite
    else match v with
      | 0 =>
        let pool := if on 8 then some (getField (s.rd (A.RULE_W15 rule)) 16 8) else none
        let s := s.pktMod k (fun p => { p with noFlow := on 7, nat := pool })
        s.toStage k (if on 7 ∧ !(p.fragment ∧ on 8) then .route else .flow)
      | 3 => s.toEgress k (getField w14 16 16)
      | _ => if p.pass = 2 then (s.bump A.RTE_PASS_LIMIT).pktHost k p.hostQ 11 0 else s.toStage k (.recirc (v == 4))

/-- PKT_CLASSIFY: the lookup of packet `k` has returned, ingress or egress. -/
def State.classified (s : State) (k : Nat) : State :=
  match s.pktAt k with
  | none => s
  | some p =>
    let egress := p.stage == .egress
    if p.stage = .classify ∨ egress then
      match s.classify (if egress then 2 else ingressPartition p.source) egress p with
      | none => if egress then s.toStage k .rewrite else s.noMatch k 2
      | some x =>
        let s := s.bump (A.RULE_HITS x)
        let w13 := s.rd (A.RULE_W13 x)
        let w14 := s.rd (A.RULE_W14 x)
        if getField w13 5 1 = 1 ∧ getField w13 0 4 ≠ 1 then s.toStage k (.meter egress w13 w14 x) else s.verdict k egress w13 w14 x
    else s

/-! ### Rewriting (R269, R272, R276) -/

/-- Where the layer-3 payload of an Ethernet frame starts, past tags and PPPoE, and the EtherType it leaves under. -/
def Pkt.l2End (p : Pkt) (alt : Nat) : Nat × List Byte :=
  let tag (o : Nat) : Bool := let t := beAt p.bytes o 2; t == 0x8100 || t == 0x88A8 || (alt != 0 && t == alt)
  let o := if tag 12 then (if tag 16 then 20 else 16) else 12
  if p.rcd.l3 = 1 then (p.rcd.l3Off, beBytes 2 0x800)
  else if p.rcd.l3 = 2 then (p.rcd.l3Off, beBytes 2 0x86DD)
  else (o + 2, slice p.bytes o 2)

/-- The IP length of a packet. -/
def Pkt.ipLen (p : Pkt) : Nat :=
  if p.rcd.l3 = 1 then beAt p.bytes (p.rcd.l3Off + 2) 2 else if p.rcd.l3 = 2 then beAt p.bytes (p.rcd.l3Off + 4) 2 + 40 else 0

/-- The TTL or hop limit decremented. -/
def Pkt.decTtl (p : Pkt) : Pkt :=
  let l3 := p.rcd.l3Off
  if p.rcd.l3 = 1 then { p with bytes := patchV4 p.bytes l3 8 (beBytes 1 (beAt p.bytes (l3 + 8) 1 - 1) ++ slice p.bytes (l3 + 9) 1) }
  else { p with bytes := patch p.bytes (l3 + 7) (beBytes 1 (beAt p.bytes (l3 + 7) 1 - 1)) }

/-- The checksum field of a layer-4 header, from its start; none where the protocol has none, or UDP over IPv4 sends none. -/
def l4Checksum (bs : List Byte) (l4 kind : Nat) : Option Nat :=
  if kind = 1 then some (l4 + 16)
  else if kind = 2 then (if beAt bs (l4 + 6) 2 = 0 then none else some (l4 + 6))
  else none

/-- An IPv4 address of the header at `l3` and a port replaced, the checksums with them (R272). `ao`: 12 source, 16 destination; `kind`: META's. DEDUCED (log 87). -/
def natRewrite (bs : List Byte) (l3 ao l4 kind : Nat) (addr port : List Byte) : List Byte :=
  let oldA := slice bs (l3 + ao) 4
  let bs := patchV4 bs l3 ao addr
  let po := if kind = 3 then l4 + 4 else if ao = 12 then l4 else l4 + 2
  let oldP := slice bs po 2
  if kind = 1 ∨ kind = 2 then
    let c := l4Checksum bs l4 kind
    let bs := patch bs po port
    match c with
    | some c => fixChecksum bs c (oldA ++ oldP) (addr ++ port)
    | none => bs
  else if kind = 3 then fixChecksum (patch bs po port) (l4 + 2) oldP port
  else bs

/-- R276: an ICMP error's outer destination and embedded source rewritten; the ICMP checksum and the embedded ones are recomputed. -/
def icmpRewrite (bs : List Byte) (l3 l4 emb : Nat) (addr port : List Byte) : List Byte :=
  let bs := patchV4 bs l3 16 addr
  let el4 := emb + 4 * (beAt bs emb 1 % 16)
  let proto := beAt bs (emb + 9) 1
  let kind := if proto = 6 ∧ el4 + 18 ≤ bs.length then 1 else if proto = 17 then 2 else if proto = 1 then 3 else 0
  let short := proto = 6 ∧ bs.length < el4 + 18
  let old := bs.drop (l4 + 4)
  let bs := natRewrite bs emb 12 el4 kind addr port
  let bs := if short then patch bs el4 port else bs
  fixChecksum bs (l4 + 2) (if old.length % 2 = 1 then old ++ [0#8] else old) (bs.drop (l4 + 4))

/-- The translation of a packet's connection applied (R272, R276). XADDR has byte 0 in bits [7:0]; only IPv4 carries a 32-bit address. DEDUCED (log 87). -/
def Pkt.translated (p : Pkt) : Pkt :=
  match p.xlate with
  | none => p
  | some (reply, xaddr, xport) =>
    let addr := leBytes 4 xaddr.toNat
    let port := beBytes 2 xport
    if p.rcd.l3 ≠ 1 then p
    else match p.rcd.err with
      | some emb => { p with bytes := icmpRewrite p.bytes p.rcd.l3Off p.rcd.l4Off emb addr port }
      | none => { p with bytes := natRewrite p.bytes p.rcd.l3Off (if reply then 16 else 12) p.rcd.l4Off p.rcd.l4 addr port }

/-- The headers with which a packet leaves by an ETH next hop (R269). -/
def State.ethHeaders (s : State) (p : Pkt) (h : Nat) : List Byte :=
  let w0 := s.nhWord h 0
  let w2 := s.nhWord h 2
  let port := getField w0 3 2
  let dmac := leBytes 4 (s.nhWord h 1).toNat ++ leBytes 2 (getField w2 0 16)
  let smac := leBytes 4 (s.rd (A.ETH_MAC_LO port)).toNat ++ leBytes 2 (s.get (F.ETH_MAC_HI_MAC port))
  let tag := if getField w2 31 1 = 1 then beBytes 2 0x8100 ++ beBytes 2 (getField w2 28 3 * 8192 + getField w2 16 12) else []
  let (o, ty) := p.l2End (s.get F.PRS_CTRL_TPID_ALT)
  dmac ++ smac ++ tag ++ ty ++ p.bytes.drop o

/-- The largest IP packet of a next hop (R268): 0 stands for the largest frame of the port, less its Ethernet header and FCS; a station takes the
largest MTU there is. -/
def State.nhMtu (s : State) (h : Nat) : Nat :=
  let m := getField (s.nhWord h 3) 0 14
  if m ≠ 0 then m else if s.nhKind h = 1 then s.get (F.ETH_MAXLEN_LEN (getField (s.nhWord h 0) 3 2)) - 18 else 9198

/-- PACKET_REWRITE: R269 on packet `k`. -/
def State.rewritten (s : State) (k : Nat) : State :=
  match s.pktAt k with
  | none => s
  | some p =>
    if p.stage ≠ .rewrite then s else
    let h := p.nexthop
    match s.nhDest h with
    | none => (s.bump A.RTE_NH_DROP).pktDrop k
    | some (.host q) => (s.pktMod k (fun p => p.translated)).pktHost k q 8 0
    | some d =>
      let ip := p.rcd.l3 ≠ 0
      let dec := ip ∧ getField (s.nhWord h 0) 21 1 = 1
      let toHost (s : State) (r : Nat) : State := (s.bump A.RTE_TTL_MTU).pktHost k p.hostQ r 0
      if dec ∧ beNat (p.rcd.field 0xA 1) ≤ 1 then toHost s 6
      else
        let p := if dec then p.decTtl else p
        let s := s.pktMod k (fun _ => p)
        if ip ∧ s.nhMtu h < p.ipLen then toHost s 7
        else
          let p := p.translated
          let p := match d with
            | .eth _ => { p with bytes := s.ethHeaders p h }
            | _ => p
          s.pktMod k (fun _ => { p with stage := .done d })

/-! ### Recirculation and release (R271, R248) -/

/-- R271: a packet without its outer headers. -/
def Pkt.decapped (p : Pkt) : List Byte :=
  if !p.rcd.tunnel then p.bytes
  else if p.rcd.innerType = 0x6558 then p.bytes.drop p.rcd.inner
  else p.bytes.take 12 ++ beBytes 2 p.rcd.innerType ++ p.bytes.drop p.rcd.inner

/-- RECIRCULATE: packet `k` goes back through the parser. -/
def State.recirculated (s : State) (k : Nat) : State :=
  match s.pktAt k with
  | none => s
  | some p =>
    match p.stage with
    | .recirc decap =>
      if !s.parserUp then s else
      let q := { p with bytes := if decap then p.decapped else p.bytes, pass := p.pass + 1 }
      match (s.pktDrop k).admitPkt q with
      | some t => t
      | none => s.bump (A.ENG_QUEUE_STALL (s.pktTakes (s.parsed q).2 - 1))
    | _ => s

/-- PKT_RELEASE: packet `k` leaves its role's release window once every earlier packet of its source and indirection entry has left (R248). DEDUCED (log 84). -/
def State.released (s : State) (k : Nat) : State :=
  match s.pktAt k with
  | none => s
  | some p =>
    match p.stage with
    | .done _ =>
      if s.path.inRole.any (fun q => decide (q.id < k) && q.source == p.source && q.entry == p.entry && q.role == p.role) then s
      else
        let s := s.pktDrop k
        { s with path := { s.path with toQueue := s.path.toQueue ++ [p] } }
    | _ => s

end Sys2Proof.Machine
end

