-- ==== Sys2Proof/Machine/Flows.lean ====
section
/-! DEFINITION. Routes and connections (R266 to R279): the longest-prefix lookup and the route commands, flow keys, the cache and the table, creation
with NAT, touches, the sweep and removal, and the host's flow commands. -/

namespace Sys2Proof.Machine

/-! ### Routes (R266, R267) -/

/-- The routes of one family as (prefix, length, next hop). -/
def State.routes (s : State) (v6 : Bool) : List (Nat × Nat × Nat) := if v6 then s.path.routes6 else s.path.routes4

/-- The address bits of a family. -/
def addrBits (v6 : Bool) : Nat := if v6 then 128 else 32

/-- A route covers an address. -/
def covers (v6 : Bool) (a : Nat) (r : Nat × Nat × Nat) : Bool := a / 2 ^ (addrBits v6 - r.2.1) == r.1 / 2 ^ (addrBits v6 - r.2.1)

/-- The longest of some routes. -/
def longest (l : List (Nat × Nat × Nat)) : Option (Nat × Nat × Nat) :=
  l.foldl (fun best r =>
    match best with
    | none => some r
    | some b => if b.2.1 < r.2.1 then some r else best) none

/-- R440: both route engines, or both next-hop tables, have failed. -/
def State.routerLost (s : State) : Bool := (s.dead 2 2 && s.dead 2 4) || (s.dead 2 3 && s.dead 2 5)

/-- R266: the next hop of the longest route that covers an address; without any DRAM routing fails (R362). -/
def State.routeOf (s : State) (v6 : Bool) (a : Nat) : Option Nat :=
  if s.routerLost ∨ s.dramGone then none else (longest ((s.routes v6).filter (covers v6 a))).map (fun r => r.2.2)

/-- An address of the record, IPv4 from bytes 12 to 15 (R253). -/
def addrOf (v6 : Bool) (a : List Byte) : Nat := if v6 then beNat a else beNat (a.drop 12)

/-- The trie nodes beneath the first level that a route set needs: one for each distinct leading part that a longer route passes through (R266). -/
def nodesUsed (v6 : Bool) (l : List (Nat × Nat × Nat)) : Nat :=
  let levels := if v6 then (List.range 14).map (fun i => 16 + 8 * i) else [16, 24]
  (levels.map fun d => ((l.filter (fun r => decide (d < r.2.1))).map (fun r => r.1 / 2 ^ (addrBits v6 - d))).eraseDups.length).sum

/-- R266: the nodes of a pool. -/
def State.nodePool (s : State) (v6 : Bool) : Nat := if v6 then s.routeCap true / 4 else s.routeCap false / 8

/-- A route set in force, with its counts shown (R282). -/
def State.setRoutes (s : State) (v6 : Bool) (l : List (Nat × Nat × Nat)) : State :=
  let free := s.nodePool v6 - nodesUsed v6 l
  if v6 then
    let s : State := { s with path := { s.path with routes6 := l } }
    (s.put F.RTE_V6_ROUTES_COUNT l.length).put F.RTE_V6_NODES_FREE_COUNT free
  else
    let s : State := { s with path := { s.path with routes4 := l } }
    (s.put F.RTE_V4_ROUTES_COUNT l.length).put F.RTE_V4_NODES_FREE_COUNT free

/-- R267, R282: a route added or replaced; the result code. DEDUCED (log 85). -/
def State.addRoute (s : State) (v6 : Bool) (pfx len nh : Nat) : Nat × State :=
  let l := s.routes v6
  if l.any (fun r => r.1 == pfx && r.2.1 == len) then (0, s.setRoutes v6 (l.map (fun r => if r.1 = pfx ∧ r.2.1 = len then (pfx, len, nh) else r)))
  else
    let l' := l ++ [(pfx, len, nh)]
    if s.routeCap v6 ≤ l.length then (2, s)
    else if s.nodePool v6 < nodesUsed v6 l' then (3, s)
    else (0, s.setRoutes v6 l')

/-- R267: a write of RTE_CMD. The command takes effect at once and reports at ROUTE_CMD_DONE. A look up asks for the longest route that covers the
prefix given. DEDUCED (log 85). -/
def State.rteCmdWrite (s : State) (v : Word) : State :=
  let op := getField v 0 2
  if s.isSet F.RTE_CMD_STATUS_BUSY then s.bump A.RTE_WRITE_REJECT
  else if op = 0 then s
  else
    let v6 := getField v 2 1 = 1
    let len := getField v 3 8
    let bs := wordBytes ((List.range 4).map (fun i => s.rd (A.RTE_PREFIX i)))
    let pfx := if v6 then beNat bs else beNat (bs.take 4)
    let bad := decide (addrBits v6 < len) || pfx % 2 ^ (addrBits v6 - len) != 0
    let (res, s) : (Nat × Nat × Nat) × State :=
      if bad then ((4, 0, 0), s)
      else match op with
        | 1 => let r := s.addRoute v6 pfx len (getField v 16 16); ((r.1, 0, 0), r.2)
        | 2 =>
          let l := s.routes v6
          if l.any (fun r => r.1 == pfx && r.2.1 == len) then ((0, 0, 0), s.setRoutes v6 (l.filter (fun r => !(r.1 == pfx && r.2.1 == len))))
          else ((1, 0, 0), s)
        | _ =>
          match longest ((s.routes v6).filter (fun r => decide (r.2.1 ≤ len) && covers v6 pfx r)) with
          | some r => ((0, r.2.1, r.2.2), s)
          | none => ((1, 0, 0), s)
    let s : State := { s with path := { s.path with cmd := some res } }
    s.put F.RTE_CMD_STATUS_BUSY 1

/-- R267: the route command running ends and reports. DEDUCED (log 85). -/
def State.rteDone (s : State) : State :=
  match s.path.cmd with
  | none => s
  | some (res, len, nh) =>
    let s : State := { s with path := { s.path with cmd := none } }
    s.wr A.RTE_CMD_STATUS (fieldWord 1 3 res ||| fieldWord 4 8 len ||| fieldWord 16 16 nh)

/-! ### Flow keys and entries (R272, R273) -/

/-- A flow key (R272). -/
def flowKey (src dst : List Byte) (sport dport proto l3 : Nat) : List Byte :=
  src ++ dst ++ beBytes 2 sport ++ beBytes 2 dport ++ beBytes 1 proto ++ beBytes 1 l3 ++ [0#8, 0#8]

/-- An ICMP or ICMPv6 echo request or reply by its protocol and L4_SRC. -/
def isEcho (proto l4src : Nat) : Bool :=
  (proto == 1 && (l4src / 256 == 0 || l4src / 256 == 8)) || (proto == 58 && (l4src / 256 == 128 || l4src / 256 == 129))

/-- The ports of a key: for an echo both positions hold the identifier (R272). -/
def keyPorts (proto sport dport : Nat) : Nat × Nat := if isEcho proto sport then (dport, dport) else (sport, dport)

/-- The protocol of a packet. -/
def Pkt.proto (p : Pkt) : Nat := beNat (p.rcd.field 8 1)

/-- The flow key of a packet. -/
def Pkt.key (p : Pkt) : List Byte :=
  let (a, b) := keyPorts p.proto (beNat (p.rcd.field 0xD 2)) (beNat (p.rcd.field 0xE 2))
  flowKey (p.rcd.field 6 16) (p.rcd.field 7 16) a b p.proto p.rcd.l3

/-- A key with source and destination exchanged. -/
def keySwap (k : List Byte) : List Byte := slice k 16 16 ++ slice k 0 16 ++ slice k 34 2 ++ slice k 32 2 ++ slice k 36 4

/-- R276: the key of the header embedded in an error message, exchanged; none where that header is not whole. -/
def Pkt.errKey (p : Pkt) : Option (List Byte) :=
  match p.rcd.err with
  | none => none
  | some o =>
    let bs := p.bytes
    let v6 := p.rcd.l3 = 2
    let (proto, q) :=
      if v6 then
        let (_, next, q, _, _, _) := parseExts bs bs.length 5 (beAt bs (o + 6) 1) (o + 40) 0 false false
        (next, q)
      else (beAt bs (o + 9) 1, o + 4 * (beAt bs o 1 % 16))
    if bs.length < q + 8 then none
    else
      let ported := proto = 6 ∨ proto = 17
      let icmp := proto = 1 ∨ proto = 58
      let sp := if ported ∨ icmp then beAt bs q 2 else 0
      let dp := if ported then beAt bs (q + 2) 2 else if isEcho proto sp then beAt bs (q + 4) 2 else 0
      let (a, b) := keyPorts proto sp dp
      let src := if v6 then slice bs (o + 8) 16 else mapped (slice bs (o + 12) 4)
      let dst := if v6 then slice bs (o + 24) 16 else mapped (slice bs (o + 16) 4)
      some (flowKey dst src b a proto p.rcd.l3)

/-- The key a packet is looked up by. -/
def Pkt.lookupKey (p : Pkt) : Option (List Byte) := if p.rcd.l3 = 0 then none else if p.rcd.err.isSome then p.errKey else some p.key

/-- H1 of R273. -/
def h1 (k : List Byte) : Nat := crc32c k
/-- H2 of R273. -/
def h2 (k : List Byte) : Nat := crc32 k

/-- The places of a key: its bucket b1 and then b2 (R273). -/
def State.places (s : State) (k : List Byte) : List Nat :=
  let nb := 2 ^ (s.flowLog2 - 2)
  let b1 := h1 k % nb
  let b2 := if h2 k % nb = b1 then (b1 + 1) % nb else h2 k % nb
  (List.range 4).map (fun i => 4 * b1 + i) ++ (List.range 4).map (fun i => 4 * b2 + i)

/-- Word `w` of flow entry i. -/
def State.flowWord (s : State) (i w : Nat) : Word := BitVec.ofNat 32 (leNat (s.dramRead (flowBase + 64 * i + 4 * w) 4))

/-- Flow entry i is in use. -/
def State.flowValid (s : State) (i : Nat) : Bool := getField (s.flowWord i 9) 10 1 == 1

/-- The key of an entry from its words. -/
def keyOfWords (ws : List Word) : List Byte :=
  let w (i : Nat) : Word := ws.getD i 0#32
  wordBytes (ws.take 8) ++ beBytes 2 (getField (w 8) 0 16) ++ beBytes 2 (getField (w 8) 16 16) ++ beBytes 1 (getField (w 9) 0 8) ++
    beBytes 1 (getField (w 9) 8 2) ++ [0#8, 0#8]

/-- The words 0 to 9 of an entry for a key, with the other bits of word 9. -/
def wordsOfKey (k : List Byte) (rest9 : Word) : List Word :=
  leWords 8 k ++ [fieldWord 0 16 (beAt k 32 2) ||| fieldWord 16 16 (beAt k 34 2), fieldWord 0 8 (beAt k 36 1) ||| fieldWord 8 2 (beAt k 37 1) ||| rest9]

/-- Flow seconds (R277). -/
def State.flowSeconds (s : State) : Nat := s.tim.now / nsPerS % 65536

/-- R278. -/
def State.cacheOnly (s : State) : Bool := s.isSet F.FLW_STATUS_CACHE_ONLY

/-- The entry of the table that holds a key. -/
def State.tableFind (s : State) (k : List Byte) : Option Nat := (s.places k).find? (fun i => s.flowValid i && keyOfWords (s.flowWords i) == k)

/-- The cache entries of the set of a key, most recently used first. -/
def State.cacheSet (s : State) (k : List Byte) : List CacheEnt := kvRead (fun _ => []) s.path.cache (h1 k % 65536)

/-- The set of a key replaced. -/
def State.cachePut (s : State) (k : List Byte) (l : List CacheEnt) : State :=
  { s with path := { s.path with cache := kvWrite (fun _ => []) s.path.cache (h1 k % 65536) l } }

/-- R440: the ways that are not fenced. -/
def State.cacheWays (s : State) : Nat := ([0, 1, 2, 3].filter (fun w => !s.dead 3 w)).length

/-- R278: a cache entry that has no place in the table. -/
def noIndex : Nat := 0x2000000

/-- A pending create that a key matches (R274). -/
def State.pendFor (s : State) (k : List Byte) : Option PendCreate := s.path.pend.find? (fun c => c.keyO == k || c.keyR == k)

/-- R440: creation, ageing and translation have a copy left. -/
def State.flowEngineUp (s : State) : Bool := !((s.dead 3 4 && s.dead 3 7) || (s.dead 3 5 && s.dead 3 8) || (s.dead 3 6 && s.dead 3 9))

/-! ### Using a connection (R273, R277, R288) -/

/-- A packet takes the connection of a cache entry: next hop, translation, class; it posts a touch. -/
def State.useEntry (s : State) (k : Nat) (key : List Byte) (c : CacheEnt) : State :=
  match s.pktAt k with
  | none => s
  | some p =>
    let w10 := s.flowWord c.index 10
    let cls := if c.index < noIndex ∧ getField w10 28 1 = 1 then some (getField w10 25 3) else none
    let s := s.pktMod k (fun p => { p with fcls := cls, xlate := if c.nat then some (c.dir, c.xaddr, c.xport) else none })
    let flags := if p.rcd.err.isNone ∧ p.proto = 6 then beNat (p.rcd.field 0xF 1) else 0
    let s : State := if s.cacheOnly then s else { s with path := { s.path with touches := s.path.touches ++ [⟨c.index, key, p.bytes.length, flags⟩] } }
    s.toEgress k c.nexthop

/-- The cache entry for a flow entry (R273). -/
def State.entryOf (s : State) (key : List Byte) (i : Nat) : CacheEnt :=
  let ws := s.flowWords i
  let w9 := ws.getD 9 0#32
  let nh := getField w9 16 16
  ⟨i, getField w9 12 1 == 1, getField w9 11 1 == 1, 0, h2 key, ws.getD 11 0#32, getField (ws.getD 12 0#32) 0 16,
    if s.path.noReply.contains i then noRouteBack + nh else nh⟩

/-- A DRAM hit fills the cache, replacing the least recently used entry of the set (R273). -/
def State.cacheFill (s : State) (key : List Byte) (c : CacheEnt) : State :=
  s.cachePut key ((c :: s.cacheSet key).take s.cacheWays)

/-- A lookup of a key for packet `k`; `none` on a miss. -/
def State.lookup (s : State) (k : Nat) (key : List Byte) : Option State :=
  let set := s.cacheSet key
  match set.find? (fun c => c.sig == h2 key) with
  | some c =>
    let c := { c with age := 0 }
    let s := (s.bump A.FLW_CACHE_HIT).cachePut key (c :: set.filter (fun x => x.sig != h2 key))
    some (s.useEntry k key c)
  | none =>
    if s.cacheOnly then none
    else match s.tableFind key with
      | none => none
      | some i => some ((((s.bump A.FLW_CACHE_MISS).cacheFill key (s.entryOf key i))).useEntry k key (s.entryOf key i))

/-- FLOW_LOOKUP for packet `k`. -/
def State.flowLooked (s : State) (k : Nat) : State :=
  match s.pktAt k with
  | none => s
  | some p =>
    if p.stage ≠ .flow then s
    else if p.fragment then (if p.nat.isSome then s.pktHost k p.hostQ 12 0 else s.toStage k .route)
    else match if s.dramGone then none else p.lookupKey with
      | none => s.toStage k .route
      | some key =>
        match s.pendFor key with
        | some c => s.toStage k (.await c.creator)
        | none => (s.lookup k key).getD ((s.bump A.FLW_CACHE_MISS).toStage k .route)

/-- The flow request of packet `k`, not yet answered, has to read the table in DRAM (R273). -/
def State.flowWants (s : State) (k : Nat) : Bool :=
  match s.pktAt k with
  | none => false
  | some p => p.stage == .flow && !p.result && !p.fragment && !s.cacheOnly && !s.dramGone &&
    (match p.lookupKey with
     | none => false
     | some key => (s.pendFor key).isNone && !(s.cacheSet key).any (fun c => c.sig == h2 key))

/-! ### Routing a packet (R266, R274) -/

/-- The route request of packet `k`, not yet answered, has to read trie nodes in DRAM: its first-level entry leads on (R266). -/
def State.routeWants (s : State) (k : Nat) : Bool :=
  match s.pktAt k with
  | none => false
  | some p =>
    let v6 : Bool := p.rcd.l3 == 2
    let a := addrOf v6 (p.rcd.field 7 16)
    p.stage == .route && !p.result && p.rcd.l3 != 0 &&
      (s.routes v6).any (fun r => decide (16 < r.2.1) && r.1 / 2 ^ (addrBits v6 - 16) == a / 2 ^ (addrBits v6 - 16))

/-- R274: the packet may start a connection. -/
def State.mayCreate (s : State) (p : Pkt) : Bool :=
  let fl := beNat (p.rcd.field 0xF 1)
  !p.noFlow && s.isSet F.FLW_CTRL_TRACK_EN && !p.fragment && p.rcd.l3 != 0 && s.flowEngineUp &&
    (p.rcd.l4 == 2 || (p.rcd.l4 == 1 && (!s.isSet F.FLW_CTRL_TCP_SYN_ONLY || (bit fl 1 && !bit fl 4))) ||
      ((p.rcd.l4 == 3 || p.rcd.l4 == 4) && isEcho p.proto (beNat (p.rcd.field 0xD 2))))

/-- ROUTE_LOOKUP for packet `k`. DEDUCED (log 87). -/
def State.routed (s : State) (k : Nat) : State :=
  match s.pktAt k with
  | none => s
  | some p =>
    if p.stage ≠ .route then s
    else
      let v6 := p.rcd.l3 = 2
      match if p.rcd.l3 = 0 then none else s.routeOf v6 (addrOf v6 (p.rcd.field 7 16)) with
      | none => (s.bump A.RTE_MISS).noMatch k 5
      | some nh => if s.mayCreate p then s.pktMod k (fun p => { p with nexthop := nh, stage := .create }) else s.toEgress k nh

/-! ### Creating connections (R274, R275) -/

/-- A key is in the table or the cache that stands for it, or pending. -/
def State.keyTaken (s : State) (k : List Byte) : Bool :=
  (s.pendFor k).isSome || (if s.cacheOnly then (s.cacheSet k).any (fun c => c.sig == h2 k) else (s.tableFind k).isSome)

/-- R275: what NAT asks of a packet: nothing, a translated address and port, or exhaustion. -/
inductive NatChoice where
  | plain
  | translate (addr : Nat) (port : Nat)
  | exhausted

/-- The reply key of a connection translated to an address and a port. -/
def natReplyKey (key : List Byte) (echo : Bool) (addr port : Nat) : List Byte :=
  flowKey (slice key 16 16) (mapped (beBytes 4 addr)) (if echo then port else beAt key 34 2) port (beAt key 36 1) (beAt key 37 1)

/-- R275. -/
def State.natChoice (s : State) (p : Pkt) : NatChoice :=
  match p.nat with
  | none => .plain
  | some pool =>
    if p.rcd.l3 ≠ 1 ∨ !s.isSet (F.FLW_NAT_W1_VALID pool) then .plain
    else
      let key := p.key
      let first := beNat (leBytes 4 (s.rd (A.FLW_NAT_W0 pool)).toNat)
      let addr := (first + h1 key % max 1 (s.get (F.FLW_NAT_W1_COUNT pool))) % 2 ^ 32
      let lo := s.get (F.FLW_NAT_W2_PORT_LOW pool)
      let hi := s.get (F.FLW_NAT_W2_PORT_HIGH pool)
      let orig := beAt key 32 2
      let tries := (if s.isSet (F.FLW_NAT_W1_PRESERVE pool) ∧ lo ≤ orig ∧ orig ≤ hi then [orig] else []) ++
        (List.range 16).map (fun k => lo + (h2 key + k) % (hi - lo + 1))
      match tries.find? (fun port => !s.keyTaken (natReplyKey key (p.rcd.l4 == 3) addr port)) with
      | some port => .translate addr port
      | none => .exhausted

/-- Places promised to pending creates. -/
def State.promised (s : State) (i : Nat) : Bool := s.path.pend.any (fun c => c.idxO == i || c.idxR == i)

/-- The first free place of a key (R274 step 2). -/
def State.freePlace (s : State) (k : List Byte) (besides : Nat) : Option Nat :=
  (s.places k).find? (fun i => i != besides && !s.flowValid i && !s.promised i)

/-- R274 step 5: no room. -/
def State.flowFull (s : State) (k : Nat) (p : Pkt) : State :=
  let s := s.bump A.FLW_FULL
  if p.nat.isSome then s.pktHost k p.hostQ 9 0 else s.toEgress k p.nexthop

/-- The words 10 to 15 of a new entry. -/
def freshTail (peer : Nat) (cls : Option Nat) (xaddr : Word) (xport now : Nat) : List Word :=
  [fieldWord 0 25 peer ||| fieldWord 25 3 (cls.getD 0) ||| fieldWord 28 1 (b2n cls.isSome), xaddr, fieldWord 0 16 xport ||| fieldWord 16 16 now, 0#32, 0#32, 0#32]

/-- R274: the creation for packet `k` begins. -/
def State.createBegin (s : State) (k : Nat) : State :=
  match s.pktAt k with
  | none => s
  | some p =>
    if p.stage ≠ .create then s
    else
      let key := p.key
      match s.pendFor key, s.lookup k key with
      | some c, _ => s.toStage k (.await c.creator)
      | none, some t => t
      | none, none =>
        if 1024 ≤ s.path.pend.length then s
        else match s.natChoice p with
          | .exhausted => (s.bump A.FLW_NAT_EXHAUSTED).pktHost k p.hostQ 10 0
          | choice =>
            let (nat, addr, port) := match choice with
              | .translate a q => (true, a, q)
              | _ => (false, 0, 0)
            let keyR := if nat then natReplyKey key (p.rcd.l4 == 3) addr port else keySwap key
            let room := if s.cacheOnly then (if (s.cacheSet key).length < s.cacheWays ∧ (s.cacheSet keyR).length < s.cacheWays then some (noIndex, noIndex) else none)
              else match s.freePlace key noIndex with
                | none => none
                | some i => (s.freePlace keyR i).map (fun j => (i, j))
            match room with
            | none => s.flowFull k p
            | some (i, j) =>
              let v6 := p.rcd.l3 = 2
              let back := s.routeOf v6 (addrOf v6 (p.rcd.field 6 16))
              let (fw, s) := if back.isSome then (0#32, s) else s.freeW
              let nhR := back.getD (fw.toNat % 65536)
              let w9 (dir nh : Nat) : Word := fieldWord 10 1 1 ||| fieldWord 11 1 dir ||| fieldWord 12 1 (b2n nat) ||| fieldWord 16 16 nh
              let now := s.flowSeconds
              let xaddrO : Word := BitVec.ofNat 32 (leNat (beBytes 4 addr))
              let xaddrR : Word := if nat then BitVec.ofNat 32 (leNat (slice key 12 4)) else 0#32
              let xportR := if nat then beAt key 32 2 else 0
              let wsO := wordsOfKey key (w9 0 p.nexthop) ++ freshTail j p.icls xaddrO port now
              let wsR := wordsOfKey keyR (w9 1 nhR) ++ freshTail i p.icls xaddrR xportR now
              let no := if back.isSome then s.path.noReply else j :: s.path.noReply
              let s : State := { s with path := { s.path with pend := s.path.pend ++ [⟨k, key, keyR, i, j, wsO, wsR⟩], noReply := no } }
              s.toStage k (.await k)

/-- Packets waiting for creation `c` use its connection (R274 step 4); the entries are those just written. -/
def State.createServe (s : State) (c : PendCreate) (eo er : CacheEnt) : State :=
  let waiting := s.path.inRole.filter (fun p => p.stage == .await c.creator)
  waiting.foldl (fun (s : State) p =>
    if p.lookupKey = some c.keyO then s.useEntry p.id c.keyO eo else s.useEntry p.id c.keyR er) s

/-- R274 step 3: both writes for packet `k`'s creation are done, and the connection is visible. -/
def State.createDone (s : State) (k : Nat) : State :=
  match s.path.pend.find? (fun c => c.creator == k) with
  | none => s
  | some c =>
    let s : State := { s with path := { s.path with pend := s.path.pend.filter (fun c => c.creator != k) } }
    let ent (s : State) (key : List Byte) (i : Nat) (ws : List Word) : CacheEnt :=
      let w9 := ws.getD 9 0#32
      let nh := getField w9 16 16
      ⟨i, getField w9 12 1 == 1, getField w9 11 1 == 1, 0, h2 key, ws.getD 11 0#32, getField (ws.getD 12 0#32) 0 16,
        if s.path.noReply.contains c.idxR ∧ getField w9 11 1 = 1 then noRouteBack + nh else nh⟩
    let eo := ent s c.keyO c.idxO c.wordsO
    let er := ent s c.keyR c.idxR c.wordsR
    if s.cacheOnly then
      let eo := { eo with index := noIndex }
      let er := { er with index := noIndex }
      let s := s.cachePut c.keyO (eo :: s.cacheSet c.keyO)
      let s := s.cachePut c.keyR (er :: s.cacheSet c.keyR)
      let s : State := { s with path := { s.path with noReply := s.path.noReply.filter (· != c.idxR) } }
      (s.bump A.FLW_CREATED).createServe c eo er
    else
      let s := (s.flowWrite c.idxO c.wordsO).flowWrite c.idxR c.wordsR
      let s := (s.count A.FLW_ENTRIES 2).bump A.FLW_CREATED
      s.createServe c eo er

/-! ### Touches (R277) -/

/-- A 64-bit saturating addition. -/
def satAdd (w a b : Nat) : Nat := min (a + b) (2 ^ w - 1)

/-- The TCP_STATE of an entry set. DESIGN CHOICE (log 41). -/
def State.setTcpState (s : State) (i st : Nat) : State :=
  s.dramWrite (flowBase + 64 * i + 36) (leBytes 4 (setField (s.flowWord i 9) 14 2 st).toNat)

/-- The oldest touch reaches its entry; a touch of an entry removed since is discarded. -/
def State.touchNext (s : State) : State :=
  match s.path.touches with
  | [] => s
  | t :: rest =>
    let s : State := { s with path := { s.path with touches := rest } }
    if s.cacheOnly ∨ !s.flowValid t.idx ∨ keyOfWords (s.flowWords t.idx) ≠ t.key then s
    else
      let ws := s.flowWords t.idx
      let w (i : Nat) : Word := ws.getD i 0#32
      let bytes := satAdd 64 ((w 14).toNat + (w 15).toNat * 2 ^ 32) t.len
      let s := s.dramWrite (flowBase + 64 * t.idx + 48)
        (wordBytes [setField (w 12) 16 16 s.flowSeconds, BitVec.ofNat 32 (satAdd 32 (w 13).toNat 1), BitVec.ofNat 32 bytes, BitVec.ofNat 32 (bytes / 2 ^ 32)])
      let st := getField (w 9) 14 2
      let st' := if bit t.flags 0 ∨ bit t.flags 2 then 2 else if st = 0 ∧ bit t.flags 4 ∧ getField (w 9) 11 1 = 1 then 1 else st
      if getField (w 9) 0 8 = 6 ∧ st' ≠ st then (s.setTcpState t.idx st').setTcpState (getField (w 10) 0 25) st' else s

/-! ### Removal and the sweep (R277, R278) -/

/-- A cache entry for flow entry i is invalidated. -/
def State.cacheDrop (s : State) (i : Nat) : State :=
  { s with path := { s.path with cache := (s.path.cache.map (fun e => (e.1, e.2.filter (fun c => c.index != i)))).filter (fun e => e.2 != []) } }

/-- Flow entry i is no longer in use. -/
def State.entryDrop (s : State) (i : Nat) : State :=
  if s.flowValid i then
    let s := (s.dramWrite (flowBase + 64 * i + 36) (leBytes 4 (setField (s.flowWord i 9) 10 1 0).toNat)).cacheDrop i
    let s : State := { s with path := { s.path with noReply := s.path.noReply.filter (· != i) } }
    s.wr A.FLW_ENTRIES (BitVec.ofNat 32 ((s.rd A.FLW_ENTRIES).toNat - 1))
  else s

/-- R277: the connection of entry i is removed, counted, and reported where NOTIFY asks. DEDUCED (log 86). -/
def State.removeFlow (s : State) (i : Nat) : State :=
  let ws := s.flowWords i
  let j := getField (ws.getD 10 0#32) 0 25
  let both := if s.flowValid j ∧ getField (s.flowWord j 10) 0 25 = i then wordBytes (ws ++ s.flowWords j) else wordBytes ws
  let s := if s.flowValid j ∧ getField (s.flowWord j 10) 0 25 = i then s.entryDrop j else s
  let s := (s.entryDrop i).bump A.FLW_AGED
  if s.isSet F.FLW_CTRL_NOTIFY then
    let p : Pkt := { Pkt.fresh both 127 with hostQ := s.get F.HDM_EVT_CTRL_AGED_Q, reason := 13, stage := .done (.host (s.get F.HDM_EVT_CTRL_AGED_Q)) }
    { s with path := { s.path with toQueue := s.path.toQueue ++ [p] } }
  else s

/-- The flow entries in use, ascending: bit 10 of word 9 is bit 2 of byte 37. -/
def State.flowsInUse (s : State) : List Nat :=
  s.mem.dram.filterMap fun c =>
    if flowBase ≤ c.1 ∧ c.1 < s.spillBase ∧ c.1 % 64 = 37 ∧ bit c.2.toNat 2 then some ((c.1 - flowBase) / 64) else none

/-- The timeout of an entry (R277). -/
def State.flowTimeout (s : State) (i : Nat) : Nat :=
  let w9 := s.flowWord i 9
  match getField w9 0 8 with
  | 6 => (match getField w9 14 2 with
    | 0 => s.get F.FLW_AGE_T0_TCP_OPEN
    | 1 => s.get F.FLW_AGE_T0_TCP_EST
    | _ => s.get F.FLW_AGE_T1_TCP_CLOSING)
  | 17 => s.get F.FLW_AGE_T1_UDP
  | _ => s.get F.FLW_AGE_T2_OTHER

/-- An entry has not been seen within its timeout. -/
def State.flowStale (s : State) (i : Nat) : Bool :=
  decide (s.flowTimeout i < (s.flowSeconds + 65536 - getField (s.flowWord i 12) 16 16) % 65536)

/-- An entry is STATIC. -/
def State.flowStatic (s : State) (i : Nat) : Bool := getField (s.flowWord i 9) 13 1 == 1

/-- The sweep's removals (R277); during a FLUSH it removes every connection, STATIC ones where asked (R279). -/
def State.sweepTable (s : State) (flush : Bool) : State :=
  s.flowsInUse.foldl (fun (s : State) i =>
    let j := getField (s.flowWord i 10) 0 25
    if !s.flowValid i then s
    else if flush then (if s.flowStatic i ∧ !s.path.flushStatic then s else s.removeFlow i)
    else if s.flowStatic i ∨ s.flowStatic j then s
    else if s.flowStale i ∧ (s.flowStale j ∨ !s.flowValid j) then s.removeFlow i else s) s

/-- R278: one AGE step of the cache; each entry that would pass 15 is removed and counted. -/
def State.sweepCache (s : State) (flush : Bool) : State :=
  let gone (c : CacheEnt) : Bool := flush || decide (15 ≤ c.age)
  let n := (s.path.cache.map (fun e => (e.2.filter gone).length)).sum
  let l := (s.path.cache.map (fun e => (e.1, (e.2.filter (fun c => !gone c)).map (fun c => { c with age := c.age + 1 })))).filter (fun e => e.2 != [])
  ({ s with path := { s.path with cache := l } } : State).count A.FLW_AGED n

/-- FLOW_SWEEP. -/
def State.swept (s : State) : State :=
  let flush := s.isSet F.FLW_STATUS_FLUSHING
  if !s.flowEngineUp then s
  else
    let s := if s.cacheOnly then s.sweepCache flush else s.sweepTable flush
    if flush then (s.put F.FLW_STATUS_FLUSHING 0).wr A.FLW_CMD_STATUS 0#32 else s

/-! ### The host's flow commands (R279) -/

/-- A flow command ends with a result and an index. -/
def State.flwResult (s : State) (r idx : Nat) : State := s.wr A.FLW_CMD_STATUS (fieldWord 1 3 r ||| fieldWord 4 25 idx)

/-- Sixteen words into FLW_DATA from word `k` on. -/
def State.flwData (s : State) (k : Nat) (ws : List Word) : State :=
  (indexed ws).foldl (fun (s : State) w => s.wr (A.FLW_DATA (k + w.1)) w.2) s

/-- INSERT (R279): the device fills PEER, VALID, LAST_SEEN and the counters. DEDUCED (log 86). -/
def State.flwInsert (s : State) : State :=
  let w (i : Nat) : Word := s.rd (A.FLW_DATA i)
  let o := (List.range 16).map w
  let r := (List.range 16).map (fun i => w (16 + i))
  let ko := keyOfWords o
  let kr := keyOfWords r
  if s.cacheOnly then s.flwResult 4 0
  else if s.keyTaken ko ∨ s.keyTaken kr then s.flwResult 2 0
  else match s.freePlace ko noIndex with
    | none => s.flwResult 3 0
    | some i =>
      match s.freePlace kr i with
      | none => s.flwResult 3 0
      | some j =>
        let fill (ws : List Word) (peer : Nat) : List Word :=
          let g (k : Nat) : Word := ws.getD k 0#32
          ws.take 9 ++ [setField (g 9) 10 1 1, setField (g 10 &&& 0x1FFFFFFF#32) 0 25 peer, g 11, setField (g 12) 16 16 s.flowSeconds,
            0#32, 0#32, 0#32]
        let s := (s.flowWrite i (fill o j)).flowWrite j (fill r i)
        (s.count A.FLW_ENTRIES 2).flwResult 0 i

/-- R279: a write of FLW_CMD. A code that is no operation ends with INVALID. DEDUCED (log 86). -/
def State.flwCmdWrite (s : State) (v : Word) : State :=
  let op := getField v 0 3
  let i := s.get F.FLW_CMD_INDEX_INDEX
  if s.isSet F.FLW_CMD_STATUS_BUSY then s.bump A.FLW_WRITE_REJECT
  else match op with
    | 0 => s
    | 1 =>
      if s.cacheOnly then s.flwResult 4 0
      else if !s.flowValid i then s.flwResult 1 0
      else ((s.flwData 0 (s.flowWords i)).flwData 16 (s.flowWords (getField (s.flowWord i 10) 0 25))).flwResult 0 0
    | 2 => s.flwInsert
    | 3 =>
      if s.cacheOnly then
        (if s.path.cache.any (fun e => e.2.any (fun c => c.index == i)) then ((s.cacheDrop i).bump A.FLW_AGED).flwResult 0 0 else s.flwResult 1 0)
      else if s.flowValid i then (s.removeFlow i).flwResult 0 0 else s.flwResult 1 0
    | 4 =>
      let s : State := { s with path := { s.path with flushStatic := getField v 3 1 == 1 } }
      (s.put F.FLW_CMD_STATUS_BUSY 1).put F.FLW_STATUS_FLUSHING 1
    | _ => s.flwResult 4 0

end Sys2Proof.Machine
end

