-- ==== Sys2Proof/Machine/PacketRows.lean ====
section
/-! DEFINITION. The commands of chapter "Parsing, classification, routing and flows". -/

namespace Sys2Proof.Machine

/-! ### Packets -/

/-- R249, R247. -/
def execPacketParse (src : Fin 68) (s : State) : Res := .next (if s.intake 0 then s.parseNext src else s)
/-- R262, R265. -/
def execPktClassify (k : Nat) (s : State) : Res := .next (if s.intake 1 then s.onResult k (fun g => g == .classify || g == .egress) (fun s => s.classified k) else s)
/-- R273, R276. -/
def execFlowLookup (k : Nat) (s : State) : Res := .next (if s.intake 3 ∧ !(s.frozen && s.flowWants k) then s.onResult k (fun g => g == .flow) (fun s => s.flowLooked k) else s)
/-- R266. -/
def execRouteLookup (k : Nat) (s : State) : Res := .next (if s.intake 2 ∧ !(s.frozen && s.routeWants k) then s.onResult k (fun g => g == .route) (fun s => s.routed k) else s)
/-- R274, R275: the role asks for the two writes, or their completion returns. -/
def execFlowCreate (k : Nat) (written : Bool) (s : State) : Res :=
  .next (if !s.intake 3 ∨ (s.frozen ∧ !s.cacheOnly) then s
    else if written then s.onResult k (fun g => g == .await k) (fun s => s.createDone k)
    else s.afterToken k (fun s => s.createBegin k))
/-- R269. -/
def execPacketRewrite (k : Nat) (s : State) : Res := .next (s.afterToken k (fun s => s.rewritten k))
/-- R271. -/
def execRecirculate (k : Nat) (s : State) : Res := .next (s.afterToken k (fun s => s.recirculated k))
/-- R248. -/
def execPktRelease (k : Nat) (s : State) : Res := .next (s.afterToken k (fun s => s.released k))

/-! ### Tables (R260 to R264, R268) -/

/-- The fields of a register take a write's values by their access types, whatever the values. -/
def State.fieldsWrite (s : State) (off : Nat) (v : Word) : State :=
  match regAt off with
  | some r => s.wr off (r.written (s.rd off) v)
  | none => s

/-- The staging buffer of a host path for a table (R263). -/
def State.stagingOf (s : State) (m : Master) (table : Nat) : Option Staging := s.hst.staging.find? (fun b => b.m == m && b.table == table)

/-- The staging buffer of a host path replaced. -/
def State.setStaging (s : State) (m : Master) (table : Nat) (b : Option Staging) : State :=
  { s with hst := { s.hst with staging := s.hst.staging.filter (fun b => !(b.m == m && b.table == table)) ++ b.toList } }

/-- R263 step 1: a word is staged; words staged for another entry are emptied and counted. -/
def State.stageWrite (s : State) (m : Master) (table entry off : Nat) (v : Word) : State :=
  match s.stagingOf m table with
  | none => s.setStaging m table (some ⟨m, table, entry, [(off, v)]⟩)
  | some b =>
    if b.entry = entry then s.setStaging m table (some { b with words := b.words.filter (fun w => w.1 != off) ++ [(off, v)] })
    else (s.count A.CLS_STAGE_DISCARD b.words.length).setStaging m table (some ⟨m, table, entry, [(off, v)]⟩)

/-- The words staged for an entry. -/
def State.stagedFor (s : State) (m : Master) (table entry : Nat) : List (Nat × Word) :=
  match s.stagingOf m table with
  | some b => if b.entry = entry then b.words else []
  | none => []

/-- The staged words of an entry take their places, and its buffer empties (R263 step 2). -/
def State.commitStaged (s : State) (m : Master) (table entry : Nat) : State :=
  let ws := s.stagedFor m table entry
  let s := ws.foldl (fun (s : State) w => s.fieldsWrite w.1 w.2) s
  if ws = [] then s else s.setStaging m table none

/-- R13: the rules that the partitions of R27 hold. -/
def State.ruleCount (s : State) : Nat := s.ruleBase 4

/-- R263. -/
def State.ruleStage (s : State) (m : Master) (x w : Nat) (v : Word) : State :=
  if s.ruleCount ≤ x then s.bump A.PLT_STRUCT_REJECT else s.stageWrite m 0 x (0x600000 + 64 * x + 4 * w) v

/-- R263, R262: the rule committed whole; VALID turning to 1 clears its hit counter. -/
def State.ruleCommitWrite (s : State) (m : Master) (x : Nat) (v : Word) : State :=
  if s.ruleCount ≤ x then s.bump A.PLT_STRUCT_REJECT
  else
    let was := s.isSet (F.RULE_W15_VALID x)
    let s := (s.commitStaged m 0 x).fieldsWrite (A.RULE_W15 x) v
    if !was ∧ s.isSet (F.RULE_W15_VALID x) then s.wr (A.RULE_HITS x) 0#32 else s

/-- R263. -/
def execRuleStageWrite (m : Master) (x : Fin 16384) (w : Fin 15) (v : Word) (s : State) : Res :=
  .next (s.hostWrite m (0x600000 + 64 * x + 4 * w) v (fun s => s.ruleStage m x w v))
/-- R263. -/
def execRuleCommit (m : Master) (x : Fin 16384) (v : Word) (s : State) : Res :=
  .next (s.hostWrite m (A.RULE_W15 x) v (fun s => s.ruleCommitWrite m x v))

/-- R268: a word of a next hop is staged. -/
def State.nhStage (s : State) (m : Master) (h w : Nat) (v : Word) : State := s.stageWrite m 1 h (A.NH_W0 h + 4 * w) v

/-- R268: a GROUP has no bits above COUNT in word 1; they are reserved and read 0 (R8). -/
def State.groupWord (s : State) (h : Nat) : State :=
  if getField (s.nhWord h 0) 0 3 = 4 then s.wr (A.NH_W1 h) (s.nhWord h 1 &&& 0x007FFFFF#32) else s

/-- R268: the next hop committed, unless it is a GROUP whose COUNT is out of range. -/
def State.nhCommit (s : State) (m : Master) (h : Nat) (v : Word) : State :=
  let t := (s.commitStaged m 1 h).fieldsWrite (A.NH_W3 h) v
  let n := getField (t.nhWord h 1) 16 7
  if getField (t.nhWord h 0) 0 3 = 4 ∧ (n = 0 ∨ 64 < n) then
    (if s.stagedFor m 1 h = [] then s else s.setStaging m 1 none).bump A.RTE_WRITE_REJECT
  else t.groupWord h

/-- R268. -/
def execNexthopCommit (m : Master) (h : Fin 65536) (v : Word) (s : State) : Res :=
  .next (s.hostWrite m (A.NH_W3 h) v (fun s => s.nhCommit m h v))

/-- R264: W1 commits both words of a comparator where FIELD names a field of 1 or 2 bytes. -/
def State.rangeWrite (s : State) (i : Nat) (v : Word) : State :=
  let n := fieldLen (getField v 0 8)
  if n = 1 ∨ n = 2 then
    let s := s.fieldsWrite (A.CLS_RANGE_W1 i) v
    { s with path := { s.path with ranges := kvWrite (fun _ => (0#32, 0#32)) s.path.ranges i (s.rd (A.CLS_RANGE_W0 i), s.rd (A.CLS_RANGE_W1 i)) } }
  else s.bump A.CLS_WRITE_REJECT

/-- R264. -/
def execRangeCommit (m : Master) (i : Fin 256) (v : Word) (s : State) : Res :=
  .next (s.hostWrite m (A.CLS_RANGE_W1 i) v (fun s => s.rangeWrite i v))

/-- R260: an extract is written unless it overruns its field or the profile exceeds 24 bytes. -/
def State.profileSet (s : State) (q k e : Nat) (v : Word) : State :=
  let len := getField v 12 5
  let t := s.fieldsWrite (A.CLS_PROFILE q k e) v
  if fieldLen (getField v 0 8) < getField v 8 4 + len ∧ len ≠ 0 ∨ 16 < len ∨ 24 < ((t.extracts q k).map (fun x => x.2.2)).sum then s.bump A.CLS_WRITE_REJECT
  else t

/-- R260. -/
def execProfileWrite (m : Master) (q k : Fin 4) (e : Fin 8) (v : Word) (s : State) : Res :=
  .next (s.hostWrite m (A.CLS_PROFILE q k e) v (fun s => s.profileSet q k e v))

/-! ### Routes (R267) -/

/-- A word with its operation code replaced: each row is one operation. -/
def withOp (v : Word) (w op : Nat) : Word := setField v 0 w op

/-- R267. -/
def execRouteAdd (m : Master) (v : Word) (s : State) : Res := .next (s.hostWrite m A.RTE_CMD (withOp v 2 1) (fun s => s.rteCmdWrite (withOp v 2 1)))
/-- R267. -/
def execRouteDelete (m : Master) (v : Word) (s : State) : Res := .next (s.hostWrite m A.RTE_CMD (withOp v 2 2) (fun s => s.rteCmdWrite (withOp v 2 2)))
/-- R267. -/
def execRouteLookUp (m : Master) (v : Word) (s : State) : Res := .next (s.hostWrite m A.RTE_CMD (withOp v 2 3) (fun s => s.rteCmdWrite (withOp v 2 3)))
/-- R267. -/
def execRouteCmdDone (s : State) : Res := .next (if s.intake 2 ∧ !s.frozen then s.rteDone else s)

/-! ### Flows (R277, R279) -/

/-- R279. -/
def execFlwRead (m : Master) (v : Word) (s : State) : Res := .next (s.hostWrite m A.FLW_CMD (withOp v 3 1) (fun s => s.flwCmdWrite (withOp v 3 1)))
/-- R279. -/
def execFlwInsert (m : Master) (v : Word) (s : State) : Res := .next (s.hostWrite m A.FLW_CMD (withOp v 3 2) (fun s => s.flwCmdWrite (withOp v 3 2)))
/-- R279. -/
def execFlwDelete (m : Master) (v : Word) (s : State) : Res := .next (s.hostWrite m A.FLW_CMD (withOp v 3 3) (fun s => s.flwCmdWrite (withOp v 3 3)))
/-- R279. -/
def execFlwFlush (m : Master) (v : Word) (s : State) : Res := .next (s.hostWrite m A.FLW_CMD (withOp v 3 4) (fun s => s.flwCmdWrite (withOp v 3 4)))
/-- R277. -/
def execFlowTouch (s : State) : Res := .next (if s.intake 3 ∧ !s.frozen then s.touchNext else s)
/-- R277, R278, R279. -/
def execFlowSweep (s : State) : Res := .next (if s.intake 3 ∧ (!s.frozen ∨ s.cacheOnly) then s.swept else s)

end Sys2Proof.Machine
end

