-- ==== Sys2Proof/Machine/Queues.lean ====
section
/-! DEFINITION. Queues, fair queueing, shapers and policers (R284 to R306). -/

namespace Sys2Proof.Machine

/-! ### Records (R285, R292) -/

/-- R285: the number of queues. -/
def queueCount : Nat := 32864
/-- The root of port p (R285). -/
def ethRoot (p : Nat) : Nat := 32864 + p
/-- The root of radio n (R285). -/
def radioRoot (n : Nat) : Nat := 32868 + n
/-- The host root (R285). -/
def hostRoot : Nat := 32871
/-- The node of a station (R285). -/
def staNode (st : Nat) : Nat := 36864 + st

/-- The weight of a record (R292). -/
def State.weight (s : State) (i : Nat) : Nat := getField (s.rd (A.QREC_W0 i)) 0 13
/-- STRICT of a record. -/
def State.strict (s : State) (i : Nat) : Bool := getField (s.rd (A.QREC_W0 i)) 13 1 == 1
/-- SHAPER of a record. -/
def State.shaperOf (s : State) (i : Nat) : Nat := getField (s.rd (A.QREC_W0 i)) 14 13
/-- SPILL of a record. -/
def State.maySpill (s : State) (i : Nat) : Bool := getField (s.rd (A.QREC_W0 i)) 27 1 == 1
/-- LIMIT of a record. -/
def State.limit (s : State) (i : Nat) : Nat := getField (s.rd (A.QREC_W1 i)) 0 24

/-- The home QSC role of a set of links (R287). -/
def State.homeOf (s : State) (links : Nat) : Nat := s.qscOf (((List.range 3).find? (fun n => bit links n)).getD 0)

/-- R284, R286: QSC role q runs; its queues, nodes and roots change only by its own work. DEDUCED (log 118). -/
def State.qscRuns (s : State) (q : Nat) : Bool := s.roleRuns (9 + q)

/-- R287: the QSC role that holds the queues of station st runs. -/
def State.homeRuns (s : State) (st : Nat) : Bool := s.qscRuns (s.homeOf (s.get (F.STA_W0_LINKS st)))

/-- R284, R287: the QSC role that holds queue i runs. DEDUCED (log 118). -/
def State.queueRuns (s : State) (i : Nat) : Bool :=
  if i < 32768 then s.homeRuns (i / 8)
  else if i < 32800 then s.qscRuns (s.qscOf (3 + (i - 32768) / 8))
  else if i < 32816 then s.qscRuns (s.qscOf 7)
  else s.qscRuns (s.qscOf ((i - 32816) / 16))

/-- The packets of queue i, head first. -/
def State.que' (s : State) (i : Nat) : List Pkt := kvRead (fun _ => []) s.que.qs i

/-- The bytes of some packets. -/
def pktBytes (l : List Pkt) : Nat := (l.map (fun p => p.bytes.length)).sum

/-- Queue i holds these packets, and BYTES says how many bytes (R292). -/
def State.setQue (s : State) (i : Nat) (l : List Pkt) : State :=
  ({ s with que := { s.que with qs := kvWrite (fun _ => []) s.que.qs i l } } : State).wr (A.QREC_W2 i) (BitVec.ofNat 32 (pktBytes l))

/-! ### The buffer (R290, R291) -/

/-- R290: the cells of a packet. -/
def cellsOf (p : Pkt) : Nat := ceilDiv p.bytes.length 256

/-- On-chip cells in use: queued packets and the MPDUs that AIR roles hold (R290). -/
def State.cellsUsed (s : State) : Nat :=
  ((s.que.qs.flatMap (fun q => q.2.filter (fun p => !p.spilled))).map cellsOf).sum + (s.que.air.map (fun e => cellsOf e.2.2)).sum

/-- QSC_BUF_FREE. -/
def State.cellsFree (s : State) : Nat := s.get F.QSC_BUF_TOTAL_CELLS - s.cellsUsed

/-- QSC_SPILL_USED. -/
def State.spillUsed (s : State) : Nat := ((s.que.qs.flatMap (fun q => q.2.filter (fun p => p.spilled))).map cellsOf).sum

/-- R440: both halves of the cell allocator have failed: unit 0x100 of PBF0 is listed once for each. -/
def State.allocatorLost (s : State) : Bool := 2 ≤ (s.flt.permanent.filter (fun f => f == (2, 4, 0x100))).length

/-- R291: HEAD_KEEP in bytes. -/
def State.headKeep (s : State) : Nat := s.get F.QSC_SPILL_CTRL_HEAD_KEEP * 256

/-- Where an arriving packet goes. -/
inductive Place where
  | chip | spill | drop
deriving DecidableEq, Repr

/-- R290, R291: where a packet goes that queue i accepts. -/
def State.placeFor (s : State) (i : Nat) (p : Pkt) : Place :=
  let q := s.que' i
  let behind := q.any (fun x => x.spilled)
  let room := s.spillUsed + cellsOf p ≤ s.spillMib * 4096
  let want := s.maySpill i ∧ s.cellsFree < s.get F.QSC_SPILL_CTRL_SPILL_ON ∧ s.headKeep ≤ pktBytes (q.filter (fun x => !x.spilled))
  if !s.que.spillGone ∧ (behind ∨ want) ∧ room then .spill
  else if behind ∨ s.cellsFree < cellsOf p ∨ s.allocatorLost then .drop
  else .chip

/-- R290: a packet arrives at queue i. -/
def State.arrive (s : State) (i : Nat) (p : Pkt) : State :=
  let drop (s : State) : State := (s.bump (A.QREC_W3 i)).bump A.QSC_BUF_DROP
  if s.limit i < pktBytes (s.que' i) + p.bytes.length then drop s
  else match s.placeFor i p with
    | .drop => drop s
    | .spill => s.setQue i (s.que' i ++ [{ p with spilled := true }])
    | .chip => s.setQue i (s.que' i ++ [{ p with spilled := false }])

/-- R288: the class of a packet. -/
def State.classOf (s : State) (p : Pkt) : Nat :=
  let rest : Nat :=
    if p.rcd.l3 ≠ 0 then
      let d := beNat (p.rcd.field 9 1) / 4
      getField (s.rd (A.QSC_DSCP_MAP (d / 8))) (4 * (d % 8)) 3
    else beNat (p.rcd.field 4 2) / 8192
  ((p.ecls.or p.icls).or p.fcls).getD rest

/-- A packet is addressed to a group. -/
def Pkt.groupAddressed (p : Pkt) : Bool := bit (beAt p.bytes 0 1) 0

/-- R289: the queue of a packet. A group-addressed packet for a station goes to its BSS on the lowest-numbered radio of its LINKS. -/
def State.queueFor (s : State) (p : Pkt) (d : Dest) : Nat :=
  match d with
  | .eth q => 32768 + 8 * q + s.classOf p
  | .host q => 32800 + q
  | .group n t => 32816 + 16 * n + t
  | .sta st =>
    if p.mgmt then 8 * st + 7
    else if p.groupAddressed then
      32816 + 16 * ((setBits 3 (s.get (F.STA_W0_LINKS st))).headD 0) + s.get (F.STA_W0_BSS st)
    else 8 * st + s.classOf p

/-- The station a packet goes to. -/
def Dest.station (d : Dest) : Option Nat := match d with | .sta st => some st | _ => none

/-- A packet on its way must wait: its station's home is moving (R287), or the QSC role that holds its queue has no engine at present (R65, R286). DEDUCED (log 118). -/
def State.mustWait (s : State) (p : Pkt) : Bool :=
  match p.stage with
  | .done d => (d.station.map (fun st => s.que.moving.contains st)).getD false || !s.queueRuns (s.queueFor p d)
  | _ => false

/-- ENQUEUE: the oldest packet on its way that need not wait arrives (R289, R290). -/
def State.enqueueNext (s : State) : State :=
  match s.path.toQueue.find? (fun p => !s.mustWait p) with
  | none => s
  | some p =>
    let s : State := { s with path := { s.path with toQueue := s.path.toQueue.eraseP (fun p => !s.mustWait p) } }
    match p.stage with
    | .done d =>
      let gone := (d.station.map (fun st => !s.staValid st || s.que.flushing.contains st)).getD false
      if gone then s.bump A.QSC_STA_INVALID else s.arrive (s.queueFor p d) p
    | _ => s

/-- R291: queue i below HEAD_KEEP has its spilled packets moved back, in order, while cells are free. -/
def State.spillBack (s : State) (i : Nat) : Nat → State
  | 0 => s
  | k + 1 =>
    let q := s.que' i
    let front := q.takeWhile (fun p => !p.spilled)
    match q.drop front.length with
    | [] => s
    | p :: rest =>
      if pktBytes front < s.headKeep ∧ cellsOf p ≤ s.cellsFree ∧ !s.allocatorLost then
        (s.setQue i (front ++ { p with spilled := false } :: rest)).spillBack i k
      else s

/-! ### Fair queueing (R293 to R296) -/

/-- The virtual time of a scheduler (R293). -/
def State.vtime (s : State) (r : Nat) : Nat := kvRead (fun _ => 0) s.que.vt r

/-- The virtual finish time of a child under a scheduler (R293). -/
def State.ftime (s : State) (r c : Nat) : Nat := kvRead (fun _ => 0) s.que.ft (r * 65536 + c)

/-- A finish time set. -/
def State.setF (s : State) (r c v : Nat) : State := { s with que := { s.que with ft := kvWrite (fun _ => 0) s.que.ft (r * 65536 + c) v } }

/-- R293: key(c). -/
def State.wfqKey (s : State) (r c : Nat) : Nat :=
  let k := (s.ftime r c + 2 ^ 32 - s.vtime r % 2 ^ 32) % 2 ^ 32
  if 2 ^ 29 ≤ k then 0 else k

/-- R293: inc(l, w). -/
def wfqInc (l w : Nat) : Nat := ceilDiv (l * 2048) (max 1 w)

/-- R293: select, over the eligible children in ascending order. -/
def State.wfqSelect (s : State) (r : Nat) (l : List Nat) : Option Nat :=
  l.foldl (fun best c =>
    match best with
    | none => some c
    | some b => if s.wfqKey r c < s.wfqKey r b then some c else best) none

/-- R293: charge(c, l). `w`: the child's weight. -/
def State.wfqCharge (s : State) (r c l w : Nat) : State :=
  let v := (s.vtime r + s.wfqKey r c) % 2 ^ 32
  ({ s with que := { s.que with vt := kvWrite (fun _ => 0) s.que.vt r v } } : State).setF r c ((v + wfqInc l w) % 2 ^ 32)

/-! ### Token buckets (R297, R305, R306) -/

/-- R306: the 24-bit microsecond clock. -/
def State.usClock (s : State) : Nat := s.tim.tclkNs / 1000 % 2 ^ 24

/-- No bucket committed. -/
def Bucket.blank : Bucket := ⟨0, 0, false, 0, 0⟩

/-- R306: a bucket refilled to the present. -/
def Bucket.refill (b : Bucket) (clock : Nat) : Bucket :=
  let dt := (clock + 2 ^ 24 - b.last) % 2 ^ 24
  { b with tokens := min ((b.burst * 65536 : Nat) : Int) (b.tokens + (dt * b.rate : Nat)), last := clock }

/-- Shaper k. -/
def State.shaper (s : State) (k : Nat) : Bucket := kvRead (fun _ => Bucket.blank) s.que.shapers k

/-- Shaper k replaced. -/
def State.setShaper (s : State) (k : Nat) (b : Bucket) : State := { s with que := { s.que with shapers := kvWrite (fun _ => Bucket.blank) s.que.shapers k b } }

/-- R297: TOKENS of shaper k in whole bytes, rounded down, at present. -/
def State.shaperTokens (s : State) (k : Nat) : Int := ((s.shaper k).refill s.usClock).tokens / 65536

/-- R297: the shaper of record i, if any, allows it. -/
def State.shaperAllows (s : State) (i : Nat) : Bool := s.shaperOf i == 0 || decide (0 < s.shaperTokens (s.shaperOf i))

/-- R297: a service deducts its shaper bytes once from each shaper that its records name. -/
def State.shaperCharge (s : State) (recs : List Nat) (bytes : Nat) : State :=
  (((recs.map s.shaperOf).filter (· != 0)).eraseDups).foldl (fun (s : State) k =>
    let b := (s.shaper k).refill s.usClock
    s.setShaper k { b with tokens := b.tokens - ((bytes * 65536 : Nat) : Int) }) s

/-- R297: the write of word 1 of shaper k commits both words and caps TOKENS. -/
def State.shaperWrite (s : State) (k : Nat) (v : Word) : State :=
  let i := 40960 + k
  let burst := getField v 0 24
  if k = 0 then s.bump A.GLB_UNMAPPED_WRITE
  else if burst < 64 then s.bump A.QSC_WRITE_REJECT
  else
    let b := (s.shaper k).refill s.usClock
    let s := s.wr (A.QREC_W1 i) (fieldWord 0 24 burst)
    s.setShaper k ⟨(s.rd (A.QREC_W0 i)).toNat, burst, true, min b.tokens ((burst * 65536 : Nat) : Int), s.usClock⟩

/-- Policer p. -/
def State.policer (s : State) (p : Nat) : Bucket := kvRead (fun _ => Bucket.blank) s.que.policers p

/-- Policer p replaced. -/
def State.setPolicer (s : State) (p : Nat) (b : Bucket) : State :=
  { s with que := { s.que with policers := kvWrite (fun _ => Bucket.blank) s.que.policers p b } }

/-- R305: the write of word 1 of policer p commits both words. -/
def State.policerWrite (s : State) (p : Nat) (v : Word) : State :=
  let burst := getField v 0 24
  let valid := getField v 24 1 = 1
  if valid ∧ burst < 64 then s.bump A.QSC_WRITE_REJECT
  else
    let b := (s.policer p).refill s.usClock
    let full : Int := ((burst * 65536 : Nat) : Int)
    let s := s.wr (A.POL_W1 p) (fieldWord 0 25 v.toNat)
    s.setPolicer p ⟨(s.rd (A.POL_W0 p)).toNat, burst, valid, if valid ∧ !b.valid then full else min b.tokens full, s.usClock⟩

/-- R306: meter(p, len); answers whether the packet passes. -/
def State.meter (s : State) (p len : Nat) : Bool × State :=
  let b := s.policer p
  if !b.valid then (true, s.bump A.QSC_POL_INVALID)
  else
    let b := b.refill s.usClock
    let need : Int := ((len * 65536 : Nat) : Int)
    if need ≤ b.tokens then (true, (s.setPolicer p { b with tokens := b.tokens - need }).bump (A.POL_W3 p))
    else (false, (s.setPolicer p b).bump (A.POL_W2 p))

/-- METER: the meter request of packet `k`. -/
def State.meterPkt (s : State) (k : Nat) : State :=
  match s.pktAt k with
  | none => s
  | some p =>
    match p.stage with
    | .meter egress w13 w14 rule =>
      let (ok, s) := s.meter (getField w14 0 16) p.bytes.length
      if ok then s.verdict k egress w13 w14 rule else s.pktDrop k
    | _ => s

/-! ### Record writes (R292, R307) -/

/-- A write of word 0 or 1 of a queue, node or root record. -/
def State.recordWrite (s : State) (i w : Nat) (v : Word) : State :=
  let root := 32864 ≤ i ∧ i < 32872
  let group := 32816 ≤ i ∧ i < 32864
  let node := 36864 ≤ i ∧ i < 40960
  let strictOk := 32768 ≤ i ∧ i < 32816
  if 32872 ≤ i ∧ i < 36864 then s.bump A.GLB_UNMAPPED_WRITE
  else if w = 1 then (if root ∨ node then s else s.wr (A.QREC_W1 i) (fieldWord 0 24 v.toNat))
  else if w ≠ 0 then s
  else if root then s.wr (A.QREC_W0 i) (fieldWord 14 13 (getField v 14 13))
  else
    let weight := getField v 0 13
    if (!group ∧ (weight = 0 ∨ 4096 < weight)) ∨ (getField v 13 1 = 1 ∧ !strictOk) then s.bump A.QSC_WRITE_REJECT
    else s.wr (A.QREC_W0 i) (fieldWord 0 27 v.toNat ||| fieldWord 27 1 (if node then 0 else getField v 27 1))

/-! ### Dequeueing (R295 to R301) -/

/-- Queue i has its head packet on-chip. -/
def State.headReady (s : State) (i : Nat) : Bool :=
  match s.que' i with
  | p :: _ => !p.spilled
  | [] => false

/-- Queue i waits for its head packet from DRAM (R291). -/
def State.headAway (s : State) (i : Nat) : Bool :=
  match s.que' i with
  | p :: _ => p.spilled
  | [] => false

/-- R298: L of a packet of queue i with an overhead. -/
def chargeLen (bytes : Nat) (overhead : Int) : Nat := (clampInt 1 262143 ((bytes : Int) + overhead)).toNat

/-- The choice of a flat root (R293, R296) among its queues `base` to `base + n − 1` that `ok` allows: strict ones first, highest first. Answers the
queue and whether it is served as strict. -/
def State.flatSelect (s : State) (root base n : Nat) (ok : Nat → Bool) : Option (Nat × Bool) :=
  let elig := (List.range n).filter (fun c => s.headReady (base + c) && ok c && s.shaperAllows (base + c) && s.shaperAllows root)
  match (elig.filter (fun c => s.strict (base + c))).getLast? with
  | some c => some (c, true)
  | none => (s.wfqSelect root elig).map (fun c => (c, false))

/-- A root whose children are held by shapers alone arms its wake-up (R297); a dequeue refused for a head in DRAM is counted (R291). -/
def State.flatRefused (s : State) (root base n : Nat) (ok : Nat → Bool) : State :=
  let away := (List.range n).any (fun c => s.headAway (base + c) && ok c)
  let held := (List.range n).any (fun c => s.headReady (base + c) && ok c)
  let s := if away then s.bump A.QSC_SPILL_STALL else s
  if held ∧ !s.que.armed.contains root then { s with que := { s.que with armed := s.que.armed ++ [root] } } else s

/-- The head packet of child c of a flat root leaves, charged `l` (R293, R296, R297). DEDUCED (log 89). -/
def State.flatServe (s : State) (root base c : Nat) (asStrict : Bool) (l : Nat) : State :=
  let i := base + c
  let s := if asStrict then s else s.wfqCharge root c l (s.weight i)
  let s := s.shaperCharge [i, root] l
  s.setQue i ((s.que' i).drop 1)

/-! ### Drawing for a radio (R299, R301 to R303) -/

/-- R299: the rate of a station on radio n. DESIGN CHOICE (log 103). -/
def State.staRate (s : State) (n st : Nat) : Nat :=
  let r := s.get (F.STA_RATE_RATE st n)
  if r = 0 then max 1 (s.get (F.QSC_RAD_DEF_RATE n)) else r

/-- The TIDs of an access category: 0 best effort, 1 background, 2 video, 3 voice. -/
def acTids (ac : Nat) : List Nat := match ac with | 0 => [0, 3] | 1 => [1, 2] | 2 => [4, 5] | _ => [6, 7]

/-- R301: TID t of a station may use radio n. -/
def State.tidMaps (s : State) (n st t : Nat) : Bool := bit (s.get (F.STA_W7_TTLM st)) (3 * t + n)

/-- The packets at the head of a list that fit `room` bytes, with MPDU_BYTES for each. -/
def fitting (mpdu : Nat) : Nat → List Pkt → List Pkt
  | _, [] => []
  | room, p :: l => if p.spilled ∨ room < p.bytes.length + mpdu then [] else p :: fitting mpdu (room - (p.bytes.length + mpdu)) l

/-- What a draw takes from station st's TID t for a budget in µs. -/
def State.drawable (s : State) (n st t budget : Nat) : List Pkt :=
  fitting (s.get (F.QSC_RAD_MPDU_BYTES n)) (budget * s.staRate n st / 16) (s.que' (8 * st + t))

/-- The stations with an entry in use: those that the station table lists. -/
def State.stations (s : State) : List Nat :=
  s.regs.filterMap fun e =>
    if 0x400000 ≤ e.1 ∧ e.1 < 0x420000 ∧ e.1 % 32 = 0 ∧ getField e.2 0 1 = 1 then some ((e.1 - 0x400000) / 32) else none

/-- R169: another radio holds the claim of station st. -/
def State.claimedAway (s : State) (n st : Nat) : Bool := s.grt.claims.any (fun c => c.1 == st && c.2.1 != n && decide (s.tim.now < c.2.2))

/-- R169: an EMLSR station of overlapping aligned runs belongs to the highest-numbered of their radios. -/
def State.alignedAway (s : State) (n st : Nat) : Bool :=
  let aligned (m : Nat) : Bool := ((s.grt.radios.getD m .reset).run.map (fun r => r.mlAlign)).getD false
  s.isSet (F.STA_W0_EMLSR st) && aligned n && (List.range 3).any (fun m => decide (n < m) && bit (s.get (F.STA_W0_LINKS st)) m && aligned m)

/-- R158, R169, R301: station st may be drawn for radio n. -/
def State.drawEligible (s : State) (n : Nat) (d : DrawReq) (st : Nat) : Bool :=
  let service := d.kind == 2 || d.kind == 3
  bit (s.get (F.STA_W0_LINKS st)) n && !d.barred.contains st && !s.claimedAway n st && !s.alignedAway n st &&
    !s.que.flushing.contains st && !s.que.moving.contains st && s.homeRuns st &&
    (if service then s.get (F.STA_W0_SPID st) == d.spid && (d.spid != 0 || !s.isSet (F.STA_W0_PS st)) else true)

/-- The TIDs of station st that a draw may take, with a user budget. -/
def State.drawTids (s : State) (n : Nat) (d : DrawReq) (st budget : Nat) : List Nat :=
  (List.range 8).filter fun t =>
    s.tidMaps n st t && (d.kind != 4 || d.named.isSome || (acTids d.ac).contains t) && s.shaperAllows (8 * st + t) &&
      (s.drawable n st t budget) != []

/-- R158: station st is not among those that radio n has served in service periods of this superframe, and a draw of a service period would add it. -/
def State.schedNew (s : State) (n : Nat) (d : DrawReq) (st : Nat) : Bool :=
  (d.kind == 2 || d.kind == 3) && !((s.grt.radios.getD n .reset).served.contains st)

/-- The users a draw selects, as (station, TID, packets), for the budgets in turn (R293, R295); at most `room` of them new in this superframe (R158). -/
def State.drawUsers (s : State) (n : Nat) (d : DrawReq) : Nat → List Nat → List Nat → List (Nat × Nat × List Pkt)
  | _, _, [] => []
  | room, cands, b :: bs =>
    let elig := cands.filter (fun st => s.shaperAllows (staNode st) && (s.drawTids n d st b) != [] && (!s.schedNew n d st || decide (0 < room)))
    match s.wfqSelect (radioRoot n) elig with
    | none => []
    | some st =>
      match s.wfqSelect (staNode st) (s.drawTids n d st b) with
      | none => []
      | some t => (st, t, s.drawable n st t b) :: s.drawUsers n d (if s.schedNew n d st then room - 1 else room) (cands.filter (· != st)) bs

/-- R299: L of a draw of B bytes by one of U users. DEDUCED (log 89). -/
def State.airCharge (s : State) (n st b u : Nat) : Nat :=
  max 1 (min 262143 (ceilDiv (b * 256) (s.staRate n st) + ceilDiv (s.get (F.QSC_RAD_OVERHEAD_TICKS n)) (max 1 u)))

/-- Packets of queue i are held by radio n's AIR role (R290). -/
def State.toAir (s : State) (n i : Nat) (ps : List Pkt) : State := { s with que := { s.que with air := s.que.air ++ ps.map (fun p => (n, i, p)) } }

/-- One user's packets leave for radio n's AIR role, every level charged (R295, R299); one with a lost cell is dropped (R346). -/
def State.drawServe (s : State) (n u : Nat) (x : Nat × Nat × List Pkt) : State :=
  let (st, t, ps) := x
  let i := 8 * st + t
  let b := pktBytes ps + ps.length * s.get (F.QSC_RAD_MPDU_BYTES n)
  let l := s.airCharge n st b u
  let s := s.wfqCharge (radioRoot n) st l (s.weight (staNode st))
  let s := s.wfqCharge (staNode st) t l (s.weight i)
  let s := s.shaperCharge [i, staNode st, radioRoot n] b
  let s := s.setQue i ((s.que' i).drop ps.length)
  (s.count A.ENG_MEM_PB_CELL_DROP (ps.filter (fun p => p.bad)).length).toAir n i (ps.filter (fun p => !p.bad))

/-- BSS t of radio n has no group frame left to go out. -/
def State.groupDone (s : State) (n t : Nat) : State :=
  { s with grt := { s.grt with radios := modAt s.grt.radios n (fun g => { g with groupLeft := g.groupLeft.filter (· != t) }) } }

/-- R303: group queue t of radio n is served first in, first out, uncharged, as far as its packets fit. DEDUCED (log 89). -/
def State.drawGroup (s : State) (n t budget : Nat) : State :=
  let i := 32816 + 16 * n + t
  let ps := fitting (s.get (F.QSC_RAD_MPDU_BYTES n)) (budget * max 1 (s.get (F.QSC_RAD_DEF_RATE n)) / 16) (s.que' i)
  if !s.shaperAllows i ∨ ps = [] then s
  else
    let s := s.setQue i ((s.que' i).drop ps.length)
    let s := s.shaperCharge [i] (pktBytes ps)
    let s := (s.count A.ENG_MEM_PB_CELL_DROP (ps.filter (fun p => p.bad)).length).toAir n i (ps.filter (fun p => !p.bad))
    let s := if s.que' i = [] then s.groupDone n t else s
    { s with out := .draw n [(0xFFFF, t, pktBytes ps)] :: s.out }

end Sys2Proof.Machine
end

