-- ==== Sys2Proof/Machine/Recut.lean ====
section
/-! DEFINITION. The re-cut (R40 to R42, R68 to R73, R76): refusals, the order of the moves, a role's move, and the Legend fields that follow it. -/

namespace Sys2Proof.Machine

/-! ### Region S -/

/-- The blocks of a region, erased ones all ones. -/
def regionBlocks (r : List (Nat × List Byte)) (n : Nat) : List (List Byte) :=
  (List.range n).map (fun i => (kvGet r i).getD (List.replicate 4096 0xFF#8))

/-- The boot record in force; where no copy is good, region A counts as present and S as EMPTY (R400). -/
def State.bootRec (s : State) : BootRec := s.upd.inForce.getD ⟨0, 1, 0, 0, 0, 0, [], [], []⟩

/-- N of the Plate in region S. -/
def State.blocksS (s : State) : Nat := s.bootRec.sBlocks

/-- The content stream of region S (R16). -/
def State.contentS (s : State) : List Byte := contentOf (regionBlocks s.upd.regionS s.blocksS) (s.blocksS - 2)

/-- The Legend section of a content stream. -/
def legendBytes (c : List Byte) : List Byte := ((legendSec c).map (secBytes c)).getD []

/-- The body of role code c in a content stream, with its version (R23). -/
def bodyOf (c : List Byte) (r : Nat) (fromS : Bool) : Body :=
  match roleSec c r with
  | some e =>
    let x := secBytes c e
    ⟨leAt x 4 4, slice x 0x40 (leAt x 8 4), fromS⟩
  | none => ⟨0, [], fromS⟩

/-- The length of role code c's body by the section table of a content stream (R25). -/
def bodyLenOf (c : List Byte) (r : Nat) : Nat := ((roleSec c r).map (fun e => e.len - 7952)).getD 0

/-! ### Refusals and order (R40, R68, R69) -/

/-- The fields of R27 that apply only at start: offset and width. -/
def startFields : List (Nat × Nat) :=
  [(0x1E, 1), (0x1F, 1), (0x3C, 1), (0x3D, 1), (0x40, 8), (0x50, 4), (0x54, 1), (0x56, 2), (0x58, 4), (0x5C, 4)]

/-- R40: a "start" field differs between two Legends. -/
def startDiffers (a b : List Byte) : Bool := startFields.any (fun f => slice a f.1 f.2 != slice b f.1 f.2)

/-- The pages of a Legend section: fixed part and template (R25). -/
def legendPages (l : List Byte) : Nat := pagesOf (512 + 32 * (legAt l 0x48 2 + legAt l 0x4A 2 + legAt l 0x4C 2))

/-- R346: a load of role c's body has to wait: a page of it is being read again. -/
def State.pageBad (s : State) (c : Nat) : Bool := c != 0 && s.plt.badPages.any (fun b => b.2 == c)

/-- The length of the body that role code c runs. -/
def State.bodyLen (s : State) (c : Nat) : Nat := ((s.plt.bodies.getD (c - 1) ⟨0, [], false⟩).bytes).length

/-- A list kept in rising order of an integer key; equal keys keep their order. -/
def insertBy (key : Nat → Int) (x : Nat) : List Nat → List Nat
  | [] => [x]
  | y :: l => if key x < key y then x :: y :: l else y :: insertBy key x l

/-- R69: the moves by growth of the body, smallest first, ties by role code. -/
def State.moveOrder (s : State) (c : List Byte) : List Nat :=
  ((List.range 12).map (· + 1)).foldl (fun l r => insertBy (fun k => (bodyLenOf c k : Int) - s.bodyLen k) r l) []

/-- R69: the most pages held at any step of the re-cut. -/
def State.recutPages (s : State) (c : List Byte) : Nat :=
  let legs := legendPages s.plt.legend + legendPages (legendBytes c)
  let now := (List.range 12).foldl (fun n r => n + pagesOf (s.bodyLen (r + 1))) 0
  let step (acc : Nat × Nat) (r : Nat) : Nat × Nat :=
    let peak := acc.1 + pagesOf (bodyLenOf c r)
    (peak - pagesOf (s.bodyLen r), max acc.2 (legs + peak))
  ((s.moveOrder c).foldl step (now, legs + now)).2

/-- A role is shed or stopped (R67). -/
def State.roleOut (s : State) (c : Nat) : Bool := s.isSet (F.ENG_ROLE_AT_SHED (c - 1)) || (s.role c).stopped

/-- R68: the refusal code of a re-cut to the Plate of content `c`; 0 = none. -/
def State.recutRefusal (s : State) (c : List Byte) : Nat :=
  let n := s.blanks.length
  if s.recutLive ∨ s.eng.running.isSome ∨ s.eng.waiting ≠ [] then 5
  else if startDiffers s.plt.legend (legendBytes c) then 6
  else if !s.counterproof then 4
  else if n = 0 ∨ (n < 2 ∧ !s.isSet F.ENG_RECUT_CTRL_ALLOW_SINGLE_BLANK) then 1
  else if (List.range 12).any (fun r =>
      !s.roleOut (r + 1) && !Config.acceptsLayout (bodyOf c (r + 1) true).bytes (s.plt.bodies.getD r ⟨0, [], false⟩).bytes) then 3
  else if 2048 < s.recutPages c then 2
  else 0

/-! ### Legend fields that follow the moves (R41) -/

/-- Bytes [off, off + w) of the Legend in force take their new values. -/
def State.takeLegend (s : State) (off w : Nat) : State :=
  let l := s.plt.legend
  { s with plt := { s.plt with legend := l.take off ++ slice s.plt.legendNew off w ++ l.drop (off + w) } }

/-- A field differs between the Legend in force and the new one. -/
def State.legendDiffers (s : State) (off w : Nat) : Bool := slice s.plt.legend off w != slice s.plt.legendNew off w

/-- The radios that gain or lose a chain (R41). -/
def State.chainRadios (s : State) : List Nat :=
  let l := (List.range 16).flatMap (fun c =>
    let a := legAt s.plt.legend (8 + c) 1
    let b := legAt s.plt.legendNew (8 + c) 1
    if a = b then [] else [a, b])
  (List.range 3).filter (fun n => l.contains n)

/-- The radios whose synthesiser changes. -/
def State.synthRadios (s : State) : List Nat :=
  (List.range 3).filter (fun n => legAt s.plt.legend (0x18 + n) 1 != legAt s.plt.legendNew (0x18 + n) 1)

/-- The radios whose enable bit changes. -/
def State.enableRadios (s : State) : List Nat :=
  (List.range 3).filter (fun n => bit (legAt s.plt.legend 0x1B 1) n != bit (legAt s.plt.legendNew 0x1B 1) n)

/-- Radios that restart at their next superframe boundary. -/
def State.restartRadios (s : State) (l : List Nat) : State := l.foldl (fun s n => s.radMod n (fun x => { x with restart := true })) s

/-- A function of PWR_FUNC that a re-cut enables or disables takes its new value, settled (R41, R424). -/
def State.funcSet (s : State) (i : Nat) (on : Bool) : State :=
  let w := (s.rd A.PWR_FUNC).toNat
  let s := s.wr A.PWR_FUNC (BitVec.ofNat 32 (if on then w ||| 2 ^ i else w &&& (255 - 2 ^ i)))
  (s.funcMod i (fun _ => ⟨on, false, false, none⟩)).funcShow

/-- R26, R41: the functions among `l` that the Legend in force turns on, having been off in the Legend `old`. -/
def State.funcsEnabled (s : State) (old : Nat → Bool) (now : Nat → Bool) (l : List Nat) : State :=
  l.foldl (fun (s : State) i => if !old i && now i then s.funcSet i true else s) s

/-- R26, R107: the Legend's profile takes force as the SUP role moves, where its field changed; without a change the host's selection stands. DEDUCED (log 39). -/
def State.profileFromLegend (s : State) : State := (s.put F.CHN_REG_SELECT_PROFILE s.regProfile).put F.CHN_REG_STATUS_ACTIVE_PROFILE s.regProfile

/-- R41: every field whose named roles have all moved changes; a radio's own changes wait for its superframe boundary, and a changed port relinks. DEDUCED (log 39). -/
def State.applyFields (s : State) (moved : List Nat) : State :=
  let has (l : List Nat) : Bool := l.all (fun c => moved.contains c)
  let air (l : List Nat) : List Nat := l.map (· + 1)
  let s := if s.legendDiffers 0x08 16 ∧ has (air s.chainRadios) then (s.restartRadios s.chainRadios).takeLegend 0x08 16 else s
  let s := if s.legendDiffers 0x18 3 ∧ has (air s.synthRadios) then (s.restartRadios s.synthRadios).takeLegend 0x18 3 else s
  let trv : List Nat := if legAt s.plt.legend 0x1B 1 / 8 != legAt s.plt.legendNew 0x1B 1 / 8 then [4] else []
  let s := if s.legendDiffers 0x1B 1 ∧ has (air s.enableRadios ++ trv) then
      let t := (s.restartRadios s.enableRadios).takeLegend 0x1B 1
      t.funcsEnabled s.radioEnable t.radioEnable (List.range 3)
    else s
  let s := if has [12] then
      let t := (s.takeLegend 0x1C 2).takeLegend 0x60 24
      if t.regProfile = s.regProfile then t else t.profileFromLegend
    else s
  let s := moved.foldl (fun s c => s.takeLegend (0x20 + 2 * (c - 1)) 2) s
  let s := if has [5, 6, 7, 8] ∧ s.legendDiffers 0x38 4 then
      let ports := (List.range 4).filter (fun p => s.legendDiffers (0x38 + p) 1)
      let t := s.takeLegend 0x38 4
      ports.foldl (fun (t : State) p =>
        let t := (t.put (F.ETH_STATUS_LINK p) 0).put (F.ETH_STATUS_MODE p) (t.portMode p)
        if (s.portMode p == 0) == (t.portMode p == 0) then t else t.funcSet (3 + p) (t.portMode p != 0)) t
    else s
  let s := if has [11] then s.takeLegend 0x3E 1 else s
  (List.range 3).foldl (fun (s : State) n =>
    if moved.contains (n + 1) ∧ !s.plt.applyLegend.contains n ∧
        (s.legendDiffers (0x48 + 2 * n) 2 ∨ templateOf s.plt.legendNew n ≠ s.plt.tmpl.getD n []) then
      let s := if s.legendDiffers (0x48 + 2 * n) 2 then s.restartRadios [n] else s
      { s with plt := { s.plt with applyLegend := s.plt.applyLegend ++ [n] } }
    else s) s

/-- R44: the active-Plate registers and the Legend window show the Plate of content `c` with signature block `sig`. -/
def State.showPlate (s : State) (c sig : List Byte) : State :=
  let s := s.put F.PLT_ACTIVE_VERSION_VERSION (leAt c 8 4)
  let s := s.put F.PLT_ACTIVE_ROLLBACK_VALUE (leAt c 0xC 2)
  let s := s.put F.PLT_ACTIVE_SIGNER_SIGNER (leAt sig 4 1)
  let s := (List.range 8).foldl (fun s i => s.put (F.PLT_ACTIVE_DIGEST_WORD i) (leAt sig (0x28 + 4 * i) 4)) s
  let l := legendBytes c
  (List.range 128).foldl (fun s i => s.put (F.PLT_LEGEND_WORD i) (leAt l (4 * i) 4)) s

/-- The signature block of region S. -/
def State.sigS (s : State) : List Byte := sigBlock (regionBlocks s.upd.regionS s.blocksS) s.blocksS

/-! ### Moves -/

/-- The re-cut record changed. -/
def State.recutMod (s : State) (f : Recut → Recut) : State := { s with eng := { s.eng with recut := s.eng.recut.map f } }

/-- The next move begins at step 1, or the re-cut is complete (R71, R406). A pause asked for takes effect between moves (R76). -/
def State.recutNext (s : State) : State :=
  match s.eng.recut with
  | none => s
  | some r =>
    if s.get F.ENG_RECUT_STATUS_PHASE ≠ 1 ∨ r.step ≠ 0 then s
    else if r.pauseAsked then s.pauseRecut 0
    else match r.todo with
      | [] =>
        let s := s.put F.ENG_RECUT_STATUS_PHASE 3
        let s := s.put F.PLT_STAGE_COPY_PENDING 1
        let s : State := { s with upd := { s.upd with op := s.upd.op.or (some .record) } }
        s.engSync
      | c :: _ =>
        let s := s.put F.ENG_RECUT_STATUS_ROLE c
        let s := if s.roleAt c < 14 then s.put (F.ENG_ROLE_AT_MOVING (c - 1)) 1 else s
        (s.recutMod (fun r => { r with step := 1, blank := 15, old := 15, incoming := none })).engSync

/-- The role of the present move has moved: body, version, count, fields (R41, R44, R71); with the last one the new Plate shows. -/
def State.roleMoved (s : State) : State :=
  match s.eng.recut with
  | none => s
  | some r =>
    match r.todo with
    | [] => s
    | c :: l =>
      let b := r.incoming.getD ⟨0, [], true⟩
      let moved := r.moved ++ [c]
      let s : State := { s with plt := { s.plt with bodies := s.plt.bodies.set (c - 1) b } }
      let s := (s.put (F.PLT_ROLE_VERSION_WORD (c - 1)) b.version).put F.ENG_RECUT_STATUS_MOVED moved.length
      let s := s.recutMod (fun r => { r with todo := l, moved := moved, incoming := none })
      let s := s.applyFields moved
      if l = [] then (List.range 14).foldl (fun (s : State) e => s.put (F.ENG_STATUS_BODY e) 0) (s.showPlate s.contentS s.sigS) else s

/-- R70, R71 step 2: the incoming body begins to load into the working blank. Where a fault has left no blank, or only one that must stay the spare, the move is cancelled
and the re-cut pauses. DEDUCED (log 38). -/
def State.recutStep2 (s : State) : State :=
  match s.eng.recut with
  | none => s
  | some r =>
    let c := r.todo.headD 0
    if s.blanks.length < 2 ∧ !s.isSet F.ENG_RECUT_CTRL_ALLOW_SINGLE_BLANK then s.cancelMove.pauseRecut 2 else
    match s.workingBlank c with
    | some e =>
      let s := s.recutMod (fun r => { r with step := 2, blank := e, old := s.roleAt c })
      s.setEngine e eLoading c 1
    | none => s.cancelMove.pauseRecut 2

/-- R71 step 1: role code c's section in region S passes its block CRCs, the hash recorded at proofing, and its signature. DESIGN CHOICE (log 42). -/
def State.sectionSGood (s : State) (c : Nat) : Bool :=
  let blocks := regionBlocks s.upd.regionS s.blocksS
  let content := s.contentS
  match roleSec content c with
  | none => false
  | some e =>
    (List.range (lastBlock e + 1)).all (fun b => b < e.off / 4092 || blockOk (blocks.getD b [])) &&
      Config.sha256 (secBytes content e) == s.bootRec.roleHash.getD (c - 1) [] &&
      (roleCheck content (wordBytes ((List.range 8).map (fun i => s.rd (A.KEY_ROOT_HASH i)))) e).isNone

/-- R406, R68: a re-cut begins, or is refused. Answers whether it began. -/
def State.recutStart (s : State) : Bool × State :=
  let c := s.contentS
  let ref := s.recutRefusal c
  if ref ≠ 0 then
    let s := s.put F.ENG_RECUT_STATUS_REFUSAL ref
    (false, if s.recutLive then s else s.put F.ENG_RECUT_STATUS_PHASE 5)
  else
    let s := s.wr A.ENG_RECUT_STATUS 1#32
    let s : State := { s with plt := { s.plt with legendNew := legendBytes c } }
    let s : State := { s with eng := { s.eng with recut := some ⟨s.moveOrder c, [], 0, 15, 15, none, false, false⟩ } }
    (true, s.recutNext)

/-- R42: a re-cut is abandoned. -/
def State.abandonRecut (s : State) : State := (s.put F.ENG_RECUT_STATUS_PHASE 4).engSync

/-! ### Commands -/

/-- R71 step 1 ends: the section is good and its body cached, or the re-cut pauses with cause 3. A role without an engine counts as moved. -/
def State.moveRead (s : State) : State :=
  match s.eng.recut with
  | none => s
  | some r =>
    if r.step ≠ 1 ∨ s.get F.ENG_RECUT_STATUS_PHASE ≠ 1 then s else
    let c := r.todo.headD 0
    if !s.sectionSGood c then s.cancelMove.pauseRecut 3
    else
      let s := s.recutMod (fun r => { r with incoming := some (bodyOf s.contentS c true) })
      if 14 ≤ s.roleAt c then (s.roleMoved.recutMod (fun r => { r with step := 0 })).recutNext
      else if r.pauseAsked then (s.recutMod (fun r => { r with step := 6 })).pauseRecut 0
      else s.recutStep2

/-- R71. -/
def execRecutMoveRead (s : State) : Host.Outcome State Fault Refusal := .next s.moveRead

/-- R71 steps 2 and 3: structure and ledger image are in the working blank; the cut may come. The load waits for a page of the body that is being read again (R346). -/
def execRecutLoad (s : State) : Host.Outcome State Fault Refusal :=
  .next (match s.eng.recut with
    | some r => if r.step = 2 ∧ !s.pageBad (r.todo.headD 0) then s.recutMod (fun r => { r with step := 4 }) else s
    | none => s)

/-- R48, R72: tokens in flight retire on the old engine with the given writes and effects; where fewer are given, or a token would write more lines than a role structure
does, the rest write nothing. -/
def State.retireAll (s : State) (e c : Nat) (rets : List (List (Nat × BitVec 512) × List (List Byte))) : State :=
  (List.range (s.inFlight c).length).foldl (fun s i => let r := rets.getD i ([], []); if r.1.length ≤ 32 then s.commit e c r.1 r.2 else s.commit e c [] []) s

/-- R71 steps 3 and 4: the working blank holds the ledger image with every commit applied and issues the role's next token. Where the new Legend has ended the ledger with the
SUP role's move, it is the ledger as it last stood. DESIGN CHOICE (log 42). -/
def State.cut (s : State) (rets : List (List (Nat × BitVec 512) × List (List Byte))) : State :=
  match s.eng.recut with
  | none => s
  | some r =>
    if r.step ≠ 4 ∨ s.eng.clearing.isSome then s else
    let c := r.todo.headD 0
    let s := s.retireAll r.old c rets
    let s := (s.engMod r.blank (fun x => { x with sp := (s.role c).ledger })).roleMoved
    let s := s.setEngine r.blank eServing c (s.bodyFlag c)
    let s := (s.put (F.ENG_ROLE_AT_ENGINE (c - 1)) r.blank).put (F.ENG_ROLE_AT_MOVING (c - 1)) 0
    let s : State := { s with eng := { s.eng with clearing := some r.old } }
    let s := (s.recutMod (fun r => { r with step := 5 })).setEngine r.old eLoading 0 0
    if r.abandonAsked then s.abandonRecut else if r.pauseAsked then s.pauseRecut 0 else s

/-- R72. -/
def execRecutCut (rets : List (List (Nat × BitVec 512) × List (List Byte))) (s : State) : Host.Outcome State Fault Refusal := .next (s.cut rets)

/-- R71 step 5 ends: the old engine becomes a blank, and the next move begins, unless the re-cut has been abandoned meanwhile. -/
def State.clearDone (s : State) : State :=
  match s.eng.clearing with
  | none => s
  | some e =>
    let s : State := { s with eng := { s.eng with clearing := none } }
    let s := s.recutMod (fun r => if r.step = 5 then { r with step := 0 } else r)
    ((s.engMod e (fun x => { x with sp := [] })).setEngine e eBlank 0 0).blankFree.recutNext.engSync

/-- R71. -/
def execRecutClearDone (s : State) : Host.Outcome State Fault Refusal := .next s.clearDone

/-- R76 PAUSE: between moves and during step 5 at once, else before step 2 or after the cut. -/
def State.recutPauseCmd (s : State) : State :=
  match s.eng.recut with
  | none => s
  | some r =>
    if s.get F.ENG_RECUT_STATUS_PHASE ≠ 1 then s
    else if r.step = 0 ∨ r.step = 5 ∨ r.step = 7 then s.pauseRecut 0
    else s.recutMod (fun r => { r with pauseAsked := true })

/-- R76 RESUME, re-checking NO_SPARE (R68): failing it, the re-cut stays paused and REFUSAL shows it. DEDUCED (log 38). -/
def State.recutResumeCmd (s : State) : State :=
  match s.eng.recut with
  | none => s
  | some r =>
    let n := s.blanks.length
    if s.get F.ENG_RECUT_STATUS_PHASE ≠ 2 then s
    else if n = 0 ∨ (n < 2 ∧ !s.isSet F.ENG_RECUT_CTRL_ALLOW_SINGLE_BLANK) then s.put F.ENG_RECUT_STATUS_REFUSAL 1
    else
      let s := s.put F.ENG_RECUT_STATUS_PHASE 1
      if r.step = 6 then s.recutStep2 else s.recutNext

/-- R76 ABANDON: a move past step 3 completes its cut first. -/
def State.recutAbandonCmd (s : State) : State :=
  match s.eng.recut with
  | none => s
  | some r =>
    if !s.recutLive then s
    else if r.step = 4 then s.recutMod (fun r => { r with abandonAsked := true })
    else if r.step = 1 ∨ r.step = 2 ∨ r.step = 6 then s.cancelMove.abandonRecut
    else s.abandonRecut

/-- A write of ENG_RECUT_CTRL (R76): ALLOW_SINGLE_BLANK takes bit 3; with several command bits ABANDON comes before RESUME, and RESUME before
PAUSE. DEDUCED (log 37). -/
def State.recutCtrlWrite (s : State) (v : Word) : State :=
  let s := s.put F.ENG_RECUT_CTRL_ALLOW_SINGLE_BLANK (getField v 3 1)
  if bit v.toNat 2 then s.recutAbandonCmd
  else if bit v.toNat 1 then s.recutResumeCmd
  else if bit v.toNat 0 then s.recutPauseCmd
  else s

/-- R76. -/
def execRecutPause (m : Master) (v : Word) (s : State) : Host.Outcome State Fault Refusal :=
  .next (s.hostWrite m A.ENG_RECUT_CTRL v (fun s => s.recutCtrlWrite v))

/-- R76. -/
def execRecutResume (m : Master) (v : Word) (s : State) : Host.Outcome State Fault Refusal :=
  .next (s.hostWrite m A.ENG_RECUT_CTRL v (fun s => s.recutCtrlWrite v))

/-- R76. -/
def execRecutAbandon (m : Master) (v : Word) (s : State) : Host.Outcome State Fault Refusal :=
  .next (s.hostWrite m A.ENG_RECUT_CTRL v (fun s => s.recutCtrlWrite v))

end Sys2Proof.Machine
end

