-- ==== Sys2Proof/Machine/Air.lean ====
section
/-! DEFINITION. The Graticule carried out (R150 to R169): slot edges and superframe boundaries, beacons, service periods, contention, resting,
protection, late frames and the station table. -/

namespace Sys2Proof.Machine

/-! ### Superframe boundaries (R150, R41) -/

/-- R41, R89: the chains that the Legend in force gives radio n come to it as it restarts, and the ones that it loses go; a chain never serves two
radios that wait for their restart. -/
def State.chainsReassign (s : State) (n : Nat) : State :=
  (List.range 16).foldl (fun (s : State) c =>
    let want := min 3 (s.chainRadio c)
    let have_ := s.get (F.CHN_CHAIN_STATUS_RADIO c)
    if have_ = n ∧ want ≠ n then (s.put (F.CHN_CHAIN_STATUS_RADIO c) (if want < 3 ∧ (s.rad want).restart then 3 else want)).chainUnpowered c
    else if want = n ∧ have_ ≠ n ∧ (have_ = 3 ∨ !(s.rad have_).restart) then s.put (F.CHN_CHAIN_STATUS_RADIO c) n
    else s) s

/-- R41: the synthesiser that the Legend in force gives radio n serves it; the one that served it takes over what that one served. DEDUCED (log 33). -/
def State.synthReassign (s : State) (n : Nat) : State :=
  let k := s.legendSynth n
  if s.isSet (F.CHN_SYNTH_STATUS_FENCED k) ∨ s.get (F.CHN_SYNTH_STATUS_SERVES k) = n then s
  else
    let other := s.get (F.CHN_SYNTH_STATUS_SERVES k)
    let s := match s.synthOf n with
      | some o => s.put (F.CHN_SYNTH_STATUS_SERVES o) other
      | none => s
    s.put (F.CHN_SYNTH_STATUS_SERVES k) n

/-- A radio restarts at its boundary (R41). -/
def State.boundaryRestart (s : State) (n : Nat) : State :=
  if (s.rad n).restart then
    let s := ((s.chainsReassign n).synthReassign n).radioRestart n
    let s := if s.radioEnable n ∨ !(s.func n).on then s else s.funcSet n false
    ((List.range 3).foldl (fun (s : State) m => if s.rstate m = rOff then s else s.chainsFollow m) s).xo80Follow
  else s

/-- R41: the superframe length and the template of radio n change. DEDUCED (log 39). -/
def State.boundaryLegend (s : State) (n : Nat) : State :=
  if s.plt.applyLegend.contains n then
    let s := s.takeLegend (0x48 + 2 * n) 2
    { s with plt := { s.plt with tmpl := s.plt.tmpl.set n (templateOf s.plt.legendNew n), applyLegend := s.plt.applyLegend.filter (· != n) } }
  else s

/-- R89: chains that have passed their self-test rejoin. -/
def State.chainsRejoin (s : State) (n : Nat) : State :=
  let l := (List.range 16).filter (fun c => (s.chain c).rejoin && s.get (F.CHN_CHAIN_STATUS_RADIO c) == n)
  if l = [] then s
  else
    let s := l.foldl (fun (s : State) c =>
      (s.put (F.CHN_CHAIN_STATUS_STATE c) 1).chainMod c (fun x => { x with rejoin := false })) s
    (s.chainsFollow n).grMod n (fun g => { g with sounded := [] })

/-- R172 to R174: what happens to the slot table of radio n at superframe boundary `i`, grants before the host's commit. -/
def State.boundaryTables (s : State) (n i : Nat) : State :=
  let s := if (s.gr n).takeBack then s.takeBackNow n else s
  let s := if i % epochSlots = 0 ∧ s.grantsOk n then s.applyGrants n s.epoch else s
  match (s.gr n).commitAt with
  | some t => if t ≤ i * slotNs then s.mergeCommit n else s
  | none => s

/-- The superframe boundary of radio n at slot i. -/
def State.superframe (s : State) (n i : Nat) : State :=
  let s := s.relock
  let s := s.boundaryTables n i
  let s := s.grMod n (fun g => { g with maskIn := s.get (F.RAD_GRT_MLD_MASK_MASK n), served := [] })
  let s : State := { s with tim := { s.tim with tsfOfs := s.tim.tsfOfs.set n (sint 32 (s.rd (A.TB_TSF_OFS n)).toNat) } }
  let s := ((s.boundaryLegend n).boundaryRestart n).chainsRejoin n
  s.captureAll (10 + n) true 0

/-- The words of BSS t's beacon template in the window: its header and its bytes (R157). -/
def State.bcnWindow (s : State) (n t : Nat) : Word × List Byte :=
  let h := s.rd (A.RAD_BCN n (256 * t))
  (h, (wordBytes ((List.range 255).map (fun k => s.rd (A.RAD_BCN n (256 * t + 1 + k))))).take (getField h 0 11))

/-- The BSSs of radio n with a beacon template (R157). -/
def State.beaconing (s : State) (n : Nat) : List Nat :=
  (List.range 16).filter (fun t => getField (s.rd (A.RAD_BCN n (256 * t))) 0 11 != 0)

/-- R152: a slot edge of radio n: at a superframe boundary that boundary's changes, then the new run. Epochs are captured on radio 0's boundary. -/
def State.slotEdge (s : State) (n : Nat) : State :=
  let i := s.slotIndex
  if s.sfSlots n = 0 then s
  else
    let s := if s.position n i = 0 then s.superframe n i else s
    let s := if n = 0 ∧ i % epochSlots = 0 then s.captureAll 14 true 0 else s
    if s.sfSlots n ≠ 0 ∧ s.isEdge n i then
      let r := s.runAt n i
      let s := s.grMod n (fun g => { g with run := some r, polled := false, ctsDone := false, bcnLeft := if r.kind = kBCN then s.beaconing n else [],
                                            bcnTmpl := if r.kind = kBCN then (s.beaconing n).map (fun t => (t, s.bcnWindow n t)) else [] })
      let s := s.radMod n (fun x => { x with adjust := 0, settling := if r.kind = kSTP then x.settling else false })
      s.extRetry
    else s

/-- R152. -/
def execSlotEdge (n : Fin 3) (s : State) : Res := .next (s.slotEdge n)

/-! ### Frames of a run -/

/-- SIFS of a radio in ns: 10 µs at 2.4 GHz, 16 µs above (IEEE 802.11). PRESUMED (log 63). -/
def sifsNs (n : Nat) : Nat := if n = 0 then 10000 else 16000

/-- A transmission of radio n is charged to its duty window (R107). -/
def State.charge (s : State) (n dur : Nat) : State := s.radMod n (fun x => { x with duty := x.duty ++ [(s.tim.now, dur)] })

/-- The form that an exchange's first frame is judged by where the PPDU itself has been judged (R118). -/
def PhyForm.basic : PhyForm := ⟨1, 0, 1, 0, false, 1⟩

/-- R159: a frame may follow the last exchange of radio n: SIFS after its end, or at once in a run that has begun since. -/
def State.spaced (s : State) (n : Nat) : Bool :=
  let e := (s.rad n).exchEnd
  decide (e + sifsNs n ≤ s.tim.now) || decide (e + (s.t0 - ((s.gr n).run.map (fun r => r.first * slotNs)).getD 0) ≤ s.tim.now)

/-- A frame of `dur` ns, the first of an exchange of `total` ns, is judged by R94 for a start at `start` and starts, or not; `some` state in which it started. DEDUCED (log 62). -/
def State.frameStart (s : State) (n start dur total : Nat) (startBy : Option Nat) (k : TxKind) : Option State :=
  if s.stopping 6 then none
  else match s.admissionAt n ⟨0, dur, startBy, k, PhyForm.basic, total - dur⟩ start with
    | .start =>
      let from_ := s.tim.now + (start - s.t0)
      some (((s.charge n dur).setPowers n).radMod n (fun x => { x with airEnd := from_ + dur, exchEnd := from_ + total }))
    | _ => none

/-! ### Beacons (R157) -/

/-- BSS t's template as it stood when the run began: its header and its bytes (R157). -/
def State.template (s : State) (n t : Nat) : Word × List Byte := (((s.gr n).bcnTmpl.find? (fun e => e.1 == t)).map (fun e => e.2)).getD (0#32, [])

/-- Group-addressed frames wait for BSS t of radio n. -/
def State.groupWaits (s : State) (n t : Nat) : Bool := s.que' (32816 + 16 * n + t) != []

/-- The AIDs of BSS t's dozing stations on radio n with frames queued. PRESUMED (log 64). -/
def State.timAids (s : State) (n t : Nat) : List Nat :=
  (s.stations.filter (fun st => s.get (F.STA_W0_BSS st) == t && bit (s.get (F.STA_W0_LINKS st)) n && s.isSet (F.STA_W0_PS st) &&
    (List.range 8).any (fun i => s.que' (8 * st + i) != []))).map (fun st => s.get (F.STA_W0_AID st))

/-- The frame that goes out for BSS t: the Timestamp, the DTIM Count and the bitmap written into the template (R157). PRESUMED (log 64). -/
def State.beaconBytes (s : State) (n t : Nat) : List Byte :=
  let b := (s.template n t).2
  let o := getField (s.template n t).1 11 10
  let b := patch b 24 (leBytes 8 (s.tsf n))
  let count := (s.gr n).dtim.getD t 0
  let len := leAt b (o + 1) 1 - 3
  let aids := s.timAids n t
  let octet (k : Nat) : Byte := BitVec.ofNat 8 ((List.range 8).foldl (fun a i => if aids.contains (8 * k + i) then a + 2 ^ i else a) 0)
  let ctrl : Byte := BitVec.ofNat 8 (b2n (count == 0 && s.groupWaits n t))
  patch (patch b (o + 2) [BitVec.ofNat 8 count]) (o + 4) (ctrl :: (List.range len).map octet)

/-- The DTIM Count of BSS t after a TBTT, by the DTIM Period byte of its template. -/
def State.dtimNext (s : State) (n t : Nat) : State :=
  let o := getField (s.template n t).1 11 10
  let per := leAt (s.template n t).2 (o + 3) 1
  s.grMod n (fun g => { g with dtim := g.dtim.set t (if g.dtim.getD t 0 = 0 then per - 1 else g.dtim.getD t 0 - 1) })

/-- What protects a frame (R376): nothing, a slot as (class, index), or a slot that is wanted and not usable. -/
inductive TxKey where
  | clear
  | slot (c i : Nat)
  | missing
deriving DecidableEq, Repr

/-- R376: the group slot with TX that protects data, or robust management frames and beacons (`bip`), of BSS t of radio n. DEDUCED (log 119). -/
def State.groupTx (s : State) (n t : Nat) (bip : Bool) : Option Nat :=
  (List.range 64).find? (fun j => let k := s.slot 1 j; k.valid && k.tx && k.radio == n && k.bss == t && isBip k.cipher == bip)

/-- R376: BSS t of radio n has a key for data, or for robust management frames (`bip`). -/
def State.groupKeyed (s : State) (n t : Nat) (bip : Bool) : Bool :=
  (List.range 64).any (fun j => let k := s.slot 1 j; k.valid && k.radio == n && k.bss == t && isBip k.cipher == bip)

/-- R376: the BIP slot that protects BSS t's beacons refuses to transmit. -/
def State.beaconRefused (s : State) (n t : Nat) : Bool := ((s.groupTx n t true).map (fun j => !(s.slot 1 j).sends)).getD false

/-- R373, R376: a beacon takes the packet number of the BIP slot that protects it, where BSS t has one. -/
def State.beaconPn (s : State) (n t : Nat) : State :=
  match s.groupTx n t true with
  | some j => s.pnAssigned 1 j
  | none => s

/-- One beacon of a BCN run, to start at `cur`: sent, or not and counted (R157, R164). Answers when the next may start. -/
def State.beaconOne (s : State) (n t dur cur : Nat) : Nat × State :=
  let left (s : State) : State := (s.grMod n (fun g => { g with bcnLeft := g.bcnLeft.filter (· != t) })).dtimNext n t
  if s.usableEnd n < cur + dur then (cur, (left s).bump (A.RAD_GRT_BCN_SKIP n))
  else if !s.mayRadiate ∨ !s.dutyFits n dur then (cur, (left s).bump (A.CHN_REG_DUTY_HIT n))
  else if s.beaconRefused n t then (cur, ((left s).bump A.KEY_TX_REFUSED).bump (A.RAD_GRT_BCN_SKIP n))
  else match s.frameStart n cur dur dur (some cur) .beacon with
    | none => (cur, ((left s).bump (A.CHN_TX_LATE n)).bump (A.RAD_GRT_BCN_SKIP n))
    | some s =>
      let s := s.beaconPn n t
      let s : State := { s with out := .airFrame n (s.beaconBytes n t) :: s.out }
      let s := if (s.gr n).dtim.getD t 0 = 0 ∧ s.groupWaits n t then
          s.grMod n (fun g => { g with groupLeft := if g.groupLeft.contains t then g.groupLeft else g.groupLeft ++ [t] }) else s
      (cur + dur + sifsNs n, left s)

/-- R157: the beacons of a BCN run in ascending BSS order, with their durations in ns. DEDUCED (log 62). -/
def State.beaconRun (s : State) (n : Nat) (durs : List Nat) : State :=
  if s.runKind n ≠ kBCN then s
  else ((((s.gr n).bcnLeft.zip durs)).foldl (fun (a : Nat × State) (e : Nat × Nat) => a.2.beaconOne n e.1 e.2 a.1) (max s.t0 (s.usableStart n), s)).2

/-- R157. -/
def execBeaconRun (n : Fin 3) (durs : List Nat) (s : State) : Res := .next (s.beaconRun n durs)

/-! ### Exchanges (R159, R161) -/

/-- What the links of a station share for queue i, a TID (R168). -/
def State.tidState (s : State) (i : Nat) : TidState := (kvGet s.grt.tids i).getD ⟨0, [], []⟩

/-- The held MPDU that radio n may send as `id`: one its AIR role holds, or one of another link that is not in flight there and whose TID maps to radio n (R168). -/
def State.heldMpdu (s : State) (n id : Nat) : Option (Nat × Nat × Pkt) :=
  s.que.air.find? (fun e => e.2.2.id == id && (e.1 == n ||
    (decide (e.2.1 < 32768) && s.tidMaps n (e.2.1 / 8) (e.2.1 % 8) && decide ((s.rad e.1).exchEnd ≤ s.tim.now))))

/-- R168: an MPDU of queue i has been sent: it has its sequence number from its first transmission on, and one not acknowledged counts a retry. -/
def tidSent (x : TidState) (id : Nat) (acked : Bool) : TidState :=
  let rest := x.sent.filter (fun e => e.1 != id)
  match x.sent.find? (fun e => e.1 == id) with
  | some (_, seq, tries) => { x with sent := if acked then rest else (id, seq, tries + 1) :: rest }
  | none => { x with next := (x.next + 1) % 4096, sent := if acked then rest else (id, x.next, 1) :: rest }

/-- An MPDU goes out on radio n: acknowledged, it is held no longer; not acknowledged, radio n's AIR role holds it and any permitted link may send it again (R168). -/
def State.mpduSent (s : State) (n : Nat) (m : Mpdu) : State :=
  match s.heldMpdu n m.id with
  | none => s
  | some (h, i, p) =>
    let air := if m.acked then s.que.air.erase (h, i, p) else s.que.air.map (fun e => if e == (h, i, p) then (n, i, p) else e)
    let tries := (((s.tidState i).sent.find? (fun e => e.1 == m.id)).map (fun e => e.2.2)).getD 0
    let s := ({ s with que := { s.que with air := air } } : State).stampAsk (4 + n) p.txStamp tries
    if i < 32768 then { s with grt := { s.grt with tids := kvPut s.grt.tids i (some (tidSent (s.tidState i) m.id m.acked)) } } else s

/-- R376: the protection of a packet of queue i that radio n sends. A station or BSS without a key has no protection, but for a management frame that asks for it (R323). DEDUCED
(log 119). -/
def State.txKey (s : State) (n i : Nat) (p : Pkt) : TxKey :=
  if p.mgmt ∧ !p.protect then .clear
  else if i < 32768 then
    let j := s.get (F.STA_W2_KEY (i / 8))
    if !s.isSet (F.STA_W2_KEY_VALID (i / 8)) then (if p.mgmt then .missing else .clear)
    else if (s.slot 0 j).valid ∧ !(s.slot 0 j).fault then .slot 0 j else .missing
  else
    let t := (i - 32816) % 16
    match s.groupTx n t p.mgmt with
    | some j => if (s.slot 1 j).fault then .missing else .slot 1 j
    | none => if p.mgmt ∨ s.groupKeyed n t false then .missing else .clear

/-- R323: a management MPDU goes out for the first time, with its sequence number; that of a group-addressed one is left free. -/
def State.mgmtOut (s : State) (n i : Nat) (p : Pkt) (key : Option (Nat × Nat × Nat)) : State :=
  if !p.mgmt then s
  else if i < 32768 then { s with out := .mgmtFrame n (s.tidState i).next key p.bytes :: s.out }
  else
    let (x, s) := s.freeN
    { s with out := .mgmtFrame n (x % 4096) key p.bytes :: s.out }

/-- R374, R376: an MPDU is returned unsent, with a status, and counted. -/
def State.txRefused (s : State) (n id : Nat) (st : FrameStatus) : State :=
  { s.bump A.KEY_TX_REFUSED with out := .frameStatus n id st :: s.out }

/-- R373, R376: an MPDU to be sent takes its packet number when it is first encrypted; answers whether it may go out. DEDUCED (log 119). -/
def State.mpduKeyed (s : State) (n : Nat) (m : Mpdu) : Bool × State :=
  match s.heldMpdu n m.id with
  | none => (false, s)
  | some (_, i, p) =>
    if i < 32768 ∧ (s.tidState i).sent.any (fun e => e.1 == m.id) then (true, s)
    else match s.txKey n i p with
      | .clear => (true, s.mgmtOut n i p none)
      | .missing => (false, s.txRefused n m.id .noKey)
      | .slot c j =>
        match s.takePn c j with
        | (some pn, t) => (true, t.mgmtOut n i p (some (c, j, pn)))
        | (none, t) => (false, t.txRefused n m.id .pnExhausted)

/-- R373, R376: those of some MPDUs that may go out, each with its packet number. -/
def State.keyed (n : Nat) : List Mpdu → State → List Mpdu × State
  | [], s => ([], s)
  | m :: l, s =>
    let x := s.mpduKeyed n m
    let y := State.keyed n l x.2
    (if x.1 then m :: y.1 else y.1, y.2)

/-- R373, R376: the users of a PPDU with those of their MPDUs that may go out. -/
def State.usersKeyed (n : Nat) : List PpduUser → State → List PpduUser × State
  | [], s => ([], s)
  | u :: l, s =>
    let x := State.keyed n u.mpdus s
    let y := State.usersKeyed n l x.2
    (if u.mpdus ≠ [] ∧ x.1 = [] then y.1 else { u with mpdus := x.1 } :: y.1, y.2)

/-- The MPDUs of a user that have been sent before, as (queue, bytes with MPDU_BYTES). -/
def State.retries (s : State) (n : Nat) (ms : List Mpdu) : List (Nat × Nat) :=
  ms.filterMap fun m =>
    match s.heldMpdu n m.id with
    | some (_, i, p) => if i < 32768 ∧ (s.tidState i).sent.any (fun e => e.1 == m.id) then some (i, p.bytes.length + s.get (F.QSC_RAD_MPDU_BYTES n)) else none
    | none => none

/-- R302: bytes retransmitted are charged again, for one of `u` users. -/
def State.retryCharge (s : State) (n u : Nat) (ms : List Mpdu) : State :=
  match s.retries n ms with
  | [] => s
  | (i, b) :: l =>
    let st := i / 8
    let bytes := b + (l.map (fun e => e.2)).sum
    let c := s.airCharge n st bytes u
    let s := s.wfqCharge (radioRoot n) st c (s.weight (staNode st))
    let s := s.wfqCharge (staNode st) (i % 8) c (s.weight i)
    s.shaperCharge [i, staNode st, radioRoot n] bytes

/-- R166: the rate, MCS, streams and width now in use for a station on radio n. DESIGN CHOICE (log 103). -/
def State.staUsing (s : State) (n width : Nat) (u : PpduUser) : State :=
  if s.staValid u.st then
    let s := (s.put (F.STA_RATE_RATE u.st n) (min u.rate 0xFFFF)).put (F.STA_RATE_MCS u.st n) u.mcs
    (s.put (F.STA_RATE_NSS u.st n) (u.streams - 1)).put (F.STA_RATE_WIDTH u.st n) width
  else s

/-- A PPDU to stations goes out on radio n (R159, R161), with the MPDUs that have a key (R376). -/
def State.ppduSent (s : State) (n : Nat) (p : Ppdu) : State :=
  let (users, s) := State.usersKeyed n p.users s
  let s : State := { s with out := .ppdu n { p with users := users } :: s.out }
  users.foldl (fun (s : State) u =>
    (u.mpdus.foldl (fun (s : State) m => s.mpduSent n m) (s.retryCharge n users.length u.mpdus)).staUsing n p.width u) s

/-- R159: station st has been sounded on radio n within the last 50 ms. -/
def State.soundedLately (s : State) (n st : Nat) : Bool := (s.gr n).sounded.any (fun e => e.1 == st && decide (s.tim.now ≤ e.2 + 50000000))

/-- R118, R119, R159: radio n may send this PPDU: every user's form is one it knows and fits its chains and channel; the users of one resource unit share the chains, 8 at most, and where
they are several, can be grouped and have been sounded; the resource units are there; the MPDUs are held. -/
def State.ppduOk (s : State) (n : Nat) (p : Ppdu) (sounded : List Nat) : Bool :=
  let chains := s.get (F.CHN_RADIO_STATE_CHAINS n)
  let rus := (p.users.map (fun u => u.ru)).eraseDups
  let share (r : Nat) : List PpduUser := p.users.filter (fun u => u.ru == r)
  p.width ≤ ((s.rad n).chan.map (fun c => c.width)).getD 0 && rus.length ≤ ruCount p.width && (4 ≤ p.format || rus.length ≤ 1) &&
    (3 ≤ p.format || p.users.length ≤ 1) &&
    p.users.all (fun u => formOk n ⟨p.format, u.mcs, u.streams, p.width, p.punctured, u.mpdus.length⟩ && 1 ≤ u.streams &&
      u.mpdus.all (fun m => (s.heldMpdu n m.id).isSome)) &&
    rus.all (fun r => ((share r).map (fun u => u.streams)).sum ≤ chains && (share r).length ≤ min chains 8 &&
      ((share r).length ≤ 1 || (share r).all (fun u => s.isSet (F.STA_W3_MU_MIMO u.st) && (sounded.contains u.st || s.soundedLately n u.st))))

/-- An exchange of `total` ns beginning with a PPDU of `dur` ns, in a run of a kind, if it may start and ends in time. -/
def State.exchange (s : State) (n kind dur total : Nat) (k : TxKind) : Option State :=
  if s.runKind n ≠ kind ∨ !s.spaced n ∨ 5484000 < dur ∨ total < dur then none
  else s.frameStart n s.t0 dur total (if kind = kCTN then none else some s.t0) k

/-- R159: a downlink exchange; stations sounded in it are noted. -/
def State.dlsExchange (s : State) (n dur total : Nat) (p : Ppdu) (sounded : List Nat) : State :=
  if !s.ppduOk n p sounded then s
  else match s.exchange n kDLS dur total .dls with
    | none => s
    | some s => (s.ppduSent n p).grMod n (fun g =>
        { g with sounded := sounded.map (fun st => (st, s.tim.now)) ++ g.sounded.filter (fun e => !sounded.contains e.1) })

/-- R159. -/
def execDlsExchange (n : Fin 3) (dur total : Nat) (p : Ppdu) (sounded : List Nat) (s : State) : Res := .next (s.dlsExchange n dur total p sounded)

/-- The MPDUs left after the last ones, in reverse order, have been dropped to save `ns`. -/
def dropLast : Nat → List Mpdu → List Mpdu
  | 0, l => l
  | _, [] => []
  | ns, m :: l => dropLast (ns - m.ns) l

/-- R161: the A-MPDU of each user shortened by `ns`. -/
def shortenPpdu (p : Ppdu) (ns : Nat) : Ppdu := { p with users := p.users.map (fun u => { u with mpdus := (dropLast ns u.mpdus.reverse).reverse }) }

/-- The longest A-MPDU airtime among the users. -/
def ppduAirNs (p : Ppdu) : Nat := p.users.foldl (fun a u => max a ((u.mpdus.map (fun m => m.ns)).sum)) 0

/-- R161: contention won for an exchange, its A-MPDU shortened to end in time; one in which no MPDU fits is not begun. DESIGN CHOICE (log 65). -/
def State.contend (s : State) (n dur total : Nat) (p : Ppdu) : State :=
  let q := shortenPpdu p (s.t0 + total - s.usableEnd n)
  let saved := ppduAirNs p - ppduAirNs q
  if !s.mediumFree n ∨ !s.ppduOk n q [] ∨ 1 < q.users.length ∨ q.users.any (fun u => u.mpdus == []) then s
  else match s.exchange n kCTN (dur - saved) (total - saved) .contention with
    | some s => s.ppduSent n q
    | none => s

/-- R161. -/
def execCtnContend (n : Fin 3) (dur total : Nat) (p : Ppdu) (s : State) : Res := .next (s.contend n dur total p)

/-! ### Trigger rounds (R160) -/

/-- R158: station st is eligible in the ULT run of radio n. -/
def State.ulEligible (s : State) (n : Nat) (r : Run) (st : Nat) : Bool :=
  bit (s.get (F.STA_W0_LINKS st)) n && s.isSet (F.STA_W3_UL_OFDMA st) && (List.range 8).any (fun t => s.tidMaps n st t) &&
    !s.claimedAway n st && !s.alignedAway n st && s.get (F.STA_W0_SPID st) == r.spid && (r.spid != 0 || !s.isSet (F.STA_W0_PS st))

/-- R158: the stations that the limit of a superframe lets radio n serve, of a list, and how many it turns away. -/
def State.schedLimit (s : State) (n : Nat) (l : List Nat) : List Nat × Nat :=
  let mx := s.get (F.RAD_GRT_CTRL_SCHED_MAX n)
  l.foldl (fun (a : List Nat × Nat) st =>
    let fresh := (a.1.filter (fun x => !(s.gr n).served.contains x)).length
    if (s.gr n).served.contains st ∨ (s.gr n).served.length + fresh < mx then (a.1 ++ [st], a.2) else (a.1, a.2 + 1)) ([], 0)

/-- Station st's report is older than one superframe of radio n. -/
def State.reportOld (s : State) (n st : Nat) : Bool :=
  match s.grt.ulAt.find? (fun e => e.1 == st) with
  | some e => decide (e.2 + s.superframeTu n * 1024000 < s.tim.now)
  | none => true

/-- Station st has reported `kib` KiB of uplink buffer. -/
def State.ulReport (s : State) (st kib : Nat) : State :=
  let s := s.put (F.STA_W7_UL_BUF st) (min kib 255)
  { s with grt := { s.grt with ulAt := (st, s.tim.now) :: s.grt.ulAt.filter (fun e => e.1 != st) } }

/-- Station st has sent nothing in its RU: counted, and its report dropped after four in a row (R160). -/
def State.ulMiss (s : State) (n st : Nat) : State :=
  let k := (((s.gr n).misses.find? (fun e => e.1 == st)).map (fun e => e.2)).getD 0 + 1
  let s := (s.bump (A.RAD_GRT_UL_MISS n)).grMod n (fun g => { g with misses := (st, k % 4) :: g.misses.filter (fun e => e.1 != st) })
  if k = 4 then s.put (F.STA_W7_UL_BUF st) 0 else s

/-- R160: the kind of the next round and its stations: a buffer status poll first where reports are old, then Basic Trigger rounds. -/
def State.ulPlan (s : State) (n : Nat) (r : Run) : Bool × List Nat :=
  let elig := (List.range 4096).filter (fun st => s.staValid st && s.ulEligible n r st)
  let old := elig.filter (fun st => s.reportOld n st)
  if s.isSet (F.RAD_GRT_CTRL_BSRP_EN n) ∧ !(s.gr n).polled ∧ old ≠ [] then (true, old)
  else
    let l := elig.filter (fun st => 0 < s.get (F.STA_W7_UL_BUF st))
    let last := (s.gr n).lastUlt
    (false, l.filter (fun st => last < st) ++ l.filter (fun st => st ≤ last))

/-- R160: the length of the TB PPDUs of a round: the least of 5,484 µs, what the largest buffer needs, and what the run leaves once the BlockAck is allowed for. -/
def State.tbNs (s : State) (n : Nat) (x : UltTimes) : Nat :=
  min (min 5484000 x.need) (s.usableEnd n - (s.t0 + x.trig + 2 * sifsNs n + x.ack))

/-- R160: the stations of a round that have answered, and those that have not. -/
def State.ultAnswers (s : State) (n : Nat) (l : List Nat) (answers : List (Nat × Nat)) : State :=
  l.foldl (fun (s : State) st =>
    match answers.find? (fun e => e.1 == st) with
    | some e => (s.ulReport st e.2).grMod n (fun g => { g with misses := g.misses.filter (fun x => x.1 != st) })
    | none => s.ulMiss n st) s

/-- R160: a trigger round; `answers`: the stations that sent something in their RU, with the buffer they report. Random-access units take what the round's stations leave of the resource
units. PRESUMED (log 63). -/
def State.ultRound (s : State) (n : Nat) (x : UltTimes) (answers : List (Nat × Nat)) : State :=
  match (s.gr n).run with
  | none => s
  | some r =>
    let plan := s.ulPlan n r
    let lim := s.schedLimit n plan.2
    let rus := ruCount (((s.rad n).chan.map (fun c => c.width)).getD 0)
    let l := lim.1.take rus
    let ra := min (s.get (F.RAD_GRT_CTRL_RA_RU n)) (rus - l.length)
    let len := s.tbNs n x
    if r.kind ≠ kULT ∨ !s.spaced n ∨ len = 0 then s
    else if l = [] ∧ ra = 0 then s.count (A.RAD_GRT_SCHED_FULL n) lim.2
    else match (s.count (A.RAD_GRT_SCHED_FULL n) lim.2).frameStart n s.t0 x.trig (x.trig + len + 2 * sifsNs n + x.ack) (some s.t0) .trigger with
      | none => s
      | some s =>
        let s := ({ s with out := .trigger n plan.1 l ra len :: s.out } : State).ultAnswers n l answers
        s.grMod n (fun g =>
          { g with polled := true, lastUlt := if plan.1 then g.lastUlt else l.getLast?.getD g.lastUlt,
                   served := l.foldl (fun a st => if a.contains st then a else st :: a) g.served })

/-- R160. -/
def execUltRound (n : Fin 3) (times : UltTimes) (answers : List (Nat × Nat)) (s : State) : Res := .next (s.ultRound n times answers)

/-! ### Resting (R162) -/

/-- Entry time plus return lead in ns of a REST code, XO80 held running or not (R162). -/
def restNs (rest : Nat) (xo : Bool) : Nat :=
  match rest with
  | 0 => 0
  | 1 => 2500
  | 2 => 63500
  | _ => if xo then 69500 else 1664500

/-- The deepest state that fits (R162). -/
def restDepth (rest room : Nat) (xo : Bool) : Nat := ((List.range (rest + 1)).filter (fun d => restNs d xo ≤ room)).getLast?.getD 0

/-- R162: radio n rests in a quiet run; `xo`: XO80 is held running for the whole run. -/
def State.restEnter (s : State) (n : Nat) (xo : Bool) : State :=
  match (s.gr n).run with
  | none => s
  | some r =>
    if (r.kind ≠ kQUI ∧ r.kind ≠ kINS) ∨ s.rstate n < rSynthOn ∨ (s.rad n).tx.isSome then s
    else
      let depth := restDepth r.rest (r.len * slotNs - (r.guard + s.guardNs n)) xo
      let s := s.grMod n (fun g => { g with resting := if depth = 0 then none else some r.first })
      match depth with
      | 0 => s.setRadio n rRx
      | 1 => (s.rxAbort n).setRadio n rSynthOn
      | 2 => ((s.rxAbort n).synthLock n false).setRadio n rStandby
      | _ => (((s.rxAbort n).synthLock n false).setRadio n rSleep).xo80Follow

/-- R162. -/
def execRestEnter (n : Fin 3) (xo : Bool) (s : State) : Res := .next (s.restEnter n xo)

/-- R162: radio n comes back to RX from the rest of a run that is over. -/
def State.restLeave (s : State) (n : Nat) : State :=
  match (s.gr n).resting, (s.gr n).run with
  | some f, some r =>
    if r.first = f then s
    else
      let s := s.grMod n (fun g => { g with resting := none })
      if s.rstate n = rSleep ∨ s.rstate n = rStandby then ((s.synthLock n true).setRadio n rRx).xo80Follow
      else if s.rstate n = rSynthOn then s.setRadio n rRx
      else s
  | _, _ => s

/-! ### Protection (R163) and late frames (R164) -/

/-- The kinds of the quiet stretch after the run in progress, as the slot table gives them (R156). -/
def State.stretchAfter (s : State) (n : Nat) (r : Run) : List Nat :=
  let p := s.position n (r.first + r.len)
  ((List.range (s.sfSlots n - p)).map (fun d => slotKind (s.slotEntry n (p + d)))).takeWhile (fun k => !activeKind k)

/-- R163: the stretch after this run is to be protected. DESIGN CHOICE (log 65). -/
def State.protects (s : State) (n : Nat) (r : Run) : Bool :=
  s.isSet (F.RAD_GRT_CTRL_PROTECT_EN n) && activeKind r.kind && s.stations.any (fun st => bit (s.get (F.STA_W0_LINKS st)) n) &&
    (r.first + r.len) % s.sfSlots n != 0 && (s.stretchAfter n r).any (fun k => k == 5 || k == kSTP || k == kINS)

/-- R163: the CTS-to-self of `dur` ns goes out, its duration reaching from its end to the stretch end plus G, or is missed; `idle`: the medium has been
idle for PIFS. It is the last transmission of the run. DESIGN CHOICE (log 65). -/
def State.ctsToSelf (s : State) (n dur : Nat) (idle : Bool) : State :=
  match (s.gr n).run with
  | none => s
  | some r =>
    if !s.protects n r ∨ (s.gr n).ctsDone then s
    else
      let miss (s : State) : State := s.bump (A.RAD_GRT_PROTECT_MISS n)
      if s.usableEnd n < s.t0 + dur ∨ (r.kind = kCTN ∧ (!idle ∨ !s.mediumFree n)) then miss s
      else match s.frameStart n s.t0 dur dur (if r.kind = kCTN then none else some s.t0) .cts with
        | none => miss s
        | some s =>
          let stop := r.endNs + (s.stretchAfter n r).length * slotNs + s.guardNs n
          ({ s with out := .cts n (ceilDiv (stop - (s.t0 + dur)) 1000) :: s.out } : State).grMod n (fun g => { g with ctsDone := true })

/-- R163. -/
def execCtsToSelf (n : Fin 3) (dur : Nat) (idle : Bool) (s : State) : Res := .next (s.ctsToSelf n dur idle)

/-- The MPDUs of radio n named go back to the heads of their queues in their order (R164). -/
def State.requeue (s : State) (n : Nat) (ids : List Nat) : State :=
  let mine (e : Nat × Nat × Pkt) : Bool := e.1 == n && ids.contains e.2.2.id
  let l := s.que.air.filter mine
  let s : State := { s with que := { s.que with air := s.que.air.filter (fun e => !mine e) } }
  let s := l.reverse.foldl (fun (s : State) e => s.setQue e.2.1 (e.2.2 :: s.que' e.2.1)) s
  s.count (A.RAD_GRT_LATE_REQUEUE n) l.length

/-- R164: the beacons named that are still to go out are not sent in this superframe. -/
def State.beaconsLate (s : State) (n : Nat) (l : List Nat) : State :=
  ((s.gr n).bcnLeft.filter (fun t => l.contains t)).foldl (fun (s : State) t =>
    ((s.grMod n (fun g => { g with bcnLeft := g.bcnLeft.filter (· != t) })).dtimNext n t).bump (A.RAD_GRT_BCN_SKIP n)) s

/-- R219: a set or step of TB0 has ended radio n's run: the scheduled frames it held and its beacons come back LATE. -/
def State.runEnds (s : State) (n : Nat) : State :=
  let l := (s.rad n).held.filter (fun r => r.startBy.isSome)
  let s := s.radMod n (fun x => { x with held := x.held.filter (fun r => r.startBy.isNone) })
  let s := s.put (F.CHN_RADIO_STATE_HOLD n) (b2n ((s.rad n).held != []))
  let s := l.foldl (fun (s : State) r => (s.bump (A.CHN_TX_LATE n)).status n r.tag .late) s
  (s.count (A.CHN_TX_LATE n) (s.gr n).bcnLeft.length).beaconsLate n (s.gr n).bcnLeft

/-- R219: time has passed from `s` to `t`; a jump of TB0 that fell due has ended the runs. -/
def State.jumped (s t : State) : State := if s.jumps 0 && !t.jumps 0 then ((t.runEnds 0).runEnds 1).runEnds 2 else t

/-- R164: what the AIR role does with a frame returned LATE. -/
def State.lateFrame (s : State) (n : Nat) (k : TxKind) (ids : List Nat) : State :=
  match k with
  | .dls | .stp => s.requeue n ids
  | .trigger | .contention => s
  | .beacon => s.beaconsLate n ids
  | .cts => s.bump (A.RAD_GRT_PROTECT_MISS n)

/-- R164. -/
def execLateFrame (n : Fin 3) (k : TxKind) (ids : List Nat) (s : State) : Res := .next (s.lateFrame n k ids)

/-! ### The station table (R166 to R169) -/

/-- R167: a valid word 0 for station st is refused. -/
def State.stationBad (s : State) (st : Nat) (v : Word) : Bool :=
  let links := getField v 1 3
  let bss := getField v 4 4
  let aid := getField v 8 11
  let on := (List.range 3).filter (fun n => bit links n)
  let others := s.stations.filter (· != st)
  aid == 0 || decide (2006 < aid) || on == [] || on.any (fun n => !s.radioEnable n) ||
    others.any (fun o => s.get (F.STA_W0_BSS o) == bss && s.get (F.STA_W0_AID o) == aid && (s.get (F.STA_W0_LINKS o) &&& links) != 0) ||
    on.any (fun n => decide (2006 ≤ (others.filter (fun o => bit (s.get (F.STA_W0_LINKS o)) n)).length)) ||
    (getField v 19 1 == 1 && decide (2 ≤ on.length) && on.any (fun n => !bit (s.gr n).maskIn bss))

/-- R167, R304, R287: a write of word 0 installs, changes or removes a station. PS belongs to the device. DEDUCED (log 67). -/
def State.stationWrite (s : State) (st : Nat) (v : Word) : State :=
  let links := getField v 1 3
  let was := s.staValid st
  let oldHome := s.homeOf (s.get (F.STA_W0_LINKS st))
  if getField v 0 1 = 1 ∧ s.stationBad st v then s.bump (A.RAD_GRT_STA_REJECT (((List.range 3).find? (fun n => bit links n)).getD 0))
  else
    let w := setField (setField v 21 1 (s.get (F.STA_W0_PS st))) 30 2 0
    let s := s.wr (A.STA_W0 st) w
    if getField v 0 1 = 0 then
      (if was ∧ !s.que.flushing.contains st then
        let s : State := { s with que := { s.que with flushing := s.que.flushing ++ [st] } }
        (s.put F.QSC_FLUSH_STATUS_STATION (s.que.flushing.headD st)).put F.QSC_FLUSH_STATUS_BUSY 1
      else s)
    else if was ∧ s.homeOf links ≠ oldHome ∧ !s.que.moving.contains st then
      { s with que := { s.que with moving := s.que.moving ++ [st] } }
    else s

/-- R167. -/
def execStationWord0Write (m : Master) (st : Fin 4096) (v : Word) (s : State) : Res :=
  .next (s.hostWrite m (A.STA_W0 st) v (fun s => s.stationWrite st v))

/-- The transition delay of an EMLSR station in ns (R166). -/
def emlsrTransNs (c : Nat) : Nat := [0, 16000, 32000, 64000, 128000, 256000].getD c 0

/-- The padding of an EMLSR station's initial control frame in ns (R166). -/
def emlsrPadNs (c : Nat) : Nat := [0, 32000, 64000, 128000, 256000].getD c 0

/-- The kind of frame that begins an exchange in a run of a kind. -/
def frameKind (k : Nat) : TxKind := if k = kULT then .trigger else if k = kCTN then .contention else .dls

/-- R169: radio n claims an EMLSR station for an exchange of `dur` ns by an MU-RTS trigger with the station's padding; of two claims in one cycle the higher-numbered radio's holds.
DEDUCED (log 67). -/
def State.emlsrClaim (s : State) (n st dur : Nat) (collide : Bool) : State :=
  let held := s.grt.claims.find? (fun c => c.1 == st && decide (s.tim.now < c.2.2))
  let free : Bool := match held with
    | none => true
    | some c => c.2.1 == n || (collide && decide (c.2.1 < n))
  if s.staValid st ∧ s.isSet (F.STA_W0_EMLSR st) ∧ bit (s.get (F.STA_W0_LINKS st)) n ∧ free ∧ !s.stopping 6 then
    let pad := emlsrPadNs (s.get (F.STA_W3_EMLSR_PAD st))
    let stop := s.tim.now + dur + emlsrTransNs (s.get (F.STA_W3_EMLSR_TRANS st))
    match s.frameStart n s.t0 pad pad (if s.runKind n = kCTN then none else some s.t0) (frameKind (s.runKind n)) with
    | none => s
    | some s => { s with out := .muRts n st pad :: s.out, grt := { s.grt with claims := (st, n, stop) :: s.grt.claims.filter (fun c => c.1 != st) } }
  else s

/-- R169. -/
def execEmlsrClaim (n : Fin 3) (st : Fin 4096) (dur : Nat) (collide : Bool) (s : State) : Res := .next (s.emlsrClaim n st dur collide)

end Sys2Proof.Machine
end

