-- ==== Sys2Proof/Machine/EngineRows.lean ====
section
/-! DEFINITION. The commands of chapter "Engines, roles, blanks and the re-cut": tokens, engine faults, take-overs and self-tests. -/

namespace Sys2Proof.Machine

/-! ### Tokens (R45 to R59) -/

/-- R56: a producer offers a token to role code r + 1. -/
def execTokenEnqueue (r : Fin 12) (t : TokenIn) (s : State) : Res :=
  .next (s.offer (r + 1) ⟨none, t.source % 68, t.hash, t.timer, 0, t.body, none, false⟩)

/-- R45. -/
def execTokenIssue (e : Fin 14) (s : State) : Res := .next (s.issue e)

/-- R49: a token waits at an engine whose clock has stopped: the clock restarts, and the engine issues the token 2 cycles later. -/
def State.wakeEngine (s : State) (e : Nat) : State :=
  if s.estate e = eServing ∧ s.isSet (F.ENG_STATUS_IDLE e) ∧ (s.role (s.erole e)).queue ≠ [] then
    let s : State := { s with pwr := { s.pwr with idle := false } }
    (s.put (F.ENG_STATUS_IDLE e) 0).issue e
  else s

/-- R49. -/
def execEngineWake (e : Fin 14) (s : State) : Res := .next (s.wakeEngine e)

/-- R49: a serving engine with no token in flight and none waiting, or a blank, stops its clock. -/
def State.stopClock (s : State) (e : Nat) : State :=
  if s.estate e = eBlank ∨ (s.estate e = eServing ∧ (s.role (s.erole e)).queue = []) then s.put (F.ENG_STATUS_IDLE e) 1 else s

/-- R49. -/
def execEngineClockStop (e : Fin 14) (s : State) : Res := .next (s.stopClock e)

/-- R48, R57: the oldest token in flight on engine e retires; a role structure keeps within 32 lines. -/
def execTokenRetire (e : Fin 14) (writes : List (Nat × BitVec 512)) (effects : List (List Byte)) (s : State) : Res :=
  .next (if s.estate e = eServing ∧ writes.length ≤ 32 then s.commit e (s.erole e) writes effects else s)

/-! ### Compare and scrub (R57, R345, R346) -/

/-- A correctable error of an on-chip memory is counted and its place kept (R338, R347). `ctr` is the memory's CE counter. -/
def State.memCe (s : State) (ctr : Nat) (loc : Word) : State := (s.bump ctr).wr A.ENG_MEM_LAST_CE_LOC loc

/-- An uncorrectable error of an on-chip memory is counted and its place kept (R346). `ctr` is the memory's UE counter. -/
def State.memUe (s : State) (ctr : Nat) (loc : Word) (word record : Nat) : State :=
  ((s.bump ctr).wr A.ENG_MEM_LAST_UE_LOC loc).wr A.ENG_MEM_LAST_UE_ADDR (fieldWord 0 13 word ||| fieldWord 16 16 record)

/-- The compare writer reads line `i` of engine e and the ledger's line, whose correctable error counts (R345); an uncommitted write can be buffered for it only while a token of the role is in flight (R57). DESIGN CHOICE (log 40). A line of scratchpad n has words 8 × (line in the bank) on. -/
def State.compareLine (s : State) (e i : Nat) (r : LineRead) (side : LedgerSide) : State :=
  let n := i / 1024
  let loc := s.engLoc e n
  let c := s.erole e
  let kept := s.estate e = eServing ∧ s.counterproof
  let buffered := side.buffered && s.inFlight c != []
  let s := if side.corrected ∧ c ≠ 0 then s.memCe A.ENG_MEM_CE_LDG (s.loc .eng 15 (16 * (c - 1) + n)) else s
  let compare (s : State) (v : BitVec 512) : State :=
    if !kept ∨ buffered then s
    else if (s.role c).badLines.contains i then
      s.roleMod c (fun x => { x with ledger := spWrite x.ledger i v, badLines := x.badLines.filter (· != i) })
    else if v = spLine (s.role c).ledger i then s
    else s.engineFault e 7 n
  match r with
  | .clean v => compare s v
  | .corrected v => compare ((s.memCe A.ENG_MEM_CE_SP loc).engMod e (fun x => { x with sp := spWrite x.sp i v })) v
  | .uncorrectable =>
    let s := s.memUe A.ENG_MEM_UE_SP loc (i % 1024 * 8) 0
    if kept ∧ !buffered ∧ !(s.role c).badLines.contains i then
      (s.engMod e (fun x => { x with sp := spWrite x.sp i (spLine (s.role c).ledger i) })).faultNow .onChip 0 0 loc 0
    else s.engineFault e 1 n

/-- R57 step 4, R345, R346. -/
def execLedgerCompare (e : Fin 14) (line : Fin 16384) (r : LineRead) (side : LedgerSide) (s : State) : Res :=
  .next (if s.estate e = eFenced then s else s.compareLine e line r side)

/-! ### Engine faults (R61 to R67) -/

/-- R61: the cause and unit of a failed check; an uncorrectable pipeline read is counted as a scratchpad error (R346). -/
def State.checkFail (s : State) (e : Nat) (k : EngCheck) : State :=
  match k with
  | .scratchpad n w => (s.memUe A.ENG_MEM_UE_SP (s.engLoc e n) w 0).engineFault e 1 n
  | .stageTable n => s.engineFault e 2 (0x10 + n)
  | .residue n => s.engineFault e 3 (0x10 + n)
  | .clock => s.engineFault e 5 0x20

/-- R61. -/
def execEngineCheckFail (e : Fin 14) (c : EngCheck) (s : State) : Res := .next (s.checkFail e c)

/-- R61 cause 4: a token is in flight and none has retired for 4,096 cycles. -/
def execEngineWatchdog (e : Fin 14) (s : State) : Res :=
  .next (if s.estate e = eServing ∧ s.inFlight (s.erole e) ≠ [] then s.engineFault e 4 0x20 else s)

/-- R64 steps 4 to 6, R60, R65: the role lands on its new engine with the ledger's state, or zeroed where there is none. A line lost to an
uncorrectable ledger error loads as zero and sets STATE_LOST, and a load waits for a page of the body that is being read again (R346). -/
def State.cutOver (s : State) : State :=
  match s.eng.running with
  | none => s
  | some (t, e) =>
    let c := t.role
    if s.pageBad c then s else
    let r := s.role c
    let image := if t.kind = .restore ∨ !s.counterproof then [] else r.badLines.foldl (fun l i => spWrite l i 0#512) r.ledger
    let lost := t.kind ≠ .restore ∧ (!s.counterproof ∨ r.badLines ≠ [])
    let s : State := { s with eng := { s.eng with running := none } }
    let s := (s.engMod e (fun x => { x with sp := image })).roleMod c (fun x =>
      { x with ledger := if s.counterproof then image else [], badLines := [], stopped := false })
    let s := if t.kind ≠ .restore ∧ !s.counterproof then s.roleLost c else s
    let s := if t.kind = .into then s.roleMoved.recutMod (fun x => { x with step := 0 }) else s
    let s := s.setEngine e eServing c (s.bodyFlag c)
    let s := (s.put (F.ENG_ROLE_AT_ENGINE (c - 1)) e).put (F.ENG_ROLE_AT_MOVING (c - 1)) 0
    let s :=
      if t.kind = .restore then
        let s := (s.role c).shedEntries.foldl (fun (s : State) k => s.putEntryRole (k / 512) (k % 512) (c - 5)) s
        (s.roleMod c (fun x => { x with shedEntries := [], counter := 0 })).put (F.ENG_ROLE_AT_SHED (c - 1)) 0
      else
        let ns := s.tim.now - t.fencedAt
        let s := s.letGo t.old
        let s := s.wr A.ENG_LAST_TAKEOVER (fieldWord 0 16 (min (ceilDiv ns 10) 0xFFFF) ||| fieldWord 16 8 c ||| fieldWord 24 1 (b2n lost))
        let s := s.bump A.ENG_TAKEOVER_COUNT
        let s := s.faultUpdate (s.engine t.old).loc (if lost ∨ s.eng.degraded ∨ 5 < t.cause then 1 else 0) (ceilDiv ns 1000)
        if s.eng.degraded then s.engDone t.old else s
    let s := (s.nextMoveTk s.eng.waiting.length).engSync
    if t.kind = .into then s.recutNext else s

/-- R64. DESIGN CHOICE (log 13). -/
def execTakeoverLoadDone (s : State) : Res := .next s.cutOver

/-! ### Self-tests (R74) -/

/-- R74: the SUP role starts the self-test asked for, by a fence or by the host. -/
def execEngineSelftestStart (e : Fin 14) (s : State) : Res :=
  .next (if s.estate e = eFenced ∧ (s.engine e).testAsked then
      (s.engMod e (fun x => { x with testAsked := false })).setEngine e eTest 0 0
    else s)

/-- R74: a write naming an engine that is not fenced is ignored. -/
def State.engReinstateWrite (s : State) (v : Word) : State :=
  let e := getField v 0 4
  if e < 14 ∧ s.estate e = eFenced then s.engMod e (fun x => { x with testAsked := true }) else s

/-- R74. -/
def execEngReinstate (m : Master) (v : Word) (s : State) : Res :=
  .next (s.hostWrite m A.ENG_REINSTATE v (fun s => s.engReinstateWrite v))

/-- R74, R444: on a pass the engine is cleared and returns as a blank; on a fail, or after a fault during the test, it stays fenced with cause 6 at the
first failing unit, or the unit of that fault. Either ends the handling of the fault that fenced it. DEDUCED (log 38). -/
def State.engineTested (s : State) (e : Nat) (failing : Option Nat) : State :=
  if s.estate e ≠ eTest then s
  else if failing.isSome ∨ (s.engine e).testFailed.isSome then
    let s := (s.put (F.ENG_STATUS_FENCE_CAUSE e) 6).setEngine e eFenced 0 0
    let s := s.wr A.ENG_LAST_TAKEOVER_LOC (s.engLoc e (failing.getD ((s.engine e).testFailed.getD 0x20)))
    (s.engDone e).engMod e (fun x => { x with testFailed := none })
  else
    let s := (s.engDone e).engMod e (fun x => { x with sp := [] })
    (s.setEngine e eBlank 0 0).blankFree

/-- R74. -/
def execEngineSelftestEnd (e : Fin 14) (failing : Option (Fin 64)) (s : State) : Res :=
  .next (s.engineTested e (failing.map (fun x => x.val)))

end Sys2Proof.Machine
end

