-- ==== Sys2Proof/Machine/Memory.lean ====
section
/-! DEFINITION. On-chip memory errors and the DDR5 controller (R338 to R347, R353, R357 to R364), with their commands. -/

namespace Sys2Proof.Machine

/-! ### On-chip errors (R345, R346) -/

/-- An uncorrectable error of a memory: `ctr` its UE counter, its location, word and record. -/
def State.ueAt (s : State) (ctr : Nat) (loc : Word) (word rcd : Nat) (outcome : Nat) : State :=
  (s.memUe ctr loc word rcd).faultNow .onChip outcome 0 loc 0

/-- R346: a second error in a cell bank (R340) within 1 s fences the bank. -/
def State.cellBank (s : State) (bank : Nat) : State :=
  let now := s.tim.now
  let again : Bool := match kvGet s.mem.cellErr bank with
    | some t => decide (now < t + nsPerS)
    | none => false
  let s : State := { s with mem := { s.mem with cellErr := kvPut s.mem.cellErr bank (some now) } }
  if again ∧ 148 ≤ bank ∧ !s.mem.fenced.contains bank then
    let s : State := { s with mem := { s.mem with fenced := bank :: s.mem.fenced } }
    (s.put F.QSC_BUF_TOTAL_CELLS (s.get F.QSC_BUF_TOTAL_CELLS - 256)).raise F.ENG_MEM_STATUS_PB_FENCE
  else s

/-- R346: a record is reset: WEIGHT, LIMIT, SHAPER and SPILL take their reset values; what the rule does not name is left free. DEDUCED (log 94). -/
def State.recordReset (s : State) (i : Nat) : State :=
  let s := if 40960 ≤ i then
      let (r, s) := s.freeW
      let (b, s) := s.freeN
      let (t, s) := s.freeInt
      let s := (s.wr (A.QREC_W0 i) r).wr (A.QREC_W1 i) (BitVec.ofNat 32 (b % 2 ^ 24))
      s.setShaper (i - 40960) ⟨r.toNat, b % 2 ^ 24, true, t, s.usClock⟩
    else
      let (x, s) := s.freeB
      let w0 := resetWord (A.QREC_W0 i)
      ((s.wr (A.QREC_W0 i) (setField w0 13 1 (b2n x))).wr (A.QREC_W1 i) (resetWord (A.QREC_W1 i))).wr (A.QREC_W2 i) (BitVec.ofNat 32 (pktBytes (s.que' i)))
  (s.bump A.ENG_MEM_RECORD_RESET).raise F.ENG_MEM_STATUS_RECORD_RESET

/-- MEMORY_UE: an uncorrectable read, by where it lies (R346). DEDUCED (log 94). -/
def State.memoryUe (s : State) (p : MemPlace) (bank word : Nat) : State :=
  let pb := s.loc .pkt 4 bank
  match p with
  | .plateCache page role =>
    let s := s.ueAt A.ENG_MEM_UE_PCA (s.loc .eng 14 (page.val % 128)) word 0 0
    if s.plt.badPages.any (fun b => b.1 == page.val) then s else { s with plt := { s.plt with badPages := (page.val, role.val) :: s.plt.badPages } }
  | .ledger r line =>
    let s := s.ueAt A.ENG_MEM_UE_LDG (s.loc .eng 15 (16 * r.val + line.val / 1024)) (line.val % 1024 * 8 + word % 8) 0 0
    s.roleMod (r.val + 1) (fun x => if x.badLines.contains line.val then x else { x with badLines := line.val :: x.badLines })
  | .cell q k =>
    let s := (s.ueAt A.ENG_MEM_UE_PB pb word 0 1).cellBank bank
    { s with que := { s.que with qs := s.que.qs.map (fun e => if e.1 = q.val then (e.1, modAt e.2 k (fun x => { x with bad := true })) else e) } }
  | .queueEntry r k =>
    let t := (s.role (r.val + 1)).queue[k]?
    let s := s.ueAt A.ENG_MEM_UE_PB pb word 0 1
    (match t with
    | none => s
    | some t =>
      let s := (s.roleMod (r.val + 1) (fun x => { x with queue := x.queue.eraseIdx k })).bump A.ENG_MEM_TOKEN_LOST
      match t.pkt with
      | some id => s.pktDrop id
      | none => s)
  | .flowCache set way =>
    let s := s.ueAt A.ENG_MEM_UE_PB pb word 0 (if s.cacheOnly then 1 else 0)
    { s with path := { s.path with cache := kvWrite (fun _ => []) s.path.cache set.val ((kvRead (fun _ => []) s.path.cache set.val).eraseIdx way.val) } }
  | .trie _ => s.ueAt A.ENG_MEM_UE_PB pb word 0 0
  | .record i => (s.ueAt A.ENG_MEM_UE_PB pb word i.val 1).recordReset i.val
  | .policer i =>
    let s := (s.ueAt A.ENG_MEM_UE_PB pb word i.val 1).setPolicer i.val { s.policer i.val with valid := false }
    ((s.put (F.POL_W1_VALID i.val) 0).bump A.ENG_MEM_RECORD_RESET).raise F.ENG_MEM_STATUS_RECORD_RESET

/-- R346. -/
def execMemoryUe (p : MemPlace) (bank : Fin 256) (word : Fin 8192) (s : State) : Res := .next (s.memoryUe p bank word)

/-- R345, R338: the background pass reads a word. -/
def State.scrubbed (s : State) (pb : Bool) (bank word : Nat) (r : ScrubRead) : State :=
  match r with
  | .clean => s
  | .corrected => if pb then s.memCe A.ENG_MEM_CE_PB (s.loc .pkt 4 bank) else s.memCe A.ENG_MEM_CE_PCA (s.loc .eng 14 (bank % 128))
  | .uncorrectable p => s.memoryUe p bank word

/-- R345. -/
def execMemoryScrub (pb : Bool) (bank : Fin 256) (word : Fin 8192) (r : ScrubRead) (s : State) : Res := .next (s.scrubbed pb bank word r)

/-- R346. -/
def execPlatePageRefetch (page : Fin 2048) (s : State) : Res :=
  .next { s with plt := { s.plt with badPages := s.plt.badPages.filter (fun b => b.1 != page.val) } }

/-! ### Urgency (R359, R360) -/

/-- The latency target of a port in ns. -/
def State.dramTarget (s : State) (port : Nat) : Nat := s.get (F.DRC_PORT_CTRL_TARGET port) * 50

/-- R360: the urgency of an age against a target. -/
def urgencyOf (age t : Nat) : Nat := if age * 2 < t then 0 else if age * 4 < 3 * t then 1 else if age < t then 2 else 3

/-- R360: a port's urgency, by its oldest request. -/
def State.urgency (s : State) (port : Nat) : Nat :=
  match s.mem.reqs.find? (fun r => r.port == port) with
  | some r => urgencyOf (s.tim.now - r.at_) (s.dramTarget port)
  | none => 0

/-- The subchannel of an address. -/
def State.scOf (s : State) (a : Nat) : Nat := (s.dramPlace a).1

/-- R358: a port at urgency 2 or 3 has a request for subchannel sc. -/
def State.urgentFor (s : State) (sc : Nat) : Bool := s.mem.reqs.any (fun r => s.scOf r.addr == sc && 2 ≤ s.urgency r.port)

/-! ### Refresh (R357, R358) -/

/-- DEBT of a subchannel. -/
def debtFld (sc : Nat) : Fld := if sc = 0 then F.DRC_STATUS_DEBT0 else F.DRC_STATUS_DEBT1
/-- HOT of a subchannel. -/
def hotFld (sc : Nat) : Fld := if sc = 0 then F.DRC_STATUS_HOT0 else F.DRC_STATUS_HOT1

/-- Every bank of a subchannel is precharged. -/
def State.closeRows (s : State) (sc : Nat) : State := { s with mem := { s.mem with rows := s.mem.rows.filter (fun r => r.1.1 != sc) } }

/-- R357, R358: a refresh falls due. -/
def State.refreshDue (s : State) (sc : Nat) : State :=
  let debt := s.get (debtFld sc)
  if 4 ≤ debt then (s.bump A.DRC_REF_FORCED).closeRows sc
  else if s.urgentFor sc then (s.put (debtFld sc) (debt + 1)).bump A.DRC_REF_POSTPONED
  else s.closeRows sc

/-- R357. -/
def execDramRefresh (sc : Fin 2) (s : State) : Res := .next (s.refreshDue sc)

/-- R357, R358: an MR4 reading. Entering the hot state issues every postponed refresh. -/
def State.mr4 (s : State) (sc : Nat) (hot tooHot : Bool) : State :=
  let s := if tooHot then s.raise F.DRC_STATUS_TOO_HOT else s
  let setCool (s : State) (n : Nat) : State := { s with mem := { s.mem with cool := s.mem.cool.set sc n } }
  if hot ∨ tooHot then
    let s := setCool s 0
    if s.isSet (hotFld sc) then s else ((s.put (hotFld sc) 1).put (debtFld sc) 0).closeRows sc
  else
    let n := s.mem.cool.getD sc 0 + 1
    let s := setCool s (min n 2)
    if 2 ≤ n then s.put (hotFld sc) 0 else s

/-- R357. -/
def execDramMr4Read (sc : Fin 2) (hot tooHot : Bool) (s : State) : Res := .next (s.mr4 sc hot tooHot)

/-- R358. -/
def execRefreshRepay (sc : Fin 2) (s : State) : Res :=
  .next (if 0 < s.get (debtFld sc) ∧ !s.urgentFor sc then (s.put (debtFld sc) (s.get (debtFld sc) - 1)).closeRows sc else s)

/-- R353: a calibration holds the subchannel for at most 1 µs and leaves nothing behind. -/
def execZqCalibration (_ : Fin 2) (s : State) : Res := .next s

/-! ### Commands and reads (R359 to R361) -/

/-- A request completes: its age against its port's target and peak (R359). -/
def State.reqDone (s : State) (r : DReq) : State :=
  let age := s.tim.now - r.at_
  let s := if s.dramTarget r.port < age then s.bump (A.DRC_PORT_MISSED r.port) else s
  s.putMax (F.DRC_PORT_PEAK_AGE r.port) (min (age / 10) 65535)

/-- R360: the better of two candidates, each with its urgency, priority and whether it hits an open row; the order is by arrival, then port. -/
def better (a b : Nat × Nat × Bool × DReq) : Bool :=
  if a.1 ≠ b.1 then b.1 < a.1
  else if a.2.1 ≠ b.2.1 then b.2.1 < a.2.1
  else if a.2.2.1 ≠ b.2.2.1 then a.2.2.1
  else if a.2.2.2.at_ ≠ b.2.2.2.at_ then a.2.2.2.at_ < b.2.2.2.at_
  else a.2.2.2.port < b.2.2.2.port

/-- R360: the row of a request is open: it has had a hit within 128 ns. -/
def State.rowOpen (s : State) (pl : Nat × Nat × Nat) : Bool := s.mem.rows.any (fun r => r.1 == pl && decide (s.tim.now < r.2 + 128))

/-- R360: the request that subchannel sc's command slot goes to, among the waiting ones named by `ready`. -/
def State.dramChoice (s : State) (sc : Nat) (ready : List Nat) : Option DReq :=
  let cand := (indexed s.mem.reqs).filterMap fun e =>
    let r := e.2
    if s.scOf r.addr = sc ∧ ready.contains e.1 then
      some (s.urgency r.port, s.get (F.DRC_PORT_CTRL_PRIO r.port), s.rowOpen (s.dramPlace r.addr), r)
    else none
  (cand.foldl (fun best c =>
    match best with
    | none => some c
    | some b => if better c b then some c else best) none).map (fun c => c.2.2.2)

/-- R360: one command slot. A write completes at its issue, a read when its data returns; each command enters the retry buffer of 32 (R363). -/
def State.dramIssue (s : State) (sc : Nat) (arrived : List DReq) (ready : List Nat) : State :=
  let s : State := { s with mem := { s.mem with reqs := s.mem.reqs ++ arrived } }
  if s.frozen ∨ !s.isSet F.DRC_STATUS_TRAINED then s
  else match s.dramChoice sc ready with
    | none => s
    | some r =>
      let pl := s.dramPlace r.addr
      let s : State := { s with mem := { s.mem with reqs := s.mem.reqs.erase r, retry := (r :: s.mem.retry).take 32,
                                                    rows := (pl, s.tim.now) :: s.mem.rows.filter (fun x => !(x.1.1 == pl.1 && x.1.2.1 == pl.2.1)) } }
      match r.data with
      | some bs => (s.lineWrite r.addr (slice bs 0 64)).reqDone r
      | none => { s with mem := { s.mem with flight := s.mem.flight ++ [r] } }

/-- R360. -/
def execDramCommandIssue (sc : Fin 2) (arrived : List DramReq) (ready : List Nat) (s : State) : Res :=
  .next (s.dramIssue sc (arrived.map (fun r => ⟨r.port, r.addr / 64 * 64, r.data, s.tim.now⟩)) ready)

/-- R361: what a client does with poisoned data. -/
def State.poisoned (s : State) (r : DReq) (queue : Nat) : State :=
  if (r.port = 0 ∨ r.port = 1) ∧ flowBase ≤ r.addr ∧ r.addr < s.spillBase then s.entryDrop ((r.addr - flowBase) / 64)
  else if r.port = 5 then
    let q := s.que' queue
    s.setQue queue (q.eraseP (fun p => p.spilled))
  else if r.addr < 0x08000000 ∧ r.port = 2 then s.bump A.RTE_MISS
  else if r.port = 6 then { s with out := .poisoned r.addr :: s.out }
  else if r.port = 9 then { s with dbg := { s.dbg with accStatus := 3 } }
  else s

/-- The location of the device of a byte lane (R339); an x16 device at the lower of its two. -/
def State.deviceLoc (s : State) (sc lane : Nat) : Word :=
  let l := if s.isSet F.DRC_CONFIG_WIDTH ∧ lane < 4 then lane / 2 * 2 else lane
  s.loc .pkt 5 (0x10 + 8 * sc + l)

/-- R361: an uncorrectable read, not served from a mirror, returns poisoned. -/
def State.poisonRead (s : State) (r : DReq) (queue : Nat) : State :=
  (((s.bump (A.DRC_PORT_POISON r.port)).poisoned r queue).reqDone r)

/-- A freeze begins (R364): the log windows, whose layout the manual does not give, hold values left free. -/
def State.freeze (s : State) (cause : Nat) : State :=
  let s := (s.put F.DRC_STATUS_FROZEN 1).put F.DRC_STATUS_FREEZE_CAUSE cause
  (List.range 152).foldl (fun (s : State) w =>
    let x := s.freeW
    x.2.wr (A.DRC_FREEZE_LOG w) x.1) s

/-- R361: a read of a line ends. -/
def State.readEnd (s : State) (r : DReq) (o : DramRead) : State :=
  let sc := s.scOf r.addr
  match o with
  | .clean => s.reqDone r
  | .corrected => (s.bump A.DRC_CE).reqDone r
  | .bad lane good queue =>
    if r.addr < 0x08000000 ∧ good ∧ !s.lostSc (1 - sc) then (s.bump A.DRC_MIRROR_READ).reqDone r
    else
      let loc := s.deviceLoc sc lane
      let s := (s.bump A.DRC_UE).wr A.DRC_LAST_UE_LOC loc
      let s := (s.wr A.DRC_LAST_UE_ADDR_LO (BitVec.ofNat 32 r.addr)).wr A.DRC_LAST_UE_ADDR_HI (BitVec.ofNat 32 (r.addr / 2 ^ 32))
      let s := s.faultNow .dramLine 1 0 loc 0
      if s.isSet F.DRC_CTRL_FREEZE_EN then
        let s : State := { s with mem := { s.mem with failing := some { r with data := some (leBytes 4 queue.val) } } }
        s.freeze 2
      else s.poisonRead r queue

/-- R361: the oldest read in flight of a port returns; nothing returns while frozen (R364). -/
def State.readReturn (s : State) (port : Nat) (o : DramRead) : State :=
  if s.frozen then s
  else match s.mem.flight.find? (fun r => r.port == port) with
    | none => s
    | some r => ({ s with mem := { s.mem with flight := s.mem.flight.erase r } } : State).readEnd r o

/-- R361. -/
def execDramReadReturn (port : Fin 10) (r : DramRead) (s : State) : Res := .next (s.readReturn port r)

/-- R361: the patrol scrubber's read, at port 8. -/
def execDramPatrolScrub (line : Fin 268435456) (r : DramRead) (s : State) : Res :=
  .next (if s.frozen then s else s.readEnd ⟨8, line * 64, none, s.tim.now⟩ r)

/-! ### Losses, alerts, freezes (R362 to R364) -/

/-- R362: the flow region and the spill area are withdrawn. -/
def State.withdraw (s : State) : State :=
  let n := ((s.que.qs.flatMap (fun q => q.2.filter (fun p => p.spilled)))).length
  let touched := (s.que.qs.filter (fun q => q.2.any (fun p => p.spilled))).map (fun q => q.1)
  let s := touched.foldl (fun (s : State) i => s.setQue i ((s.que' i).filter (fun p => !p.spilled))) s
  let s : State := { s with que := { s.que with spillGone := true }, path := { s.path with touches := [] } }
  (s.count A.QSC_SPILL_LOST n).put F.FLW_STATUS_CACHE_ONLY 1

/-- R362: subchannel sc has lost a device at a location. -/
def State.deviceLoss (s : State) (sc : Nat) (loc : Word) : State :=
  if s.lostSc sc then s
  else
    let second := s.lostSc (1 - sc)
    let s := s.put (if sc = 0 then F.DRC_STATUS_LOST0 else F.DRC_STATUS_LOST1) 1
    ((s.wr A.DRC_LAST_UE_LOC loc).withdraw).faultNow .dramDevice (if second then 2 else 1) 0 loc 0

/-- R362. -/
def execDramDeviceLoss (sc : Fin 2) (lane : Fin 5) (s : State) : Res := .next (s.deviceLoss sc (s.deviceLoc sc lane))

/-- R363: a parity alert; the fourth within 100 µs counts as a device loss, reported at the subchannel's controller. DEDUCED (log 94). -/
def State.alert (s : State) (sc : Nat) : State :=
  let now := s.tim.now
  let recent := s.mem.alerts.filter (fun a => a.1 == sc && decide (now < a.2 + 100000))
  let s : State := { s with mem := { s.mem with alerts := (sc, now) :: (s.mem.alerts.filter (fun a => a.1 != sc) ++ recent) } }
  if s.isSet F.DRC_CTRL_FREEZE_EN ∧ !s.frozen then s.freeze 1
  else if s.frozen then s
  else
    let s := (s.bump A.DRC_PAR_REPLAY).closeRows sc
    if 3 ≤ recent.length then s.deviceLoss sc (s.loc .pkt 5 sc) else s

/-- R363. -/
def execAlertNFall (sc : Fin 2) (s : State) : Res := .next (s.alert sc)

/-- R364: a write of DRC_CTRL; THAW ends a freeze: the pending replay runs, or the failing read returns poisoned. -/
def State.drcCtrlWrite (s : State) (v : Word) : State :=
  let s := s.put F.DRC_CTRL_FREEZE_EN (getField v 0 1)
  if getField v 1 1 = 1 ∧ s.frozen then
    let cause := s.get F.DRC_STATUS_FREEZE_CAUSE
    let s := (s.put F.DRC_STATUS_FROZEN 0).put F.DRC_STATUS_FREEZE_CAUSE 0
    if cause = 1 then ((s.bump A.DRC_PAR_REPLAY).closeRows 0).closeRows 1
    else match s.mem.failing with
      | none => s
      | some r => ({ s with mem := { s.mem with failing := none } } : State).poisonRead r (leNat (r.data.getD []))
  else s

/-- R364. -/
def execDramThaw (m : Master) (v : Word) (s : State) : Res := .next (s.hostWrite m A.DRC_CTRL v (fun s => s.drcCtrlWrite v))

end Sys2Proof.Machine
end

