-- ==== Sys2Proof/Machine/Checks.lean ====
section
/-! DEFINITION. The check units (R389 to R392). -/

namespace Sys2Proof.Machine

/-! ### The running value (R389, R391) -/

/-- Width, polynomial, initial value, reflection in and out, and final xor of a unit as set (R389). -/
def ChkUnit.params (u : ChkUnit) : Nat × Nat × Nat × Bool × Bool × Nat :=
  match getField u.ctrl 0 2 with
  | 0 => (32, 0x1EDC6F41, 0xFFFFFFFF, true, true, 0xFFFFFFFF)
  | 1 => (32, 0x04C11DB7, 0xFFFFFFFF, true, true, 0xFFFFFFFF)
  | 2 => (16, 0x1021, 0xFFFF, false, false, 0)
  | _ => (32, u.poly.toNat, u.init.toNat, getField u.ctrl 2 1 == 1, getField u.ctrl 3 1 == 1, u.xorout.toNat)

/-- The cycles of an entry (R390). -/
def ChkEntry.cycles : ChkEntry → Nat
  | .data bs => bs.length
  | .value _ => 1
  | .ctrl v => getField v 4 1
  | _ => 0

/-- An entry takes effect. DEDUCED (log 97). -/
def ChkUnit.take (u : ChkUnit) : ChkEntry → ChkUnit
  | .data bs => match u.params with
    | (w, poly, _, refin, _, _) => { u with value := bs.foldl (crcByte w poly refin) (u.value % 2 ^ w) }
  | .value v => match u.params with
    | (w, _) => { u with value := v.toNat % 2 ^ w }
  | .ctrl v =>
    let u := { u with ctrl := setField v 4 28 0 }
    if getField v 4 1 = 1 then match u.params with
      | (_, _, init, _) => { u with value := init }
    else u
  | .poly v => { u with poly := v }
  | .init v => { u with init := v }
  | .xorout v => { u with xorout := v }

/-- The finished CRC (R391). -/
def ChkUnit.result (u : ChkUnit) : Nat := match u.params with
  | (w, _, _, _, refout, xorout) => crcFinish w refout xorout (u.value % 2 ^ w)

/-! ### The FIFO (R390) -/

/-- The entries of a FIFO worked on with `budget` picoseconds at `per` picoseconds a cycle. -/
def chkRun (per : Nat) (u : ChkUnit) : Nat → List ChkEntry → ChkUnit
  | _, [] => { u with fifo := [], spent := 0 }
  | budget, e :: l =>
    if e.cycles * per ≤ budget then chkRun per (u.take e) (budget - e.cycles * per) l else { u with fifo := e :: l, spent := budget }

/-- Every entry processed. -/
def ChkUnit.drain (u : ChkUnit) : ChkUnit := { u.fifo.foldl ChkUnit.take u with fifo := [], spent := 0 }

/-- The picoseconds of a cycle: 1 ns, or in fall-back a period of the RCO at its actual frequency, which is free within its limits (R413, R430). DESIGN CHOICE (log 107). -/
def State.chkPeriod (s : State) : Nat := if s.isSet F.PWR_CLK_STATUS_FALLBACK then 4735 + Config.rcoPeriod % 1053 else 1000

/-- `ps` picoseconds pass in every unit. DESIGN CHOICE (log 107). -/
def State.chkTick (s : State) (ps : Nat) : State :=
  { s with sec := { s.sec with checks := s.sec.checks.map (fun u => chkRun s.chkPeriod u (u.spent + ps) u.fifo) } }

/-- Unit n. -/
def State.chkUnit (s : State) (n : Nat) : ChkUnit := s.sec.checks.getD n .reset

/-- Unit n changed. -/
def State.chkMod (s : State) (n : Nat) (f : ChkUnit → ChkUnit) : State := { s with sec := { s.sec with checks := modAt s.sec.checks n f } }

/-- An entry enters the FIFO; one that finds it full waits until the first entry has been processed. Entries that take no cycle and have nothing before
them take effect at once. DEDUCED (log 97). -/
def ChkUnit.push (per : Nat) (u : ChkUnit) (e : ChkEntry) : ChkUnit :=
  let u := match u.fifo with
    | x :: l => if 16 ≤ u.fifo.length then { u.take x with fifo := l, spent := 0 } else u
    | [] => u
  chkRun per u u.spent (u.fifo ++ [e])

/-- A host write that feeds unit n: CK3 belongs to the SUP role (R392). DEDUCED (log 97). -/
def State.chkWrite (s : State) (n : Nat) (e : ChkEntry) (keep : State → State) : State :=
  if n = 3 then s.bump A.CHK_WRITE_REJECT else keep (s.chkMod n (fun u => u.push s.chkPeriod e))

/-- The register `k` of unit n written: 0 CTRL, 1 POLY, 2 INIT, 3 XOROUT, 4 VALUE, 6 DATA8, 7 DATA16, 8 DATA32. -/
def State.chkRegWrite (s : State) (n k : Nat) (v : Word) : State :=
  match k with
  | 0 => s.chkWrite n (.ctrl v) (fun s => s.wr (A.CK_CTRL n) (setField v 4 28 0))
  | 1 => s.chkWrite n (.poly v) (fun s => s.wr (A.CK_POLY n) v)
  | 2 => s.chkWrite n (.init v) (fun s => s.wr (A.CK_INIT n) v)
  | 3 => s.chkWrite n (.xorout v) (fun s => s.wr (A.CK_XOROUT n) v)
  | 4 => s.chkWrite n (.value v) id
  | 6 => s.chkWrite n (.data (leBytes 1 v.toNat)) id
  | 7 => s.chkWrite n (.data (leBytes 2 v.toNat)) id
  | 8 => s.chkWrite n (.data (leBytes 4 v.toNat)) id
  | _ => if n = 3 then s.bump A.CHK_WRITE_REJECT else s

/-- A read of VALUE or RESULT waits for every earlier write. -/
def State.chkRead (s : State) (n : Nat) (result : Bool) : Word × State :=
  let s := s.chkMod n ChkUnit.drain
  let u := s.chkUnit n
  (BitVec.ofNat 32 (if result then u.result else u.value), s)

/-- R392: entering service, every unit takes its reset values. -/
def State.chkRejoin (s : State) : State :=
  { s with regs := s.regs.filter (fun e => !(0xC0000 ≤ e.1 && e.1 < 0xD0000)), sec := { s.sec with checks := List.replicate 4 .reset } }

end Sys2Proof.Machine
end

