-- ==== Sys2Proof/Machine/Ports.lean ====
section
/-! DEFINITION. Ethernet ports (R309 to R317): receiving and filtering frames, MACsec, priority pause, sending. -/

namespace Sys2Proof.Machine

/-! ### Ports -/

/-- Port p. -/
def State.port (s : State) (p : Nat) : Port := s.ports.getD p .reset
/-- Port p changed. -/
def State.portMod (s : State) (p : Nat) (f : Port → Port) : State := { s with ports := modAt s.ports p f }

/-- LINK of port p. -/
def State.linkUp (s : State) (p : Nat) : Bool := s.isSet (F.ETH_STATUS_LINK p)

/-- The rate of a port mode in Mb/s (R29). -/
def modeRate (m : Nat) : Nat := match m with | 1 => 25000 | 2 => 10000 | 3 => 5000 | 4 => 2500 | 5 => 1000 | _ => 1000

/-- The MAC address of port p. -/
def State.portMac (s : State) (p : Nat) : List Byte := leBytes 4 (s.rd (A.ETH_MAC_LO p)).toNat ++ leBytes 2 (s.get (F.ETH_MAC_HI_MAC p))

/-- A 64-bit counter in two registers advanced by `n`, saturating. -/
def State.count64 (s : State) (lo hi n : Nat) : State :=
  let x := min ((s.rd lo).toNat + (s.rd hi).toNat * 2 ^ 32 + n) (2 ^ 64 - 1)
  (s.wr lo (BitVec.ofNat 32 x)).wr hi (BitVec.ofNat 32 (x / 2 ^ 32))

/-- The broadcast address. -/
def bcastMac : List Byte := List.replicate 6 0xFF#8

/-! ### Sending (R298, R310, R317) -/

/-- Port p sends a frame without its FCS: padded to 60 bytes, the FCS added, counted. DEDUCED (log 90). PRESUMED (log 91). -/
def State.ethSendRaw (s : State) (p : Nat) (frame : List Byte) : State :=
  let f := frame ++ List.replicate (60 - frame.length) 0#8
  let wire := f ++ leBytes 4 (crc32 f)
  let s := (s.bump (A.ETH_TX_FRAMES p)).count64 (A.ETH_TX_OCTETS_LO p) (A.ETH_TX_OCTETS_HI p) wire.length
  let s := if f.take 6 = bcastMac then s.bump (A.ETH_TX_BCAST p) else if bit (beAt f 0 1) 0 then s.bump (A.ETH_TX_MCAST p) else s
  { s with out := .ethFrame p wire :: s.out }

/-- A MACsec SA entry and its slot agree, and the slot is in use (R317, R370). -/
def State.saUsable (s : State) (k : Nat) : Bool :=
  let x := s.slot 2 k
  s.isSet (F.ETH_SA_W0_VALID k) && x.valid && !x.fault && ((x.cipher == 11 || x.cipher == 12) == s.isSet (F.ETH_SA_W0_XPN k))

/-- R317: the transmit SA of port p. -/
def State.txSa (s : State) (p : Nat) : Option Nat :=
  (List.range 64).find? (fun k => s.saUsable k && !(s.slot 2 k).exhausted && !s.isSet (F.ETH_SA_W0_DIR k) && s.get (F.ETH_SA_W0_PORT k) == p &&
    s.get (F.ETH_SA_W0_AN k) == s.get (F.ETH_MACSEC_CTRL_TX_AN p))

/-- R310, R317: port p may take a packet from its root. -/
def State.portSends (s : State) (p : Nat) : Bool :=
  s.linkUp p && !(s.port p).lost && (!s.isSet (F.ETH_MACSEC_CTRL_EN p) || (s.txSa p).isSome)

/-- The SCI of an SA entry, first byte in W1 bits [7:0] (R335). -/
def State.saSci (s : State) (k : Nat) : List Byte := leBytes 4 (s.rd (A.ETH_SA_W1 k)).toNat ++ leBytes 4 (s.rd (A.ETH_SA_W2 k)).toNat

/-- The IV of a MACsec frame: SCI and packet number, or the short SCI and the 64-bit packet number for the XPN suites (R316). PRESUMED (log 91). -/
def State.saIv (s : State) (k : Nat) (sci : List Byte) (pn : Nat) : List Byte :=
  if s.isSet (F.ETH_SA_W0_XPN k) then beBytes 4 (s.rd (A.ETH_SA_W3 k)).toNat ++ beBytes 8 pn else sci ++ beBytes 4 pn

/-- R317: a frame protected under SA k with packet number pn. -/
def State.macsecProtect (s : State) (p k pn : Nat) (f : List Byte) : List Byte :=
  let conf := s.isSet (F.ETH_MACSEC_CTRL_TX_CONF p)
  let sc := s.isSet (F.ETH_MACSEC_CTRL_TX_SCI p)
  let body := f.drop 12
  let tci := 32 * b2n sc + 12 * b2n conf + s.get (F.ETH_SA_W0_AN k)
  let tag := beBytes 2 0x88E5 ++ beBytes 1 tci ++ beBytes 1 (if body.length < 48 then body.length else 0) ++ beBytes 4 pn ++ (if sc then s.saSci k else [])
  let head := f.take 12 ++ tag
  let key := (s.slot 2 k).key
  let iv := s.saIv k (s.saSci k) pn
  if conf then
    let (ct, icv) := Config.gcmEncrypt key iv head body
    head ++ ct ++ icv
  else head ++ body ++ (Config.gcmEncrypt key iv (head ++ body) []).2

/-- Port p sends a frame, through MACsec where it is on; its stamp may be asked for (R235). -/
def State.ethSend (s : State) (p : Nat) (frame : List Byte) (ask : Option (Nat × Nat)) : State :=
  if s.isSet (F.ETH_MACSEC_CTRL_EN p) then
    match s.txSa p with
    | none => s
    | some k =>
      match s.takePn 2 k with
      | (some pn, t) => (t.ethSendRaw p (t.macsecProtect p k pn frame)).stampAsk p ask 0
      | (none, t) => t
  else (s.ethSendRaw p frame).stampAsk p ask 0

/-! ### Pause (R314, R315) -/

/-- R314: class c of port p is paused now. -/
def State.paused (s : State) (p c : Nat) : Bool :=
  match (s.port p).pause.getD c none with
  | some (a, b) => decide (a ≤ s.tim.now) && decide (s.tim.now < b)
  | none => false

/-- R314: a pause of `quanta` for class c of port p, from a frame whose last bit has just been received. -/
def State.pauseClass (s : State) (p c quanta : Nat) : State :=
  let now := s.tim.now
  let start := if s.paused p c then now else now + 200
  let stop := now + quanta * 512 * 1000 / modeRate (s.portMode p)
  s.portMod p (fun x => { x with pause := x.pause.set c (if quanta = 0 then none else some (start, stop)) })

/-- A received pause or priority pause frame acts (R314). DEDUCED (log 90). -/
def State.pauseFrame (s : State) (p : Nat) (f : List Byte) : State :=
  if beAt f 14 2 = 1 then
    (if s.isSet (F.ETH_CTRL_PAUSE_RX p) then (List.range 8).foldl (fun (s : State) c => s.pauseClass p c (beAt f 16 2)) s else s)
  else
    let v := beAt f 16 2
    (List.range 8).foldl (fun (s : State) c =>
      if bit v c ∧ bit (s.get (F.ETH_PFC_RX_EN p)) c then s.pauseClass p c (beAt f (18 + 2 * c) 2) else s) s

/-- The bytes in the ingress FIFO of port p (R313). -/
def State.fifoLevel (s : State) (p : Nat) : Nat := pktBytes (s.path.ingress.filter (fun x => x.source == p))

/-- R315: a priority pause frame with a time, for the priorities of TX_EN. -/
def State.sendPfc (s : State) (p time : Nat) : State :=
  let en := s.get (F.ETH_PFC_TX_EN p)
  let s := s.portMod p (fun x => { x with sentAt := s.tim.now })
  if en = 0 ∨ !s.linkUp p then s
  else
    let times := (List.range 8).flatMap (fun c => beBytes 2 (if bit en c then time else 0))
    let f := beBytes 6 0x0180C2000001 ++ s.portMac p ++ beBytes 2 0x8808 ++ beBytes 2 0x0101 ++ beBytes 2 en ++ times
    (s.ethSendRaw p f).bump (A.ETH_TX_PAUSE p)

/-- R315: PFC_XOFF. -/
def State.pfcAbove (s : State) (p : Nat) : State :=
  if s.get (F.ETH_PFC_THR_XOFF p) * 1024 < s.fifoLevel p ∧ !(s.port p).above then
    (s.portMod p (fun x => { x with above := true })).sendPfc p (s.get (F.ETH_PFC_TIME p))
  else s

/-- R315: half of TIME, in ns. -/
def State.pfcHalf (s : State) (p : Nat) : Nat := s.get (F.ETH_PFC_TIME p) * 512 * 1000 / modeRate (s.portMode p) / 2

/-- R315: PFC_REFRESH, once half of TIME has passed since the last pause frame, while the level stays above XON. -/
def State.pfcAgain (s : State) (p : Nat) : State :=
  if (s.port p).above ∧ (s.port p).sentAt + s.pfcHalf p ≤ s.tim.now ∧ s.get (F.ETH_PFC_THR_XON p) * 1024 < s.fifoLevel p then s.sendPfc p (s.get (F.ETH_PFC_TIME p)) else s

/-- R315: PFC_XON. -/
def State.pfcBelow (s : State) (p : Nat) : State :=
  if (s.port p).above ∧ s.fifoLevel p < s.get (F.ETH_PFC_THR_XON p) * 1024 then (s.portMod p (fun x => { x with above := false })).sendPfc p 0 else s

/-! ### Receiving (R311 to R313, R317, R328) -/

/-- R312: the address filter of port p passes a destination. -/
def State.filterPasses (s : State) (p : Nat) (da : List Byte) : Bool :=
  let group := bit (beAt da 0 1) 0
  let h := crc32 da / 2 ^ 20
  da == bcastMac || da == s.portMac p || s.isSet (F.ETH_CTRL_PROMISC p) || (group && s.isSet (F.ETH_CTRL_ALL_MULTI p)) ||
    (group && bit (s.rd (A.ETH_FILTER p (h / 32))).toNat (h % 32)) || (beNat da / 16 == 0x0180C200000)

/-- What MACsec makes of a received frame: the frame, its MACSEC bit and the state; or the counter that takes it. -/
inductive MsRx where
  | pass (f : List Byte) (macsec : Bool) (s : State)
  | drop (ctr : Nat)

/-- The 64-bit packet number of a received XPN frame from its low half, beside the lowest acceptable one. PRESUMED (log 91). -/
def xpnRecover (next lo : Nat) : Nat :=
  let c := next / 2 ^ 32 * 2 ^ 32 + lo
  if c + 2 ^ 31 < next then c + 2 ^ 32 else c

/-- R317: a received frame through MACsec. -/
def State.macsecReceive (s : State) (p : Nat) (f : List Byte) : MsRx :=
  let ty := beAt f 12 2
  let strict := s.isSet (F.ETH_MACSEC_CTRL_STRICT p)
  if !s.isSet (F.ETH_MACSEC_CTRL_EN p) then .pass f false s
  else if ty = 0x888E then .pass f false s
  else if ty ≠ 0x88E5 then (if strict then .drop (A.ETH_RX_MS_UNTAGGED p) else .pass f false s)
  else
    let tci := beAt f 14 1
    let sc := bit tci 5
    let conf := bit tci 3
    let pn32 := beAt f 16 4
    let sci := if sc then slice f 20 8 else slice f 6 6 ++ beBytes 2 1
    let hl := if sc then 28 else 20
    match (List.range 64).find? (fun k => s.saUsable k && s.isSet (F.ETH_SA_W0_DIR k) && s.get (F.ETH_SA_W0_PORT k) == p &&
        s.get (F.ETH_SA_W0_AN k) == tci % 4 && s.saSci k == sci) with
    | none => .drop (A.ETH_RX_MS_NO_SA p)
    | some k =>
      let x := s.slot 2 k
      let pn := if s.isSet (F.ETH_SA_W0_XPN k) then xpnRecover x.pn pn32 else pn32
      let head := f.take hl
      let body := (f.drop hl).take (f.length - hl - 16)
      let icv := f.drop (f.length - 16)
      let iv := s.saIv k sci pn
      let (pt, tag) := if conf then Config.gcmDecrypt x.key iv head body else (body, (Config.gcmDecrypt x.key iv (head ++ body) []).2)
      let clear := f.take 12 ++ pt
      if f.length < hl + 16 ∨ tag ≠ icv then
        (if conf ∨ strict ∨ f.length < hl + 16 then .drop (A.ETH_RX_MS_BAD p) else .pass clear false s)
      else if pn < x.pn - s.get (F.ETH_MACSEC_WINDOW_WINDOW p) then .drop (A.ETH_RX_MS_LATE p)
      else .pass clear true (s.setSlot 2 k { x with pn := max x.pn (pn + 1) })

/-- R328: a frame is a secondary request. -/
def State.isSecondary (s : State) (p : Nat) (f : List Byte) : Bool :=
  s.hostSecondary == p && s.isSet F.HDM_SEC_CTRL_EN && slice f 0 6 == s.portMac p && beAt f 12 2 == s.get F.HDM_SEC_CTRL_ETYPE

/-- A frame that has passed the checks of R311 counts. DEDUCED (log 90). -/
def State.rxCount (s : State) (p : Nat) (f : List Byte) (n : Nat) : State :=
  let s := (s.bump (A.ETH_RX_FRAMES p)).count64 (A.ETH_RX_OCTETS_LO p) (A.ETH_RX_OCTETS_HI p) n
  if f.take 6 = bcastMac then s.bump (A.ETH_RX_BCAST p) else if bit (beAt f 0 1) 0 then s.bump (A.ETH_RX_MCAST p) else s

/-- R311: port p has received a frame with its FCS; its stamp is that of the first bit after the SFD (R234). MAC control frames end in the MAC, before MACsec. -/
def State.ethReceive (s : State) (p : Nat) (raw : List Byte) (codeErr : Bool) : State :=
  if !s.linkUp p ∨ (s.port p).lost then s
  else if codeErr then s.bump (A.ETH_RX_CODE_ERR p)
  else if raw.length < 64 then s.bump (A.ETH_RX_UNDERSIZE p)
  else if s.get (F.ETH_MAXLEN_LEN p) < raw.length then s.bump (A.ETH_RX_OVERSIZE p)
  else
    let f := raw.take (raw.length - 4)
    if leNat (raw.drop (raw.length - 4)) ≠ crc32 f then s.bump (A.ETH_RX_FCS_ERR p)
    else if beAt f 12 2 = 0x8808 then
      (if s.filterPasses p (f.take 6) ∧ (beAt f 14 2 = 1 ∨ beAt f 14 2 = 0x101) then
        ((s.rxCount p f raw.length).bump (A.ETH_RX_PAUSE p)).pauseFrame p f
      else s.bump (A.ETH_RX_FILTERED p))
    else match s.macsecReceive p f with
      | .drop c => s.bump c
      | .pass g ms s =>
        if !s.filterPasses p (g.take 6) then s.bump (A.ETH_RX_FILTERED p)
        else
          let s := s.rxCount p g raw.length
          if s.isSecondary p g then { s with hst := { s.hst with secWait := s.hst.secWait ++ [(g, ms)] } }
          else if 262144 < s.fifoLevel p + g.length then s.bump (A.ETH_RX_FIFO_DROP p)
          else { s with path := { s.path with ingress := s.path.ingress ++ [{ Pkt.fresh g p with macsec := ms, stamp := some (s.rxStamp p (raw.length * 8000 / modeRate (s.portMode p))) }] } }

/-! ### The link (R310) -/

/-- The link of port p goes up or down. It comes up only where the mode is not disabled and the port is not lost. -/
def State.linkSet (s : State) (p : Nat) (up receiving : Bool) : State :=
  if up then (if s.ballsTaken ∨ s.portMode p = 0 ∨ (s.port p).lost ∨ !(s.func (3 + p)).on ∨ (s.func (3 + p)).stopping then s
    else (s.portMod p (fun x => { x with cut := false })).put (F.ETH_STATUS_LINK p) 1)
  else
    let s := if receiving ∧ (s.linkUp p ∨ (s.port p).cut) then s.bump (A.ETH_RX_CODE_ERR p) else s
    (s.portMod p (fun x => { x with cut := false })).put (F.ETH_STATUS_LINK p) 0

/-- R309, R310, R334: a write of ETH_CTRLp; RS-FEC for 25GBASE-R only, BASE-R FEC for no mode below 10GBASE-R. DEDUCED (log 90). -/
def State.ethCtrl (s : State) (p : Nat) (v : Word) : State :=
  let fec := getField v 5 2
  if fec = 3 ∨ (fec = 2 ∧ s.portMode p ≠ 1) ∨ (fec = 1 ∧ 3 ≤ s.portMode p) then s
  else
    let old := s.rd (A.ETH_CTRL p)
    let s := s.wr (A.ETH_CTRL p) (fieldWord 0 8 v.toNat)
    if (old ^^^ v) &&& 0xF8#32 ≠ 0#32 then (s.portMod p (fun x => { x with cut := s.linkUp p })).put (F.ETH_STATUS_LINK p) 0 else s

end Sys2Proof.Machine
end

