-- ==== Sys2Proof/Machine/Rings.lean ====
section
/-! DEFINITION. Descriptor rings, events and interrupts (R320 to R327). Rings 0 to 15 transmit, 16 to 31 receive, 32 is the event ring. -/

namespace Sys2Proof.Machine

/-! ### Rings (R321) -/

/-- Ring r's traffic. -/
def State.ring (s : State) (r : Nat) : RingState := s.hst.rings.getD r ⟨0, false⟩
/-- Ring r's traffic changed. -/
def State.ringMod (s : State) (r : Nat) (f : RingState → RingState) : State := { s with hst := { s.hst with rings := modAt s.hst.rings r f } }

/-- A ring has a frame begun on it: a receive ring whose packet is partly written. -/
def State.ringBegun (s : State) (r : Nat) : Bool := s.que.toHost.any (fun e => e.1 + 16 == r && decide (0 < e.2.2))

/-- R321: a ring stops taking entries; STOPPED sets once begun frames finish. -/
def State.ringStop (s : State) (r : Nat) : State :=
  let s := s.put (F.HDM_RING_CTRL_EN r) 0
  if s.ringBegun r then s.ringMod r (fun x => { x with stopping := true }) else s.put (F.HDM_RING_CTRL_STOPPED r) 1

/-- R321: a ring that was stopping and has finished its begun frame stops. -/
def State.ringSettle (s : State) (r : Nat) : State :=
  if (s.ring r).stopping ∧ !s.ringBegun r then (s.ringMod r (fun x => { x with stopping := false })).put (F.HDM_RING_CTRL_STOPPED r) 1 else s

/-- R321, R336: a write of a ring's CTRL. DEDUCED (log 92). -/
def State.ringCtrlWrite (s : State) (r : Nat) (v : Word) : State :=
  let size := getField v 1 4
  let was := s.isSet (F.HDM_RING_CTRL_EN r)
  if size < 6 ∨ (!s.isSet (F.HDM_RING_CTRL_STOPPED r) ∧ size ≠ s.get (F.HDM_RING_CTRL_LOG2_SIZE r)) then s.bump A.HDM_WRITE_REJECT
  else
    let s := (s.put (F.HDM_RING_CTRL_LOG2_SIZE r) size).put (F.HDM_RING_CTRL_VECTOR r) (getField v 5 6)
    let s := if getField v 12 1 = 1 then s.put (F.HDM_RING_CTRL_ERROR r) 0 else s
    if getField v 0 1 = 1 then
      (if was then s
      else (((s.wr (A.HDM_RING_IDX r) 0#32).put (F.HDM_RING_CTRL_EN r) 1).put (F.HDM_RING_CTRL_STOPPED r) 0).ringMod r (fun _ => ⟨0, false⟩))
    else if was then s.ringStop r else s

/-- R321: a write of BASE while the ring is not stopped is discarded, as is a base that is not 4 KiB-aligned. -/
def State.ringBaseWrite (s : State) (off : Nat) (v : Word) : State :=
  let r := (off - 0x3E0000) / 16
  if !s.isSet (F.HDM_RING_CTRL_STOPPED r) ∨ (off % 16 = 0 ∧ getField v 0 12 ≠ 0) then s.bump A.HDM_WRITE_REJECT else s.wr off v

/-- R321: a write of IDX posts entries; an index beyond the ring is out of range. DEDUCED (log 92). -/
def State.ringTailWrite (s : State) (r : Nat) (v : Word) : State :=
  if 2 ^ s.get (F.HDM_RING_CTRL_LOG2_SIZE r) ≤ getField v 0 16 then s.bump A.HDM_WRITE_REJECT else s.put (F.HDM_RING_IDX_TAIL r) (getField v 0 16)

/-- R440: the path to the primary host has failed. -/
def State.hostPathLost (s : State) : Bool := s.dead 9 4 || s.dead 9 5

/-- The entries that ring r may take: posted ones while it is enabled or finishes a begun frame; none for a new frame while PCI0 is stopping (R416). -/
def State.ringOwned (s : State) (r : Nat) : Nat :=
  if s.hst.pcieUp ∧ !s.hostPathLost ∧ (!s.stopping 1 ∨ s.ringBegun r) ∧ (s.isSet (F.HDM_RING_CTRL_EN r) ∨ (s.ring r).stopping) then s.posted r else 0

/-- R327: a writeback on ring r counts for its vector. -/
def State.vecCount (s : State) (r : Nat) : State :=
  let v := s.get (F.HDM_RING_CTRL_VECTOR r)
  { s with hst := { s.hst with vecs := modAt s.hst.vecs v (fun x => { x with count := x.count + 1, since := x.since.or (some s.tim.now) }) } }

/-- R321 step 3: the next entry of ring r is written back and HEAD advances. -/
def State.writeback (s : State) (r : Nat) (words : List Word) : State :=
  let h := s.get (F.HDM_RING_IDX_HEAD r)
  let s : State := { s with out := .writeback r h words :: s.out }
  (s.put (F.HDM_RING_IDX_HEAD r) ((h + 1) % 2 ^ s.get (F.HDM_RING_CTRL_LOG2_SIZE r))).vecCount r

/-! ### Checksums (R323, R324) -/

/-- The layer-3 header of a frame, past tags and PPPoE, as (offset, EtherType). -/
def State.l3Of (s : State) (f : List Byte) : Option (Nat × Nat) :=
  let (code, _, l) := parseEth f (s.get F.PRS_CTRL_TPID_ALT) false 0 PRec.empty
  if code ≠ 0 then none else l.map (fun x => (x.1, x.2.1))

/-- The IPv4 header checksum of the header at `o` as it should be. -/
def ipChecksum (f : List Byte) (o : Nat) : Nat :=
  let h := slice f o (4 * (beAt f o 1 % 16))
  65535 - onesSum (patch h 10 [0#8, 0#8])

/-- R323: a frame with its IPv4 header checksum inserted, where it has such a header. -/
def State.csumIp (s : State) (f : List Byte) : List Byte :=
  match s.l3Of f with
  | some (o, 0x800) => if o + 20 ≤ f.length then patch f (o + 10) (beBytes 2 (ipChecksum f o)) else f
  | _ => f

/-- The pseudo-header and layer-4 bytes that a TCP or UDP checksum covers, and the checksum's offset; none for a fragment or another protocol. -/
def State.l4Cover (s : State) (f : List Byte) : Option (List Byte × Nat × Nat) :=
  let (_, r) := parse (s.get F.PRS_CTRL_VXLAN_PORT) (s.get F.PRS_CTRL_TPID_ALT) (s.csumIp f)
  let proto := if r.l4 = 1 then 6 else 17
  if (r.l4 = 1 ∨ r.l4 = 2) ∧ !bit (beNat (r.field 0xB 1)) 0 then
    let stop := if r.l3 = 1 then r.l3Off + beAt f (r.l3Off + 2) 2 else r.l3Off + 40 + beAt f (r.l3Off + 4) 2
    let body := slice f r.l4Off (stop - r.l4Off)
    let addrs := if r.l3 = 1 then slice f (r.l3Off + 12) 8 else slice f (r.l3Off + 8) 32
    let pseudo := if r.l3 = 1 then addrs ++ beBytes 2 proto ++ beBytes 2 body.length else addrs ++ beBytes 4 body.length ++ beBytes 4 proto
    some (pseudo ++ body, r.l4Off + (if r.l4 = 1 then 16 else 6), r.l4)
  else none

/-- R323: a frame with its TCP or UDP checksum inserted. -/
def State.csumL4 (s : State) (f : List Byte) : List Byte :=
  match s.l4Cover f with
  | none => f
  | some (cover, o, kind) =>
    let c := 65535 - fold16 (onesSum cover + (65535 - beAt f o 2))
    patch f o (beBytes 2 (if kind = 2 ∧ c = 0 then 65535 else c))

/-- R324: CSUM_CHECKED, IP_CSUM_OK and L4_CSUM_OK of a frame. -/
def State.csumInfo (s : State) (f : List Byte) : Bool × Bool × Bool :=
  let (ip, ipOk) := match s.l3Of f with
    | some (o, 0x800) => (true, decide (o + 20 ≤ f.length) && onesSum (slice f o (4 * (beAt f o 1 % 16))) == 65535)
    | _ => (false, false)
  let (l4, l4Ok) := match s.l4Cover f with
    | some (cover, o, kind) => if kind = 2 ∧ beAt f o 2 = 0 then (false, false) else (true, onesSum cover == 65535)
    | none => (false, false)
  (ip || l4, ipOk, l4Ok)

/-! ### Transmit (R322, R323) -/

/-- R323: the station a management MPDU is addressed to through radio n and BSS t. -/
def State.mgmtStation (s : State) (n t : Nat) (f : List Byte) : Option Nat :=
  s.stations.find? (fun st =>
    leBytes 4 (s.rd (A.STA_W1 st)).toNat ++ leBytes 2 (s.get (F.STA_W2_MAC_HI st)) == slice f 4 6 && bit (s.get (F.STA_W0_LINKS st)) n &&
      s.get (F.STA_W0_BSS st) == t)

/-- The STATUS of a transmit frame (R323): 0 ACCEPTED, 1 LENGTH, 2 READ_ERROR, 3 BAD_TARGET. -/
def State.txStatus (s : State) (kind target : Nat) (data : Option (List Byte)) : Nat :=
  match data with
  | none => 2
  | some f =>
    if f.length < 14 ∨ 9216 < f.length ∨ (kind = 2 ∧ f.length < 24) then 1
    else if kind = 3 then 3
    else if kind = 2 ∧ (target % 4 = 3 ∨ !s.radioEnable (target % 4) ∨ getField (s.rd (A.RAD_BCN (target % 4) (256 * (target / 4 % 16)))) 0 11 = 0) then 3
    else 0

/-- R323: an accepted frame of ring r goes where its KIND sends it. `w2`, `w3`: of its first descriptor. -/
def State.txAccept (s : State) (r : Nat) (w2 w3 : Word) (f : List Byte) : State :=
  let kind := getField w2 19 2
  let target := getField w3 16 16
  let f := if kind ≠ 2 ∧ getField w2 25 1 = 1 then s.csumIp f else f
  let f := if kind ≠ 2 ∧ getField w2 26 1 = 1 then s.csumL4 f else f
  let p : Pkt := { Pkt.fresh f (52 + r) with txStamp := if getField w2 21 1 = 1 then some (getField w2 22 3, getField w3 0 16) else none }
  let toQ (s : State) (p : Pkt) : State := { s with path := { s.path with toQueue := s.path.toQueue ++ [p] } }
  match kind with
  | 0 => { s with path := { s.path with ingress := s.path.ingress ++ [p] } }
  | 1 =>
    let (h, s) := if s.nhKind target = 4 then s.freeW else (0#32, s)
    let m := s.nhMember target h.toNat
    (match s.nhDest m with
    | none => s.bump A.RTE_NH_DROP
    | some d => toQ s { p with nexthop := m, ecls := some (getField w2 27 3), stage := .done d, reason := match d with | .host _ => 8 | _ => 0 })
  | _ =>
    let n := target % 4
    let t := target / 4 % 16
    let d := match s.mgmtStation n t f with
      | some st => Dest.sta st
      | none => Dest.group n t
    toQ s { p with mgmt := true, protect := bit target 6, stage := .done d }

/-- The descriptors of the first frame among some: as far as one without MORE; none where its end is not there (R322). -/
def frameDescs : List (Word × Word × Word × Word) → List (Word × Word × Word × Word)
  | [] => []
  | d :: l =>
    if getField d.2.2.1 14 1 = 0 then [d]
    else match frameDescs l with
      | [] => []
      | r => d :: r

/-- TX_DESCRIPTOR: the HST role takes the frame that the next descriptors of ring r describe (R321, R322). DEDUCED (log 92). DESIGN CHOICE (log 109). -/
def State.txTake (s : State) (r : Nat) (posted : List (Word × Word × Word × Word)) (data : Option (List Byte)) : State :=
  let ds := frameDescs posted
  match ds with
  | [] => s
  | d :: _ =>
    if s.ringOwned r < ds.length then s
    else
      let len := (ds.map (fun x => getField x.2.2.1 0 14)).sum
      let data := data.map (fun b => slice b 0 len)
      let w2 := d.2.2.1
      let w3 := d.2.2.2
      let st := s.txStatus (getField w2 19 2) (getField w3 16 16) data
      let s := if st = 0 then s.txAccept r w2 w3 (data.getD []) else s
      (indexed ds).foldl (fun (s : State) x =>
        let (a, b, c, e) := x.2
        let c := setField c 15 1 1
        s.writeback r [a, b, if x.1 + 1 = ds.length then setField c 16 3 st else c, e]) s

/-! ### Receive (R324, R325) -/

/-- The words that the last descriptor of a frame carries (R324). -/
def State.rxWords (s : State) (p : Pkt) (len : Nat) : List Word :=
  let (ck, ip, l4) := if 13 ≤ p.reason then (false, false, false) else s.csumInfo p.bytes
  let st := p.stamp.getD ⟨0, 0, 0, 0⟩
  let w0 := fieldWord 0 14 len ||| fieldWord 15 1 1 ||| fieldWord 16 4 p.reason ||| fieldWord 20 4 p.detail ||| fieldWord 24 7 p.source
  let w1 := fieldWord 0 1 (b2n ck) ||| fieldWord 1 1 (b2n ip) ||| fieldWord 2 1 (b2n l4) ||| fieldWord 3 1 (b2n p.macsec) |||
    fieldWord 4 1 (b2n p.stamp.isSome) ||| fieldWord 5 3 st.tb ||| fieldWord 8 12 (if p.station = 0xFFFF then 0 else p.station) |||
    fieldWord 20 1 (b2n (p.station != 0xFFFF))
  let w3 := fieldWord 0 16 (if p.reason = 8 then p.nexthop else 0) ||| fieldWord 16 14 (if p.reason = 3 ∨ p.reason = 4 then p.rule else 0)
  [w0, w1, BitVec.ofNat 32 p.hash, w3, BitVec.ofNat 32 st.ns, BitVec.ofNat 32 st.sec, fieldWord 0 16 (st.sec / 2 ^ 32) ||| fieldWord 16 16 st.frac,
    fieldWord 0 16 p.bytes.length]

/-- The rest of a packet goes into posted buffers; answers what is left of it, as bytes written. -/
def State.rxFill (s : State) (q : Nat) (p : Pkt) : Nat → List (Word × Word × Word) → Nat × State
  | done, [] => (done, s)
  | done, d :: ds =>
    if p.bytes.length ≤ done ∧ done ≠ 0 then (done, s) else
    let addr := d.1.toNat + d.2.1.toNat * 2 ^ 32
    let room := getField d.2.2 0 14
    let part := (p.bytes.drop done).take room
    let s : State := { s with out := .hostData addr part :: s.out }
    let fin := p.bytes.length ≤ done + part.length
    let words := if fin then s.rxWords p part.length
      else [fieldWord 0 14 part.length ||| fieldWord 14 1 1 ||| fieldWord 15 1 1, 0#32, 0#32, 0#32, 0#32, 0#32, 0#32, 0#32]
    let s := s.writeback (16 + q) words
    if fin then (p.bytes.length, s) else s.rxFill q p (done + part.length) ds

/-- RX_WRITEBACK: the packet sent to ring q goes into the next posted buffers (R324, R325). DESIGN CHOICE (log 109). -/
def State.rxWrite (s : State) (q : Nat) (ds : List (Word × Word × Word)) : State :=
  match s.que.toHost.find? (fun e => e.1 == q) with
  | none => s
  | some (_, p, done) =>
    let (n, s) := s.rxFill q p done (ds.take (s.ringOwned (16 + q)))
    let rest := s.que.toHost.eraseP (fun e => e.1 == q)
    let left := if p.bytes.length ≤ n ∧ n ≠ 0 then rest else (q, p, n) :: rest
    (({ s with que := { s.que with toHost := left } } : State)).ringSettle (16 + q)

/-! ### Errors, events, interrupts, resets (R320, R321, R326, R327) -/

/-- R321: a PCIe error on a descriptor access of ring r. -/
def State.ringError (s : State) (r : Nat) : State :=
  if s.isSet (F.HDM_RING_CTRL_EN r) then (s.raise (F.HDM_RING_CTRL_ERROR r)).ringStop r else s

/-- EVENT_RECORD: the oldest event record is written (R326). -/
def State.eventWrite (s : State) : State :=
  match s.hst.evtWait with
  | [] => s
  | e :: rest =>
    if s.ringOwned eventRing = 0 then s
    else
      let s : State := { s with hst := { s.hst with evtWait := rest }, out := .eventRecord e.off e.bit e.ns e.sec :: s.out }
      s.writeback eventRing [fieldWord 0 24 e.off, fieldWord 0 5 e.bit ||| fieldWord 31 1 1, fieldWord 0 30 e.ns, BitVec.ofNat 32 e.sec]

/-- The mask bit of a vector's table entry. -/
def State.vecMasked (s : State) (v : Nat) : Bool := bit (s.rd (A.MSIX_TABLE (4 * v + 3))).toNat 0

/-- A vector's message goes out, or its pending bit sets while it is masked. -/
def State.vecFire (s : State) (v : Nat) : State :=
  if s.vecMasked v then s.wr (A.MSIX_PBA (v / 32)) (setField (s.rd (A.MSIX_PBA (v / 32))) (v % 32) 1 1) else { s with out := .msix v :: s.out }

/-- A vector unmasked with its pending bit set signals. -/
def State.vecUnmask (s : State) (v : Nat) : State :=
  if !s.vecMasked v ∧ bit (s.rd (A.MSIX_PBA (v / 32))).toNat (v % 32) then
    let s := s.wr (A.MSIX_PBA (v / 32)) (setField (s.rd (A.MSIX_PBA (v / 32))) (v % 32) 1 0)
    { s with out := .msix v :: s.out }
  else s

/-- MSIX_SIGNAL: vector v signals if its count or its holdoff is reached (R327). -/
def State.vecSignal (s : State) (v : Nat) : State :=
  let x := s.hst.vecs.getD v ⟨0, none⟩
  let hold := s.get (F.HDM_VEC_HOLDOFF v)
  let due : Bool := match x.since with
    | none => false
    | some t => decide (s.get (F.HDM_VEC_COUNT v) ≤ x.count) || hold == 0 || decide (t + hold * 1000 ≤ s.tim.now)
  if due ∧ s.hst.pcieUp then
    ({ s with hst := { s.hst with vecs := modAt s.hst.vecs v (fun _ => ⟨0, none⟩) } } : State).vecFire v
  else s

/-- R382: the Seal job running ends with DMA_ERROR. -/
def State.sealDmaError (s : State) : State :=
  if s.sec.sealJob.isSome then s.sealEnd 2 else s

/-- R320: the configuration space, the rings, the MSI-X table and the HDM_ registers but HDM_SEC_CTRL and HDM_SEC_LAST_SEQ are reset. Packets on their
way to a ring are in their host queues again. -/
def State.pcieReset (s : State) (up : Bool) : State :=
  let gone (off : Nat) : Bool := 0x3E0000 ≤ off && off < 0x400000 && off != A.HDM_SEC_CTRL && off != A.HDM_SEC_LAST_SEQ
  let s : State := { s with regs := s.regs.filter (fun e => !gone e.1) }
  let back := s.que.toHost
  let s : State := { s with hst := { s.hst with rings := List.replicate 33 ⟨0, false⟩, vecs := List.replicate 64 ⟨0, none⟩, evtWait := [],
                                                pcieUp := up && !s.ballsTaken, d3hot := false },
                            que := { s.que with toHost := [] } }
  (back.foldl (fun (s : State) e => s.setQue (32800 + e.1) (e.2.1 :: s.que' (32800 + e.1))) s).sealDmaError

end Sys2Proof.Machine
end

