-- ==== Sys2Proof/Machine/Security.lean ====
section
/-! DEFINITION. The Seal engine, the fuses, attestation and the random number generator (R380 to R388). -/

namespace Sys2Proof.Machine

/-! ### The Seal engine (R380 to R382) -/

/-- The clusters of region PKT that chapter 12 names (R393). -/
def clSEAL : Nat := 0x0B

/-- The Seal engine is powered and in order (R424, R440). -/
def State.sealOn (s : State) : Bool :=
  let f := s.pwr.funcs.getD 7 ⟨false, false, false, none⟩
  f.on && !f.stopping && !f.starting && !s.flt.permanent.any (fun e => e.1 == 2 && e.2.1 == clSEAL)

/-- R380: the lease runs from the last write of a SEAL_ register. -/
def State.sealTouch (s : State) : State := { s with sec := { s.sec with sealAt := s.tim.now } }

/-- R380: a write of SEAL_LOCK claims, then releases. DEDUCED (log 95). -/
def State.sealLockWrite (s : State) (v : Word) : State :=
  let s := s.sealTouch
  let tag := getField v 0 16
  let s := if bit v.toNat 16 ∧ tag ≠ 0 ∧ s.get F.SEAL_OWNER_OWNER = 0 then s.put F.SEAL_OWNER_OWNER tag else s
  if bit v.toNat 17 ∧ tag ≠ 0 ∧ s.get F.SEAL_OWNER_OWNER = tag then
    if s.sec.sealJob.isSome then { s with sec := { s.sec with sealRelease := true } } else s.sealFree
  else s

/-- R380: 100 ms without a SEAL_ write while no job runs. DEDUCED (log 95). -/
def State.sealLease (s : State) : State :=
  if s.get F.SEAL_OWNER_OWNER ≠ 0 ∧ s.sec.sealJob.isNone ∧ s.sec.sealAt + 100000000 ≤ s.tim.now then s.sealFree else s

/-- The bytes of `n` registers from index 0 of a register family. -/
def State.regBytes (s : State) (a : Nat → Nat) (n : Nat) : List Byte := wordBytes ((List.range n).map (fun w => s.rd (a w)))

/-- R381: a write of SEAL_CMD. -/
def State.sealCmdWrite (s : State) (v : Word) : State :=
  let s := s.sealTouch
  if !bit v.toNat 0 then s
  else if s.stopping 3 ∨ !s.sealOn then s.bump A.PWR_STOPPING_REJECT
  else if s.get F.SEAL_OWNER_OWNER = 0 ∨ s.sec.sealJob.isSome then s.bump A.SEAL_REJECT
  else
    let j : SealJob := ⟨bit v.toNat 1, s.regBytes A.SEAL_KEY (if bit v.toNat 2 then 8 else 4), s.regBytes A.SEAL_IV 3, s.get F.SEAL_AAD_LEN_LEN,
      s.get F.SEAL_LEN_LEN, (s.rd A.SEAL_OUT_ADDR_LO).toNat + (s.rd A.SEAL_OUT_ADDR_HI).toNat * 2 ^ 32, s.regBytes A.SEAL_TAG 4⟩
    ({ s with sec := { s.sec with sealJob := some j } } : State).put F.SEAL_STATUS_BUSY 1

/-- Sixteen tag bytes into SEAL_TAG. -/
def State.tagWrite (s : State) (tag : List Byte) : State :=
  (indexed (leWords 4 tag)).foldl (fun (s : State) (e : Nat × Word) => s.wr (A.SEAL_TAG e.1) e.2) s

/-- R381, R382: the job ends. `data`: the additional data and the input as read from host memory, `none` on a PCIe error. DEDUCED (log 95). -/
def State.sealDone (s : State) (data : Option (List Byte × List Byte)) : State :=
  match s.sec.sealJob, data with
  | none, _ => s
  | some _, none => s.sealEnd 2
  | some j, some (aad, input) =>
    let aad := slice aad 0 j.aadLen
    let input := slice input 0 j.inLen
    let put (s : State) (bs : List Byte) : State := { s with out := .hostData j.outAddr bs :: s.out }
    if j.decrypt then
      match Config.gcmDecrypt j.key j.iv aad input with
      | (pt, tag) =>
        let s := put s pt
        if tag = j.tag then (s.bump A.SEAL_JOBS).sealEnd 0
        else (((put s (List.replicate j.inLen 0#8)).bump A.SEAL_AUTH_FAIL).bump A.SEAL_JOBS).sealEnd 1
    else
      match Config.gcmEncrypt j.key j.iv aad input with
      | (ct, tag) => (((put s ct).tagWrite tag).bump A.SEAL_JOBS).sealEnd 0

/-! ### Key fuses (R384, R385) -/

/-- The state of customer slot k (R395): 0 empty, 1 written, 2 revoked. -/
def State.custSlot (s : State) (k : Nat) : Nat := bits (s.rd A.KEY_SLOT_STATE).toNat (2 * k) 2

/-- Customer slot k in another state. -/
def State.custSlotPut (s : State) (k st : Nat) : State := s.wr A.KEY_SLOT_STATE (setField (s.rd A.KEY_SLOT_STATE) (2 * k) 2 st)

/-- R385: the refusals of a fuse operation. -/
def State.fuseRefused (s : State) (op slot : Nat) : Bool :=
  match op with
  | 1 => s.custSlot slot != 0
  | 2 => s.custSlot slot != 1 || s.get F.PLT_ACTIVE_SIGNER_SIGNER == slot + 1
  | 3 => s.get F.KEY_ROLLBACK_VALUE == 64 || decide (s.get F.PLT_ACTIVE_ROLLBACK_VALUE < s.get F.KEY_ROLLBACK_VALUE + 1)
  | _ => false

/-- R385: a write of KEY_FUSE_CTRL. OP 0 names no operation. DEDUCED (log 52). -/
def State.keyFuseWrite (s : State) (v : Word) : State :=
  let op := getField v 0 2
  let slot := getField v 2 2
  if op = 0 then s
  else if s.stopping 4 then s.bump A.PWR_STOPPING_REJECT
  else if s.isSet F.KEY_FUSE_STATUS_BUSY then s
  else if getField v 16 16 ≠ 0x9640 ∨ s.fuseRefused op slot then s.raise F.KEY_FUSE_STATUS_ERROR
  else ({ s with sec := { s.sec with fuse := some (op, slot, s.regBytes A.KEY_FUSE_DATA 8) } } : State).put F.KEY_FUSE_STATUS_BUSY 1

/-- R385: the programming ends. -/
def State.keyFuseDone (s : State) : State :=
  match s.sec.fuse with
  | none => s
  | some (op, slot, hash) =>
    let s : State := { s with sec := { s.sec with fuse := none } }
    let s := match op with
      | 1 => (indexed (leWords 8 hash)).foldl (fun (s : State) (e : Nat × Word) => s.wr (A.KEY_CUST_HASH (8 * slot + e.1)) e.2) (s.custSlotPut slot 1)
      | 2 => s.custSlotPut slot 2
      | _ => s.put F.KEY_ROLLBACK_VALUE (s.get F.KEY_ROLLBACK_VALUE + 1)
    (s.put F.KEY_FUSE_STATUS_BUSY 0).raise F.KEY_FUSE_STATUS_DONE

/-! ### Attestation (R387) -/

/-- The serial number, from the identity record (R386). -/
def State.serialBytes (s : State) : List Byte := wordBytes [s.rd (A.KEY_IDENTITY 2), s.rd (A.KEY_IDENTITY 3)]

/-- Word `w` of the identity record (R386): magic, format, serial number, part and revision, the identity public key; the serial number and the vendor's signature stand as manufacturing test
wrote them. DESIGN CHOICE (log 8). -/
def State.identityWord (s : State) (w : Nat) : Word :=
  if w = 0 then 0x52444959#32
  else if w = 1 then 1#32
  else if w = 4 then 0x9640#32
  else if w = 5 then fieldWord 0 16 (s.get F.GLB_ID_REVISION)
  else if 6 ≤ w ∧ w < 14 then BitVec.ofNat 32 (leAt ((s.sec.idKey.map (fun k => k.1)).getD []) (4 * (w - 6)) 4)
  else if w < 1978 then s.rd (A.KEY_IDENTITY w)
  else 0#32

/-- R387: the statement. DEDUCED (log 96). -/
def State.statement (s : State) : List Byte :=
  leBytes 4 0x54544159 ++ leBytes 2 1 ++ leBytes 2 0 ++ s.serialBytes ++ s.regBytes A.KEY_ATT_NONCE 8 ++ s.regBytes A.PLT_ACTIVE_DIGEST 8 ++
    leBytes 4 (s.rd A.PLT_ACTIVE_VERSION).toNat ++ leBytes 2 (s.get F.PLT_ACTIVE_ROLLBACK_VALUE) ++ leBytes 1 (s.get F.KEY_ROLLBACK_VALUE) ++
    leBytes 1 (s.get F.PLT_ACTIVE_SIGNER_SIGNER) ++ leBytes 1 (s.rd A.KEY_SLOT_STATE).toNat ++
    leBytes 1 (b2n s.rfuse.lock + 2 * b2n (!s.dbg.session)) ++ leBytes 2 0 ++ leBytes 4 (s.tb0Ns / nsPerS) ++ s.regBytes A.PLT_ROLE_VERSION 12

/-- R387: a write of KEY_ATT_CTRL. DEDUCED (log 96). -/
def State.attWrite (s : State) (v : Word) : State :=
  if !bit v.toNat 0 then s
  else if s.stopping 4 then s.bump A.PWR_STOPPING_REJECT
  else if s.isSet F.KEY_ATT_STATUS_BUSY then s
  else ({ s with sec := { s.sec with signing := some s.statement } } : State).put F.KEY_ATT_STATUS_BUSY 1

/-- R387: nonce writes made while BUSY is 1 are discarded. -/
def State.nonceWrite (s : State) (w : Nat) (v : Word) : State :=
  if s.isSet F.KEY_ATT_STATUS_BUSY then s else s.wr (A.KEY_ATT_NONCE w) v

/-- R387: the statement and its signature stand in the window. DEDUCED (log 96). -/
def State.attDone (s : State) : State :=
  match s.sec.signing with
  | none => s
  | some st =>
    let sig := slice (Config.slhDsaSign ((s.sec.idKey.map (fun k => k.2)).getD []) st) 0 7856
    let s : State := { s with sec := { s.sec with signing := none } }
    let s := (indexed (leWords 2000 (st ++ sig))).foldl (fun (s : State) (e : Nat × Word) => s.wr (A.KEY_ATT_WINDOW e.1) e.2) s
    (s.put F.KEY_ATT_STATUS_BUSY 0).raise F.KEY_ATT_STATUS_DONE

end Sys2Proof.Machine
end

