-- ==== Sys2Proof/Machine/Loader.lean ====
section
/-! DEFINITION. The boot record (R399, R400), the Plate loader (R35 to R39, R482, R483) and the SEED tables (R280, R307). -/

namespace Sys2Proof.Machine

/-! ### The boot record (R399, R400) -/

/-- R400: which copy is in force: the good one, or the one whose sequence is later as a signed 32-bit difference. DEDUCED (log 43). -/
def pickRecord (a b : Option BootRec) : Option BootRec :=
  match a, b with
  | none, x => x
  | x, none => x
  | some x, some y => if 0 < sint 32 (y.seq + 2 ^ 32 - x.seq) then some y else some x

/-- R399: the 4,096-byte flash block of a boot record copy. -/
def BootRec.block (r : BootRec) : List Byte :=
  let data := [0x59#8, 0x42#8, 0x52#8, 0x43#8] ++ leBytes 2 1 ++ leBytes 2 0 ++ [r.seq, r.flags, r.aVersion, r.aBlocks, r.sVersion, r.sBlocks].flatMap (leBytes 4) ++
    slice r.aDigest 0 32 ++ slice r.sDigest 0 32 ++ (List.range 12).flatMap (fun k => slice (r.roleHash.getD k []) 0 32) ++ List.replicate 3612 0#8
  data ++ leBytes 4 (crc32c data)

/-- R400: the record is written to the copy not in force, with sequence + 1, showing A_VALID of `f` and the present state of region S. -/
def State.recordWrite' (s : State) (aValid : Bool) (f : BootRec → BootRec) : State :=
  let old := s.bootRec
  let flags := b2n aValid + 2 * s.get F.PLT_STAGE_STATE + 16 * s.get F.PLT_STAGE_COPY_PENDING
  let new := { f old with seq := (old.seq + 1) % 2 ^ 32, flags := flags }
  let first := s.upd.inForce.isNone || s.upd.inForce == s.upd.boot1
  { s with upd := { s.upd with inForce := some new, boot0 := if first then some new else s.upd.boot0,
                               boot1 := if first then s.upd.boot1 else some new } }

/-- A_VALID of the record in force. DEDUCED (log 43). -/
def State.aValid (s : State) : Bool := bit s.bootRec.flags 0

/-- The record is written with everything but the state of region S as it was. -/
def State.recordNow (s : State) : State := s.recordWrite' s.aValid id

/-- R400, R401: at a device start the record in force is chosen and region S shows it; blocks staged and not proofed are discarded. -/
def State.recordRead (s : State) : State :=
  let r := pickRecord s.upd.boot0 s.upd.boot1
  let s : State := { s with upd := { s.upd with inForce := r, op := none, proving := false, copying := false, openSize := 0 } }
  let fl := s.bootRec.flags
  let st := bits fl 1 3
  let lost := st == 1 || st == 2
  let s := s.wr A.PLT_STAGE (fieldWord 0 3 (if lost then 0 else st) ||| fieldWord 4 1 (bits fl 4 1))
  s.wr A.PLT_STAGE_VERSION (if lost then 0#32 else BitVec.ofNat 32 s.bootRec.sVersion)

/-- Region S holds a proofed Plate. -/
def State.sProofed (s : State) : Bool := s.get F.PLT_STAGE_STATE == 3

/-! ### The checks in the order of R483 -/

/-- The SHA-256 of the vendor root key as fused. -/
def State.rootHash (s : State) : List Byte := s.regBytes A.KEY_ROOT_HASH 8

/-- The fused hash of a signer (R21). -/
def State.signerHash (s : State) (signer : Nat) : List Byte :=
  if signer = 0 then s.rootHash else s.regBytes (fun w => A.KEY_CUST_HASH (8 * (signer - 1) + w)) 8

/-- The signer's slot is neither empty nor revoked; the vendor root cannot be (R384). -/
def State.signerUsable (s : State) (signer : Nat) : Bool := signer == 0 || s.custSlot (signer - 1) == 1

/-- Step 2 of R483, on block 0 of a region of `n` blocks. -/
def State.stepTwo (s : State) (b0 : List Byte) (n : Nat) : PlateFail :=
  let c := b0.take 4092
  firstFail [need (blockOk b0) 3 0, headerCheck c (s.get F.GLB_ID_REVISION) n, sectionCheck c, cacheCheck c]

/-- Step 3 of R483 for content block `b`, the last of `blocks`. -/
def State.stepThree (s : State) (blocks : List (List Byte)) (n b : Nat) : PlateFail :=
  let c := contentOf blocks (b + 1)
  firstFail ([need (blockOk (blocks.getD b [])) 3 b] ++ (rolesEnding c b).map (roleCheck c s.rootHash) ++
    [stagingCheck c b, need (b + 3 != n || zerosIn c (leAt c 0x14 4) ((n - 2) * 4092)) 4 (leAt c 0x1C 2)])

/-- Step 4 of R483 after the CRCs of the signature blocks. -/
def State.stepFour (s : State) (blocks : List (List Byte)) (n : Nat) : PlateFail :=
  firstFail [signatureCheck blocks n s.signerHash s.signerUsable, rollbackCheck (contentOf blocks (n - 2)) (s.get F.KEY_ROLLBACK_VALUE)]

/-- Step 5 of R483. -/
def State.stepFive (s : State) (c : List Byte) : PlateFail :=
  legendCheck (legendBytes c) (((legendSec c).map (fun e => e.len)).getD 0) (fun r => ((roleSec c r).map (fun e => leAt (secBytes c e) 0xC 2)).getD 0)
    (fun p => !s.rfuse.lock || s.profileWritten p)

/-- Steps 2 to 5 of R483 on a whole region (R405). -/
def State.wholeCheck (s : State) (blocks : List (List Byte)) (n : Nat) : PlateFail :=
  firstFail ([s.stepTwo (blocks.getD 0 []) n] ++ (List.range (n - 2)).map (s.stepThree blocks n) ++
    [need (blockOk (blocks.getD (n - 2) [])) 3 (n - 2), need (blockOk (blocks.getD (n - 1) [])) 3 (n - 1), s.stepFour blocks n,
     s.stepFive (contentOf blocks (n - 2))])

/-! ### Placement (R36 steps 6 and 7, R37) -/

/-- R37: engines for the twelve roles in order, from the free ones; answers how many roles found an engine, and the pairs. -/
def placeRoles (pref : Nat → Nat) : List Nat → List Nat → List (Nat × Nat) → List (Nat × Nat)
  | [], _, acc => acc
  | c :: l, free, acc =>
    match preferred (pref c) free with
    | some e => placeRoles pref l (free.filter (· != e)) (acc ++ [(c, e)])
    | none => acc

/-- The functions that PWR_FUNC powers take the values that a Legend gives, all settled (R435). -/
def State.funcsFromLegend (s : State) : State :=
  let on (i : Nat) : Bool := if i < 3 then s.radioEnable i else if i < 7 then s.portMode (i - 3) != 0 else true
  let w := (List.range 8).foldl (fun a i => a + 2 ^ i * b2n (on i)) 0
  let s : State := { s with pwr := { s.pwr with funcs := (List.range 8).map (fun i => ⟨on i, false, false, none⟩), heldFunc := none } }
  (s.wr A.PWR_FUNC (BitVec.ofNat 32 w)).wr A.PWR_FUNC_STATUS (BitVec.ofNat 32 w)

/-- Synthesiser k serves radio r (R79); where its self-test has fenced it, the spare serves, and without one the radio stops (R85). -/
def State.assignSynth (s : State) (r k : Nat) : State :=
  if s.isSet (F.CHN_SYNTH_STATUS_FENCED k) then
    match s.spareSynth with
    | some sp => s.put (F.CHN_SYNTH_STATUS_SERVES sp) r
    | none => s.radioStop r
  else s.put (F.CHN_SYNTH_STATUS_SERVES k) r

/-- R36 steps 6 and 7: roles on engines, the Legend in force, chains, synthesisers, port modes and time bases as it assigns them; the
synthesisers of the enabled radios lock (step 7). DEDUCED (log 45). DESIGN CHOICE (log 111). DEDUCED (log 120). -/
def State.place (s : State) (region : Nat) (blocks : List (List Byte)) (n : Nat) (pairs : List (Nat × Nat)) : State :=
  let c := contentOf blocks (n - 2)
  let l := legendBytes c
  let fromS := region == 2
  let s : State := { s with plt := { s.plt with legend := slice l 0 512, tmpl := (List.range 3).map (templateOf l),
                                                bodies := (List.range 12).map (fun r => bodyOf c (r + 1) fromS), fromS := fromS } }
  let s := s.showPlate c (sigBlock blocks n)
  let s := pairs.foldl (fun (s : State) (p : Nat × Nat) =>
    ((s.setEngine p.2 eServing p.1 0).put (F.ENG_ROLE_AT_ENGINE (p.1 - 1)) p.2).put (F.PLT_ROLE_VERSION_WORD (p.1 - 1)) (bodyOf c p.1 fromS).version) s
  let s := (List.range 16).foldl (fun (s : State) c => s.put (F.CHN_CHAIN_STATUS_RADIO c) (min 3 (s.chainRadio c))) s
  let s := (List.range 3).foldl (fun (s : State) r => s.assignSynth r (s.legendSynth r)) s
  let s := (List.range 3).foldl (fun (s : State) r => if s.radioEnable r then s.synthLock r true else s) s
  let s : State := if s.chn.trvFenced then { s with chn := { s.chn with trvBy := s.spareSynth } } else s
  let s := match s.chn.trvBy with
    | some k => (s.put (F.CHN_SYNTH_STATUS_SERVES k) 3).put (F.CHN_SYNTH_STATUS_LOCKED k) 1
    | none => { s with chn := { s.chn with trvDown := s.chn.trvFenced } }
  let s := (s.put F.CHN_REG_SELECT_PROFILE s.regProfile).put F.CHN_REG_STATUS_ACTIVE_PROFILE s.regProfile
  let s := (List.range 4).foldl (fun (s : State) p => s.put (F.ETH_STATUS_MODE p) (s.portMode p)) s
  let s := (List.range 8).foldl (fun (s : State) b => s.put (F.TB_STATUS_SOURCE b) (s.leg (0x040 + b) 1)) s
  let s := s.put F.DRC_CONFIG_ORDER s.dramOrder
  let s := s.put F.QSC_BUF_TOTAL_CELLS (27648 - 256 * s.mem.fenced.length)
  (s.funcsFromLegend.setRoutes false []).setRoutes true []

/-- An abandoned Plate leaves chains, synthesisers and ports: radios Off, chains unassigned, synthesisers as after reset, SerDes idle (R38). DEDUCED (log 45). -/
def State.unassign (s : State) : State :=
  let s := (List.range 3).foldl (fun (s : State) n => (if s.rstate n = rOff then s else s.radioRestart n).radMod n (fun x => { x with stopped := x.stopped && x.permanent != 0 })) s
  let s := (List.range 16).foldl (fun (s : State) c => s.put (F.CHN_CHAIN_STATUS_RADIO c) 3) s
  let s := (List.range 4).foldl (fun (s : State) k =>
    if s.isSet (F.CHN_SYNTH_STATUS_FENCED k) then s else (s.put (F.CHN_SYNTH_STATUS_SERVES k) (if k = 3 then 4 else k)).put (F.CHN_SYNTH_STATUS_LOCKED k) 0) s
  let s : State := { s with chn := { s.chn with trvBy := none, trvDown := false } }
  let s := (List.range 4).foldl (fun (s : State) p => (s.put (F.ETH_STATUS_LINK p) 0).put (F.ETH_STATUS_MODE p) 0) s
  let s : State := { s with pwr := { s.pwr with funcs := Pwr.reset.funcs, heldFunc := none } }
  ((s.wr A.PWR_FUNC (resetWord A.PWR_FUNC)).wr A.PWR_FUNC_STATUS (resetWord A.PWR_FUNC_STATUS)).put F.DRC_CONFIG_ORDER 0

/-- An abandoned Plate leaves its structures: engines blank again, no Legend in force. DEDUCED (log 45). -/
def State.unplace (s : State) : State :=
  let s := (List.range 14).foldl (fun (s : State) e => if s.estate e = eServing then s.setEngine e eBlank 0 0 else s) s
  let s := (List.range 12).foldl (fun (s : State) r => (s.put (F.ENG_ROLE_AT_ENGINE r) 15).wr (A.PLT_ROLE_VERSION r) 0#32) s
  let s : State := { s with plt := { s.plt with legend := [], tmpl := [[], [], []], bodies := [], fromS := false } }
  let s := ((s.wr A.PLT_ACTIVE_VERSION 0#32).wr A.PLT_ACTIVE_ROLLBACK 0#32).wr A.PLT_ACTIVE_SIGNER 0#32
  let s := (List.range 8).foldl (fun (s : State) i => s.wr (A.PLT_ACTIVE_DIGEST i) 0#32) s
  let s := (List.range 128).foldl (fun (s : State) i => s.wr (A.PLT_LEGEND i) 0#32) s
  s.unassign.engSync

/-! ### Regions in turn (R35, R38, R407, R482) -/

/-- The loader takes no further step; Plate-wait (R38). -/
def State.plateWait (s : State) : State :=
  let s : State := { s with plt := { s.plt with loader := none, fromWait := false } }
  ((s.put F.PLT_STATUS_STATE 5).put F.PLT_STATUS_SOURCE 0).put F.PLT_STATUS_FALLBACK 0

/-- PLT_ERROR keeps the first failure of the start (R44, R483). -/
def State.pltError (s : State) (f : Nat × Nat) : State :=
  if s.get F.PLT_ERROR_CODE = 0 then (s.put F.PLT_ERROR_CODE f.1).wr A.PLT_ERROR_DETAIL (BitVec.ofNat 32 f.2) else s

/-- Loading of region S begins, or fails for its block count (R482), which ends in Plate-wait. -/
def State.loadS (s : State) : State :=
  let n := s.bootRec.sBlocks
  if blockCountOk n then
    let s : State := { s with plt := { s.plt with loader := some ⟨2, n, [], .reading⟩ } }
    (s.put F.PLT_STATUS_STATE 0).put F.PLT_STATUS_SOURCE 2
  else (s.pltError (2, 0x10)).plateWait

/-- R35: a check fails on the region being loaded: region A gives way to a proofed region S; else the device waits for a Plate. -/
def State.loadFail (s : State) (region : Nat) (f : Nat × Nat) : State :=
  let s := (s.pltError f).unplace
  if region = 1 ∧ s.sProofed then (s.put F.PLT_STATUS_FALLBACK 1).loadS else s.plateWait

/-- R36 step 1 at a start: `sfdp`: the flash is there and its SFDP reads. DEDUCED (log 43). -/
def State.loadStart (s : State) (sfdp : Bool) : State :=
  if !sfdp then (s.pltError (1, 0)).plateWait
  else if s.isSet F.PLT_STAGE_COPY_PENDING ∧ s.sProofed then s.loadS
  else if !s.aValid then (if s.sProofed then (s.put F.PLT_STATUS_FALLBACK 1).loadS else s.plateWait)
  else
    let n := s.bootRec.aBlocks
    let begun : State := { s with plt := { s.plt with loader := some ⟨1, n, [], .reading⟩ } }
    let begun := (begun.put F.PLT_STATUS_STATE 0).put F.PLT_STATUS_SOURCE 1
    if s.upd.inForce.isNone ∨ blockCountOk n then begun else s.loadFail 1 (2, 0x10)

/-- R38: region S became proofed in Plate-wait: the loader starts from S. -/
def State.loadFromWait (s : State) : State :=
  let s : State := { s with plt := { s.plt with fromWait := true } }
  s.loadS

/-! ### Blocks (R36 steps 2 and 3) -/

/-- The next block of the region arrives. A block that the flash of this model does not list yet is listed. STATE shows verifying once
the last content block has passed. DESIGN CHOICE (log 44). DESIGN CHOICE (log 111). -/
def State.plateBlock (s : State) (block : List Byte) : State :=
  match s.plt.loader with
  | none => s
  | some ld =>
    if ld.phase ≠ .reading then s else
    let i := ld.blocks.length
    let blocks := ld.blocks ++ [block]
    let learn (r : List (Nat × List Byte)) : List (Nat × List Byte) := if (kvGet r i).isSome then r else kvPut r i (some block)
    let s : State := if ld.region = 1 then { s with upd := { s.upd with regionA := learn s.upd.regionA } }
      else { s with upd := { s.upd with regionS := learn s.upd.regionS } }
    let n := if i = 0 ∧ ld.region = 1 ∧ s.upd.inForce.isNone then leAt block 0x10 4 / 4096 else ld.n
    let two := if i = 0 then s.stepTwo block n else none
    let fail := match two with
      | some f => some f
      | none => if i + 2 < n then s.stepThree blocks n i else need (blockOk block) 3 i
    match fail with
    | some f => s.loadFail ld.region f
    | none =>
      let ld : Loader := ⟨ld.region, n, blocks, if i + 1 = n then .signature else .reading⟩
      let s : State := { s with plt := { s.plt with loader := some ld } }
      if n ≤ i + 3 then s.put F.PLT_STATUS_STATE 1 else s

/-- R36 steps 4 to 7. -/
def State.plateSigned (s : State) : State :=
  match s.plt.loader with
  | none => s
  | some ld =>
    if ld.phase ≠ .signature then s else
    let c := contentOf ld.blocks (ld.n - 2)
    let leg := legendBytes c
    let pairs := placeRoles (fun r => legAt leg (0x020 + 2 * (r - 1)) 2) ((List.range 12).map (· + 1)) s.blanks []
    match firstFail [s.stepFour ld.blocks ld.n, s.stepFive c, need (pairs.length == 12) 0xF s.blanks.length] with
    | some f => s.loadFail ld.region f
    | none =>
      let seeds := (seedSecs c).map (fun e => (e.off, secBytes c e))
      let s := s.place ld.region ld.blocks ld.n pairs
      let s : State := { s with plt := { s.plt with loader := some { ld with phase := .seeding }, seeds := seeds } }
      s.put F.PLT_STATUS_STATE 3

/-! ### DRAM training (R353) -/

/-- The Legend fixed part that the loader has, once its blocks have arrived. -/
def Loader.legend (ld : Loader) : Option (List Byte) :=
  let have' := ld.blocks.length * 4092
  let c := contentOf ld.blocks ld.blocks.length
  match legendSec c with
  | some e => if e.off + 512 ≤ have' then some (slice c e.off 512) else none
  | none => none

/-- R352: the capacity in MiB of a device type. -/
def dramCapacity (x16 g16 : Bool) : Nat := 2 ^ (12 + b2n (!x16) + b2n g16)

/-- R353: training and initialisation end. Where every rate failed, the capacity found is 0. DEDUCED (log 45). -/
def State.dramTrained (s : State) (d : DramFound) : State :=
  match s.plt.loader.bind Loader.legend with
  | none => s
  | some l =>
    let want := legAt l 0x1F 1
    let s : State := { s with mem := { s.mem with trained := some want, dram := [] } }
    let mib := if d.ok then dramCapacity d.x16 d.g16 else 0
    let s := (s.put F.DRC_STATUS_RATE (min d.rate want)).put F.DRC_STATUS_TRAINED (b2n d.ok)
    s.wr A.DRC_CONFIG (fieldWord 0 1 (b2n d.x16) ||| fieldWord 1 1 (b2n d.g16) ||| fieldWord 2 2 (legAt l 0x1E 1) ||| fieldWord 4 15 mib |||
      fieldWord 19 11 (min d.ms 2047))

/-! ### SEED records (R33, R280, R307) -/

/-- Words into consecutive registers by their field tables. -/
def State.wordsWrite (s : State) (off : Nat) (ws : List Word) : State :=
  (indexed ws).foldl (fun (s : State) (e : Nat × Word) => s.fieldsWrite (off + 4 * e.1) e.2) s

/-- One entry of a SEED table takes its place: a route longer than an address is held at the address's length, reserved bytes are not looked at. DESIGN CHOICE (log 46). -/
def State.seedEntry (s : State) (table i : Nat) (bs : List Byte) : State :=
  let ws := leWords (bs.length / 4) bs
  let w (k : Nat) : Word := ws.getD k 0#32
  match table with
  | 0x0001 => ((s.wordsWrite (0x600000 + 64 * i) (ws.take 15)).ruleCommitWrite .pcie i (w 15))
  | 0x0002 => (s.fieldsWrite (A.CLS_RANGE_W0 i) (w 0)).rangeWrite i (w 1)
  | 0x0003 =>
    let src := i / 17
    let k := i % 17
    if k = 0 then s.wordsWrite (A.HASH_KEY src 0) (ws.take 14) else s.wordsWrite (A.HASH_IND src (16 * (k - 1))) ws
  | 0x0004 => s.fieldsWrite (A.PRS_DEFAULT i) (w 0)
  | 0x0010 => (s.addRoute false (beAt bs 0 4 / 2 ^ (32 - leAt bs 4 1) * 2 ^ (32 - leAt bs 4 1)) (min 32 (leAt bs 4 1)) (leAt bs 6 2)).2
  | 0x0011 => (s.addRoute true (beAt bs 0 16 / 2 ^ (128 - leAt bs 16 1) * 2 ^ (128 - leAt bs 16 1)) (min 128 (leAt bs 16 1)) (leAt bs 18 2)).2
  | 0x0020 => (s.wr (A.POL_W0 i) (w 0)).policerWrite i (w 1)
  | 0x0021 =>
    if 40960 < i then (s.wr (A.QREC_W0 i) (w 0)).shaperWrite (i - 40960) (w 1)
    else (s.recordWrite i 0 (w 0)).recordWrite i 1 (w 1)
  | _ => s

/-- R33: a record's entries in ascending index. DESIGN CHOICE (log 46). -/
def State.seedRecord (s : State) (r : SeedRec) : State :=
  (List.range r.count).foldl (fun (s : State) k => s.seedEntry r.table (r.first + k) (slice r.data (k * r.entrySize) r.entrySize)) s

/-- R407 steps 1 and 2: the copy from S to A begins. -/
def State.copyBegin (s : State) : State :=
  let n := s.bootRec.sBlocks
  let s := (s.wr A.PLT_COPY 1#32).recordWrite' false id
  { s with upd := { s.upd with copying := true, regionA := s.upd.regionA.filter (fun e => decide (n ≤ e.1)) } }

/-- R36 step 9: the device is in service; the check units rejoin (R392); a Plate loaded from S is copied to A (R407). -/
def State.enterService (s : State) : State :=
  let s : State := { s with plt := { s.plt with loader := none, seeds := [], fromWait := false } }
  let s := (s.put F.PLT_STATUS_STATE 4).chkRejoin
  if s.plt.fromS then s.copyBegin else s

/-- R36 step 8: the DRAM check, then every record's check, then the records. Training must have ended. -/
def State.seedApply (s : State) : State :=
  match s.plt.loader with
  | none => s
  | some ld =>
    if ld.phase ≠ .seeding ∨ s.mem.trained ≠ some (s.leg 0x01F 1) then s else
    let recs := s.plt.seeds.flatMap (fun e => seedRecs e.2.length e.1 e.2)
    match firstFail (dramCheck s.plt.legend (s.get F.DRC_CONFIG_CAPACITY_MIB) :: recs.map (seedRecCheck s.plt.legend)) with
    | some f => s.loadFail ld.region f
    | none => (recs.foldl (fun (s : State) r => s.seedRecord r) s).enterService

/-! ### The rows -/

/-- R36. -/
def execPlateBlockRead (block : List Byte) (s : State) : Res := .next (s.plateBlock block)
/-- R22. -/
def execPlateSignatureCheck (s : State) : Res := .next s.plateSigned
/-- R353. -/
def execDramTrained (d : DramFound) (s : State) : Res := .next (s.dramTrained d)
/-- R33. -/
def execSeedApply (s : State) : Res := .next s.seedApply

end Sys2Proof.Machine
end

