-- ==== Sys2Proof/Machine/Update.lean ====
section
/-! DEFINITION. Updating the Plate in the field (R401 to R410): the mailbox, staging, proofing and the copy. -/

namespace Sys2Proof.Machine

/-! ### Region S (R401) -/

/-- Region S is in use. -/
def State.sInUse (s : State) : Bool := s.recutLive || s.plt.bodies.any (fun b => b.fromS) || s.plt.fromS

/-- PLT_STAGE.STATE. -/
def State.stage (s : State) : Nat := s.get F.PLT_STAGE_STATE

/-- A mailbox command ends: RESULT, CODE and PLT_MBX_DETAIL, and DONE sets (R402, R410). -/
def State.mbxEnd (s : State) (result code detail : Nat) : State :=
  let s := ((s.put F.PLT_MBX_STATUS_BUSY 0).put F.PLT_MBX_STATUS_RESULT result).put F.PLT_MBX_STATUS_CODE code
  (s.wr A.PLT_MBX_DETAIL (BitVec.ofNat 32 detail)).raise F.PLT_MBX_STATUS_DONE

/-- R401: a command that the present state does not allow. -/
def State.mbxRefuse (s : State) : State := s.mbxEnd (if s.sInUse then 9 else 10) 0 0

/-- A flash operation of a mailbox command begins; BUSY reads 1 until it ends. -/
def State.flashBegin (s : State) (op : FlashOp) : State :=
  ({ s with upd := { s.upd with op := some op } } : State).put F.PLT_MBX_STATUS_BUSY 1

/-! ### Commands (R401 to R407) -/

/-- R403: OPEN. Region S is RECEIVING from the start of the erase. DEDUCED (log 47). -/
def State.mbxOpen (s : State) (arg : Nat) : State :=
  if !(s.stage == 0 || s.stage == 3 || s.stage == 4) ∨ s.sInUse then s.mbxRefuse
  else if arg % 4096 ≠ 0 ∨ !blockCountOk (arg / 4096) then s.mbxEnd 2 0 0
  else
    let s : State := { s with upd := { s.upd with openSize := arg } }
    ((s.wr A.PLT_STAGE (fieldWord 0 3 1)).put F.PLT_STATUS_START_PENDING 0).flashBegin (.openErase (arg / 4096))

/-- The 4,096 bytes of the mailbox window. -/
def State.mbxWindow (s : State) : List Byte := s.regBytes A.PLT_MBX_BLOCK 1024

/-- R404: BLOCK. A block already written with the same content ends at once. DEDUCED (log 47). -/
def State.mbxBlock (s : State) (arg : Nat) : State :=
  let b := s.mbxWindow
  let i := arg / 4096
  let head := if i = 0 then headerCheck (b.take 4092) (s.get F.GLB_ID_REVISION) (s.upd.openSize / 4096) else none
  if s.stage ≠ 1 then s.mbxRefuse
  else if arg % 4096 ≠ 0 ∨ s.upd.openSize ≤ arg then s.mbxEnd 2 0 0
  else if !blockOk b then s.mbxEnd 1 0 0
  else match head with
    | some (code, detail) => s.mbxEnd 4 code detail
    | none =>
      if i = 0 ∧ leAt b 0xC 2 < s.get F.KEY_ROLLBACK_VALUE then s.mbxEnd 5 0 0
      else match kvGet s.upd.regionS i with
        | some x => if x = b then s.mbxEnd 0 0 0 else s.mbxEnd 3 0 0
        | none => s.flashBegin (.program i b)

/-- R405: PROOF. -/
def State.mbxProof (s : State) : State :=
  if s.stage ≠ 1 then s.mbxRefuse
  else if s.get F.PLT_STAGE_BLOCKS ≠ s.upd.openSize / 4096 then s.mbxEnd 6 0 0
  else
    let s : State := { s with upd := { s.upd with proving := true } }
    (s.put F.PLT_STAGE_STATE 2).put F.PLT_MBX_STATUS_BUSY 1

/-- R406: RECUT. -/
def State.mbxRecut (s : State) : State :=
  if s.stage ≠ 3 then s.mbxEnd 8 0 0
  else match s.recutStart with
    | (true, t) => t.mbxEnd 0 0 0
    | (false, t) =>
      (if t.get F.ENG_RECUT_STATUS_REFUSAL = 6 then t.put F.PLT_STATUS_START_PENDING 1 else t).mbxEnd 12 0 0

/-- R401: CANCEL. -/
def State.mbxCancel (s : State) : State :=
  if s.stage = 0 ∨ s.sInUse then s.mbxRefuse else s.flashBegin .cancel

/-- R407: COPY ends once the copy has begun; while one runs no second one starts. -/
def State.mbxCopy (s : State) : State :=
  if !s.isSet F.PLT_STAGE_COPY_PENDING then s.mbxEnd 10 0 0
  else if s.upd.copying then s.mbxEnd 9 0 0
  else s.copyBegin.mbxEnd 0 0 0

/-- R402, R416: a write of PLT_MBX_CMD. -/
def State.mbxWrite (s : State) (v : Word) : State :=
  let op := getField v 0 4
  let arg := (s.rd A.PLT_MBX_ARG).toNat
  if s.isSet F.PLT_MBX_STATUS_BUSY then s.bump A.PLT_MBX_REJECT
  else if op = 0 then s
  else if s.stopping 5 ∨ !(s.inService || s.get F.PLT_STATUS_STATE == 5) then s.mbxEnd 9 0 0
  else match op with
    | 1 => s.mbxOpen arg
    | 2 => s.mbxBlock arg
    | 3 => s.mbxProof
    | 4 => s.mbxRecut
    | 5 => s.mbxCancel
    | 6 => s.mbxCopy
    | _ => s.mbxRefuse

/-- R402: a write of PLT_MBX_ARG or of a word of the window. -/
def State.mbxDataWrite (s : State) (off : Nat) (v : Word) : State :=
  if s.isSet F.PLT_MBX_STATUS_BUSY then s.bump A.PLT_MBX_REJECT else s.wr off v

/-! ### Ends (R401, R404, R405, R407) -/

/-- R401: region S is FAILED, which the boot record keeps. -/
def State.sFailed (s : State) : State := (s.put F.PLT_STAGE_STATE 4).recordNow

/-- MBX_FLASH_DONE: the flash operation in progress ends; `ok`: what was read back equals what was programmed. -/
def State.flashDone (s : State) (ok : Bool) : State :=
  match s.upd.op with
  | none => s
  | some op =>
    let s : State := { s with upd := { s.upd with op := none } }
    match op with
    | .record => s.recordNow
    | .openErase n =>
      let s : State := { s with upd := { s.upd with regionS := s.upd.regionS.filter (fun e => decide (n ≤ e.1)) } }
      let s := s.wr A.PLT_STAGE_VERSION 0#32
      (s.recordWrite' s.aValid (fun r => { r with sBlocks := n, sVersion := 0 })).mbxEnd 0 0 0
    | .program i b =>
      if !ok then s.sFailed.mbxEnd 11 0 0
      else
        let s : State := { s with upd := { s.upd with regionS := kvPut s.upd.regionS i (some b) } }
        let s := s.put F.PLT_STAGE_BLOCKS (s.get F.PLT_STAGE_BLOCKS + 1)
        (if i = 0 then s.wr A.PLT_STAGE_VERSION (BitVec.ofNat 32 (leAt b 8 4)) else s).mbxEnd 0 0 0
    | .cancel =>
      let s := ((s.wr A.PLT_STAGE 0#32).wr A.PLT_STAGE_VERSION 0#32).put F.PLT_STATUS_START_PENDING 0
      s.recordNow.mbxEnd 0 0 0

/-- R405: the proofing's outcome. DEDUCED (log 47). -/
def State.proofCheck (s : State) : PlateFail :=
  let n := s.upd.openSize / 4096
  let blocks := regionBlocks s.upd.regionS n
  firstFail [s.wholeCheck blocks n, dramCheck (legendBytes (contentOf blocks (n - 2))) (s.get F.DRC_CONFIG_CAPACITY_MIB)]

/-- R401, R405: proofing ends. -/
def State.proofEnd (s : State) : State :=
  if !s.upd.proving then s else
  let n := s.upd.openSize / 4096
  let blocks := regionBlocks s.upd.regionS n
  let c := contentOf blocks (n - 2)
  let s' : State := { s with upd := { s.upd with proving := false } }
  match s.proofCheck with
  | some (code, detail) => s'.sFailed.mbxEnd 7 code detail
  | none =>
    let diff := s.inService && startDiffers s.plt.legend (legendBytes c)
    let s := s'.put F.PLT_STAGE_STATE 3
    let s := if diff then (s.put F.PLT_STATUS_START_PENDING 1).put F.PLT_STAGE_COPY_PENDING 1 else s
    let s := s.wr A.PLT_STAGE_VERSION (BitVec.ofNat 32 (leAt c 8 4))
    let s := s.recordWrite' s.aValid (fun r =>
      { r with sVersion := leAt c 8 4, sBlocks := n, sDigest := slice (sigBlock blocks n) 0x28 32,
               roleHash := (List.range 12).map (fun k => ((roleSec c (k + 1)).map (fun e => Config.sha256 (secBytes c e))).getD []) })
    let s := s.mbxEnd 0 0 0
    if s.get F.PLT_STATUS_STATE = 5 then s.loadFromWait else s

/-- R407 steps 3 and 4: the copy ends: `bad`: the first block whose read-back differs. A block of S whose CRC fails stops it as well. -/
def State.copyEnd (s : State) (bad : Option Nat) : State :=
  if !s.upd.copying ∨ s.stopping 5 then s else
  let r := s.bootRec
  let n := r.sBlocks
  let blocks := regionBlocks s.upd.regionS n
  let crcBad := (List.range n).find? (fun i => !blockOk (blocks.getD i []))
  let stop := match crcBad, bad with
    | none, none => none
    | some a, none => some a
    | none, some b => if b < n then some b else none
    | some a, some b => some (min a b)
  let done := stop.getD n
  let a := (List.range done).foldl (fun l i => kvPut l i (some (blocks.getD i []))) s.upd.regionA
  let s : State := { s with upd := { s.upd with copying := false, regionA := a } }
  let s := s.put F.PLT_COPY_BLOCKS done
  match stop with
  | some _ => s.put F.PLT_COPY_STATE 3
  | none =>
    let s := (s.put F.PLT_COPY_STATE 2).put F.PLT_STAGE_COPY_PENDING 0
    let s := s.put F.PLT_STAGE_STATE 3
    let s := s.recordWrite' true (fun r => { r with aVersion := r.sVersion, aBlocks := r.sBlocks, aDigest := r.sDigest })
    let s : State := { s with plt := { s.plt with fromS := false, bodies := s.plt.bodies.map (fun b => { b with fromS := false }) } }
    if s.recutLive then s else (List.range 14).foldl (fun (s : State) e => s.put (F.ENG_STATUS_BODY e) 0) s

/-! ### The rows -/

/-- A write of PLT_MBX_CMD with an OP. -/
def State.mbxHost (s : State) (m : Master) (op : Nat) : State :=
  s.hostWrite m A.PLT_MBX_CMD (BitVec.ofNat 32 op) (fun s => s.mbxWrite (BitVec.ofNat 32 op))

/-- R403. -/
def execMbxOpen (m : Master) (s : State) : Res := .next (s.mbxHost m 1)
/-- R404. -/
def execMbxBlock (m : Master) (s : State) : Res := .next (s.mbxHost m 2)
/-- R405. -/
def execMbxProof (m : Master) (s : State) : Res := .next (s.mbxHost m 3)
/-- R401. -/
def execProofDone (s : State) : Res := .next s.proofEnd
/-- R406. -/
def execMbxRecut (m : Master) (s : State) : Res := .next (s.mbxHost m 4)
/-- R401. -/
def execMbxCancel (m : Master) (s : State) : Res := .next (s.mbxHost m 5)
/-- R407. -/
def execMbxCopy (m : Master) (s : State) : Res := .next (s.mbxHost m 6)
/-- R407. -/
def execCopyDone (bad : Option Nat) (s : State) : Res := .next (s.copyEnd bad)
/-- R401. -/
def execMbxFlashDone (ok : Bool) (s : State) : Res := .next (s.flashDone ok)

end Sys2Proof.Machine
end

