-- ==== Sys2Proof/Machine/Start.lean ====
section
/-! DEFINITION. Resets and the start (R427 to R430): what a package reset keeps, and the steps of R429 up to Plate loading. -/

namespace Sys2Proof.Machine

/-! ### What a reset keeps (R428, R244, R423, R444) -/

/-- Registers that keep their value through a package reset: the calendar domain (R245, R423, R434, R444), and what fuses and silicon fix (R386,
R395, R347). -/
def keptAtReset (off : Nat) : Bool :=
  calOffsets.contains off || (0x10010 ≤ off && off < 0x1001C) || (0x114 ≤ off && off < 0x128) || (0x80140 ≤ off && off < 0x801E8) ||
    (0x82000 ≤ off && off < 0x84000) || off == A.GLB_ID || off == A.ENG_MEM_REPAIR

/-- A present record moves to the most recent one as it stands; the one that it displaces is lost (R444). -/
def State.recordsAtReset (s : State) : State :=
  if s.isSet F.GLB_FLT_STATUS_PRESENT then (if s.lastHeld then s.bump A.GLB_FLT_LOST else s).fltShift false false else s

/-- Fuse and flash operations cut short leave the part as before or as after: the manual says neither. -/
def State.operationsCut (s : State) : State :=
  let r := s.freeB
  let s := if r.1 then r.2.fuseDone else r.2
  let r := s.freeB
  let s := if r.1 then r.2.keyFuseDone else r.2
  let r := s.freeB
  if r.1 then r.2.flashDone true else r.2

/-- D0 and D1 reset entirely (R428), the package standing at a stage of the start. DEDUCED (log 27). -/
def State.resetTo (s : State) (g : StartStage) : State :=
  let s := s.recordsAtReset.operationsCut
  let r : State :=
    { State.reset with
      regs := s.regs.filter (fun e => keptAtReset e.1),
      tim := { Tim.reset with now := s.tim.now, xoPhase := s.tim.xoPhase, calSec := s.tim.calSec, calSub := s.tim.calSub, alarmDone := s.tim.alarmDone, calSet := s.tim.calSet,
                              calRuns := s.tim.calRuns, leapHold := s.tim.leapHold },
      upd := { Upd.reset with boot0 := s.upd.boot0, boot1 := s.upd.boot1, regionA := s.upd.regionA, regionS := s.upd.regionS },
      sec := { Sec.reset with idKey := s.sec.idKey },
      rfuse := { s.rfuse with busy := none },
      hst := { Hst.reset with perstLow := s.hst.perstLow },
      pwr := { Pwr.reset with stage := g, vddio := s.pwr.vddio, everStarted := s.pwr.everStarted, regulators := s.pwr.regulators,
                              badPhases := s.pwr.badPhases },
      out := s.out, fresh := s.fresh, pending := s.pending }
  r.put F.PWR_CLK_STATUS_XO32K_OK (s.get F.PWR_CLK_STATUS_XO32K_OK)

/-- VIN is absent or below UVLO. -/
def State.unpowered (s : State) : Bool := s.pwr.stage == .unpowered

/-- The next start runs its step 1. -/
def State.withRegulators (s : State) : State := { s with pwr := { s.pwr with regulators := true } }

/-- R428: a package reset, recorded by its cause bit; a new start begins. DESIGN CHOICE (log 102). -/
def State.packageReset (s : State) (cause : Fld) : State := (s.resetTo .begun).put cause 1

/-- R428. DESIGN CHOICE (log 5). -/
def execPowerOn (s : State) : Res :=
  .next (if s.unpowered then ((s.resetTo .begun).withRegulators).put F.PWR_RESET_CAUSE_POWER_ON 1 else s)

/-- R427. -/
def execUvlo (s : State) : Res := .next (if s.unpowered then s else (s.resetTo .unpowered).put F.PWR_RESET_CAUSE_UVLO 1)

/-- R428, R466: RESET_N low for 1 µs or more resets, below 0.2 µs it is ignored, and between these it is left open which of the two; in Off only the WAKE_N detector runs (R411, R431).
DESIGN CHOICE (log 5). -/
def execResetNLow (ns : Nat) (s : State) : Res :=
  .next (if ns < 200 ∨ s.unpowered ∨ s.pwr.stage = .off then s
    else
      let (b, s) := if ns < 1000 then s.freeB else (true, s)
      if b then s.packageReset F.PWR_RESET_CAUSE_RESET_PIN else s)

/-! ### Supplies (R425, R426) -/

/-- Phases of the six switching rails, one of them spare on each (R425): VCORE, VSRAM, VRET, VPHY, VRF, VRFH. -/
def railPhases (r : Nat) : Nat := [6, 3, 2, 2, 4, 2].getD r 0

/-- The location of a phase (R425, R433). -/
def State.phaseLoc (s : State) (r ph : Nat) : Word :=
  let u := [0x000, 0x008, 0x00C, 0x010, 0x000, 0x008].getD r 0 + ph
  if r < 4 then s.loc .ctl 3 u else s.loc .rfe 7 u

/-- Phases of a rail that are fenced. -/
def State.railBad (s : State) (r : Nat) : Nat := (s.pwr.badPhases.filter (fun e => e.1 == r)).length

/-- A phase is fenced: the rail's bit and its location show it (R426). -/
def State.phaseFence (s : State) (r ph : Nat) : State :=
  let s : State := { s with pwr := { s.pwr with badPhases := (r, ph) :: s.pwr.badPhases } }
  (s.put F.PWR_PHASE_STATUS_RAIL (s.get F.PWR_PHASE_STATUS_RAIL ||| 2 ^ r)).wr A.PWR_PHASE_LOC (s.phaseLoc r ph)

/-- A rail lacks a phase that its load needs (R443). -/
def State.railLacks (s : State) : Bool := (List.range 6).any (fun r => 2 ≤ s.railBad r)

/-! ### Clocks (R413, R430) -/

/-- R430: the engines and the packet path run from the RCO. -/
def State.fallBack (s : State) : State := s.put F.PWR_CLK_STATUS_FALLBACK 1

/-- The ENG and PKT PLLs are locked. -/
def State.pllsLocked (s : State) : Bool := s.isSet F.PWR_CLK_STATUS_ENG_LOCK && s.isSet F.PWR_CLK_STATUS_PKT_LOCK

/-- R430: fall-back where a PLL has not locked. -/
def State.lockOrFallBack (s : State) : State := if s.pllsLocked then s else s.fallBack

/-- The endpoint comes up once the SerDes PLL is locked and PERST_N is high (R429, R430). -/
def State.pcieComesUp (s : State) : State :=
  if s.isSet F.PWR_CLK_STATUS_SERDES_LOCK ∧ !s.hst.perstLow ∧ s.pwr.stage = .up ∧ !s.ballsTaken then { s with hst := { s.hst with pcieUp := true } } else s

/-! ### The steps of a start (R429) -/

/-- Step 1: every phase self-tested; a start that skips it keeps the phases found before. -/
def State.startStep1 (s : State) (bad : List (Nat × Nat)) : State :=
  let good (e : Nat × Nat) : Bool := e.1 < 6 && e.2 < railPhases e.1
  let l := if s.pwr.regulators then bad.filter good else s.pwr.badPhases
  l.foldl (fun (s : State) e => if s.pwr.badPhases.contains e then s else s.phaseFence e.1 e.2) { s with pwr := { s.pwr with badPhases := [], regulators := false } }

/-- Step 2: the fuses are read, and at the first start of all the identity key is made (R386). -/
def State.startStep2 (s : State) (o : StartOutcome) : State :=
  let w := (List.range 8).foldl (fun a p => if profileGood (s.profile p) then a + 2 ^ p else a) 0
  let s := (s.put F.CHN_REG_STATUS_WRITTEN w).put F.CHN_REG_STATUS_LOCKED (b2n s.rfuse.lock)
  let s := if s.pwr.everStarted then s else s.put F.GLB_ID_REVISION o.revision
  let s : State := { s with pwr := { s.pwr with everStarted := true } }
  if s.sec.idKey.isSome then s else { s with sec := { s.sec with idKey := some (Config.slhDsaKeyGen s.fresh) }, fresh := s.fresh + 1 }

/-- The targets of the calibration tick units at their next whole 100 ms of TB0 (R231). -/
def State.calTargets (s : State) : State :=
  let t := (s.t0 / 100000000 + 1) * 100000000
  { s with tim := { s.tim with cmpTarget := ((s.tim.cmpTarget.set 13 t).set 14 t).set 15 t } }

/-- Step 3: the clocks, the calendar clock where it had stopped (R241), and the time bases (R225). -/
def State.startStep3 (s : State) (o : StartOutcome) : State :=
  let s := ((s.put F.PWR_CLK_STATUS_ENG_LOCK (b2n o.engLock)).put F.PWR_CLK_STATUS_PKT_LOCK (b2n o.pktLock)).put F.PWR_CLK_STATUS_SERDES_LOCK (b2n o.serdesLock)
  let s := s.lockOrFallBack.put F.PWR_CLK_STATUS_XO80_OK (b2n o.xo80)
  let s := if s.tim.calRuns then s else
    ({ s with tim := { s.tim with calRuns := true, calSec := 0, calSub := 0 } } : State).put F.CAL_STATUS_LOST 1
  let t := s.startValue
  let s : State := { s with tim := { s.tim with tb := s.tim.tb.map (fun b => { b with t := t }) }, chn := { s.chn with xo80 := o.xo80 } }
  let s := s.calTargets
  { s with tim := { s.tim with tclkOn := o.xo80, carried := false, stopPhase := 0 } }

/-- A synthesiser fenced at start (R81, R115). -/
def State.synthFenceAtStart (s : State) (k : Nat) : State :=
  let s := s.wr A.CHN_LAST_FAULT_LOC (s.synthLoc k)
  if k = 4 then { s with chn := { s.chn with trvFenced := true, trvCause := 3 } }
  else ((s.put (F.CHN_SYNTH_STATUS_FENCED k) 1).put (F.CHN_SYNTH_STATUS_FENCE_CAUSE k) 3).put (F.CHN_SYNTH_STATUS_SERVES k) 5

/-- Step 4: every engine and synthesiser is self-tested; one that fails is fenced, shows where, is due a self-test again (R74) and makes no record (R444). -/
def State.startStep4 (s : State) (o : StartOutcome) : State :=
  let s := (List.range 14).foldl (fun (s : State) e =>
    match o.badEngines.find? (fun b => b.1.val == e) with
    | some (_, u) =>
      let s := ((s.put (F.ENG_STATUS_STATE e) eFenced).put (F.ENG_STATUS_FENCE_CAUSE e) 6).wr A.ENG_LAST_TAKEOVER_LOC (s.loc .eng e u)
      s.engMod e (fun x => { x with testAsked := true, loc := s.loc .eng e u })
    | none => s.put (F.ENG_STATUS_STATE e) eBlank) s
  let s := (List.range 5).foldl (fun (s : State) k => if o.badSynths.any (fun b => b.val == k) then s.synthFenceAtStart k else s) s
  s.engSync

/-- R192: the TRV role draws a session value and numbers its frames from 0. DEDUCED (log 73). -/
def State.drawSession (s : State) : State :=
  let r := s.freeN
  { r.2 with trv := { r.2.trv with session := r.1 % 2 ^ 32, seq := 0 } }

/-- Steps 3 and 4, and the beginning of step 5, once VDDIO is present, whose setting is kept until the next start (R453). DRAM_RESET_n rises as step 4 ends (R468). -/
def State.startRest (s : State) (o : StartOutcome) : State :=
  let s := ((s.startStep3 o).startStep4 o).drawSession
  let s := s.put F.QSC_BUF_TOTAL_CELLS 27648
  let s : State := { s with pwr := { s.pwr with stage := .up, outcome := none, vddio33 := some o.vddio33 }, mem := { s.mem with resetN := true } }
  (s.pcieComesUp.recordRead).loadStart o.sfdp

/-- R429: a start runs, unless TMODE selects manufacturing test (R451). It ends at step 1 where a rail lacks a needed phase (R443), and holds at the end of step 2 until VDDIO is present (R427). -/
def State.start (s : State) (o : StartOutcome) : State :=
  if s.pwr.stage ≠ .begun then s else
  if o.testMode then { s with pwr := { s.pwr with stage := .testMode } } else
  let s := s.startStep1 o.badPhases
  if s.railLacks then { s with pwr := { s.pwr with stage := .railHeld, regulators := true } }
  else
    let s := s.startStep2 o
    if s.pwr.vddio then s.startRest o else { s with pwr := { s.pwr with stage := .waitVddio, outcome := some o } }

/-- R429. DESIGN CHOICE (log 5). -/
def execStartSequence (o : StartOutcome) (s : State) : Res := .next (s.start o)

/-- R427: VDDIO is present; a start held at the end of its step 2 goes on. -/
def execVddioPresent (s : State) : Res :=
  let s : State := { s with pwr := { s.pwr with vddio := true } }
  .next (match s.pwr.stage, s.pwr.outcome with
    | .waitVddio, some o => s.startRest o
    | _, _ => s)

/-- R430: 0.2 ms into step 3. -/
def execPllLockTimeout (s : State) : Res := .next (if s.pwr.stage = .up then s.lockOrFallBack else s)

/-- R430: a retry in fall-back reports each lock as it is achieved. -/
def State.lockRetry (s : State) (eng pkt serdes : Bool) : State :=
  if s.pwr.stage ≠ .up then s else
  let s := if eng then s.put F.PWR_CLK_STATUS_ENG_LOCK 1 else s
  let s := if pkt then s.put F.PWR_CLK_STATUS_PKT_LOCK 1 else s
  if serdes ∧ !s.isSet F.PWR_CLK_STATUS_SERDES_LOCK then (s.put F.PWR_CLK_STATUS_SERDES_LOCK 1).pcieComesUp else s

/-- R430. -/
def execPllLockRetry (eng pkt serdes : Bool) (s : State) : Res :=
  .next (if s.isSet F.PWR_CLK_STATUS_FALLBACK then s.lockRetry eng pkt serdes else s)

/-- A write of PWR_CLK_CTRL (R430). -/
def State.clkCtrlWrite (s : State) (v : Word) : State :=
  if getField v 0 1 = 0 then s else if s.pllsLocked then s.put F.PWR_CLK_STATUS_FALLBACK 0 else s.bump A.PWR_CMD_REJECT

/-- R430. -/
def execClockSwitch (m : Master) (v : Word) (s : State) : Res := .next (s.hostWrite m A.PWR_CLK_CTRL v (fun s => s.clkCtrlWrite v))

/-- R427: XO32K is stable; while TCLK is off it carries the time bases from its next edge on (R215). -/
def execXo32kStable (s : State) : Res := .next (s.put F.PWR_CLK_STATUS_XO32K_OK 1)

/-- R430: XO80 begins running: TCLK resumes and the radios start under R90. -/
def execXo80Running (s : State) : Res :=
  .next (if s.pwr.stage ≠ .up ∨ s.isSet F.PWR_CLK_STATUS_XO80_OK then s else
    let s : State := s.put F.PWR_CLK_STATUS_XO80_OK 1
    let s : State := { s with chn := { s.chn with xo80 := true, trvDown := s.trvLost || (s.chn.trvFenced && s.chn.trvBy.isNone) } }
    let s := if s.tim.tclkOn then s else s.tclkResume
    (List.range 3).foldl (fun (s : State) n => s.radioRestart n) s)

/-- R429: PERST_N rises and the endpoint comes up. -/
def execPerstNRise (s : State) : Res := .next ({ s with hst := { s.hst with perstLow := false } } : State).pcieComesUp

end Sys2Proof.Machine
end

