-- ==== Sys2Proof/Machine/Power.lean ====
section
/-! DEFINITION. The power states: PWR_CMD, the handshake, the commit window, the entry actions, wakes and PWR_FUNC (R411 to R424). The return to
Run, which completes accesses that were held, lies in PowerReturn. -/

namespace Sys2Proof.Machine

/-! ### The request (R414) -/

/-- R414: the reason for which a request is refused before the handshake; 0 = none. DESIGN CHOICE (log 28). -/
def State.pwrRefusal (s : State) : Nat :=
  if s.recutLive then 2
  else if s.eng.running.isSome ∨ s.eng.waiting ≠ [] then 3
  else if !s.inService then 4
  else if s.isSet F.DRC_STATUS_FROZEN then 6
  else if s.dbg.halted.isSome then 7
  else if !s.isSet F.PWR_CLK_STATUS_XO32K_OK then 8
  else if s.isSet F.PWR_CLK_STATUS_FALLBACK then 9
  else 0

/-- A write of PWR_CMD (R414, R417, R428, R434). DESIGN CHOICE (log 28). -/
def State.pwrCmdWrite (s : State) (v : Word) : State :=
  let op := getField v 0 3
  let key := getField v 16 16 == 0x9640
  if op = 0 then s
  else if 5 < op ∨ ((op = 3 ∨ op = 4) ∧ !key) then s.bump A.PWR_CMD_REJECT
  else if s.pwrState ≠ 0 then (if op = 5 ∧ s.pwrState = 1 then s.pwrRelease 5 0 0 else s.bump A.PWR_CMD_REJECT)
  else if op = 5 then s
  else if op = 4 then s.packageReset F.PWR_RESET_CAUSE_RESTART
  else if s.pwrRefusal ≠ 0 then s.pwrRelease 2 s.pwrRefusal 0
  else
    let s := s.wr A.PWR_STATUS (fieldWord 0 3 1 ||| fieldWord 3 2 op ||| fieldWord 16 1 1)
    { s with pwr := { s.pwr with asked := 1, noHost := getField v 3 1 == 1, edges := [] } }

/-- The word of a PWR_CMD write. -/
def pwrWord (op : Nat) (noHost : Bool) (key : BitVec 16) : Word := fieldWord 0 3 op ||| fieldWord 3 1 (b2n noHost) ||| fieldWord 16 16 key.toNat

/-- A PWR_CMD write by a master. -/
def State.pwrHost (s : State) (m : Master) (v : Word) : State := s.hostWrite m A.PWR_CMD v (fun s => s.pwrCmdWrite v)

/-- R414. -/
def execPwrSleep (m : Master) (s : State) : Res := .next (s.pwrHost m (pwrWord 1 false 0#16))
/-- R414. -/
def execPwrDeep (m : Master) (noHost : Bool) (s : State) : Res := .next (s.pwrHost m (pwrWord 2 noHost 0#16))
/-- R414. -/
def execPwrOff (m : Master) (noHost : Bool) (key : BitVec 16) (s : State) : Res := .next (s.pwrHost m (pwrWord 3 noHost key))
/-- R428. -/
def execPwrRestart (m : Master) (key : BitVec 16) (s : State) : Res := .next (s.pwrHost m (pwrWord 4 false key))
/-- R417. -/
def execPwrAbort (m : Master) (s : State) : Res := .next (s.pwrHost m (pwrWord 5 false 0#16))

/-! ### The handshake (R415 to R417) -/

/-- The target is Deep or Off. -/
def State.targetLow (s : State) : Bool := 2 ≤ s.get F.PWR_STATUS_TARGET

/-- The host has still to put the function in D3hot (R415 position 1). DESIGN CHOICE (log 29). -/
def State.waitsD3 (s : State) : Bool := s.targetLow && !s.pwr.noHost && !s.hst.d3hot

/-- A frame already begun on a ring moves (R415 position 1). -/
def State.dmaRuns (s : State) : Bool := (List.range 33).any (fun r => s.ringBegun r)

/-- R415: the cluster at a position is in its delaying condition. DESIGN CHOICE (log 29). -/
def State.clusterDelays (s : State) (pos : Nat) : Bool :=
  match pos with
  | 1 => s.dmaRuns || s.waitsD3
  | 3 => s.sec.sealJob.isSome
  | 4 => s.sec.fuse.isSome || s.sec.signing.isSome || s.rfuse.busy.isSome
  | 5 => s.upd.op.isSome
  | 6 => (List.range 3).any (fun n => (s.rad n).tx.isSome || (s.ph n).rx.isSome || decide (s.tim.now < (s.rad n).exchEnd))
  | 7 => decide (s.t0 < s.trv.txUntil)
  | 9 => s.eng.roles.any (fun r => r.queue != [])
  | 10 => 0 < s.get F.DRC_STATUS_DEBT0 || 0 < s.get F.DRC_STATUS_DEBT1
  | _ => false

/-- R415: the cluster asked grants unless it delays; the next is asked, or the commit window opens (R418). `d3hot`: the host has the function in D3hot. -/
def State.clusterGrant (s : State) (d3hot : Bool) : State :=
  if s.pwrState ≠ 1 then s else
  let s : State := { s with hst := { s.hst with d3hot := d3hot } }
  if s.clusterDelays s.pwr.asked then s
  else
    let s : State := { s with pwr := { s.pwr with asked := s.pwr.asked + 1 } }
    if 10 < s.pwr.asked then s.put F.PWR_STATUS_STATE 2 else s

/-- R415. DESIGN CHOICE (log 29). -/
def execClusterGrant (d3hot : Bool) (s : State) : Res := .next (s.clusterGrant d3hot)

/-- R415, R417: the cluster asked still delays at its bound; the host's missing D3hot is refusal reason 5 of PCI0. DESIGN CHOICE (log 13). -/
def execHandshakeTimeout (s : State) : Res :=
  .next (if s.pwrState ≠ 1 then s
    else if s.pwr.asked = 1 ∧ s.waitsD3 ∧ !s.dmaRuns then s.pwrRelease 2 5 1
    else s.pwrRelease 4 0 s.pwr.asked)

/-! ### The commit window (R418) -/

/-- Level sources active now, by R420's table, for a target; `wakeN` and `fault`: the levels of sources 1 and 8. -/
def State.levelActive (s : State) (target : Nat) (wakeN fault : Bool) (c : Nat) : Bool :=
  match c with
  | 1 => wakeN
  | 2 => target ≤ 2 && s.isSet F.WUR_STATUS_WAKE
  | 3 => s.isSet F.CAL_STATUS_ALARM
  | 4 => target == 1 && s.path.ingress.any (fun p => p.source < 4)
  | 5 => target == 1 && s.hst.held.any (fun h => h.1 == .pcie)
  | 8 => target ≤ 2 && fault
  | _ => false

/-- The lowest enabled source active, edges latched included. -/
def State.wakeSource (s : State) (target : Nat) (wakeN fault edges : Bool) : Option Nat :=
  (List.range 9).find? (fun c => c != 0 && s.wakeEnabled c && (s.levelActive target wakeN fault c || (edges && s.pwr.edges.contains c)))

/-- R418. DEDUCED (log 27). -/
def State.windowClose (s : State) (wakeN fault : Bool) : State :=
  if s.pwrState ≠ 2 then s
  else match s.wakeSource (s.get F.PWR_STATUS_TARGET) wakeN fault false with
    | some c => (s.lastWake c 0).pwrRelease 3 0 0
    | none => s.put F.PWR_STATUS_STATE 3

/-- R418. -/
def execCommitWindowClose (wakeN fault : Bool) (s : State) : Res := .next (s.windowClose wakeN fault)

/-! ### The entry actions (R419, R348, R349, R369) -/

/-- Radio n goes down to a state from above it, its synthesiser off. DEDUCED (log 30). -/
def State.radioDown (s : State) (n r : Nat) : State :=
  if s.rstate n ≤ r then s else ((s.rxAbort n).synthLock n false).setRadio n r

/-- The actions for Sleep: radios to Standby, the Traverse transceiver off, the ENG and PKT PLLs off. DEDUCED (log 30). -/
def State.enterSleep (s : State) : State :=
  let s := (List.range 3).foldl (fun (s : State) n => s.radioDown n rStandby) s
  let s : State := { s with trv := { s.trv with rest := true } }
  (s.put F.PWR_CLK_STATUS_ENG_LOCK 0).put F.PWR_CLK_STATUS_PKT_LOCK 0

/-- The banks that the Legend retains, as (role code, scratchpad) (R348). -/
def State.retainedBanks (s : State) : List (Nat × Nat) :=
  (List.range 12).flatMap (fun r => (setBits 16 (s.retainMask (r + 1))).map (fun n => (r + 1, n)))

/-- The actions for Deep beside those for Sleep. DEDUCED (log 30). -/
def State.enterDeep (s : State) : State :=
  let s := s.enterSleep.clearStage.sealFree
  let s : State := { s with mem := { s.mem with retained := some s.retainedBanks }, path := { s.path with cache := [] } }
  let s := (List.range 3).foldl (fun (s : State) n => s.radioDown n rSleep) s
  let s := (List.range 4).foldl (fun (s : State) p => s.linkSet p false false) s
  let s := (s.pcieReset false).put F.PWR_CLK_STATUS_SERDES_LOCK 0
  let s : State := { s with chn := { s.chn with xo80 := false } }
  (s.put F.PWR_CLK_STATUS_XO80_OK 0).tclkHalt

/-- The actions for Off: everything but the calendar domain, fuses and flash is lost (R411). -/
def State.enterOff (s : State) : State :=
  let en := (s.rd A.PWR_WAKE_EN).toNat
  let s := (s.resetTo .off).withRegulators
  { s with pwr := { s.pwr with offWake := en } }

/-- R419: the entry actions are complete. -/
def State.entryDone (s : State) : State :=
  if s.pwrState ≠ 3 then s
  else match s.get F.PWR_STATUS_TARGET with
    | 1 => s.enterSleep.put F.PWR_STATUS_STATE 4
    | 2 => s.enterDeep.put F.PWR_STATUS_STATE 4
    | _ => s.enterOff

/-- R419. -/
def execEntryActionsDone (s : State) : Res := .next s.entryDone

/-! ### Waking (R420, R421, R423) -/

/-- R421: an XO32K edge registers the wake. From Off, sources 1 and 3 begin a start; in the handshake a wake cancels it (R417). -/
def State.wakeRegister (s : State) (wakeN fault : Bool) : State :=
  let t := s.get F.PWR_STATUS_TARGET
  if s.pwr.stage = .off then
    if wakeN ∧ bit s.pwr.offWake 0 then (s.lastWake 1 3).packageReset F.PWR_RESET_CAUSE_OFF_WAKE
    else if s.isSet F.CAL_STATUS_ALARM ∧ bit s.pwr.offWake 2 then (s.lastWake 3 3).packageReset F.PWR_RESET_CAUSE_OFF_WAKE
    else s
  else if s.pwrState = 1 then
    match s.wakeSource t wakeN fault false with
    | some c => (s.lastWake c 0).pwrRelease 3 0 0
    | none => s
  else if s.pwrState = 4 then
    match s.wakeSource t wakeN fault true with
    | some c => ({ s.lastWake c t with pwr := { s.pwr with edges := [], wakeAt := s.tim.now } } : State).put F.PWR_STATUS_STATE 5
    | none => s
  else s

/-- R421. -/
def execWakeRegister (wakeN fault : Bool) (s : State) : Res := .next (s.wakeRegister wakeN fault)

/-! ### The restore of the memories (R350, R369) -/

/-- The unit that a bank of a role's engine is (R62, R348). -/
def State.bankLoc (s : State) (b : Nat × Nat) : Word := s.engLoc (s.roleAt b.1) b.2

/-- An engine's scratchpads as they come back: the lines of retained banks that were not lost. -/
def keptLines (c : Nat) (kept : List (Nat × Nat)) (sp : List (Nat × BitVec 512)) : List (Nat × BitVec 512) :=
  sp.filter (fun l => kept.contains (c, l.1 / 1024))

/-- R369: array k of the key store (0 pairwise, 1 group, 2 MACsec) or the domain key slots (3) is cleared. -/
def State.keyArrayLost (s : State) (k : Nat) : State :=
  let s := if k < 3 then
      (List.range (classSize k)).foldl (fun (s : State) i => s.setSlot k i { KeySlot.blank with fault := true }) s
    else ({ s with trv := { s.trv with keys := List.replicate 2 (List.replicate 16 0#8) } } : State).put F.TRV_DKEY_STATUS_LOADED 0
  s.raise F.KEY_EVENT_FAULT

/-- R350: on a wake from Deep: `failed`: the retained banks that fail, with whether no copy of their snapshot reads; `arrays`: key arrays that fail. A
failing bank is rewritten from its snapshot; without one it is zeroed and the wake counts as a detected fault. Ledgers are rebuilt. -/
def State.retentionRestore (s : State) (failed : List (Nat × Nat × Bool)) (arrays : List Nat) : State :=
  match s.mem.retained with
  | none => s
  | some banks =>
    if s.pwrState ≠ 5 then s else
    let bad := failed.filter (fun e => banks.contains (e.1, e.2.1))
    let lost := (bad.filter (fun e => e.2.2)).map (fun e => (e.1, e.2.1))
    let kept := banks.filter (fun b => !lost.contains b)
    let s := (List.range 14).foldl (fun (s : State) e =>
      let c := s.erole e
      s.engMod e (fun x => { x with sp := if s.estate e = eServing then keptLines c kept x.sp else [] })) s
    let s := (List.range 12).foldl (fun (s : State) r =>
      let c := r + 1
      if s.servingRole c then
        s.roleMod c (fun x => { x with ledger := if s.counterproof then (s.engine (s.roleAt c)).sp else x.ledger, badLines := [] })
      else s) s
    let s : State := { s with mem := { s.mem with retained := none } }
    let s := s.put F.ENG_MEM_STATUS_RETFAIL_BANKS bad.length
    let s := match bad.getLast? with
      | some e =>
        let loc := s.bankLoc (e.1, e.2.1)
        ((s.raise F.ENG_MEM_STATUS_RETFAIL).wr A.ENG_MEM_RETFAIL_LOC loc).faultNow .retention (if lost = [] then 0 else 1) 0 loc 0
      | none => s
    let arrays := arrays.filter (· < 4)
    if arrays = [] then s
    else (arrays.foldl (fun (s : State) k => s.keyArrayLost k) s).faultNow .retention 1 0 (s.loc .pkt 0x0A (arrays.getLastD 0)) 0

/-- R350. DEDUCED (log 31). -/
def execRetentionRestore (failed : List (Fin 12 × Fin 16 × Bool)) (arrays : List (Fin 4)) (s : State) : Res :=
  .next (s.retentionRestore (failed.map (fun e => (e.1.val + 1, e.2.1.val, e.2.2))) (arrays.map (fun a => a.val)))

/-! ### Functions (R424) and Idle (R412) -/

/-- R424. -/
def execPwrFuncWrite (m : Master) (v : Word) (s : State) : Res := .next (s.hostWrite m A.PWR_FUNC v (fun s => s.funcWrite v))

/-- A function is in the delaying condition of its shutdown (R424). -/
def State.funcBusy (s : State) (i : Nat) : Bool :=
  if i < 3 then (s.rad i).tx.isSome || decide (s.tim.now < (s.rad i).exchEnd) else if i < 7 then false else s.sec.sealJob.isSome

/-- A function has lost its power (R424). -/
def State.funcOff (s : State) (i : Nat) : State :=
  if i < 3 then (((s.rxAbort i).synthLock i false).setRadio i rOff).xo80Follow
  else if i < 7 then s.linkSet (i - 3) false false
  else s

/-- A function has its power back (R424, R90). -/
def State.funcStarted (s : State) (i : Nat) : State := if i < 3 then (s.radioRestart i).xo80Follow else s

/-- R424: a shutdown or a start-up completes, and a latched change begins at once. -/
def State.funcDone (s : State) (i : Nat) : State :=
  let f := s.func i
  if f.stopping then
    if s.funcBusy i then s
    else ((s.funcMod i (fun x => { x with on := x.latched == some true, starting := x.latched == some true, stopping := false, latched := none })).funcOff i).funcShow
  else if f.starting then
    ((s.funcMod i (fun x => { x with starting := false, stopping := x.latched == some false, latched := none })).funcStarted i).funcShow
  else s

/-- R424. -/
def execFuncShutdownDone (i : Fin 8) (s : State) : Res := .next (s.funcDone i)

/-- R412: every engine in order has its clock stopped. -/
def execIdleEnter (s : State) : Res :=
  .next (if (List.range 14).all (fun e => s.estate e == eFenced || s.isSet (F.ENG_STATUS_IDLE e)) then { s with pwr := { s.pwr with idle := true } } else s)

end Sys2Proof.Machine
end

