-- ==== Sys2Proof/Machine/Faults.lean ====
section
/-! DEFINITION. Faults of supplies, clocks, fixed-logic clusters and the die link, and the housekeeping monitors (R426, R436 to R445, R470). -/

namespace Sys2Proof.Machine

/-! ### Supplies (R426, R443) -/

/-- The rail leaves regulation: the device holds itself in reset (R443). DEDUCED (log 32). -/
def State.holdInReset (s : State) : State := (s.resetTo .railHeld).withRegulators

/-- R426, R443: a phase fault: masked by the rail's spare, else degraded; a rail left without phases leaves regulation. DEDUCED (log 32). -/
def State.phaseFault (s : State) (r ph : Nat) : State :=
  if s.pwr.stage ≠ .up ∨ railPhases r ≤ ph ∨ s.pwr.badPhases.contains (r, ph) then s else
  let loc := s.phaseLoc r ph
  let before := s.railBad r
  let s := (s.phaseFence r ph).bump A.PWR_PHASE_FAULT
  if before = 0 then s.faultNow .phase 0 0 loc 0
  else if s.railBad r = railPhases r then (s.faultRecord .phase 2 0 loc 0).holdInReset
  else s.faultNow .phase 1 0 loc 0

/-- R426. -/
def execPhaseFault (rail phase : Fin 6) (s : State) : Res := .next (s.phaseFault rail phase)

/-- R443: only a rail whose spare phase is fenced can pass its rating. DEDUCED (log 32). -/
def execRailLeavesRegulation (rail : Fin 6) (s : State) : Res :=
  .next (if s.pwr.stage = .up ∧ 0 < s.railBad rail then s.holdInReset else s)

/-! ### Clocks (R442) -/

/-- A unit of CLK0 (R433). -/
def State.clkLoc (s : State) (unit : Nat) : Word := s.loc .ctl 1 unit

/-- XO80 fails: radios, DDR5 and TCLK stop. DEDUCED (log 34). -/
def State.xo80Lost (s : State) : State :=
  let s := (List.range 3).foldl (fun (s : State) n => (((s.endTx n .synthCut).rxAbort n).synthLock n false).setRadio n rOff) s
  let s : State := { s with chn := { s.chn with xo80 := false, trvDown := true } }
  let s := ((s.put F.PWR_CLK_STATUS_XO80_OK 0).put F.DRC_STATUS_LOST0 1).put F.DRC_STATUS_LOST1 1
  s.withdraw.tclkHalt

/-- R442. DEDUCED (log 34). -/
def State.clockFault (s : State) (c : ClockFault) : State :=
  if s.pwr.stage ≠ .up then s else
  match c with
  | .engPll => (s.put F.PWR_CLK_STATUS_ENG_LOCK 0).fallBack.faultNow .clock 1 0 (s.clkLoc 3) 3
  | .pktPll => (s.put F.PWR_CLK_STATUS_PKT_LOCK 0).fallBack.faultNow .clock 1 0 (s.clkLoc 4) 3
  | .tclkPll => s.tclkHalt.faultNow .clock 1 0 (s.clkLoc 6) 0
  | .xo80 => s.xo80Lost.faultNow .clock 2 0 (s.clkLoc 2) 0

/-- R442. -/
def execClockFault (c : ClockFault) (s : State) : Res := .next (s.clockFault c)

/-! ### Fixed-logic clusters (R440) -/

/-- The packed location of a unit of a fixed-logic cluster; regions 2 PKT, 3 BBD, 4 RFE (R3). -/
def State.clusterLoc (s : State) (r c u : Nat) : Word := s.loc (if r = 2 then .pkt else if r = 3 then .bbd else .rfe) c u

/-- The class of a cluster fault: SerDes and PCIe lanes have their own (R445). -/
def clusterClass (r c u : Nat) : FaultClass := if r = 2 ∧ ((c = 8 ∧ 4 ≤ u ∧ u < 8) ∨ (c = 9 ∧ u < 4)) then .serdes else .cluster

/-- R440 steps 1 and 2: intake stops; a radio's baseband loses its reception (R125). DEDUCED (log 35). -/
def State.clusterFail (s : State) (r c u : Nat) : State :=
  if s.pwr.stage ≠ .up ∨ s.flt.resetting.any (fun e => e.1 == r && e.2.1 == c) then s else
  let s : State := { s with flt := { s.flt with resetting := s.flt.resetting ++ [(r, c, u)] } }
  let s := if r = 3 ∧ c < 3 then s.rxAbort c else s
  s.faultRecord (clusterClass r c u) 0 0 (s.clusterLoc r c u) 0

/-- R440. -/
def execClusterCheckFail (c : Cluster) (unit : Fin 1024) (s : State) : Res := .next (s.clusterFail (c.region + 2) c.code unit)

/-- A radio's permanent fault in its baseband or its inline cipher unit: it restarts, and stops at the second (R440). -/
def State.radioPermanent (s : State) (n : Nat) : State :=
  let s := s.radMod n (fun x => { x with permanent := x.permanent + 1 })
  (if 2 ≤ (s.rad n).permanent then s.radioStop n else s.radioRestart n).xo80Follow

/-- Two copies of a unit (R440): masked while the other copy works. -/
def State.twin (s : State) (c a b : Nat) : Nat := if s.dead c a && s.dead c b then 2 else 0

/-- The outcome and the effect of a permanent fault, by R440's table, the fault already listed. -/
def State.permanentEffect (s : State) (r c u : Nat) : Nat × State :=
  match r, c with
  | 2, 0 => (if s.parserUp then 0 else 2, s)
  | 2, 1 => (if u < 0x40 then 1 else if s.classifierLost then 2 else 0, s)
  | 2, 2 => (if u < 2 then 1 else if s.routerLost then 2 else 0, s)
  | 2, 3 => (if u < 4 then 1 else max (s.twin 3 4 7) (max (s.twin 3 5 8) (s.twin 3 6 9)), s)
  | 2, 4 => (if u = 0x100 ∧ !s.allocatorLost then 0 else 2, s)
  | 2, 8 => (2, (s.portMod (u % 4) (fun p => { p with lost := true })).linkSet (u % 4) false true)
  | 2, 9 => if u < 4 then (1, s.pcieReset true) else (2, s.pcieReset false)
  | 2, 0xA => if 4 ≤ u ∧ u < 7 then (2, s.radioPermanent (u - 4)) else (2, s)
  | 2, 0xB => (2, ((s.funcMod 7 (fun _ => .down)).put F.PWR_FUNC_SEAL 0).funcShow)
  | 3, 0 => (2, s.radioPermanent 0)
  | 3, 1 => (2, s.radioPermanent 1)
  | 3, 2 => (2, s.radioPermanent 2)
  | 3, 3 => (2, { s with chn := { s.chn with trvDown := true } })
  | 4, 4 =>
    if u = 4 then
      let s := (List.range 3).foldl (fun (s : State) n => s.radioStop n) s
      (2, { s with chn := { s.chn with trvDown := true } })
    else (2, s)
  | 4, 5 => if u = 2 then (1, s) else (2, { s with chn := { s.chn with trvDown := true } })
  | 4, 6 => (if s.flt.permanent.contains (4, 6, 0) && s.flt.permanent.contains (4, 6, 1) then 2 else 0, s)
  | 4, _ =>
    if c < 4 ∧ 8 ≤ u ∧ u ≤ 0xA then
      (1, (List.range 4).foldl (fun (s : State) i => if s.chainFenced (4 * c + i) then s else s.fenceChain (4 * c + i) 7) s)
    else (2, s)
  | _, _ => (2, s)

/-- R440 steps 3 and 4: intake resumes. A cluster that fails its self-test, or that faulted within the last second, is permanently faulty. -/
def State.clusterDone (s : State) (r c : Nat) (pass : Bool) (us : Nat) : State :=
  match s.flt.resetting.find? (fun e => e.1 == r && e.2.1 == c) with
  | none => s
  | some (_, _, u) =>
    let again := s.flt.recent.any (fun e => e.1 == r && e.2.1 == c && decide (s.tim.now < e.2.2 + 1000000000))
    let s : State := { s with flt := { s.flt with resetting := s.flt.resetting.filter (fun e => !(e.1 == r && e.2.1 == c)),
                                                  recent := (r, c, s.tim.now) :: s.flt.recent.filter (fun e => !(e.1 == r && e.2.1 == c)) } }
    let loc := s.clusterLoc r c u
    if pass ∧ !again then (s.faultUpdate loc 0 us).faultDone loc
    else
      let l := s.flt.permanent
      let s : State := { s with flt := { s.flt with permanent := if l.contains (r, c, u) ∧ !(r = 2 ∧ c = 4) then l else (r, c, u) :: l } }
      let e := s.permanentEffect r c u
      (e.2.faultUpdate loc e.1 us).faultDone loc

/-- R440. -/
def execClusterResetDone (c : Cluster) (pass : Bool) (us : Nat) (s : State) : Res := .next (s.clusterDone (c.region + 2) c.code pass us)

/-- R439, R320: a PCIe lane fails and the link retrains on its good lanes. DEDUCED (log 35). -/
def execPcieLaneFault (lane : Fin 4) (s : State) : Res :=
  .next (if s.pwr.stage = .up ∧ s.hst.pcieUp ∧ !s.dead 9 lane then
      let s : State := { s with flt := { s.flt with permanent := (2, 9, lane.val) :: s.flt.permanent } }
      (s.pcieReset true).faultNow .serdes 1 0 (s.clusterLoc 2 9 lane) 0
    else s)

/-! ### The die link (R441) -/

/-- The highest-numbered powered chain. -/
def State.lastChain (s : State) : Option Nat :=
  ((List.range 16).filter (fun c => s.get (F.CHN_CHAIN_STATUS_RADIO c) < 3 && s.get (F.CHN_CHAIN_STATUS_STATE c) != 0 && !s.chainFenced c)).getLast?

/-- R441: a lane is fenced; its traffic moves to the lowest-numbered spare, or the link narrows. DEDUCED (log 35). -/
def State.laneFault (s : State) (lane us : Nat) : State :=
  if s.pwr.stage ≠ .up ∨ s.flt.fencedLanes.contains lane then s else
  let loc := s.loc .ctl 5 lane
  let carries := s.flt.trafficLanes.contains lane
  let s : State := { s with flt := { s.flt with fencedLanes := lane :: s.flt.fencedLanes, trafficLanes := s.flt.trafficLanes.filter (· != lane) } }
  let spare := (List.range 48).find? (fun x => !s.flt.fencedLanes.contains x && !s.flt.trafficLanes.contains x)
  let less (s : State) : State := s.put F.GLB_FLT_DLK_SPARES (s.get F.GLB_FLT_DLK_SPARES - 1)
  if !carries then (less s).faultNow .lane 0 0 loc 0
  else match spare with
    | some x => (less { s with flt := { s.flt with trafficLanes := x :: s.flt.trafficLanes } }).faultNow .lane 0 0 loc us
    | none =>
      let s := s.put F.GLB_FLT_DLK_LANES (s.get F.GLB_FLT_DLK_LANES - 1)
      let s := if s.get F.GLB_FLT_DLK_LANES < 40 then (match s.lastChain with | some c => s.fenceChain c 8 | none => s) else s
      s.faultNow .lane 1 0 loc us

/-- R441. -/
def execDieLinkLaneFault (lane : Fin 48) (us : Fin 5) (s : State) : Res := .next (s.laneFault lane us)

/-! ### The monitors (R470, R471) -/

/-- The recommended ranges, VIN in 2 mV and temperatures in 0.5 °C; `back`: with the margin that clearing asks for. -/
def envGood (back : Bool) (vin : Nat) (t0 t1 : Int) : Bool :=
  let dv : Nat := if back then 10 else 0
  let dt : Int := if back then 4 else 0
  let t (x : Int) : Bool := decide (-80 + dt ≤ x ∧ x ≤ 220 - dt)
  decide (1350 + dv ≤ vin ∧ vin ≤ 2750 - dv) && t t0 && t t1

/-- R470: a conversion: the readings, the peak, and LAPSE_ENV. While EXT_TRIG is 1 only a compare unit starts one. -/
def State.monitor (s : State) (vin vddio : BitVec 12) (vbat : BitVec 8) (t0 t1 : BitVec 10) : State :=
  if s.pwr.stage ≠ .up ∨ !s.answers ∨ (s.isSet F.PWR_MON_CTRL_EXT_TRIG ∧ !s.tim.adcDue) then s else
  let s : State := { s with tim := { s.tim with adcDue := false } }
  let a := sint 10 t0.toNat
  let b := sint 10 t1.toNat
  let s := s.wr A.PWR_MON_SUPPLY (fieldWord 0 12 vin.toNat ||| fieldWord 12 12 vddio.toNat ||| fieldWord 24 8 vbat.toNat)
  let s := s.wr A.PWR_MON_TEMP (fieldWord 0 10 t0.toNat ||| fieldWord 16 10 t1.toNat)
  let hi := max a b
  let s := if sint 10 (s.get F.PWR_MON_PEAK_TJ_MAX) < hi then
      s.wr A.PWR_MON_PEAK (fieldWord 0 10 (uint 10 hi) ||| fieldWord 10 1 (b2n (decide (a < b)))) else s
  if !envGood false vin.toNat a b then s.put F.GLB_FLT_STATUS_LAPSE_ENV 1
  else if envGood true vin.toNat a b then s.put F.GLB_FLT_STATUS_LAPSE_ENV 0
  else s

/-- R470. -/
def execMonitorConversion (vin vddio : BitVec 12) (vbat : BitVec 8) (t0 t1 : BitVec 10) (s : State) : Res := .next (s.monitor vin vddio vbat t0 t1)

end Sys2Proof.Machine
end

