-- ==== Sys2Proof/Machine/HostRows.lean ====
section
/-! DEFINITION. The commands of chapter "Ethernet ports, host interface and address map", but for the plain register accesses. -/

namespace Sys2Proof.Machine

/-- R311. -/
def execEthFrameReceive (p : Fin 4) (bytes : List Byte) (codeErr : Bool) (s : State) : Res := .next (s.ethReceive p bytes codeErr)

/-- R314: a pause whose time is over is gone. -/
def execPauseExpire (p : Fin 4) (c : Fin 8) (s : State) : Res :=
  .next (match (s.port p).pause.getD c none with
    | some (_, b) => if b ≤ s.tim.now then s.portMod p (fun x => { x with pause := x.pause.set c none }) else s
    | none => s)

/-- R315. -/
def execPfcXoff (p : Fin 4) (s : State) : Res := .next (s.pfcAbove p)
/-- R315. -/
def execPfcRefresh (p : Fin 4) (s : State) : Res := .next (s.pfcAgain p)
/-- R315. -/
def execPfcXon (p : Fin 4) (s : State) : Res := .next (s.pfcBelow p)
/-- R310. -/
def execLinkChange (p : Fin 4) (up receiving : Bool) (s : State) : Res := .next (s.linkSet p up receiving)
/-- R310. -/
def execEthCtrlWrite (m : Master) (p : Fin 4) (v : Word) (s : State) : Res := .next (s.hostWrite m (A.ETH_CTRL p) v (fun s => s.ethCtrl p v))
/-- R320. -/
def execPcieReset (up : Bool) (s : State) : Res := .next (s.pcieReset up)

/-- R321. -/
def execRingEnable (m : Master) (r : Fin 33) (v : Word) (s : State) : Res :=
  .next (s.hostWrite m (A.HDM_RING_CTRL r) (setField v 0 1 1) (fun s => s.ringCtrlWrite r (setField v 0 1 1)))
/-- R321. -/
def execRingDisable (m : Master) (r : Fin 33) (v : Word) (s : State) : Res :=
  .next (s.hostWrite m (A.HDM_RING_CTRL r) (setField v 0 1 0) (fun s => s.ringCtrlWrite r (setField v 0 1 0)))
/-- R321. -/
def execRingTailPost (m : Master) (r : Fin 33) (v : Word) (s : State) : Res :=
  .next (s.hostWrite m (A.HDM_RING_IDX r) v (fun s => s.ringTailWrite r v))
/-- R322, R323. -/
def execTxDescriptor (r : Fin 16) (ds : List (Word × Word × Word × Word)) (data : Option (List Byte)) (s : State) : Res := .next (if s.intake 9 then s.txTake r ds data else s)
/-- R324, R325. -/
def execRxWriteback (q : Fin 16) (ds : List (Word × Word × Word)) (s : State) : Res := .next (if s.intake 9 then s.rxWrite q ds else s)
/-- R321. -/
def execRingPcieError (r : Fin 33) (s : State) : Res := .next (s.ringError r)
/-- R326. DESIGN CHOICE (log 24). -/
def execEventRecord (s : State) : Res := .next s.eventWrite
/-- R327. -/
def execMsixSignal (v : Fin 64) (s : State) : Res := .next (s.vecSignal v)

end Sys2Proof.Machine
end

