-- ==== Sys2Proof/Machine/QueueRows.lean ====
section
/-! DEFINITION. The commands of chapter "Queueing, fair scheduling, shaping and policing". -/

namespace Sys2Proof.Machine

/-- R289, R290. -/
def execEnqueue (s : State) : Res := .next (if s.intake 4 then s.enqueueNext else s)

/-- R291. -/
def execSpillReturn (i : Fin 32864) (s : State) : Res := .next (if s.queueRuns i ∧ !s.frozen then s.spillBack i (s.que' i).length else s)

/-- R300: port p takes its next packet and sends it. -/
def State.ethDequeue (s : State) (p : Nat) : State :=
  if !s.portSends p ∨ !s.qscRuns (s.qscOf (3 + p)) then s
  else
    let base := 32768 + 8 * p
    let ok (c : Nat) : Bool := !s.paused p c
    match s.flatSelect (ethRoot p) base 8 ok with
    | none => s.flatRefused (ethRoot p) base 8 ok
    | some (c, strict) =>
      match s.que' (base + c) with
      | [] => s
      | x :: _ =>
        let l := chargeLen (max 60 x.bytes.length + 4) (sint 9 (s.get (F.QSC_PORT_OVERHEAD p)))
        let s := s.flatServe (ethRoot p) base c strict l
        if x.bad then s.bump A.ENG_MEM_PB_CELL_DROP else s.ethSend p x.bytes x.txStamp

/-- R300. -/
def execEthDequeue (p : Fin 4) (s : State) : Res := .next (s.ethDequeue p)

/-- R300: host queue q is eligible only while its ring has a free descriptor and no frame of its own in progress (R325). -/
def State.hostDequeue (s : State) : State :=
  let ok (q : Nat) : Bool := decide (0 < s.ringOwned (16 + q)) && s.isSet (F.HDM_RING_CTRL_EN (16 + q)) && !s.que.toHost.any (fun e => e.1 == q)
  match s.flatSelect hostRoot 32800 16 ok with
  | none => s.flatRefused hostRoot 32800 16 ok
  | some (q, strict) =>
    match s.que' (32800 + q) with
    | [] => s
    | x :: _ =>
      let s := s.flatServe hostRoot 32800 q strict (chargeLen x.bytes.length (s.get F.QSC_HOST_OVERHEAD))
      if x.bad then s.bump A.ENG_MEM_PB_CELL_DROP else { s with que := { s.que with toHost := s.que.toHost ++ [(q, x, 0)] } }

/-- R300. -/
def execHostDequeue (s : State) : Res := .next (if s.qscRuns (s.qscOf 7) then s.hostDequeue else s)

/-- R158, R161, R301: the AIR role's request agrees with the run in progress on radio n: its kind, in a service period its SPID, in a Stipple run its link. -/
def State.drawFits (s : State) (n : Nat) (d : DrawReq) : Bool :=
  match (s.gr n).run with
  | some r => d.kind == r.kind && ((d.kind != 2 && d.kind != 3) || d.spid == r.spid) && (d.kind != kSTP || s.linkTo n r.peer == some d.link.val)
  | none => false

/-- R118, R119: the most users that one PPDU of radio n can carry: in each resource unit as many as there are chains, never more than 8. -/
def State.userMax (s : State) (n : Nat) : Nat :=
  ruCount (((s.rad n).chan.map (fun c => c.width)).getD 0) * min 8 (s.get (F.CHN_RADIO_STATE_CHAINS n))

/-- R158: how many stations radio n may still begin to serve in service periods of this superframe. -/
def State.schedRoom (s : State) (n : Nat) : Nat := s.get (F.RAD_GRT_CTRL_SCHED_MAX n) - (s.gr n).served.length

/-- The stations that a draw is limited to, if it is: the one of an STP run's link, or the one named for power-save delivery (R301). -/
def State.drawNamed (s : State) (n : Nat) (d : DrawReq) : Option (List Nat) :=
  if d.kind = 6 then (if s.isSet (F.QSC_STP_STA_VALID n d.link) then some [s.get (F.QSC_STP_STA_STATION n d.link)] else some [])
  else if d.kind = 4 then d.named.map (fun st => [st])
  else none

/-- R301: the users of a draw of radio n leave for its AIR role; what held others back is counted. -/
def State.drawStations (s : State) (n : Nat) (d : DrawReq) (budgets : List Nat) : State :=
  let cands := (s.stations.filter (fun st => s.drawEligible n d st)).filter (fun st => ((s.drawNamed n d).map (fun l => l.contains st)).getD true)
  let room := s.schedRoom n
  let users := if s.shaperAllows (radioRoot n) then s.drawUsers n d room cands budgets else []
  let fresh := (users.filter (fun x => s.schedNew n d x.1)).length
  let full : Bool := decide (room ≤ fresh) && decide (users.length < budgets.length) &&
    cands.any (fun st => s.schedNew n d st && !users.any (fun x => x.1 == st) && (s.drawTids n d st (budgets.headD 0)) != [])
  let away := cands.any (fun st => (List.range 8).any (fun t => s.tidMaps n st t && s.headAway (8 * st + t)))
  let held := cands.any (fun st => (List.range 8).any (fun t => s.tidMaps n st t && s.headReady (8 * st + t)))
  let s := if full then s.bump (A.RAD_GRT_SCHED_FULL n) else s
  let s := if away then s.bump A.QSC_SPILL_STALL else s
  let s : State := if users = [] ∧ held ∧ !s.que.armed.contains (radioRoot n) then { s with que := { s.que with armed := s.que.armed ++ [radioRoot n] } } else s
  let s := users.foldl (fun (s : State) x => s.drawServe n users.length x) s
  let s := if d.kind = 2 ∨ d.kind = 3 then
      s.grMod n (fun g => { g with served := users.foldl (fun l x => if l.contains x.1 then l else x.1 :: l) g.served })
    else s
  { s with out := .draw n (users.map (fun x => (x.1, x.2.1, pktBytes x.2.2))) :: s.out }

/-- R301: a draw of radio n; one that does not agree with the run in progress returns no user. DEDUCED (log 89). -/
def State.radioDraw (s : State) (n : Nat) (d : DrawReq) : State :=
  let budgets := d.budget.take (min d.users (s.userMax n))
  let grp := (s.gr n).groupLeft.find? (fun t => (s.que' (32816 + 16 * n + t)) != [])
  if !s.drawFits n d ∨ !s.qscRuns (s.qscOf n) then { s with out := .draw n [] :: s.out }
  else if d.kind = 1 then (match d.named with
    | some t => if (s.gr n).groupLeft.contains (t % 16) then s.drawGroup n (t % 16) (budgets.headD 0) else { s with out := .draw n [] :: s.out }
    | none => { s with out := .draw n [] :: s.out })
  else if d.kind = 4 ∧ grp.isSome then s.drawGroup n (grp.getD 0) (budgets.headD 0)
  else s.drawStations n d (if d.kind = 4 ∨ d.kind = 6 then budgets.take 1 else budgets)

/-- R301. -/
def execRadioDraw (n : Fin 3) (d : DrawReq) (s : State) : Res := .next (s.radioDraw n d)

/-- The place in qsc_split of root 32,864 + k (R27, R284). -/
def splitBit (k : Nat) : Nat := if k < 4 then 3 + k else if k < 7 then k - 4 else 7

/-- R297: the wake-up timer that root 32,864 + k has armed fires, and its event goes to the root's QSC role (R56). -/
def State.shaperWake (s : State) (k : Nat) : State :=
  if !s.que.armed.contains (32864 + k) then s
  else
    let s : State := { s with que := { s.que with armed := s.que.armed.filter (· != 32864 + k) } }
    s.offer (9 + s.qscOf (splitBit k)) ⟨none, 0, 0, some (32864 + k), 0, [], none, false⟩

/-- R297. -/
def execShaperWake (root : Fin 8) (s : State) : Res := .next (s.shaperWake root)

/-- R292. -/
def execQueueRecordWrite (m : Master) (i : Fin 40960) (w : Fin 4) (v : Word) (s : State) : Res :=
  .next (s.hostWrite m (A.QREC_W0 i + 4 * w) v (fun s => s.recordWrite i w v))

/-- R297. -/
def execShaperCommit (m : Master) (k : Fin 8192) (v : Word) (s : State) : Res :=
  .next (s.hostWrite m (A.QREC_W1 (40960 + k)) v (fun s => s.shaperWrite k v))

/-- R287: the move of a station's home applies. -/
def execStationHomeMove (st : Fin 4096) (s : State) : Res :=
  .next { s with que := { s.que with moving := s.que.moving.filter (· != st.val) } }

/-- R304: the flush of a station runs to its end: its packets and held MPDUs are dropped and counted, what its links share of them goes (R168), and its tags take the V of their schedulers. -/
def State.flushStation (s : State) (st : Nat) : State :=
  if !s.que.flushing.contains st then s
  else
    let qs := (List.range 8).map (fun t => 8 * st + t)
    let n := (qs.map (fun i => (s.que' i).length)).sum + (s.que.air.filter (fun e => e.2.1 / 8 == st && decide (e.2.1 < 32768))).length
    let s := qs.foldl (fun (s : State) i => s.setQue i []) s
    let s : State := { s with que := { s.que with air := s.que.air.filter (fun e => !(e.2.1 / 8 == st && decide (e.2.1 < 32768))),
                                                  flushing := s.que.flushing.filter (· != st) },
                              grt := { s.grt with tids := s.grt.tids.filter (fun e => e.1 / 8 != st) } }
    let s := s.count A.QSC_FLUSH_DROP n
    let s := [0, 1, 2].foldl (fun (s : State) r => s.setF (radioRoot r) st (s.vtime (radioRoot r))) s
    let s := (List.range 8).foldl (fun (s : State) t => s.setF (staNode st) t (s.vtime (staNode st))) s
    match s.que.flushing with
    | [] => s.put F.QSC_FLUSH_STATUS_BUSY 0
    | x :: _ => s.put F.QSC_FLUSH_STATUS_STATION x

/-- R304. -/
def execStationFlush (st : Fin 4096) (s : State) : Res := .next (s.flushStation st)

/-- R305. -/
def execPolicerCommit (m : Master) (p : Fin 65536) (v : Word) (s : State) : Res :=
  .next (s.hostWrite m (A.POL_W1 p) v (fun s => s.policerWrite p v))

/-- R306: a packet waits for the QSC role that holds its policer, and for that role to run. -/
def State.meterDue (s : State) (g : PktStage) : Bool :=
  match g with
  | .meter _ _ w14 _ => s.qscRuns (getField w14 0 16 / 32768)
  | _ => false

/-- R306. -/
def execMeter (k : Nat) (s : State) : Res := .next (s.onResult k s.meterDue (fun s => s.meterPkt k))

/-- R306: QSC role q refreshes its policers, and the shapers; a refresh does not count. -/
def State.refreshBuckets (s : State) (q : Nat) : State :=
  let c := s.usClock
  let one (e : Nat × Bucket) : Nat × Bucket := (e.1, e.2.refill c)
  if !s.qscRuns q then s else
  { s with que := { s.que with policers := s.que.policers.map (fun e => if e.1 / 32768 = q then one e else e), shapers := s.que.shapers.map one } }

/-- R306. -/
def execPolicerRefresh (q : Fin 2) (s : State) : Res := .next (s.refreshBuckets q)

end Sys2Proof.Machine
end

