-- ==== Sys2Proof/Machine/Constellation.lean ====
section
/-! DEFINITION. What a Stipple PPDU carries on the air: its durations and lengths (R127), its SSIG with the CRC (R128), constellations (R129), and coding and mapping of the payload (R130). -/

namespace Sys2Proof.Machine

/-! ### Durations and signal fields (R127, R128) -/

/-- R127: the LTFs of a number of streams. -/
def ltfCount (nss : Nat) : Nat := if nss ≤ 2 then nss else if nss ≤ 4 then 4 else if nss ≤ 6 then 6 else 8

/-- R127: the duration in ns of a Stipple PPDU. -/
def stippleNs (nss symbols : Nat) : Nat := 44000 + 7200 * ltfCount nss + 13600 * symbols

/-- R127: the LENGTH of the L-SIG of a PPDU of `ns` ns, by the rule of 802.11be. PRESUMED (log 115). -/
def lsigLength (ns : Nat) : Nat := 3 * ceilDiv (ns - 20000) 4000 - 3

/-- R128: the CRC of the SSIG over bits [89:0], bit 0 first, sent inverted. PRESUMED (log 58). -/
def ssigCrc (g : Nat) : Nat := ((List.range 90).foldl (fun r i => crcBit 8 0x07 r (bit g i)) 0xFF) ^^^ 0xFF

/-- R128: the SSIG as 13 bytes, bit 0 first; the highest bit of the CRC is sent first. PRESUMED (log 58). -/
def ssigBytes (g : Nat) : List Byte := leBytes 13 (g + bitRev 8 (ssigCrc g) * 2 ^ 90)

/-! ### Constellations (R129) -/

/-- The binary number of a bit string, first bit highest. -/
def bitsNat (l : List Bool) : Nat := l.foldl (fun a b => 2 * a + b2n b) 0

/-- The place in a Gray code of a label, first bit highest. -/
def grayPlace (l : List Bool) : Nat := (l.foldl (fun (a : Bool × Nat) b => (xor a.1 b, 2 * a.2 + b2n (xor a.1 b))) (false, 0)).2

/-- The amplitude of an axis of 2^n points that carries a label of n bits; no bits, no amplitude. PRESUMED (log 115). -/
def axisLevel (l : List Bool) : Int := if l = [] then 0 else 2 * (grayPlace l : Int) - (2 ^ l.length - 1 : Nat)

/-- R129: the average power of a constellation of 2^i by 2^q points with odd amplitudes: what its points are scaled by. -/
def constellationPower (i q : Nat) : Nat := (4 ^ i - 1) / 3 + (4 ^ q - 1) / 3

/-- R129: what a subcarrier carries for its group of bits. PRESUMED (log 115). -/
def iqPoint (l : List Bool) : Iq :=
  let i := ceilDiv l.length 2
  ⟨axisLevel (l.take i), axisLevel (l.drop i), if l = [] then 1 else constellationPower i (l.length - i)⟩

/-! ### Coding and mapping (R130) -/

/-- R130: the coded bits of a symbol. -/
def cbps (loads : List (List Nat)) : Nat := (loads.map List.sum).sum

/-- R130: the information bits of a codeword at a rate. -/
def rateBits (rate : Nat) : Nat := [972, 1296, 1458, 1620].getD rate 972

/-- R130: the codewords that a number of symbols holds. -/
def codewordCount (loads : List (List Nat)) (symbols : Nat) : Nat := cbps loads * symbols / 1944

/-- R130: the payload bits that a number of symbols carries. -/
def payloadBits (loads : List (List Nat)) (rate symbols : Nat) : Nat := codewordCount loads symbols * rateBits rate

/-- A bit string of exactly n bits: cut, or filled with zeros. -/
def fitBits (n : Nat) (l : List Bool) : List Bool := l.take n ++ List.replicate (n - l.length) false

/-- Payload bytes as bits, lowest bit of each byte first. PRESUMED (log 115). -/
def payloadString (bs : List Byte) : List Bool := bs.flatMap (fun b => (List.range 8).map b.getLsbD)

/-- R130: `c` codewords for a payload; payload that does not fill them is followed by zeros. PRESUMED (log 115). -/
def codewords (rate : Nat) : Nat → List Bool → List Bool
  | 0, _ => []
  | c + 1, l => fitBits 1944 (Config.ldpc1944 rate (fitBits (rateBits rate) l)) ++ codewords rate c (l.drop (rateBits rate))

/-- R130: the coded bits of a symbol on the subcarriers of a stream, ascending. -/
def mapStream : List Nat → List Bool → List Iq
  | [], _ => []
  | b :: t, l => iqPoint (l.take b) :: mapStream t (l.drop b)

/-- R130: the coded bits of a symbol on the streams, in their order. -/
def mapSymbol : List (List Nat) → List Bool → List (List Iq)
  | [], _ => []
  | s :: t, l => mapStream s l :: mapSymbol t (l.drop s.sum)

/-- R130: coded bits on symbol after symbol. -/
def mapSymbols (loads : List (List Nat)) : Nat → List Bool → List (List (List Iq))
  | 0, _ => []
  | n + 1, l => mapSymbol loads l :: mapSymbols loads n (l.drop (cbps loads))

/-- R130: the data field of a PPDU; bit positions past the last codeword carry zeros. -/
def dataField (loads : List (List Nat)) (rate symbols : Nat) (bs : List Byte) : List (List (List Iq)) :=
  mapSymbols loads symbols (fitBits (cbps loads * symbols) (codewords rate (codewordCount loads symbols) (payloadString bs)))

/-- R129: the loads of the basic map on a width code: 2 bits on every data subcarrier of one stream. Its rate is 1/2. -/
def basicLoads (w : Nat) : List (List Nat) := [List.replicate (dataTones w) 2]

/-- R130: the least number of symbols whose payload bits hold `n` bytes. -/
def symbolsFor (loads : List (List Nat)) (rate n : Nat) : Nat := ceilDiv (1944 * ceilDiv (8 * n) (rateBits rate)) (max 1 (cbps loads))

end Sys2Proof.Machine
end

