-- ==== Sys2Proof/Machine/Convert.lean ====
section
/-! DEFINITION. Received 802.11 data frames as Ethernet II (R252). -/

namespace Sys2Proof.Machine

/-- R252: an 802.11 payload with the addresses it goes by: LLC/SNAP gives the EtherType; without it an 802.3 length frame. PRESUMED (log 116). -/
def ethernetII (da sa body : List Byte) : List Byte :=
  let llc := body.take 6
  if llc = [0xAA#8, 0xAA#8, 3#8, 0#8, 0#8, 0#8] ∨ llc = [0xAA#8, 0xAA#8, 3#8, 0#8, 0#8, 0xF8#8] then da ++ sa ++ body.drop 6
  else da ++ sa ++ beBytes 2 body.length ++ body

/-- R252: the subframes of an A-MSDU: DA, SA, length, payload, each but the last filled to a multiple of 4 bytes (IEEE 802.11). At most `n`. PRESUMED (log 116). -/
def amsduFrames : Nat → List Byte → List (List Byte)
  | 0, _ => []
  | n + 1, l =>
    let len := beAt l 12 2
    if l.length < 14 + len then []
    else ethernetII (l.take 6) (slice l 6 6) (slice l 14 len) :: amsduFrames n (l.drop ((14 + len + 3) / 4 * 4))

/-- R252: the packets of an 802.11 frame, given from its Frame Control to the end of its body, decrypted and without the headers of its cipher. Only a data frame that carries data has
any. The places of the fields are those of IEEE 802.11. PRESUMED (log 116). -/
def dataPackets (f : List Byte) : List (List Byte) :=
  let fc := leAt f 0 2
  let qos := bit fc 7
  let both := bit fc 8 && bit fc 9
  let a (i : Nat) : List Byte := slice f i 6
  let da := if bit fc 8 then a 16 else a 4
  let sa := if both then a 24 else if bit fc 9 then a 16 else a 10
  let h := 24 + (if both then 6 else 0)
  let amsdu := qos && bit (leAt f h 2) 7
  let body := f.drop (h + (if qos then 2 else 0) + (if qos && bit fc 15 then 4 else 0))
  if bits fc 2 2 ≠ 2 ∨ bit fc 6 ∨ body = [] then []
  else if amsdu then amsduFrames body.length body
  else [ethernetII da sa body]

/-- R252, R234: the packets of a frame of station st, received on radio n, go to the parser. -/
def State.airReceive (s : State) (n st : Nat) (stamp : Option Stamp) (f : List Byte) : State :=
  { s with path := { s.path with ingress := s.path.ingress ++ (dataPackets f).map (fun b =>
      { Pkt.fresh b (4 + 16 * n + s.get (F.STA_W0_BSS st)) with station := st, stamp := stamp }) } }

/-- R325: a received management frame, or a control frame that the AIR role does not consume, goes to the host with reason MGMT. -/
def State.mgmtReceive (s : State) (n bss st : Nat) (stamp : Option Stamp) (f : List Byte) : State :=
  let q := s.get F.HDM_EVT_CTRL_MGMT_Q
  let p : Pkt := { Pkt.fresh f (4 + 16 * n + bss) with station := st, stamp := stamp, reason := 15, hostQ := q, stage := .done (.host q) }
  { s with path := { s.path with toQueue := s.path.toQueue ++ [p] } }

end Sys2Proof.Machine
end

