-- ==== Sys2Proof/Machine/TrvOps.lean ====
section
/-! DEFINITION. The Traverse channel (R180 to R196): its channels and slots, masks and the effective set, dwell, link loads, the transmit queue and the
form of its frames. -/

namespace Sys2Proof.Machine

/-- The Traverse's hidden state changed. -/
def State.trvMod (s : State) (f : Trv → Trv) : State := { s with trv := f s.trv }

/-! ### Slots and channels (R180, R181, R185, R197) -/

/-- Nanoseconds in a Traverse slot (R181). -/
def trvSlotNs : Nat := 1250000

/-- R185: the channel of slot j, of an ascending list of channels. -/
def hopChannel (domainId : Nat) (d : List Nat) (j : Nat) : Nat :=
  let x := domainId ^^^ (j * 0x9e3779b9 % 2 ^ 32)
  let x := x ^^^ (x / 2 ^ 16)
  let x := x * 0x85ebca6b % 2 ^ 32
  let x := x ^^^ (x / 2 ^ 13)
  let x := x * 0xc2b2ae35 % 2 ^ 32
  let x := x ^^^ (x / 2 ^ 16)
  d.getD (x % d.length) 0

/-- The domain map as a 40-bit set (R183). -/
def State.hopMap (s : State) : Nat := (s.rd A.TRV_HOPMAP_LO).toNat + s.get F.TRV_HOPMAP_HI_CHANNELS * 2 ^ 32

/-- The domain map replaced, with its version. -/
def State.putMap (s : State) (map version : Nat) : State :=
  ((s.wr A.TRV_HOPMAP_LO (BitVec.ofNat 32 map)).put F.TRV_HOPMAP_HI_CHANNELS (map / 2 ^ 32)).put F.TRV_HOPMAP_HI_VERSION version

/-- R185: the channel of the present slot. -/
def State.hopNow (s : State) : Nat := hopChannel (s.rd A.TRV_DOMAIN_ID).toNat (setBits 40 s.hopMap) (s.trvSlot % 2 ^ 32)

/-- The reference period of 100 TU of a TB0 time in ns (R176, R197). -/
def refPeriod (t : Nat) : Nat := t / 102400000

/-- R197: the number of the Traverse slot j within its reference period. -/
def beaconSlot (j : Nat) : Nat := j - ceilDiv (refPeriod (j * trvSlotNs) * 102400000) trvSlotNs

/-- R180: the channel that the receiver is tuned to: the present slot's, or the one scanned. -/
def State.trvChan (s : State) : Nat := if s.dom = 1 then s.get F.TRV_STATUS_SCAN_CH else s.get F.TRV_STATUS_CHANNEL

/-- R181: where a slot's receive span begins, in ns. -/
def rxFrom : Nat := 25000
/-- R181: the earliest and the latest end of transmission within a slot, in ns. -/
def txFrom : Nat := 35000
/-- R181. -/
def txTo : Nat := 1240000

/-! ### Masks (R184) -/

/-- R184: radio 0's channel covers Traverse channel k. -/
def State.radio0Covers (s : State) (k : Nat) : Bool :=
  match (s.rad 0).chan with
  | some ch => decide (((2402 + 2 * k : Nat) : Int) - (channelCentre ch : Int) < (10 * 2 ^ ch.width + 1 : Nat)) &&
      decide ((channelCentre ch : Int) - ((2402 + 2 * k : Nat) : Int) < (10 * 2 ^ ch.width + 1 : Nat))
  | none => false

/-- The domain map less the radio 0 mask. -/
def State.clearSet (s : State) : List Nat := (setBits 40 s.hopMap).filter (fun k => !s.radio0Covers k)

/-- R104: trv_min_hopset of the profile in force. -/
def State.minHopset (s : State) : Nat := s.prof 0x39 1

/-- R184: the radio 0 mask alone blocks transmission. DEDUCED (log 68). -/
def State.trvBlocked (s : State) : Bool := decide (s.clearSet.length < s.minHopset)

/-- R184: the effective set. -/
def State.effective (s : State) : List Nat := s.clearSet.filter (fun k => !bit s.trv.skipped k)

/-- The noise floor of Traverse channel k in 0.25 dB above −128 dBm, where measured (R187). -/
def State.trvLevel (s : State) (k : Nat) : Option Nat := (kvGet s.trv.floor k).map quarterDb

/-- Entries in falling order of level, the lower channel first among equals. DEDUCED (log 68). -/
def insertLevel (e : Nat × Nat) : List (Nat × Nat) → List (Nat × Nat)
  | [] => [e]
  | x :: t => if x.2 < e.2 ∨ (x.2 = e.2 ∧ e.1 < x.1) then e :: x :: t else x :: insertLevel e t

/-- R184: the contour skip: channels above SKIP_LEVEL, and channels removed that have not fallen 3 dB below it, highest level first, while the effective
set stays at trv_min_hopset or above. DEDUCED (log 20). DEDUCED (log 68). -/
def State.skipUpdate (s : State) : State :=
  if !s.isSet F.TRV_CTRL_SKIP_EN then s.trvMod (fun t => { t with skipped := 0 })
  else
    let lim := s.get F.TRV_SKIP_CTRL_SKIP_LEVEL
    let cand := s.clearSet.filterMap fun k =>
      match s.trvLevel k with
      | some v => if lim < v ∨ (bit s.trv.skipped k ∧ lim < v + 12) then some (k, v) else none
      | none => none
    let l := (cand.foldl (fun a e => insertLevel e a) []).take (s.clearSet.length - s.minHopset)
    s.trvMod (fun t => { t with skipped := l.foldl (fun a e => a + 2 ^ e.1) 0 })

/-! ### Dwell (R186) -/

/-- R186: the dwell check for channel k. DESIGN CHOICE (log 71). -/
def State.dwellFits (s : State) (k : Nat) : Bool :=
  s.prof 0x36 2 == 0 || decide (((s.trv.dwell.filter (fun e => e.1 == k)).length + 1) * 5 ≤ 4 * s.prof 0x34 2)

/-- R186 at a slot start: the buckets advance, and those of another trv_period_ms are cleared. DESIGN CHOICE (log 71). -/
def State.dwellAdvance (s : State) : State :=
  let per := s.prof 0x36 2
  let b := if per = 0 then 0 else s.tim.now * 64 / (per * 1000000)
  s.trvMod (fun t =>
    { t with bucket := b, dwellPer := per, dwell := if per = t.dwellPer then t.dwell.filter (fun e => decide (b < e.2 + 64)) else [] })

/-! ### Loads and times (R182, R196) -/

/-- A load: bits per subcarrier, and rate 3/4 rather than 1/2. -/
abbrev Load := Nat × Bool

/-- The basic load (R182). -/
def basicLoad : Load := (2, false)

/-- Data bits of a symbol (R182). -/
def Load.dbps (l : Load) : Nat := if l.2 then 39 * l.1 else 26 * l.1

/-- R182: the CRC of the PHY header over bits [15:0], bit 0 first; its highest bit is sent first. DEDUCED (log 114). -/
def phyCrc (h : Nat) : Nat := bitRev 4 ((List.range 16).foldl (fun r i => crcBit 4 0x3 r (bit h i)) 0xF)

/-- R182: the PHY header of a frame of `len` bytes. DEDUCED (log 114). -/
def Load.phy (l : Load) (len : Nat) : Nat :=
  let h := (l.1 - 1) + 8 * b2n l.2 + 16 * len
  h + phyCrc h * 2 ^ 16

/-- R182: the load that a PHY header names. -/
def phyLoad (h : Nat) : Load := (h % 8 + 1, bit h 3)

/-- R182: LENGTH of a PHY header. -/
def phyLen (h : Nat) : Nat := h / 16 % 2048

/-- R182: a PHY header is valid: its CRC holds and LENGTH is in range. -/
def phyOk (h : Nat) : Bool := h / 2 ^ 16 % 16 == phyCrc (h % 2 ^ 16) && 40 ≤ phyLen h && phyLen h ≤ 1088

/-- R182: the time a frame of `len` bytes lasts, in ns. -/
def Load.frameNs (l : Load) (len : Nat) : Nat := 180000 + 36000 * ceilDiv (8 * len + 6) l.dbps

/-- R196: the load of unicast frames to a member. -/
def State.linkLoad (s : State) (member : Nat) : Load :=
  match kvGet s.trv.sinr member with
  | some (x, frames, _) =>
    let v := quarterDb x
    let need := 24 + 4 * s.get F.TRV_CTRL_LOAD_MARGIN
    if frames < 4 ∨ v < need then basicLoad else (min 8 ((v - need) / 12 + 1), true)
  | none => basicLoad

/-- R194: the load of a frame. -/
def State.frameLoad (s : State) (f : TFrame) : Load :=
  match f.dest with
  | some m => s.linkLoad m
  | none => basicLoad

/-- The whole length of a frame in bytes (R188). -/
def TFrame.len (f : TFrame) : Nat := 40 + f.payload.length

/-! ### The transmit queue (R195) -/

/-- R195: the priority of a frame type, lowest first to go. -/
def typeRank (t : Nat) : Nat :=
  match t with
  | 1 => 0 | 3 => 1 | 2 => 2 | 7 => 3 | 6 => 4 | 4 => 5 | 5 => 5 | 8 => 6 | 9 => 6 | _ => 7

/-- R195: a frame is queued, or lost on a full queue. -/
def State.queueFrame (s : State) (f : TFrame) : State :=
  if 64 ≤ s.trv.queue.length then s.bump A.TRV_TX_DROP else s.trvMod (fun t => { t with queue := t.queue ++ [f] })

/-- The queue emptied: nothing is sent any more. -/
def State.queueClear (s : State) : State := (s.trvMod (fun t => { t with queue := [] })).put F.TRV_HOST_TX_BUSY 0

/-- The frame to go next: the oldest of the highest priority. DEDUCED (log 69). -/
def State.nextFrame (s : State) : Option TFrame :=
  (List.range 8).findSome? (fun r => s.trv.queue.find? (fun f => typeRank f.type == r))

/-! ### Frames (R188, R189, R198) -/

/-- A TB0 time in ns as a stamp field: u32 low seconds, u32 nanoseconds. -/
def stampBytes (t : Nat) : List Byte := leBytes 4 (t / nsPerS) ++ leBytes 4 (t % nsPerS)

/-- The stamp field at an offset, in ns modulo 2^32 s. -/
def stampAt (b : List Byte) (o : Nat) : Nat := leAt b o 4 * nsPerS + leAt b (o + 4) 4

/-- The difference of two times in ns modulo 2^32 s, as the nearest signed value. -/
def stampDiff (a b : Int) : Int :=
  let m : Int := (2 ^ 32 * nsPerS : Nat)
  let d := (a - b) % m
  if d < m / 2 then d else d - m

/-- The header and the payload of a frame that this member sends as number `seq` with its stamp point at `stamp` ns (R188). -/
def State.frameHead (s : State) (f : TFrame) (seq stamp : Nat) : List Byte :=
  [BitVec.ofNat 8 f.type, BitVec.ofNat 8 (s.get F.TRV_CTRL_TX_KEY)] ++ leBytes 2 (s.get F.TRV_MEMBER_MEMBER) ++ leBytes 2 (f.dest.getD 0x8000) ++ leBytes 2 0 ++
    leBytes 4 (s.rd A.TRV_DOMAIN_ID).toNat ++ leBytes 4 s.trv.session ++ leBytes 4 seq ++ stampBytes stamp ++ f.payload

/-- R189: the tag of header and payload under a domain key. -/
def frameTag (key head : List Byte) : List Byte :=
  (Config.gcmEncrypt key (leBytes 4 (leAt head 12 4) ++ leBytes 4 (leAt head 16 4) ++ leBytes 2 (leAt head 2 2) ++ leBytes 2 0) head []).2

/-- Domain key slot n holds a key (R193). -/
def State.keyLoadedAt (s : State) (n : Nat) : Bool := bit (s.get F.TRV_DKEY_STATUS_LOADED) n

/-- Domain key n. -/
def State.domainKey (s : State) (n : Nat) : List Byte := s.trv.keys.getD n []

/-- The transceiver may work at all: enabled by the Legend, with an LO, and not lost (R27, R84, R440). -/
def State.trvUp (s : State) : Bool := !s.ballsTaken && s.pwr.stage == .up && s.radioEnable 3 && !s.chn.trvDown && !s.trvLost && !s.trv.rest

/-- R192: the role has a number for its next frame; after the last one it draws a new session, which waits while no draw is possible (R388). DEDUCED (log 73). -/
def State.sessionReady (s : State) : Option State :=
  if s.trv.seq < 2 ^ 32 then some s
  else if s.isSet F.KEY_EVENT_RNG_FAIL then none
  else some (s.drawSession.bump A.TRV_SESSIONS)

/-- The port that a frame leaves on (R113): A while the antenna switch has failed (R440). -/
def State.txPort (s : State) (f : TFrame) : Nat :=
  if s.flt.permanent.contains (4, 5, 2) then 0
  else match f.dest with
    | some m => if s.isSet (F.NBR_W0_VALID m) then s.get (F.NBR_W0_PORT m) else 0
    | none => s.trv.beaconPort

/-- R205: the 30 ms of a leave have passed. -/
def State.leaveOver (s : State) : Bool := decide (0 < s.trv.leaveLeft) && decide (s.trv.leaveAt + 30000000 ≤ s.tim.now)

/-- What lets a frame start now and on this channel, apart from its length (R184, R186, R193, R195, R205). -/
inductive TxGate where
  | no | blocked | dwell | go
deriving DecidableEq, Repr

/-- See `TxGate`. -/
def State.txGate (s : State) : TxGate :=
  if !s.trvUp || !s.mayRadiate || s.dom < 2 || (s.dom == 2 && !s.trv.mayTx) || s.stopping 7 || s.leaveOver || s.trv.slotLost || s.trv.wurSlot || s.trv.blockedNoted ||
      decide (s.t0 < s.trv.txUntil) || !s.keyLoadedAt (s.get F.TRV_CTRL_TX_KEY) then .no
  else if s.trvBlocked then .blocked
  else if !s.effective.contains s.trvChan then .no
  else if !s.trv.sentInSlot && !s.dwellFits s.trvChan then .dwell
  else .go

/-- A frame goes on the air now: it takes a number and its slot's dwell (R186, R188). Answers its session, sequence and stamp in ns. -/
def State.sendNow (s : State) (f : TFrame) : State × (Nat × Nat × Nat) :=
  let l := s.frameLoad f
  let seq := s.trv.seq
  let stamp := s.t0 + 72000
  let ch := s.trvChan
  let head := s.frameHead f seq stamp
  let bytes := head ++ frameTag (s.domainKey (s.get F.TRV_CTRL_TX_KEY)) head
  let power := min (s.get F.TRV_CTRL_TX_POWER) (s.prof 0x38 1)
  let sent := s.trv.sentInSlot
  let s1 : State := { s with out := .trvFrame (s.txPort f) (l.phy f.len) power ch bytes :: s.out }
  let s2 := s1.trvMod (fun t =>
    { t with seq := seq + 1, sentInSlot := true, txUntil := s.t0 + l.frameNs f.len, dwell := if sent ∨ t.dwellPer = 0 then t.dwell else (ch, t.bucket) :: t.dwell })
  (s2.bump A.TRV_TX_FRAMES, (s.trv.session, seq, stamp))

end Sys2Proof.Machine
end

