-- ==== Sys2Proof/Machine/Phy.lean ====
section
/-! DEFINITION. Reception (R118 to R125), surveyed neighbours (R143, R148), the contour (R140 to R142), and Stipple: map computation, offers, spans and
PPDUs (R126 to R139). -/

namespace Sys2Proof.Machine

/-! ### Surveyed neighbours (R143, R148) -/

/-- Root mean square deviation of some estimates from their mean, rounded down. -/
def spreadOf (l : List Int) : Nat :=
  let n := l.length
  let sum := l.foldl (· + ·) 0
  if n = 0 then 0 else isqrt ((l.foldl (fun a x => a + ((n : Int) * x - sum).natAbs ^ 2) 0) / n ^ 3)

/-- R143: entry k takes an estimate: the first as it stands, later ones with weight 1/8. DESIGN CHOICE (log 19). -/
def State.surveyTake (s : State) (k : Nat) (cfo : Int) (freq : Nat) : State :=
  let e := clampInt (-625000) 625000 cfo
  let v := s.surveys.getD k ⟨none, []⟩
  let old := sint 32 (s.rd (A.CHN_SURVEY1 k)).toNat
  let new := if s.get (F.CHN_SURVEY3_COUNT k) = 0 then e else old + roundDiv (e - old) 8
  let last := (e :: v.last).take 16
  let s : State := { s with surveys := s.surveys.set k ⟨some s.tim.now, last⟩ }
  let s := (s.wr (A.CHN_SURVEY1 k) (BitVec.ofInt 32 new)).put (F.CHN_SURVEY2_FREQ_MHZ k) freq
  (s.put (F.CHN_SURVEY3_SPREAD_HZ k) (min (spreadOf last) 0xFFFF)).put (F.CHN_SURVEY3_COUNT k) (min (s.get (F.CHN_SURVEY3_COUNT k) + 1) 0xFFFF)

/-- R143: every valid entry of a member on a path (0 Traverse, 1 to 3 radios) takes an estimate made at a carrier in MHz. -/
def State.surveyAll (s : State) (member path : Nat) (cfo : Int) (freq : Nat) : State :=
  (List.range 64).foldl (fun (s : State) k =>
    if s.isSet (F.CHN_SURVEY0_VALID k) ∧ s.get (F.CHN_SURVEY0_MEMBER k) = member ∧ s.get (F.CHN_SURVEY0_PATH k) = path then s.surveyTake k cfo freq else s) s

/-- R144: this end applies the offset of entry k. -/
def State.applies (s : State) (k : Nat) : Bool :=
  if s.get (F.CHN_SURVEY0_PATH k) = 0 then s.isSet (F.CHN_SURVEY0_DATUM_REF k) else decide (s.get (F.CHN_SURVEY0_MEMBER k) < s.get F.TRV_MEMBER_MEMBER)

/-- R144: the offset of entry k scaled to a carrier in MHz, rounded to 1 Hz. -/
def State.scaledCfo (s : State) (k freq : Nat) : Int :=
  let f0 := s.get (F.CHN_SURVEY2_FREQ_MHZ k)
  if f0 = 0 then 0 else roundDiv (sint 32 (s.rd (A.CHN_SURVEY1 k)).toNat * (freq : Int)) f0

/-- A write of CHN_SURVEYk word 0 (R148). -/
def State.surveyWrite (s : State) (k : Nat) (v : Word) : State :=
  let s := s.wr (A.CHN_SURVEY0 k) (fieldWord 0 15 v.toNat)
  let s := ((s.wr (A.CHN_SURVEY1 k) 0#32).wr (A.CHN_SURVEY2 k) 0#32).wr (A.CHN_SURVEY3 k) 0#32
  { s with surveys := s.surveys.set k ⟨none, []⟩ }

/-- R148. -/
def execSurveyWord0Write (m : Master) (k : Fin 64) (v : Word) (s : State) : Res := .next (s.hostWrite m (A.CHN_SURVEY0 k) v (fun s => s.surveyWrite k v))

/-! ### Detection and restart (R121 to R124) -/

/-- Radio n's baseband works: not under reset (R440). -/
def State.basebandUp (s : State) (n : Nat) : Bool := !s.ballsTaken && !s.flt.resetting.any (fun e => e.1 == 3 && e.2.1 == n)

/-- R118, R123: radio n makes this check: the one of a format that it supports. -/
def checkOn (n : Nat) (c : SigCheck) : Bool :=
  match c with
  | .htSig => formatOn n 2
  | .vhtSigA => formatOn n 3
  | .heSigA => formatOn n 4
  | .sfd => formatOn n 0
  | .lsig | .uSig | .ehtSig => true

/-- R121, R234: a reception of a given power starts on radio n, stamped at the start of its preamble. -/
def State.rxStart (s : State) (n : Nat) (p : Int) (noise : Bool) : State :=
  s.phMod n (fun x => { x with rx := some p, falseRx := noise, stamp := some (s.rxStamp (4 + n) 0) })

/-- R121, R123: the main detector starts a reception, or abandons the one in progress at its first failed check. DEDUCED (log 55). -/
def State.detect (s : State) (n : Nat) (d : Detection) : State :=
  let free : Bool := s.rstate n == rRx && !s.onAir n && (s.ph n).rx.isNone && s.basebandUp n && !s.stopping 6
  match d with
  | .preamble p => if free then s.rxStart n p false else s
  | .noise p => if free then s.rxStart n p true else s
  | .abandoned c =>
    if (s.ph n).rx.isSome && checkOn n c then (s.phMod n (fun x => { x with rx := none, falseRx := false })).bump (A.RAD_RX_SIG_FAIL n) else s

/-- R121. -/
def execPreambleDetect (n : Fin 3) (d : Detection) (s : State) : Res := .next (s.detect n d)

/-- R121: the margin in hundredths of a decibel. -/
def State.restartMargin (s : State) (n : Nat) : Int := 100 * (s.get (F.RAD_RX_CTRL_RESTART_MARGIN n) : Int)

/-- R122: radio n waits for the response that its frame or its trigger has solicited, and its restart is suppressed. DEDUCED (log 55). -/
def State.responseLock (s : State) (n : Nat) : Bool :=
  s.isSet (F.RAD_RX_CTRL_RESPONSE_LOCK n) && decide ((s.rad n).airEnd ≤ s.tim.now) && decide (s.tim.now < (s.rad n).exchEnd)

/-- R121, R122, R124: the watch detector finds a preamble; one of DSSS on a radio that has it (R118). DEDUCED (log 55). -/
def State.watch (s : State) (n : Nat) (p : Int) (dsss : Bool) : State :=
  if dsss && !formatOn n 0 then s
  else if s.onAir n then s.bump (A.RAD_RX_OVERLAP n)
  else match (s.ph n).rx with
    | none => s
    | some cur =>
      let en := s.isSet (F.RAD_RX_CTRL_RESTART_EN n)
      let strong : Bool := decide (cur + s.restartMargin n ≤ p)
      if en && strong && !s.responseLock n then (s.rxStart n p false).bump (A.RAD_RX_RESTART n)
      else if en && strong then s.bump (A.RAD_RX_OVERLAP n)
      else if (s.ph n).falseRx then s.bump (A.RAD_RX_LOST_FALSE n)
      else if en then s.bump (A.RAD_RX_OVERLAP n)
      else s

/-- R121. DEDUCED (log 55). -/
def execRxRestart (n : Fin 3) (power : Int) (dsss : Bool) (s : State) : Res := .next (s.watch n power dsss)

/-! ### Ends of receptions (R120, R125, R133, R138, R375) -/

/-- R376: the slot under which a protected frame of a station is opened. -/
def State.rxSlot (s : State) (st keyId : Nat) : Option Nat :=
  if !s.isSet (F.STA_W2_KEY_VALID st) then none
  else
    let i := s.get (F.STA_W2_KEY st)
    let k := s.slot 0 i
    let usable (x : KeySlot) : Bool := x.valid && !x.fault && x.keyid == keyId
    if usable k then some i else if k.partnerEn ∧ usable (s.slot 0 k.partner) then some k.partner else none

/-- R375, R376: a received MPDU may be delivered: one that is protected is opened and passes the check of its counter, or is dropped and counted. DESIGN CHOICE (log 56). -/
def State.rxChecked (s : State) (n st : Nat) (prot : Option MpduProt) : Bool × State :=
  match prot with
  | none => (true, s)
  | some u =>
    match s.rxSlot st u.keyId with
    | none => (false, s.bump (A.KEY_RX_MIC_FAIL n))
    | some i =>
      let k := s.slot 0 i
      if !u.micOk then (false, s.bump (A.KEY_RX_MIC_FAIL n))
      else if u.pn ≤ k.rx.getD u.counter 0 then (false, s.bump (A.KEY_RX_REPLAY n))
      else (true, s.setSlot 0 i { k with rx := k.rx.set u.counter u.pn })

/-- The traffic identifier of a QoS data frame (IEEE 802.11). PRESUMED (log 116). -/
def frameTid (f : List Byte) : Option Nat :=
  let fc := leAt f 0 2
  if bits fc 2 2 = 2 ∧ bit fc 7 then some (leAt f (if bit fc 8 && bit fc 9 then 30 else 24) 1 % 8) else none

/-- R168: the scoreboard of a station's TID takes the sequence number of a frame; answers whether it had it. -/
def State.boardTake (s : State) (st : Nat) (f : List Byte) : Bool × State :=
  match frameTid f with
  | none => (false, s)
  | some t =>
    let x := s.tidState (8 * st + t)
    let seq := leAt f 22 2 / 16
    if x.board.contains seq then (true, s)
    else (false, { s with grt := { s.grt with tids := kvPut s.grt.tids (8 * st + t) (some { x with board := (seq :: x.board).take 1024 }) } })

/-- R168, R252, R325, R375: an MPDU of a reception stamped `stamp`. Data goes to the parser, unless the scoreboard holds it: it has then been delivered before; every other frame goes to
the host. DEDUCED (log 56). -/
def State.rxMpdu (s : State) (n : Nat) (stamp : Option Stamp) (u : RxMpdu) : State :=
  let known : Option Nat := (u.st.map (fun st => st.val)).bind (fun st => if s.staValid st then some st else none)
  let data := bits (leAt u.frame 0 2) 2 2 = 2
  match known with
  | none =>
    if data ∨ u.prot.isSome then (if u.prot.isSome then s.bump (A.KEY_RX_MIC_FAIL n) else s)
    else s.mgmtReceive n u.bss 0xFFFF stamp u.frame
  | some st =>
    let (had, s) := s.boardTake st u.frame
    if had then s
    else
      let (ok, s) := s.rxChecked n st u.prot
      if !ok then s
      else if data then s.airReceive n st stamp u.frame
      else s.mgmtReceive n (s.get (F.STA_W0_BSS st)) st stamp u.frame

/-- R133: a measured SINR averaged into an estimate with weight 1/16; a subcarrier measured never reads as not measured. -/
def snrStep (old new : Nat) : Nat := if old = 0 then new else max 1 ((15 * old + new) / 16)

/-- The estimates of one stream. -/
def snrStream (old new : List Nat) : List Nat := (indexed new).map (fun e => snrStep (old.getD e.1 0) e.2)

/-- R133: a PPDU received from link k's peer enters the estimates. -/
def State.snrTake (s : State) (n k : Nat) (sinr : List (List Nat)) : State :=
  let stale := s.isSet (F.RAD_STP_LINK_STATUS_RX_STALE n k)
  s.linkMod n k (fun l =>
    { l with snr := (indexed sinr).map (fun e => snrStream (l.snr.getD e.1 []) e.2) ++ l.snr.drop sinr.length, since := if stale then l.since + 1 else l.since })

/-- The present centre frequency of radio n in MHz. -/
def State.centreNow (s : State) (n : Nat) : Nat := ((s.rad n).chan.map channelCentre).getD 0

/-- What was measured of a PPDU from a member enters its survey entries, any fine adjustment in force removed (R143), and its link (R133). -/
def State.measured (s : State) (n : Nat) (m : Measured) : State :=
  let s := s.surveyAll m.member (n + 1) (m.cfo + (s.rad n).adjust) (s.centreNow n)
  match s.linkTo n m.member with
  | some k => s.snrTake n k m.sinr
  | none => s

/-- R120, R128: radio n defers for `ns` ns. -/
def State.defers (s : State) (n ns : Nat) : State := s.phMod n (fun x => { x with busyUntil := max x.busyUntil (s.tim.now + ns) })

/-- R138: a Stipple PPDU with MAP_SEL = 0 cannot be decoded under link k's rx map. -/
def State.mismatch (s : State) (n k : Nat) (txVer nss rate : Nat) : Bool :=
  match (s.link n k).rxMap with
  | none => true
  | some m => txVer != m.version || s.isSet (F.RAD_STP_LINK_STATUS_RX_STALE n k) || nss != m.nss || rate != m.rate

/-- R128: the 90 bits below the CRC of a PPDU from this member: on its tx map to link k's peer, or, without one, on the basic map. PRESUMED (log 58). -/
def State.ssigOf (s : State) (n k : Nat) (m : Option StpMap) (symbols : Nat) : Nat :=
  (match m with
    | some m => m.version * 2 + m.rate * 2 ^ 33 + (m.nss - 1) * 2 ^ 35
    | none => 1) +
  s.get (F.RAD_STP_LINK_VER_RX_VER n k) * 2 ^ 17 + symbols * 2 ^ 38 + s.get F.TRV_MEMBER_MEMBER * 2 ^ 50 + s.get (F.RAD_STP_LINK_CFG_PEER n k) * 2 ^ 60

/-- R127 to R130: the PPDU that carries `bs` to link k's peer in `symbols` symbols goes out: on a tx map, or on the basic map. -/
def State.stippleSend (s : State) (n k : Nat) (m : Option StpMap) (symbols : Nat) (bs : List Byte) : State :=
  let loads := (m.map (·.loads)).getD (basicLoads (((s.rad n).chan.map (fun c => c.width)).getD 0))
  let ns := stippleNs ((m.map (·.nss)).getD 1) symbols
  { s with out := .stipple n (lsigLength ns) (ssigBytes (s.ssigOf n k m symbols)) (s.link n k).soundAt (dataField loads ((m.map (·.rate)).getD 0) symbols bs) :: s.out }

/-- R136: a control response to link k's peer, a SIFS after what it answers, on the basic map. -/
def State.stippleAck (s : State) (n k : Nat) (bs : List Byte) : State :=
  let symbols := max 1 (symbolsFor (basicLoads (((s.rad n).chan.map (fun c => c.width)).getD 0)) 0 bs.length)
  let dur := stippleNs 1 symbols
  match s.frameStart n (s.t0 + sifsNs n) dur dur none .stp with
  | none => s
  | some s => s.stippleSend n k none symbols bs

/-- R128, R136, R138: a Stipple PPDU whose SSIG has passed its check. One addressed to another member holds contention and counts nothing; one that can be decoded is answered. -/
def State.stippleRx (s : State) (n : Nat) (g : Nat) (fcsFails rest : Nat) (ack : List Byte) (m : Measured) : State :=
  let s := s.measured n m
  if bits g 60 10 ≠ s.get F.TRV_MEMBER_MEMBER then s.defers n rest
  else match s.linkTo n (bits g 50 10) with
    | none => if bit g 0 then s.count (A.RAD_RX_FCS_FAIL n) fcsFails else s.bump (A.RAD_STP_MISMATCH n)
    | some k =>
      let s := (s.put (F.RAD_STP_LINK_STATUS_LAST_ECHO n k) (bits g 17 16)).linkMod n k (fun l => { l with echoAt := some s.tim.now })
      if !bit g 0 ∧ s.mismatch n k (bits g 1 16) (bits g 35 3 + 1) (bits g 33 2) then s.bump (A.RAD_STP_MISMATCH n)
      else
        let s := s.count (A.RAD_RX_FCS_FAIL n) fcsFails
        if ack = [] then s else s.stippleAck n k ack

/-- R100, R120: a PPDU of a format that radio n does not support, with a valid L-SIG that still gives `rest` ns. -/
def State.rxUnsupported (s : State) (n rest : Nat) : State := (s.bump (A.RAD_RX_UNSUPPORTED n)).defers n rest

/-- R125: the reception in progress ends. DESIGN CHOICE (log 56). -/
def State.rxEnd (s : State) (n : Nat) (e : RxEnd) : State :=
  if (s.ph n).rx.isNone ∨ (s.ph n).falseRx then s
  else
    let stamp := (s.ph n).stamp
    let s := s.phMod n (fun x => { x with rx := none })
    match e with
    | .unsupported rest => s.rxUnsupported n rest
    | .calLost => s.bump (A.CHN_CAL_RX_LOST n)
    | .frame form rest fails mpdus reports pm m =>
      if !formOk n form then s.rxUnsupported n rest
      else
        let s := (s.count (A.RAD_RX_FCS_FAIL n) fails).defers n rest
        let s := pm.foldl (fun (s : State) (e : Fin 4096 × Bool) => if s.staValid e.1 then s.put (F.STA_W0_PS e.1) (b2n e.2) else s) s
        let s := reports.foldl (fun (s : State) (e : Fin 4096 × Nat) => if s.staValid e.1 then s.ulReport e.1 e.2 else s) s
        let s := mpdus.foldl (fun (s : State) (u : RxMpdu) => s.rxMpdu n stamp u) s
        match m with
        | some m => s.measured n m
        | none => s
    | .stipple g fails rest ack m => s.stippleRx n g.toNat fails rest ack m

/-- R125. DESIGN CHOICE (log 56). -/
def execPpduReceiveEnd (n : Fin 3) (e : RxEnd) (s : State) : Res := .next (s.rxEnd n e)

/-! ### Map computation and offers (R133, R134, R204) -/

/-- R147: BASE of a rate, in 0.25 dB. -/
def State.stpBase (s : State) (n rate : Nat) : Nat := getField (s.rd (A.RAD_STP_BASE n)) (8 * rate) 8

/-- R133: the load of a subcarrier with an estimate; one below 0 dB bears none. -/
def loadOf (need maxBits x : Nat) : Nat :=
  let v := quarterDb x
  if x < 65536 ∨ v < need then 0 else min maxBits ((v - need) / 12 + 1)

/-- R133: the map of link k from its estimates, without version and activation time; `none` while the radio has no channel. DEDUCED (log 57). -/
def State.mapCompute (s : State) (n k : Nat) : Option StpMap :=
  (s.rad n).chan.map fun ch =>
    let nss := min (s.get (F.RAD_STP_LINK_CFG_NSS n k) + 1) (s.get (F.CHN_RADIO_STATE_CHAINS n))
    let rate := s.get (F.RAD_STP_LINK_CFG_RATE n k)
    let need := s.stpBase n rate + s.get (F.RAD_STP_CTRL_MARGIN n)
    let mx := s.get (F.RAD_STP_LINK_CFG_MAX_BITS n k)
    let est := (s.link n k).snr
    { version := 0, width := ch.width, nss := nss, rate := rate, centre := channelCentre ch, actS := 0, actNs := 0,
      loads := (List.range nss).map (fun st => (List.range (dataTones ch.width)).map (fun j => loadOf need mx ((est.getD st []).getD j 0))) }

/-- Two maps load alike. -/
def sameLoads (a b : StpMap) : Bool :=
  a.width == b.width && a.nss == b.nss && a.rate == b.rate && a.centre == b.centre && a.loads == b.loads

/-- R133: link k's map is computed; one that equals the active map makes no new version. DEDUCED (log 57). -/
def State.recompute (s : State) (n k : Nat) : State :=
  if !s.linkOn n k then s
  else match s.mapCompute n k with
    | none => s
    | some m =>
      let s := s.linkMod n k (fun l => { l with compAt := s.tim.now, since := 0 })
      if (s.link n k).rxMap.any (sameLoads m) then s.linkMod n k (fun l => { l with rxNew := none })
      else s.linkMod n k (fun l => { l with rxNew := some m })

/-- R133: link k's map is due: its period has passed, or its rx map is stale and 16 PPDUs have been measured since. -/
def State.recomputeDue (s : State) (n k : Nat) : Bool :=
  decide ((s.link n k).compAt + s.get (F.RAD_STP_CTRL_RECOMPUTE n) * 10000000 ≤ s.tim.now) ||
    (s.isSet (F.RAD_STP_LINK_STATUS_RX_STALE n k) && decide (16 ≤ (s.link n k).since))

/-- R133. -/
def execMapRecompute (n : Fin 3) (k : Fin 8) (s : State) : Res := .next (if s.recomputeDue n k then s.recompute n k else s)

/-- The version after v, skipping 0 (R134). DEDUCED (log 57). -/
def nextVersion (v : Nat) : Nat := if (v + 1) % 65536 = 0 then 1 else (v + 1) % 65536

/-- R204: the data bytes that one MAP_OFFER fragment carries at a load. -/
def fragmentBytes (l : Load) : Nat := min 1024 (((28 * l.dbps - 6) / 8 - 56) / 16 * 16)

/-- R204: the MAP_OFFER frames of an object to a member from radio n. -/
def State.offerFrames (s : State) (n member version : Nat) (obj : List Byte) : List TFrame :=
  let step := fragmentBytes (s.linkLoad member)
  let count := ceilDiv obj.length step
  (List.range count).map fun i =>
    ⟨6, some member, [BitVec.ofNat 8 n, BitVec.ofNat 8 i, BitVec.ofNat 8 count, 0#8] ++ leBytes 2 version ++ [0#8, 0#8] ++ leBytes 4 obj.length ++
      leBytes 4 (i * step) ++ (obj.drop (i * step)).take step, none⟩

/-- R134 steps 1 to 3: a map is numbered, given its activation time, stored as pending and sent. -/
def State.mapOffer (s : State) (n k : Nat) (m : StpMap) (version : Nat) : State :=
  let act := s.t0 + s.get (F.RAD_STP_CTRL_ACT_LEAD n) * 1000000
  let m := { m with version := version, actS := act / nsPerS % 2 ^ 32, actNs := act % nsPerS }
  let s := (s.linkMod n k (fun l => { l with rxPend := some m, rxNew := none, accepted := false, win := [] })).put (F.RAD_STP_LINK_STATUS_RX_PENDING n k) 1
  (s.offerFrames n (s.get (F.RAD_STP_LINK_CFG_PEER n k)) version (mapObject true m)).foldl (fun (s : State) f => s.queueFrame f) s

/-- The version that an offer takes: the active one + 1. -/
def State.offerVersion (s : State) (n k : Nat) : Nat := nextVersion (((s.link n k).rxMap.map (·.version)).getD 0)

/-- R134. -/
def execMapOfferSend (n : Fin 3) (k : Fin 8) (s : State) : Res :=
  .next (match (s.link n k).rxNew with
    | some m => if s.linkOn n k then s.mapOffer n k m (s.offerVersion n k) else s
    | none => s)

/-- The bytes of the map window for a map, every segment raw, with the words written over them (R147). -/
def State.windowBytes (s : State) (n k : Nat) (m : Option StpMap) (own : Bool) : List Byte :=
  let base := match m with
    | some m => mapObject false m
    | none => []
  if own then
    let w := (s.link n k).win
    let size := max base.length (w.foldl (fun a e => max a (4 * e.1 + 4)) 0)
    (List.range (ceilDiv size 4)).flatMap (fun i => match kvGet w i with
      | some v => leBytes 4 v.toNat
      | none => slice base (4 * i) 4)
  else base

/-- A write of RADn_STP_MAP_SEL (R147): its fields, then RECOMPUTE, then OFFER of the map written through the window. -/
def State.mapSelWrite (s : State) (n : Nat) (v : Word) : State :=
  let s := s.wr (A.RAD_STP_MAP_SEL n) (fieldWord 0 8 v.toNat)
  let k := s.get (F.RAD_STP_MAP_SEL_LINK n)
  let s := if bit v.toNat 9 then s.recompute n k else s
  if bit v.toNat 8 ∧ s.linkOn n k then
    let b := s.windowBytes n k (s.link n k).rxPend true
    if 16 ≤ b.length ∧ leAt b 2 1 ≤ 4 ∧ 1 ≤ leAt b 3 1 ∧ leAt b 3 1 ≤ 8 then s.mapOffer n k (mapDecode b) (s.offerVersion n k) else s
  else s

/-- R147. -/
def execStpRecompute (m : Master) (n : Fin 3) (v : Word) (s : State) : Res :=
  .next (s.hostWrite m (A.RAD_STP_MAP_SEL n) (v ||| 0x200#32) (fun s => s.mapSelWrite n (v ||| 0x200#32)))

/-- R147. -/
def execStpOffer (m : Master) (n : Fin 3) (v : Word) (s : State) : Res :=
  .next (s.hostWrite m (A.RAD_STP_MAP_SEL n) (v ||| 0x100#32) (fun s => s.mapSelWrite n (v ||| 0x100#32)))

/-- The activation time of a map in ns, modulo 2^32 s. -/
def StpMap.act (m : StpMap) : Nat := m.actS * nsPerS + m.actNs

/-- R134 step 5. -/
def State.acceptTimeout (s : State) (n k : Nat) : State :=
  match (s.link n k).rxPend with
  | none => s
  | some m =>
    if (s.link n k).accepted ∨ stampDiff s.t0 m.act < -2000000 then s
    else
      let s := (s.linkMod n k (fun l => { l with rxPend := none })).put (F.RAD_STP_LINK_STATUS_RX_PENDING n k) 0
      (s.bump (A.RAD_STP_ACT_FAIL n)).mapOffer n k m (nextVersion m.version)

/-- R134. DESIGN CHOICE (log 13). -/
def execMapAcceptTimeout (n : Fin 3) (k : Fin 8) (s : State) : Res := .next (s.acceptTimeout n k)

/-- R137. -/
def execMapStale (n : Fin 3) (k : Fin 8) (s : State) : Res := .next (s.linkStale n k)

/-! ### Spans (R135, R136, R139, R144) -/

/-- R135: an accepted rx map of link k whose time has come becomes active. -/
def State.activateRx (s : State) (n k start : Nat) : State :=
  let l := s.link n k
  match l.rxPend with
  | some m =>
    if l.accepted ∧ 0 ≤ stampDiff start m.act then
      let s := s.linkMod n k (fun l => { l with rxMap := some m, rxPend := none, accepted := false, rxAt := s.tim.now, since := 0 })
      ((s.put (F.RAD_STP_LINK_VER_RX_VER n k) m.version).put (F.RAD_STP_LINK_STATUS_RX_STALE n k) 0).put (F.RAD_STP_LINK_STATUS_RX_PENDING n k) 0
    else s
  | none => s

/-- R135: a pending tx map of link k whose time has come becomes active. -/
def State.activateTx (s : State) (n k start : Nat) : State :=
  match (s.link n k).txPend with
  | some m =>
    if 0 ≤ stampDiff start m.act then
      let s := s.linkMod n k (fun l => { l with txMap := some m, txPend := none, txAt := s.tim.now })
      ((s.put (F.RAD_STP_LINK_VER_TX_VER n k) m.version).put (F.RAD_STP_LINK_STATUS_TX_STALE n k) 0).put (F.RAD_STP_LINK_STATUS_TX_PENDING n k) 0
    else s
  | none => s

/-- R127: a sounding older than 100 ms is to be made again first. DEDUCED (log 59). -/
def State.soundAgain (s : State) (n k : Nat) : State :=
  let old : Bool := match (s.link n k).soundAt with
    | some t => decide (t + 100000000 < s.tim.now)
    | none => true
  s.linkMod n k (fun l => { l with soundDue := old })

/-- R127: a sounding that is due begins the exchange. DEDUCED (log 59). -/
def State.soundFirst (s : State) (n k : Nat) : State :=
  if (s.link n k).soundDue then
    ({ s with out := .sounding n (s.get (F.RAD_STP_LINK_CFG_PEER n k)) :: s.out } : State).linkMod n k (fun l => { l with soundAt := some s.tim.now, soundDue := false })
  else s

/-- R135, R139, R144: a span starts: maps activate, the synthesiser settles on the offset, an old sounding is to be made again. DEDUCED (log 59). -/
def State.spanStart (s : State) (n : Nat) : State :=
  match (s.gr n).run with
  | none => s
  | some r =>
    if r.kind ≠ kSTP then s
    else match s.linkTo n r.peer with
      | none => s
      | some k =>
        let start := r.first * slotNs
        let s := ((s.activateRx n k start).activateTx n k start).linkStale n k
        let v := s.get (F.RAD_STP_LINK_CFG_SURVEY n k)
        let s := if s.applies v then s.fineAdjust n (s.scaledCfo v (s.centreNow n)) false else s
        s.soundAgain n k

/-- R135. DEDUCED (log 59). -/
def execSpanStart (n : Fin 3) (s : State) : Res := .next (s.spanStart n)

/-- R136: the transmitter may use its tx map. -/
def State.mayStipple (s : State) (n k : Nat) : Bool :=
  match (s.link n k).txMap, (s.link n k).echoAt with
  | some m, some t => !s.isSet (F.RAD_STP_LINK_STATUS_TX_STALE n k) && s.get (F.RAD_STP_LINK_STATUS_LAST_ECHO n k) == m.version && decide ((s.link n k).txAt < t)
  | _, _ => false

/-- R136: the streams of a fallback frame of link k. -/
def State.fallbackNss (s : State) (n k : Nat) : Nat := min (s.get (F.RAD_STP_LINK_CFG_NSS n k) + 1) (s.get (F.CHN_RADIO_STATE_CHAINS n))

/-- R136: a data PPDU to link k's peer goes out on its tx map. -/
def State.sendOnMap (s : State) (n k : Nat) (m : StpMap) (symbols : Nat) (bs : List Byte) : State :=
  (s.stippleSend n k (some m) symbols bs).put (F.RAD_STP_LINK_STATUS_LAST_STIPPLE n k) 1

/-- R136: a data PPDU to link k's peer, station st, goes out as EHT and is counted. -/
def State.sendFallback (s : State) (n k st : Nat) (mpdus : List Mpdu) : State :=
  let mcs := s.get (F.RAD_STP_LINK_CFG_FALLBACK_MCS n k)
  let nss := s.fallbackNss n k
  let s : State := { s with out := .ehtData n (s.get (F.RAD_STP_LINK_CFG_PEER n k)) mcs nss :: s.out }
  let s := s.staUsing n (((s.rad n).chan.map (fun c => c.width)).getD 0) ⟨Fin.ofNat 4096 st, 0, nss, mcs, s.get (F.STA_RATE_RATE st n), mpdus⟩
  (s.put (F.RAD_STP_LINK_STATUS_LAST_STIPPLE n k) 0).bump (A.RAD_STP_FALLBACK n)

/-- R136, R139: a data PPDU in a span goes out as Stipple, where its symbols hold the payload (R130), or as EHT of `eht` ns, if its exchange fits the span. DEDUCED (log 59). -/
def State.stippleData (s : State) (n k symbols eht rest : Nat) (d : StpData) : State :=
  match (s.gr n).run with
  | none => s
  | some r =>
    let m := if s.mayStipple n k then (s.link n k).txMap else none
    let dur := match m with
      | some m => stippleNs m.nss symbols
      | none => eht
    let holds : Bool := match m with
      | some m => symbols != 0 && 8 * d.bytes.length ≤ payloadBits m.loads m.rate symbols
      | none => true
    if r.kind ≠ kSTP ∨ s.linkTo n r.peer ≠ some k ∨ s.t0 < s.usableStart n + 8000 ∨ !holds ∨ s.usableEnd n < s.t0 + dur + rest + 8000 ∨
        !d.mpdus.all (fun x => (s.heldMpdu n x.id).isSome) then s
    else match s.exchange n kSTP dur (dur + rest) .stp with
      | none => s
      | some s =>
        let (ms, s) := State.keyed n d.mpdus (s.soundFirst n k)
        let s := s.retryCharge n 1 ms
        let s := match m with
          | some m => s.sendOnMap n k m symbols d.bytes
          | none => s.sendFallback n k d.st ms
        ms.foldl (fun (s : State) x => s.mpduSent n x) s

/-- R136. -/
def execStippleDataPpdu (n : Fin 3) (k : Fin 8) (symbols : Fin 4096) (eht rest : Nat) (data : StpData) (s : State) : Res :=
  .next (s.stippleData n k symbols eht rest data)

/-! ### The contour (R140 to R142, R187) -/

/-- A window of power m on entry i of radio n's contour: every counted one refreshes the age. DEDUCED (log 54). -/
def State.contourTake (s : State) (n i m : Nat) : State :=
  s.phMod n (fun p =>
    { p with floor := (match contourStep (kvGet p.floor i) m with
               | some v => kvPut p.floor i (some v)
               | none => p.floor),
             floorAt := kvPut p.floorAt i (some s.tim.now) })

/-- R140: an idle window on a subchannel of radio n's channel. -/
def State.radioWindow (s : State) (n c m : Nat) : State :=
  match (s.rad n).chan with
  | some ch =>
    if ch.subs.contains c ∧ s.rstate n = rRx ∧ !s.onAir n ∧ (s.ph n).rx.isNone ∧ (s.rad n).step.isNone then
      match contourIndex ch.band c with
      | some i => s.contourTake n i m
      | none => s
    else s
  | none => s

/-- R187: a window of 32 µs that ends now lies in the receive span and meets no frame, heard or sent. -/
def State.windowIdle (s : State) : Bool :=
  (s.dom == 1 || decide (rxFrom + 32000 ≤ s.t0 % trvSlotNs)) && decide (max s.trv.rxEnd s.trv.txUntil + 32000 ≤ s.t0)

/-- R187: a window of the Traverse on the channel of the slot. -/
def State.trvWindow (s : State) (m : Nat) : State :=
  if !s.trvUp ∨ s.dom = 0 ∨ !s.windowIdle ∨ s.trv.slotLost ∨ s.trv.wurSlot then s
  else
    let c := s.trvChan
    let s := s.trvMod (fun t =>
      { t with floor := (match contourStep (kvGet t.floor c) m with
                 | some v => kvPut t.floor c (some v)
                 | none => t.floor),
               floorAt := kvPut t.floorAt c (some s.tim.now) })
    s.skipUpdate

/-- R140. -/
def execContourWindow (path : Fin 4) (c : Nat) (power : Nat) (s : State) : Res :=
  .next (if path.val = 3 then s.trvWindow power else s.radioWindow path c power)

/-- A write of RADn_MEAS_CMD (R142): ignored while BUSY; a dwell of 0, or a number that is no channel of the band, is outside the fields' range. DEDUCED (log 54). -/
def State.measWrite (s : State) (n : Nat) (v : Word) : State :=
  let c := getField v 0 8
  let d := getField v 8 6
  if !bit v.toNat 14 ∨ s.isSet (F.RAD_MEAS_CMD_BUSY n) ∨ d = 0 ∨ (contourOfNumber n c).isNone then s
  else (s.phMod n (fun p => { p with meas := some (c, d) })).put (F.RAD_MEAS_CMD_BUSY n) 1

/-- R142. -/
def execMeasCmd (m : Master) (n : Fin 3) (v : Word) (s : State) : Res :=
  .next (s.hostWrite m (A.RAD_MEAS_CMD n) (v ||| 0x4000#32) (fun s => s.measWrite n (v ||| 0x4000#32)))

/-- R142: in a QUI run long enough the radio changes channel, measures for the dwell and returns, with the results of its operating channel back in use (R92). `powers` are those of the dwell's
windows of 4 µs. DEDUCED (log 54). -/
def State.measRun (s : State) (n : Nat) (powers : List Nat) : State :=
  match (s.ph n).meas, (s.gr n).run with
  | some (c, d), some r =>
    if r.kind ≠ kQUI ∨ s.rstate n < rStandby ∨ s.onAir n ∨ powers.length ≠ 16 * d ∨ s.t0 < s.usableStart n ∨ s.usableEnd n < s.t0 + 90000 + d * 64000 then s
    else
      let s := s.rxAbort n
      let s := match contourOfNumber n c with
        | some i => powers.foldl (fun (s : State) m => s.contourTake n i m) s
        | none => s
      let s := match (s.rad n).chan with
        | some ch => (s.chainsOf n).foldl (fun (s : State) c => s.takeResult c n ch) s
        | none => s
      (s.phMod n (fun p => { p with meas := none })).put (F.RAD_MEAS_CMD_BUSY n) 0
  | _, _ => s

/-- R142. -/
def execMeasRun (n : Fin 3) (powers : List Nat) (s : State) : Res := .next (s.measRun n powers)

end Sys2Proof.Machine
end

