-- ==== Sys2Proof/Machine/Traverse.lean ====
section
/-! DEFINITION. The Traverse carried out (R181 to R206): slots, sending and receiving, the delay exchange, grants and map exchanges, joining and leaving. -/

namespace Sys2Proof.Machine

/-! ### Slot start (R84, R85, R181, R183, R186, R205) -/

/-- R84, R85: at a slot start a substitute LO takes over, or the Traverse synthesiser takes back. -/
def State.loSwitch (s : State) : State :=
  if s.chn.trvBack then
    let s := match s.chn.trvBy with
      | some k => (((s.bandSearches).put (F.CHN_SYNTH_STATUS_SERVES k) 4).put (F.CHN_SYNTH_STATUS_LOCKED k) 0).faultDone (s.synthLoc 4)
      | none => s
    { s with chn := { s.chn with trvBy := none, trvNext := none, trvBack := false, trvDown := s.trvLost || !s.isSet F.PWR_CLK_STATUS_XO80_OK } }
  else match s.chn.trvNext with
    | some k =>
      let s := ((s.put (F.CHN_SYNTH_STATUS_SERVES k) 3).put (F.CHN_SYNTH_STATUS_LOCKED k) 1).bump A.CHN_SYNTH_SWITCH_COUNT
      { s with chn := { s.chn with bandCodes := [], trvBy := some k, trvNext := none, trvDown := s.trvLost || !s.isSet F.PWR_CLK_STATUS_XO80_OK } }
    | none => s

/-- The epoch number at the start of Traverse slot j. -/
def slotEpoch (j : Nat) : Nat := j * trvSlotNs / (epochSlots * slotNs) % 2 ^ 32

/-- R183: the armed map applies from the first slot at or after its epoch boundary. -/
def State.mapSwitch (s : State) : State :=
  match s.trv.next with
  | some (map, version, e) =>
    if notLater e (slotEpoch s.trvSlot) then ((s.putMap map version).trvMod (fun t => { t with next := none })).put F.TRV_STATUS_MAP_PENDING 0 else s
  | none => s

/-- R205: the member is out of the domain: transmission stops, TB0 runs free. DEDUCED (log 72). -/
def State.goOut (s : State) : State :=
  (s.queueClear.trvMod (fun t => { t with leaveLeft := 0, joinLeft := 0, mayTx := false, exch := none, exchDone := false, asm := [] })).put F.TRV_STATUS_DOMAIN 0

/-- R205: the payload of JOIN and LEAVE. -/
def State.joinPayload (s : State) : List Byte :=
  let radios := (List.range 3).foldl (fun a n => if (s.func n).on then a + 2 ^ n else a) 0
  BitVec.ofNat 8 radios :: BitVec.ofNat 8 (if s.isRoot then 0 else s.trv.depth) :: List.replicate 6 0#8

/-- The slot's channel is one that the member transmits on (R184). -/
def State.transmitSlot (s : State) : Bool := s.effective.contains s.trvChan && !s.trvBlocked

/-- R199: a transmit slot passes without an answer to the request on its way. DEDUCED (log 70). -/
def State.exchSlot (s : State) : State :=
  if s.transmitSlot then
    s.trvMod (fun t => { t with exch := t.exch.map (fun e => if e.sent.isSome then { e with slots := e.slots + 1 } else e) })
  else s

/-- R144: the survey entry that a beacon expected in beacon slot b comes under: of a member whose last beacon came in that slot, on the Traverse path, of the Datum reference. -/
def State.beaconEntry (s : State) (b : Nat) : Option Nat :=
  (List.range 64).find? (fun k => s.isSet (F.CHN_SURVEY0_VALID k) && s.get (F.CHN_SURVEY0_PATH k) == 0 && s.applies k &&
    kvGet s.trv.bcnSlots (s.get (F.CHN_SURVEY0_MEMBER k)) == some b)

/-- R144: the offset built into the retune of this slot. DEDUCED (log 75). -/
def State.retuneOffset (s : State) : Int :=
  match s.beaconEntry (beaconSlot s.trvSlot) with
  | some k => if s.dom < 2 then 0 else clampInt (-300000) 300000 (s.scaledCfo k (2402 + 2 * s.trvChan))
  | none => 0

/-- R205: a transmit slot carries one of the three JOIN or LEAVE frames; 30 ms end a leave. -/
def State.joinFrames (s : State) : State :=
  let may : Bool := s.transmitSlot
  if 0 < s.trv.leaveLeft then
    if s.leaveOver then s.goOut
    else if may then s.queueFrame ⟨9, none, s.joinPayload, none⟩
    else s
  else if 0 < s.trv.joinLeft ∧ may ∧ s.dom = 3 then (s.trvMod (fun t => { t with joinLeft := t.joinLeft - 1 })).queueFrame ⟨8, none, s.joinPayload, none⟩
  else s

/-- R205: a leave ends when its 30 ms have passed, whatever it has sent. -/
def State.leaveDue (s : State) : State := if s.leaveOver then s.goOut else s

/-- A new epoch allows a new delay exchange (R199). -/
def State.exchEpoch (s : State) : State :=
  if s.trv.epochSeen = s.epoch then s else s.trvMod (fun t => { t with epochSeen := s.epoch, exch := none, exchDone := false })

/-- The transceiver rests outside a domain while no wake-up frame waits, and in the states without it (R91, R419). DEDUCED (log 75). -/
def State.trvRests (s : State) : Bool := decide (3 ≤ s.pwrState) || (s.dom == 0 && s.trv.wurQueue == [])

/-- R181: a Traverse slot starts. DEDUCED (log 75). -/
def State.trvSlotStart (s : State) : State :=
  let s := s.relock.loSwitch
  let s := s.trvMod (fun t => { t with sentInSlot := false, slotLost := false, wurSlot := false, blockedNoted := false, rest := s.trvRests })
  let s := (s.mapSwitch.dwellAdvance).skipUpdate
  let s := s.exchEpoch
  let s := if s.dom < 2 then s else s.put F.TRV_STATUS_CHANNEL s.hopNow
  let s := s.exchSlot.trvMod (fun t => { t with adjust := s.retuneOffset })
  let s := if s.t0 < s.trv.hold0 then s else s.releaseHeld 0
  let s := (s.joinFrames.captureAll 13 true 0).xo80Follow
  if s.chn.trvDown ∧ 2 ≤ s.dom then s.trvMod (fun t => { t with slotLost := true }) else s

/-- R181. -/
def execTraverseSlotStart (s : State) : Res := .next s.trvSlotStart

/-! ### Sending (R195 to R199) -/

/-- A slot in which the member would have sent is counted once as blocked or held (R184, R186). DESIGN CHOICE (log 71). -/
def State.noteHeld (s : State) (off : Nat) : State := (s.bump off).trvMod (fun t => { t with blockedNoted := true })

/-- What a frame gone out means for its exchange (R199, R205, R212). -/
def State.afterSend (s : State) (f : TFrame) (sent : Nat × Nat × Nat) : State :=
  match f.type with
  | 2 => s.trvMod (fun t => { t with exch := t.exch.map (fun e => { e with sent := some sent, slots := 0 }) })
  | 9 =>
    let s := s.trvMod (fun t => { t with leaveLeft := t.leaveLeft - 1 })
    if s.trv.leaveLeft = 0 then s.goOut else s
  | 10 => s.put F.TRV_HOST_TX_BUSY 0
  | _ => s

/-- R181, R195: where in the slot an ordinary transmission of `ns` may start. DEDUCED (log 69). -/
def State.fitsNow (s : State) (ns : Nat) : Bool :=
  let at_ := s.t0 % trvSlotNs
  let from_ := if beaconSlot s.trvSlot < 16 then 647000 else txFrom
  decide (from_ ≤ at_) && decide (at_ + ns ≤ txTo)

/-- R195: the k of the next frame's sensing time, drawn once for it. DESIGN CHOICE (log 106). -/
def State.senseDraw (s : State) : Nat × State :=
  match s.trv.senseK with
  | some k => (k, s)
  | none =>
    let r := s.freeN
    (r.1 % 16, r.2.trvMod (fun t => { t with senseK := some (r.1 % 16) }))

/-- R195: since when the channel may have been sensed idle: the slot's receive span, the last frame heard, the member's own last frame. DEDUCED (log 69). -/
def State.idleSince (s : State) : Nat := max (s.t0 / trvSlotNs * trvSlotNs + rxFrom) (max s.trv.rxEnd s.trv.txUntil)

/-- R195: a frame may start now: after the sensing time, or for a DELAY_RESP without sensing, 36 µs after its request or in a later slot. DEDUCED (log 69). -/
def State.senseOk (s : State) (f : TFrame) (k : Nat) : Bool :=
  if f.type = 3 then
    match f.due with
    | some d => d / trvSlotNs != s.t0 / trvSlotNs || (decide (d ≤ s.t0) && decide (s.t0 < d + 8))
    | none => true
  else decide (s.idleSince + 36000 + 18000 * k ≤ s.t0)

/-- A frame that may start goes out, if it has a number (R192). -/
def State.sendGo (s : State) (f : TFrame) : State :=
  match s.sessionReady with
  | none => s
  | some s =>
    let s := s.trvMod (fun t => { t with queue := t.queue.erase f, senseK := none })
    let r := s.sendNow f
    r.1.afterSend f r.2

/-- R195: the frame of highest priority goes out if it can. DEDUCED (log 69). -/
def State.sendNext (s : State) : State :=
  match s.nextFrame with
  | none => s
  | some f =>
    match s.txGate with
    | .no => s
    | .blocked => s.noteHeld A.TRV_BLOCKED_SLOTS
    | .dwell => s.noteHeld A.TRV_DWELL_HOLD
    | .go =>
      if !s.fitsNow ((s.frameLoad f).frameNs f.len) then s
      else
        let r := s.senseDraw
        if r.2.senseOk f r.1 then r.2.sendGo f else r.2

/-- R195. -/
def execTraverseFrameSend (s : State) : Res := .next s.sendNext

/-- R201: the payload of this member's beacon. -/
def State.beaconPayload (s : State) : List Byte :=
  let own := s.get F.TRV_MEMBER_MEMBER
  let nx := s.trv.next.getD (0, 0, 0)
  [BitVec.ofNat 8 (if s.isRoot then 0 else s.trv.depth), 0#8] ++ leBytes 2 (if s.isRoot then own else s.trv.root) ++
    leBytes 2 (s.get F.TRV_HOPMAP_HI_VERSION) ++ leBytes 2 nx.2.1 ++ leBytes 5 s.hopMap ++ leBytes 3 0 ++ leBytes 5 nx.1 ++ leBytes 3 0 ++ leBytes 4 nx.2.2 ++
    leBytes 2 ((s.t0 + 72000) / nsPerS / 2 ^ 32) ++ leBytes 2 0

/-- R197: the member's beacon goes out in its beacon slot. -/
def State.sendBeacon (s : State) : State :=
  let j := s.trvSlot
  let p := refPeriod (j * trvSlotNs)
  if !s.isSet F.TRV_CTRL_BCN_EN ∨ s.dom ≠ 3 ∨ (s.dstage ≠ 0 ∧ !s.isRoot) ∨ s.trv.bcnPeriod = some p ∨ beaconSlot j ≠ s.get F.TRV_CTRL_BCN_SLOT then s
  else match s.txGate with
    | .no => s
    | .blocked => s.noteHeld A.TRV_BLOCKED_SLOTS
    | .dwell => s.noteHeld A.TRV_DWELL_HOLD
    | .go =>
      if s.t0 % trvSlotNs < txFrom ∨ 647000 < s.t0 % trvSlotNs + 612000 then s
      else match s.sessionReady with
        | none => s
        | some s => (s.trvMod (fun t => { t with bcnPeriod := some p })).sendNow ⟨1, none, s.beaconPayload, none⟩ |>.1

/-- R197. -/
def execBeaconSend (s : State) : Res := .next s.sendBeacon

/-- R199 step 1: an exchange with the reference begins. DEDUCED (log 70). -/
def State.delayStart (s : State) : State :=
  match s.refMember with
  | some m =>
    if s.isRoot ∨ s.dom < 2 ∨ !s.trv.mayTx ∨ s.trv.exch.isSome ∨ s.trv.exchDone then s
    else (s.trvMod (fun t => { t with exch := some ⟨1, none, 0⟩ })).queueFrame ⟨2, some m, List.replicate 4 0#8, none⟩
  | none => s

/-- R199. -/
def execDelayReqSend (s : State) : Res := .next s.delayStart

/-- R199: an unanswered request is sent again, up to 4 times; then the attempt has failed. DEDUCED (log 70). -/
def State.delayAgain (s : State) : State :=
  match s.trv.exch, s.refMember with
  | some e, some m =>
    if e.sent.isNone ∨ e.slots < 8 then s
    else if e.tries < 5 then (s.trvMod (fun t => { t with exch := some ⟨e.tries + 1, none, 0⟩ })).queueFrame ⟨2, some m, List.replicate 4 0#8, none⟩
    else (s.trvMod (fun t => { t with exch := none, exchDone := true })).bump A.TRV_DELAY_FAIL
  | _, _ => s

/-- R199. -/
def execDelayRetry (s : State) : Res := .next s.delayAgain

/-! ### The replay check (R191) -/

/-- The 64-bit window of a neighbour. -/
def State.nbrWindow (s : State) (m : Nat) : Nat := (s.rd (A.NBR_WINDOW_LO m)).toNat + (s.rd (A.NBR_WINDOW_HI m)).toNat * 2 ^ 32

/-- The entry of a neighbour after an accepted frame: session, high, window, and the later of its last stamp and this one. -/
def State.nbrPut (s : State) (m session high window stamp : Nat) : State :=
  let old := (s.rd (A.NBR_STAMP_S m)).toNat * nsPerS + (s.rd (A.NBR_STAMP_NS m)).toNat
  let t := max old stamp
  let s := (s.wr (A.NBR_SESSION m) (BitVec.ofNat 32 session)).wr (A.NBR_HIGH m) (BitVec.ofNat 32 high)
  let s := (s.wr (A.NBR_WINDOW_LO m) (BitVec.ofNat 32 window)).wr (A.NBR_WINDOW_HI m) (BitVec.ofNat 32 (window / 2 ^ 32))
  ((s.wr (A.NBR_STAMP_S m) (BitVec.ofNat 32 (t / nsPerS))).wr (A.NBR_STAMP_NS m) (BitVec.ofNat 32 (t % nsPerS))).put (F.NBR_W0_VALID m) 1

/-- R191: the frame `b` of a sender is accepted, or dropped and counted. -/
def State.replayCheck (s : State) (b : List Byte) : Bool × State :=
  let m := leAt b 2 2 % 1024
  let session := leAt b 12 4
  let seq := leAt b 16 4
  let stamp := stampAt b 20
  let valid := s.isSet (F.NBR_W0_VALID m)
  if valid ∧ (s.rd (A.NBR_SESSION m)).toNat = session then
    let high := (s.rd (A.NBR_HIGH m)).toNat
    let w := s.nbrWindow m
    let d := sint 32 (seq + 2 ^ 32 - high)
    if 0 < d then
      (true, s.nbrPut m session seq (if d < 64 then (w * 2 ^ d.toNat % 2 ^ 64) ||| 1 else 1) stamp)
    else if -d < 64 ∧ !bit w (-d).toNat then (true, s.nbrPut m session high (w ||| 2 ^ (-d).toNat) stamp)
    else (false, s.bump A.TRV_RX_REPLAY)
  else
    let last := (s.rd (A.NBR_STAMP_S m)).toNat * nsPerS + (s.rd (A.NBR_STAMP_NS m)).toNat
    if valid ∧ stamp ≤ last then (false, s.bump A.TRV_RX_REPLAY)
    else if s.dstage ≤ 2 ∧ s.get F.TRV_CTRL_FRESH * 1000000 < (stampDiff stamp s.t0).natAbs then (false, s.bump A.TRV_RX_STALE)
    else (true, s.nbrPut m session seq 1 stamp)

/-! ### Beacons and the servo's samples (R183, R199 to R201, R205, R221) -/

/-- R221: a beacon sample o. -/
def State.servoSample (s : State) (o : Int) : State :=
  let s := s.wr A.TB_DATUM_TRV_OFFSET (BitVec.ofInt 32 o)
  if s.ptpInForce then s
  else if s.dom = 2 ∧ 10000 < o.natAbs then
    ((s.steer (fun b => { b with stepPend := some (-o) })).put F.TB_DATUM_STATUS_OUTLIERS 0).bump A.TB_DATUM_STEPS
  else
    let out : Bool := s.dom == 3 && decide (s.get F.TB_DATUM_CTRL_OUTLIER * 10 < o.natAbs)
    let n := s.get F.TB_DATUM_STATUS_OUTLIERS + 1
    let s := if out then s.bump A.TB_DATUM_OUTLIER else s
    if out ∧ n < 4 then s.put F.TB_DATUM_STATUS_OUTLIERS n
    else
      let dt := s.tim.sampleAt.map (fun t => (s.tim.now - t, 1000000000))
      (s.put F.TB_DATUM_STATUS_OUTLIERS 0).servoApply o dt

/-- R183, R201: the domain map and the armed next map of a beacon; a map too small for this member is ignored and counted. -/
def State.adoptMap (s : State) (p : List Byte) : State :=
  let map := leAt p 8 5
  let next := leAt p 0x10 5
  let nv := leAt p 6 2
  let s := if popcount 40 map < s.minHopset then s.bump A.TRV_MAP_REJECT else s.putMap map (leAt p 4 2)
  if nv = 0 then (s.trvMod (fun t => { t with next := none })).put F.TRV_STATUS_MAP_PENDING 0
  else if popcount 40 next < s.minHopset then s.bump A.TRV_MAP_REJECT
  else (s.trvMod (fun t => { t with next := some (next, nv, leAt p 0x18 4) })).put F.TRV_STATUS_MAP_PENDING 1

/-- R199: the path delay to the present reference in ns, 0 until measured (R221). DEDUCED (log 70). -/
def State.pathDelay (s : State) : Int := s.grt.hold.delay.getD 0

/-- R205: a beacon ends the scan: TB0 is set by it, the map adopted, and hopping begins with the next slot. -/
def State.scanEnd (s : State) (p : List Byte) (stamp ago : Nat) : State :=
  let s := s.tbMod 0 (fun b => { b with setPend := some ((stamp + ago) * unitsPerNs % tbWrap) })
  let s := ((s.adoptMap p).put F.TRV_STATUS_CHANNEL (s.get F.TRV_STATUS_SCAN_CH)).put F.TRV_STATUS_DOMAIN 2
  s.trvMod (fun t => { t with mayTx := false, exch := none, exchDone := false, depth := leAt p 0 1 + 1, root := leAt p 2 2 % 1024 })

/-- R176, R200: a beacon of the present reference is accepted: it counts, gives its map, lets a follower transmit, and gives a servo sample. -/
def State.refBeacon (s : State) (p : List Byte) (stamp port : Nat) (capture : Int) : State :=
  let d := leAt p 0 1
  if s.get F.TRV_CTRL_MAX_DEPTH < d + 1 then s
  else
    let s := s.holdMod (fun h => { h with got := true, consec := h.consec + 1, lastBeacon := some s.tim.now })
    let s := s.adoptMap p
    let s := s.trvMod (fun t => { t with depth := d + 1, root := leAt p 2 2 % 1024, mayTx := true, beaconPort := port })
    (s.servoSample (capture - (stamp : Int) - s.pathDelay)).relockDue

/-- A BEACON (R201) of a sender. -/
def State.onBeacon (s : State) (b : List Byte) (sender port : Nat) (ago : Nat) : State :=
  let p := b.drop 24
  let stamp := stampAt b 20 + leAt p 0x1C 2 * 2 ^ 32 * nsPerS
  let s := (s.put (F.NBR_W7_DEPTH sender) (leAt p 0 1)).trvMod (fun t =>
    { t with bcnSlots := kvPut t.bcnSlots sender (some (beaconSlot (stampAt b 20 / trvSlotNs))) })
  if s.dom = 1 then s.scanEnd p stamp ago
  else if 2 ≤ s.dom ∧ !s.isRoot ∧ s.refMember = some sender then s.refBeacon p stamp port ((s.t0 : Int) - (ago : Int))
  else s

/-! ### The delay exchange (R199, R202) -/

/-- A DELAY_REQ is answered with its capture time, 36 µs after its end where that fits (R195). -/
def State.onDelayReq (s : State) (b : List Byte) (sender ago : Nat) : State :=
  if s.dom < 2 then s
  else s.queueFrame ⟨3, some sender, leBytes 4 (leAt b 12 4) ++ leBytes 4 (leAt b 16 4) ++ stampBytes (s.t0 - ago), some (s.trv.rxEnd + 36000)⟩

/-- A DELAY_RESP that answers the latest request gives the path delay. -/
def State.onDelayResp (s : State) (b : List Byte) (sender ago : Nat) : State :=
  match s.trv.exch with
  | some ⟨_, some (session, seq, t1), _⟩ =>
    if s.refMember = some sender ∧ leAt b 24 4 = session ∧ leAt b 28 4 = seq then
      let t4 : Int := (s.t0 : Int) - (ago : Int)
      let d := (stampDiff t4 t1 - stampDiff (stampAt b 20) (stampAt b 32)) / 2
      let s := (s.holdMod (fun h => { h with delay := some d })).trvMod (fun t => { t with exch := none, exchDone := true })
      ((s.wr A.TRV_DELAY_NS (BitVec.ofInt 32 d)).put F.TB_DATUM_STATUS_DELAY_KNOWN 1).relockDue
    else s
  | _ => s

/-! ### Grants and map exchanges (R203, R204) -/

/-- R203: one grant record goes to its radio; answers the receipt word. -/
def State.grantRecord (s : State) (g : Grant) : State × Word :=
  let n := g.radio
  let o := if 3 ≤ n ∨ s.grantBad n g then 1 else if 256 ≤ (s.gr n).pend.length then 2 else 0
  ((if n < 3 then s.submitGrant n g else s), fieldWord 0 16 g.id ||| fieldWord 16 8 o)

/-- A GRANTS frame: its records are submitted and one receipt goes back. DEDUCED (log 74). -/
def State.onGrants (s : State) (b : List Byte) (sender : Nat) : State :=
  let p := b.drop 24
  let count := min (min (leAt p 0 1) 16) ((b.length - 24 - 4) / 16)
  let w (i k : Nat) : Word := BitVec.ofNat 32 (leAt p (4 + 16 * i + 4 * k) 4)
  let r := (List.range count).foldl (fun (a : State × List Word) i =>
    let x := a.1.grantRecord ⟨w i 0, w i 1, w i 2, w i 3⟩
    (x.1, a.2 ++ [x.2])) (s, [])
  r.1.queueFrame ⟨5, some sender, [BitVec.ofNat 8 count, 0#8, 0#8, 0#8] ++ wordBytes r.2, none⟩

/-- R204: the object that the fragments of an assembly make. -/
def Assembly.object (a : Assembly) : List Byte :=
  a.frags.foldl (fun o f => patch o f.2.1 f.2.2) (List.replicate (min a.total 65536) 0#8)

/-- R132, R204: the assembled map is checked and answered. DEDUCED (log 74). -/
def State.mapArrived (s : State) (a : Assembly) (sender : Nat) : State :=
  let m := mapDecode a.object
  let reason := s.mapReason a.radio a.link m
  let s := s.trvMod (fun t => { t with asm := t.asm.filter (fun x => !(x.radio == a.radio && x.link == a.link)) })
  let s := if reason = 0 then
      (s.linkMod a.radio a.link (fun l => { l with txPend := some m })).put (F.RAD_STP_LINK_STATUS_TX_PENDING a.radio a.link) 1
    else s.bump (A.RAD_STP_MAP_REJECT a.radio)
  s.queueFrame ⟨7, some sender, [BitVec.ofNat 8 a.radio, BitVec.ofNat 8 (b2n (reason != 0)), BitVec.ofNat 8 reason, 0#8] ++ leBytes 2 a.version ++ [0#8, 0#8], none⟩

/-- R204: a MAP_OFFER fragment. DEDUCED (log 74). -/
def State.onMapOffer (s : State) (b : List Byte) (sender : Nat) : State :=
  let p := b.drop 24
  let n := leAt p 0 1
  match (if n < 3 then s.linkTo n sender else none) with
  | none => s
  | some k =>
    let version := leAt p 4 2
    let fresh : Assembly := ⟨n, k, version, leAt p 8 4, leAt p 2 1, []⟩
    let cur := (s.trv.asm.find? (fun x => x.radio == n && x.link == k)).getD fresh
    if cur.version ≠ version ∧ 32768 ≤ (version + 65536 - cur.version) % 65536 then s
    else
      let a := if cur.version = version then cur else fresh
      let i := leAt p 1 1
      let a := if a.frags.any (fun f => f.1 == i) ∨ a.count ≤ i then a else { a with frags := a.frags ++ [(i, leAt p 12 4, b.drop 40)] }
      let s := s.trvMod (fun t => { t with asm := a :: t.asm.filter (fun x => !(x.radio == n && x.link == k)) })
      if a.frags.length = a.count then s.mapArrived a sender else s

/-- R134, R204: the answer to the pending rx map's offer. -/
def State.onMapReply (s : State) (b : List Byte) (sender : Nat) : State :=
  let p := b.drop 24
  let n := leAt p 0 1
  match (if n < 3 then s.linkTo n sender else none) with
  | none => s
  | some k =>
    match (s.link n k).rxPend with
    | some m => if m.version = leAt p 4 2 ∧ leAt p 1 1 = 0 then s.linkMod n k (fun l => { l with accepted := true }) else s
    | none => s

/-! ### Receiving (R113, R190, R194) -/

/-- R194: a frame goes to the host with its header, without its tag, stamped in TB0 at its stamp point (R198, R234). -/
def State.trvToHost (s : State) (b : List Byte) (ago : Nat) : State :=
  let v := s.stampBack 0 ago
  let q := s.get F.HDM_EVT_CTRL_TRV_Q
  let p : Pkt := { Pkt.fresh b 127 with hostQ := q, reason := 14, stage := .done (.host q), stamp := some ⟨0, tvS v, tvN v, tvF v⟩ }
  { s with path := { s.path with toQueue := s.path.toQueue ++ [p] } }

/-- R194: an accepted frame, header through payload, is acted on. -/
def State.trvAct (s : State) (b : List Byte) (sender port ago : Nat) : State :=
  match leAt b 0 1 with
  | 1 => s.onBeacon b sender port ago
  | 2 => s.onDelayReq b sender ago
  | 3 => s.onDelayResp b sender ago
  | 4 => s.onGrants b sender
  | 6 => s.onMapOffer b sender
  | 7 => s.onMapReply b sender
  | _ => s.trvToHost b ago

/-- R196, R211: the sender's entry after an accepted frame. -/
def State.nbrHeard (s : State) (m port sinr : Nat) : State :=
  let old := kvGet s.trv.sinr m
  let x := match old with
    | some (v, _, _) => (7 * v + sinr) / 8
    | none => sinr
  let frames := (old.map (fun o => o.2.1)).getD 0 + 1
  let s := s.trvMod (fun t => { t with sinr := kvPut t.sinr m (some (x, frames, s.tim.now)) })
  (s.put (F.NBR_W0_PORT m) port).put (F.NBR_W0_SINR m) (min (quarterDb x) 255)

/-- R190 steps 2 to 7; `b`: header through payload, `tag`: the tag received. -/
def State.trvChecks (s : State) (b tag : List Byte) : Bool × State :=
  let own := s.get F.TRV_MEMBER_MEMBER
  let dest := leAt b 4 2
  let key := leAt b 1 1 % 2
  let type := leAt b 0 1
  if leAt b 8 4 ≠ (s.rd A.TRV_DOMAIN_ID).toNat then (false, s.bump A.TRV_RX_OTHER_DOMAIN)
  else if leAt b 2 2 % 1024 = own then (false, (s.bump A.TRV_RX_SELF).raise F.TRV_STATUS_DUP_MEMBER)
  else if dest % 1024 ≠ own ∧ !bit dest 15 then (false, s)
  else if !s.keyLoadedAt key ∨ frameTag (s.domainKey key) b ≠ tag then (false, s.bump A.TRV_RX_AUTH_FAIL)
  else if type = 0 ∨ 10 < type then (false, s.bump A.TRV_RX_UNKNOWN)
  else s.replayCheck b

/-- R181: a frame of `dur` ns whose stamp point was `ago` ns ago lies within the receive span of one slot; a scanning member keeps no slots. DEDUCED (log 75). -/
def State.inRxSpan (s : State) (dur ago : Nat) : Bool :=
  let start := s.t0 - (ago + 72000)
  s.dom == 1 || (decide (ago + 72000 ≤ s.t0) && decide (rxFrom ≤ start % trvSlotNs) && decide (start % trvSlotNs + dur ≤ trvSlotNs))

/-- R182, R190: a frame is received, its header `phy` as it came. -/
def State.trvReceive (s : State) (phy : Nat) (bytes : List Byte) (powerA powerB sinr : Nat) (cfo : Int) (ago : Nat) : State :=
  let dur := (phyLoad phy).frameNs (phyLen phy)
  if s.ballsTaken ∨ s.dom = 0 ∨ s.trv.wurSlot ∨ s.pwr.stage ≠ .up ∨ s.trv.rest ∨ !s.radioEnable 3 ∨ s.trvLost then s
  else if s.trv.slotLost ∨ !phyOk phy ∨ bytes.length < phyLen phy then s.bump A.TRV_RX_ABORT
  else if !s.inRxSpan dur ago then s
  else
    let port := if s.flt.permanent.contains (4, 5, 2) then 0 else if powerA = powerB then s.trv.rxPort else if powerA < powerB then 1 else 0
    let s := s.trvMod (fun t => { t with rxPort := port, rxEnd := s.t0 + dur - (ago + 72000) })
    let bytes := bytes.take (phyLen phy)
    let b := bytes.take (bytes.length - 16)
    let r := s.trvChecks b (bytes.drop (bytes.length - 16))
    if !r.1 then r.2
    else
      let sender := leAt b 2 2 % 1024
      let s := (r.2.bump A.TRV_RX_OK).nbrHeard sender port sinr
      let s := s.surveyAll sender 0 (cfo + s.trv.adjust) (2402 + 2 * s.trvChan)
      s.trvAct b sender port ago

/-- R190. -/
def execTraverseFrameReceive (phy : BitVec 26) (bytes : List Byte) (powerA powerB : Nat) (sinr : Nat) (cfo : Int) (ago : Nat) (s : State) : Res :=
  .next (s.trvReceive phy.toNat bytes powerA powerB sinr cfo ago)

/-! ### Host writes (R183, R205, R212) -/

/-- R183: a write of TRV_HOPMAP_NEXT_EPOCH arms the next map, or is discarded and counted. -/
def State.armMap (s : State) (v : Word) : State :=
  let map := (s.rd A.TRV_HOPMAP_NEXT_LO).toNat + s.get F.TRV_HOPMAP_NEXT_HI_CHANNELS * 2 ^ 32
  if !s.isRoot ∨ popcount 40 map < s.minHopset ∨ sint 32 (v.toNat + 2 ^ 32 - s.epoch) < 4 then s.bump A.TRV_WRITE_REJECT
  else
    let version := (s.get F.TRV_HOPMAP_HI_VERSION + 1) % 65536
    ((s.wr A.TRV_HOPMAP_NEXT_EPOCH v).trvMod (fun t => { t with next := some (map, version, v.toNat) })).put F.TRV_STATUS_MAP_PENDING 1

/-- R183. -/
def execHopmapNextArm (m : Master) (v : Word) (s : State) : Res := .next (s.hostWrite m A.TRV_HOPMAP_NEXT_EPOCH v (fun s => s.armMap v))

/-- R205: the next channel of a scan after channel k, cyclically; `none` where every channel is masked. -/
def State.scanNext (s : State) (k : Option Nat) : Nat :=
  let l := (List.range 40).filter (fun c => !s.radio0Covers c)
  match k with
  | some k => ((l.find? (fun c => decide (k < c))).getD (l.headD 0))
  | none => l.headD 0

/-- R205: a join starts. DEDUCED (log 72). -/
def State.joinStart (s : State) : State :=
  if s.dom ≠ 0 then s
  else
    let e := s.eNow
    let s := (s.stageTo 3).nbrClear.queueClear
    let s := s.trvMod (fun t => { t with exch := none, exchDone := false, mayTx := false, asm := [], joinLeft := 0, leaveLeft := 0, depth := 0, root := 0,
                                         bcnPeriod := some (refPeriod s.t0) })
    let s := s.holdMod (fun h => { h with consec := 0, got := false, lastBeacon := none, eHold := e, wHeld := none, delay := none })
    let s := (s.put F.TRV_DATUM_STATE_MISSES 0).put F.TB_DATUM_STATUS_DELAY_KNOWN 0
    if s.isRoot then ((s.stageTo 0).put F.TRV_STATUS_DOMAIN 3).trvMod (fun t => { t with mayTx := true })
    else
      let s := if s.refValid s.refNow then s else s.refNext
      ((s.put F.TRV_STATUS_DOMAIN 1).put F.TRV_STATUS_SCAN_CH (s.scanNext none)).trvMod (fun t => { t with scanAt := s.tim.now, rest := s.trv.rest && decide (3 ≤ s.pwrState) })

/-- R205: a leave starts: three LEAVE frames, then OUT; a member that may not transmit is out at once. DEDUCED (log 72). -/
def State.leaveStart (s : State) : State :=
  if s.dom = 0 ∨ 0 < s.trv.leaveLeft then s
  else if s.dom = 1 ∨ !s.trv.mayTx then s.goOut
  else s.trvMod (fun t => { t with leaveLeft := 3, leaveAt := s.tim.now, joinLeft := 0 })

/-- A write of TRV_CTRL (R212): its fields, then JOIN or LEAVE. -/
def State.trvCtrlWrite (s : State) (v : Word) : State :=
  if getField v 21 7 = 0 ∨ getField v 28 4 = 0 then s.bump A.TRV_WRITE_REJECT
  else
    let s := (s.wr A.TRV_CTRL (fieldWord 2 30 (v.toNat / 4))).skipUpdate
    if bit v.toNat 0 ∧ s.dom = 0 then s.joinStart else if bit v.toNat 1 then s.leaveStart else s

/-- R205. -/
def execJoin (m : Master) (v : Word) (s : State) : Res :=
  .next (s.hostWrite m A.TRV_CTRL (v ||| 1#32) (fun s => s.trvCtrlWrite (v ||| 1#32)))

/-- R205. -/
def execLeave (m : Master) (v : Word) (s : State) : Res :=
  .next (s.hostWrite m A.TRV_CTRL (v ||| 2#32) (fun s => s.trvCtrlWrite (v ||| 2#32)))

/-- R205: a scan moves on once it has listened for 1 s. -/
def State.scanMove (s : State) : State :=
  if s.dom = 1 ∧ s.trv.scanAt + 1000000000 ≤ s.tim.now then
    (s.put F.TRV_STATUS_SCAN_CH (s.scanNext (some (s.get F.TRV_STATUS_SCAN_CH)))).trvMod (fun t => { t with scanAt := s.tim.now })
  else s

/-- R205. -/
def execScanChannelMove (s : State) : Res := .next s.scanMove

/-- R212: a domain key word: word 0 unloads the slot, word 3 loads it. -/
def State.domainKeyPut (s : State) (n k : Nat) (v : Word) : State :=
  let s := s.trvMod (fun t => { t with keys := modAt t.keys n (fun key => patch key (4 * k) (leBytes 4 v.toNat)) })
  let l := s.get F.TRV_DKEY_STATUS_LOADED
  if k = 0 then s.put F.TRV_DKEY_STATUS_LOADED (l &&& (3 - 2 ^ n)) else if k = 3 then s.put F.TRV_DKEY_STATUS_LOADED (l ||| 2 ^ n) else s

/-- R212. -/
def execDomainKeyWrite (m : Master) (n : Fin 2) (k : Fin 4) (v : Word) (s : State) : Res :=
  .next (s.hostWrite m (A.TRV_DKEY n k) v (fun s => s.domainKeyPut n k v))

/-- R212: a write of TRV_HOST_TX. -/
def State.hostTxWrite (s : State) (v : Word) : State :=
  if 1024 < getField v 0 11 then s.bump A.TRV_WRITE_REJECT
  else
    let busy := s.get F.TRV_HOST_TX_BUSY
    let s := s.wr A.TRV_HOST_TX (fieldWord 0 22 v.toNat ||| fieldWord 23 1 busy)
    if !bit v.toNat 22 ∨ busy = 1 then s
    else
      let body := (wordBytes ((List.range 256).map (fun i => s.rd (A.TRV_HOST_PAYLOAD i)))).take (getField v 0 11)
      let f : TFrame := ⟨10, if bit v.toNat 21 then none else some (getField v 11 10), body, none⟩
      if 64 ≤ s.trv.queue.length then s.queueFrame f else (s.queueFrame f).put F.TRV_HOST_TX_BUSY 1

/-- R212. -/
def execHostTxGo (m : Master) (v : Word) (s : State) : Res :=
  .next (s.hostWrite m A.TRV_HOST_TX (v ||| 0x400000#32) (fun s => s.hostTxWrite (v ||| 0x400000#32)))

end Sys2Proof.Machine
end

