-- ==== Sys2Proof/Machine/Wakeup.lean ====
section
/-! DEFINITION. The wake-up receiver and transmitter (R207 to R209) and the rendezvous (R210, R213). -/

namespace Sys2Proof.Machine

/-! ### Receiving (R207, R208) -/

/-- The centre of a WUR channel in MHz. -/
def wurCentre (ch : Nat) : Nat := 2407 + 5 * ch

/-- Two bands given by centre and half width in MHz overlap. DEDUCED (log 76). -/
def bandsMeet (c1 h1 c2 h2 : Nat) : Bool := decide (c1 < c2 + h1 + h2) && decide (c2 < c1 + h1 + h2)

/-- A WUR channel overlaps radio 0's channel (R207). -/
def State.wurMeetsRadio0 (s : State) (ch : Nat) : Bool :=
  match (s.rad 0).chan with
  | some c => bandsMeet (wurCentre ch) 10 (channelCentre c) (10 * 2 ^ c.width)
  | none => false

/-- R209: the centre of a WUR channel lies inside the radio 0 mask of R184. DEDUCED (log 76). -/
def State.wurMasked (s : State) (ch : Nat) : Bool :=
  match (s.rad 0).chan with
  | some c => bandsMeet (wurCentre ch) 0 (channelCentre c) (10 * 2 ^ c.width + 1)
  | none => false

/-- R207: a transmission of this member on the Traverse, a wake-up frame, or radio 0 on an overlapping channel drowns a frame whose sync field came `ago` ns ago. -/
def State.wurDrowned (s : State) (ago : Nat) : Bool :=
  let ch := s.get F.WUR_CTRL_CHANNEL
  (decide (s.t0 < s.trv.txUntil + ago) &&
      (if s.trv.wurSlot then bandsMeet (wurCentre ch) 10 (wurCentre s.trv.wurCh) 10 else bandsMeet (wurCentre ch) 10 (2402 + 2 * s.trvChan) 1)) ||
    (((s.rad 0).tx.isSome || (s.rad 0).duty.any (fun e => decide (s.tim.now < e.1 + e.2 + ago))) && s.wurMeetsRadio0 ch)

/-- R207, R440: the receiver listens with port p (0 = A, 1 = B). -/
def State.wurListens (s : State) (p : Nat) : Bool :=
  s.pwr.stage == .up && s.radioEnable 4 && s.isSet F.WUR_CTRL_EN && !s.flt.permanent.contains (4, 6, p)

/-- R114: whether the detector of port p found the sync field `o` ns ago, while no other frame held the receiver. -/
def State.wurFound (s : State) (p : Nat) (o : Option Nat) : Option Nat :=
  match o with
  | some a => if s.wurListens p ∧ s.trv.wurEnd + a ≤ s.tim.now then some a else none
  | none => none

/-- R114: the port that holds a frame, and how long ago it found the sync field: the first detector, port A of two at once. -/
def State.wurHolder (s : State) (w : WurSender) : Option (Nat × Nat) :=
  match s.wurFound 0 w.atA, s.wurFound 1 w.atB with
  | some a, some b => if a < b then some (1, b) else some (0, a)
  | some a, none => some (0, a)
  | none, some b => some (1, b)
  | none, none => none

/-- The rendezvous state (R213): 0 idle, 1 armed, 2 waiting, 3 calling. -/
def State.rdvState (s : State) : Nat := s.get F.WUR_RDV_STATUS_STATE

/-- MET or FAIL ends the rendezvous (R213): its waiting frames go. -/
def State.rdvEnd (s : State) (flag : Fld) : State :=
  ((s.raise flag).put F.WUR_RDV_STATUS_STATE 0).trvMod (fun t => { t with wurQueue := [] })

/-- A wake-up frame to the partner waits for a slot. -/
def State.rdvFrame (s : State) (meets : Bool) : State :=
  s.trvMod (fun t => { t with wurQueue := t.wurQueue ++ [⟨s.get F.WUR_RDV_CTRL_PARTNER_CH, s.get F.WUR_RDV_CTRL_PARTNER_WUR_ID, meets, false⟩] })

/-- R210 steps 2 to 4: an accepted wake-up frame during a rendezvous. -/
def State.rdvHeard (s : State) (sender : Nat) : State :=
  if sender ≠ s.get F.WUR_RDV_CTRL_PARTNER then s
  else match s.rdvState with
    | 1 => s.rdvFrame (decide (s.t0 < s.trv.rdvT))
    | 2 | 3 => s.rdvEnd F.WUR_RDV_STATUS_MET
    | _ => s

/-- R208: a wake-up frame is accepted. -/
def State.wurAccept (s : State) (bcast : Bool) (sender : Nat) : State :=
  let fresh := !s.isSet F.WUR_STATUS_WAKE
  let s := (s.bump A.WUR_RX_WAKE).put F.WUR_STATUS_LAST_SENDER sender
  let s := if fresh then ((s.put F.WUR_STATUS_LAST_BCAST (b2n bcast)).raise F.WUR_STATUS_WAKE).captureAll 21 true 0 else s
  s.rdvHeard sender

/-- R114, R207, R208: a frame has ended; the port that held it has received it. -/
def State.wurReceive (s : State) (wake fcsOk bcast : Bool) (id : Nat) (w : WurSender) : State :=
  match s.wurHolder w with
  | none => s
  | some (p, ago) =>
    if s.wurDrowned ago then s
    else
      let s := s.trvMod (fun t => { t with wurPort := p, wurEnd := s.tim.now })
      if !wake then s.bump A.WUR_RX_OTHER
      else if fcsOk ∧ (if bcast then s.isSet F.WUR_CTRL_BCAST_WAKE else id == s.get F.WUR_CTRL_WUR_ID) then s.wurAccept bcast w.member.toNat
      else s

/-- R208. -/
def execWurFrameAccept (wake fcsOk bcast : Bool) (id : BitVec 12) (sender : WurSender) (s : State) : Res :=
  .next (s.wurReceive wake fcsOk bcast id.toNat sender)

/-! ### Transmitting (R209) -/

/-- R209: the time a wake-up frame lasts, in ns. -/
def wurNs (hdr : Bool) : Nat := if hdr then 284000 else 924000

/-- R209: wake-up transmit time of the last second in ns. -/
def State.wurTime (s : State) : Nat := ((s.trv.wurSent.filter (fun e => decide (s.tim.now < e.1 + 1000000000))).map (fun e => e.2)).sum

/-- R104, R209: the profile allows one more frame now. DEDUCED (log 76). -/
def State.wurAllowed (s : State) (ns : Nat) : Bool := decide (ns ≤ s.prof 0x3B 1 * 1000000) && decide (s.wurTime + ns ≤ s.prof 0x3C 2 * 1000000)

/-- The head of the waiting frames notes that its wait has been counted. -/
def State.wurLimited (s : State) : State :=
  match s.trv.wurQueue with
  | f :: t => if f.limited then s else (s.trvMod (fun x => { x with wurQueue := { f with limited := true } :: t })).bump A.WUR_TX_LIMITED
  | [] => s

/-- R209: the waiting frame takes this slot from its start, or waits; a wait outside Run or for wur_ms_per_s is counted. DEDUCED (log 76). -/
def State.wurSend (s : State) : State :=
  match s.trv.wurQueue with
  | [] => s
  | f :: t =>
    let hdr := s.isSet F.WUR_CTRL_TX_RATE
    let ns := wurNs hdr
    if 2 ≤ s.pwrState then s.wurLimited
    else if !s.trvUp ∨ !s.mayRadiate ∨ s.stopping 7 ∨ s.trv.slotLost ∨ s.trv.wurSlot ∨ s.trv.sentInSlot ∨ s.t0 < s.trv.txUntil ∨ txFrom < s.t0 % trvSlotNs then s
    else if s.wurMasked f.ch ∧ (s.rad 0).tx.isSome then s
    else if !s.wurAllowed ns then s.wurLimited
    else
      let stop := s.t0 - s.t0 % trvSlotNs + txFrom + ns
      let power := min (s.get F.WUR_CTRL_TX_POWER) (s.prof 0x3A 1)
      let hold := s.wurMasked f.ch
      let s : State := { s with out := .wurFrame f.ch f.id (s.get F.TRV_MEMBER_MEMBER) hdr power :: s.out }
      let s := s.trvMod (fun x =>
        { x with wurQueue := t, wurSlot := true, wurCh := f.ch, txUntil := stop, hold0 := if hold then stop else x.hold0,
                 wurSent := (s.tim.now, ns) :: x.wurSent.filter (fun e => decide (s.tim.now < e.1 + 1000000000)) })
      let s := (s.bump A.WUR_TX_FRAMES)
      let s := if s.rdvState = 0 then s else s.bumpField F.WUR_RDV_STATUS_FRAMES
      if f.meets ∧ s.rdvState ≠ 0 then s.rdvEnd F.WUR_RDV_STATUS_MET else s

/-- R209. -/
def execWurTransmit (s : State) : Res := .next s.wurSend

/-! ### Rendezvous (R210, R213) -/

/-- R210: the alarm that has a member in Run at T: 2.5 ms before it, on the calendar. -/
def State.rdvAlarm (s : State) (l : Nat) : State :=
  let c := s.calCount + (l - 2500000) * 32768 / 1000000000
  let s := (s.put F.CAL_ALARM0_SUBSEC (c % 32768)).put F.CAL_ALARM1_S_LO (c / 32768)
  (s.put F.CAL_ALARM2_S_HI (c / 32768 / 2 ^ 32)).put F.CAL_CTRL_ALARM_EN 1

/-- R210: an ARM is accepted, or discarded and counted when T is nearer than 5 ms. DEDUCED (log 77). -/
def State.rdvArm (s : State) : State :=
  let t := (s.rd A.WUR_RDV_TIME_S).toNat * nsPerS + s.get F.WUR_RDV_TIME_NS_NS
  let l := stampDiff t s.t0
  if l < 5000000 then s.bump A.TRV_WRITE_REJECT
  else
    let s := s.trvMod (fun x => { x with rdvT := s.t0 + l.toNat, rdvSpan := l.toNat / 50000, rdvNext := 0 })
    ((s.put F.WUR_RDV_STATUS_STATE 1).put F.WUR_RDV_STATUS_FRAMES 0).rdvAlarm l.toNat

/-- R213: a write of WUR_RDV_CTRL; while a rendezvous runs only DISARM acts. DEDUCED (log 77). -/
def State.rdvCtrlWrite (s : State) (v : Word) : State :=
  let ch := getField v 22 4
  if s.rdvState ≠ 0 then
    if bit v.toNat 27 then (s.put F.WUR_RDV_STATUS_STATE 0).trvMod (fun t => { t with wurQueue := [] }) else s
  else if ch = 0 ∨ 13 < ch then s
  else
    let s := s.wr A.WUR_RDV_CTRL (fieldWord 0 26 v.toNat)
    if bit v.toNat 26 ∧ !bit v.toNat 27 then s.rdvArm else s

/-- R210. -/
def execRdvArm (m : Master) (v : Word) (s : State) : Res :=
  .next (s.hostWrite m A.WUR_RDV_CTRL (v ||| 0x4000000#32) (fun s => s.rdvCtrlWrite (v ||| 0x4000000#32)))

/-- R213. -/
def execRdvDisarm (m : Master) (v : Word) (s : State) : Res :=
  .next (s.hostWrite m A.WUR_RDV_CTRL (v ||| 0x8000000#32) (fun s => s.rdvCtrlWrite (v ||| 0x8000000#32)))

/-- WAIT in ns. -/
def State.rdvWaitNs (s : State) : Nat := s.get F.WUR_RDV_TIMING_WAIT * 1000000

/-- R210 step 1; a frame that step 4 has queued before T still ends the rendezvous once it is sent. DEDUCED (log 77). -/
def execRdvTimeReached (s : State) : Res :=
  .next (if s.rdvState = 1 ∧ s.trv.rdvT ≤ s.t0 then (s.put F.WUR_RDV_STATUS_STATE 2).rdvFrame false else s)

/-- R210 step 3: no frame from the partner within WAIT. -/
def execRdvWaitExpire (s : State) : Res :=
  .next (if s.rdvState = 2 ∧ s.trv.rdvT + s.rdvWaitNs ≤ s.t0 then
      (s.put F.WUR_RDV_STATUS_STATE 3).trvMod (fun t => { t with rdvNext := t.rdvT + s.rdvWaitNs })
    else s)

/-- R210 step 3: a calling frame every INTERVAL. -/
def execRdvCall (s : State) : Res :=
  .next (if s.rdvState = 3 ∧ s.trv.rdvNext ≤ s.t0 ∧ s.t0 < s.trv.rdvT + s.trv.rdvSpan + s.rdvWaitNs then
      (s.rdvFrame false).trvMod (fun t => { t with rdvNext := t.rdvNext + s.get F.WUR_RDV_TIMING_INTERVAL * 1000000 })
    else s)

/-- R210 step 3: T + S + WAIT passes. -/
def execRdvSpanEnd (s : State) : Res :=
  .next (if (s.rdvState = 2 ∨ s.rdvState = 3) ∧ s.trv.rdvT + s.trv.rdvSpan + s.rdvWaitNs ≤ s.t0 then s.rdvEnd F.WUR_RDV_STATUS_FAIL else s)

end Sys2Proof.Machine
end

