-- ==== Sys2Proof/Machine/HostBus.lean ====
section
/-! DEFINITION. Any BAR0 access by any master (R6 to R14, R319, R331, R332): the write of an offset goes to the operation of its register, or to the field
table where the register only stores; the read of an offset returns the word that the register shows, with the effects that reading has. -/

namespace Sys2Proof.Machine

/-! ### Places -/

/-- The index of an offset in a family of `n` registers with a stride. -/
def hit (off base stride n : Nat) : Option Nat :=
  if base ≤ off ∧ (off - base) % stride = 0 ∧ (off - base) / stride < n then some ((off - base) / stride) else none

/-- The end of BAR0, where the model places BAR2 (R319). -/
def bar0Size : Nat := 0x1000000

/-- BAR2's size (R319). -/
def bar2Size : Nat := 0x4000000

/-! ### What registers show live -/

/-- R437, R445: the LAPSE bits in service, LAPSE_BLANK (bit 3) first, without LAPSE_ENV. DEDUCED (log 18). -/
def State.lapses (s : State) : List Bool :=
  [s.blanks == [], s.spareSynth.isNone, s.pwr.badPhases != [], s.get F.GLB_FLT_DLK_SPARES == 0, !s.counterproof, s.isSet F.DRC_CTRL_FREEZE_EN,
    s.isSet F.PWR_CLK_STATUS_FALLBACK, s.recutLive && s.recutSpare.isNone, ((List.range 12).any fun c => s.roleOut (c + 1))]

/-- R437, R445: GLB_FLT_STATUS. -/
def State.fltStatus (s : State) : Word :=
  let w := s.rd A.GLB_FLT_STATUS &&& 0x3#32
  if !s.inService then w
  else
    let env := s.isSet F.GLB_FLT_STATUS_LAPSE_ENV
    let l := s.lapses
    let good := !s.isSet F.GLB_FLT_STATUS_PRESENT && !env && l.all (fun b => !b)
    (indexed l).foldl (fun (x : Word) (e : Nat × Bool) => x ||| fieldWord (3 + e.1) 1 (b2n e.2)) (w ||| fieldWord 2 1 (b2n good) ||| fieldWord 12 1 (b2n env))

/-- R242: the registers of time base n that show its state, by their place in the block. -/
def State.tbLive (s : State) (n r : Nat) (w : Word) : Word :=
  let b := s.tbAt n
  let t := s.timeWords n
  match r with
  | 0x00 => t.1
  | 0x04 => t.2.1
  | 0x08 => t.2.2
  | 0x1C => BitVec.ofNat 32 (uint 40 b.rate)
  | 0x20 => fieldWord 0 8 (uint 40 b.rate / 2 ^ 32)
  | 0x30 => setField w 3 1 (b2n s.tim.carried)
  | 0x34 => BitVec.ofInt 32 (b.slew / (unitsPerNs : Nat))
  | _ => w

/-- R243: what steers the Datum's base: PTP (2), the Traverse (1), a frozen rate (3), or nothing, as outside a domain and at its root. DEDUCED (log 18). -/
def State.datumMode (s : State) : Nat :=
  if s.dom = 0 ∨ s.isRoot then 0 else if s.ptpInForce then 2 else if s.dom = 1 then 0 else if s.dstage = 0 then 1 else 3

/-- R141: an entry of a contour: its level, when it was last counted, whether it belongs to the present channel. DESIGN CHOICE (log 19). -/
def State.contourWord (s : State) (floor floorAt : List (Nat × Nat)) (i : Nat) (current : Bool) : Word :=
  match kvGet floor i with
  | none => fieldWord 11 1 (b2n current)
  | some x =>
    fieldWord 0 10 (quarterDb x) ||| fieldWord 10 1 1 ||| fieldWord 11 1 (b2n current) |||
      fieldWord 16 16 (min ((s.tim.now - (kvGet floorAt i).getD 0) / 100000000) 0xFFFF)

/-- The contour indices of radio n's present channel (R141). -/
def State.currentSubs (s : State) (n : Nat) : List Nat :=
  match (s.rad n).chan with
  | some ch => ch.subs.filterMap (contourIndex ch.band)
  | none => []

/-- R147: the bytes that the map window of radio n shows. -/
def State.mapWindow (s : State) (n : Nat) : List Byte :=
  let k := s.get (F.RAD_STP_MAP_SEL_LINK n)
  let l := s.link n k
  let tx := s.isSet (F.RAD_STP_MAP_SEL_DIR n)
  let pend := s.isSet (F.RAD_STP_MAP_SEL_WHICH n)
  s.windowBytes n k (if tx then (if pend then l.txPend else l.txMap) else if pend then l.rxPend else l.rxMap) (!tx && pend)

/-- R147: byte j of the SNR window of radio n. -/
def State.snrByte (s : State) (n j : Nat) : Nat :=
  match ((s.link n (s.get (F.RAD_STP_MAP_SEL_LINK n))).snr.getD (s.get (F.RAD_STP_MAP_SEL_STREAM n)) [])[j]? with
  | none | some 0 => 0xFF
  | some (x + 1) => min (quarterDb (x + 1)) 254

/-- Word x of a table of 64-bit entries (R178). -/
def tableWord (t : List Nat) (x : Nat) : Word := BitVec.ofNat 32 (t.getD (x / 2) 0 / 2 ^ (32 * (x % 2)))

/-- Word x of the pending grants of radio n (R178). -/
def State.pendWord (s : State) (n x : Nat) : Word :=
  match (s.gr n).pend[x / 4]? with
  | none => 0#32
  | some g => [g.w0, g.w1, g.w2, g.w3].getD (x % 4) 0#32

/-- The registers and windows of radio n that show its state, by their place in the block (R141, R147, R178). -/
def State.radLive (s : State) (n r : Nat) (w : Word) : Word :=
  if r = 0xC00 then
    let p := if s.sfSlots n = 0 then 0 else s.position n s.slotIndex
    setField (setField (setField w 0 12 p) 12 4 (s.runKind n)) 19 1 (b2n (s.grantsOk n))
  else if r = 0xC0C then BitVec.ofNat 32 s.epoch
  else match hit r 0x2000 4 59, hit r 0x3000 4 1024, hit r 0x4000 4 4096 with
  | some i, _, _ => s.contourWord (s.ph n).floor (s.ph n).floorAt i ((s.currentSubs n).contains i)
  | _, some x, _ => (List.range 4).foldl (fun (v : Word) b => v ||| fieldWord (8 * b) 8 (s.snrByte n (4 * x + b))) 0#32
  | _, _, some x => BitVec.ofNat 32 (leAt (s.mapWindow n) (4 * x) 4)
  | _, _, _ =>
    match hit r 0x8000 4 8192, hit r 0x10000 4 8192, hit r 0x18000 4 1024 with
    | some x, _, _ => tableWord (s.gr n).work x
    | _, some x, _ => tableWord (s.gr n).shadow x
    | _, _, some x => s.pendWord n x
    | _, _, _ => w

/-- R116, R117, R148: the registers of the CHN_ block that show its state. -/
def State.chnLive (s : State) (off : Nat) (w : Word) : Word :=
  if off = A.CHN_REG_STATUS then setField w 9 3 s.regProfile
  else if off = A.CHN_COEX_STATUS then
    (indexed [s.chn.extReq, s.chn.extPri, s.chn.extGnt, s.chn.devReq, s.chn.devGnt]).foldl
      (fun (x : Word) (e : Nat × Bool) => x ||| fieldWord e.1 1 (b2n e.2)) 0#32
  else match hit off 0x1C0400 4 256, hit off 0x1C0800 16 64, hit off 0x1C0808 16 64 with
  | some x, _, _ => BitVec.ofNat 32 (leAt (s.profile (x / 32)) (4 * (x % 32)) 4)
  | _, some k, _ => setField w 15 1 (b2n (s.applies k))
  | _, _, some k =>
    let age := match (s.surveys.getD k ⟨none, []⟩).at_ with
      | some t => min ((s.tim.now - t) / 1000000) 0xFFFF
      | none => 0xFFFF
    setField w 16 16 age
  | _, _, _ => w

/-- R179, R187, R212: the registers of the TRV_ block that show its state. -/
def State.trvLive (s : State) (off : Nat) (w : Word) : Word :=
  let eff := s.effective.foldl (fun a k => a + 2 ^ k) 0
  if off = A.TRV_STATUS then setField (setField (setField w 2 1 (b2n s.trvBlocked)) 3 6 s.effective.length) 9 6 (popcount 40 s.hopMap)
  else if off = A.TRV_EFFECTIVE_LO then BitVec.ofNat 32 eff
  else if off = A.TRV_EFFECTIVE_HI then fieldWord 0 8 (eff / 2 ^ 32)
  else if off = A.TRV_SLOT then BitVec.ofNat 32 s.trvSlot
  else if off = A.TRV_DATUM_STATE then
    setField (setField (setField w 6 1 (b2n s.ptpInForce)) 7 1 (b2n s.isRoot)) 8 24 (min (s.wNum / 1000000000) 0xFFFFFF)
  else match hit off 0x1E0200 4 40 with
  | some k => s.contourWord s.trv.floor s.trv.floorAt k (k == s.trvChan)
  | none => w

/-- R314: the classes of port p paused now. -/
def State.pausedMask (s : State) (p : Nat) : Nat := (List.range 8).foldl (fun a c => a + (if s.paused p c then 2 ^ c else 0)) 0

/-- Registers and tables that show state the register file does not keep; every other word is the register file's. -/
def State.live (s : State) (off : Nat) : Word :=
  let w := s.rd off
  if off < 0x10000 then (if off = A.GLB_FLT_STATUS then s.fltStatus else w)
  else if 0x20000 ≤ off ∧ off < 0x20200 then s.tbLive ((off - 0x20000) / 0x40) (off % 0x40) w
  else if off = A.TB_DATUM_STATUS then setField w 0 2 s.datumMode
  else if off = A.CAL_NOW0 then fieldWord 0 15 s.tim.calSub
  else if off = A.CAL_NOW1 then BitVec.ofNat 32 s.tim.calSec
  else if off = A.CAL_NOW2 then fieldWord 0 16 (s.tim.calSec / 2 ^ 32)
  else if off = A.CAL_STATUS then setField (setField w 3 1 (b2n (calDate s.tim.calSec).isNone)) 4 1 (b2n s.tim.leapHold)
  else if off = A.CAL_DATE then s.calFields.1
  else if off = A.CAL_TIME then s.calFields.2
  else if off = A.PLT_STAGE then setField w 3 1 (b2n s.sInUse)
  else if 0x82000 ≤ off ∧ off < 0x84000 then s.identityWord ((off - 0x82000) / 4)
  else if 0x100000 ≤ off ∧ off < 0x1C0000 then s.radLive ((off - 0x100000) / 0x40000) (off % 0x40000) w
  else if 0x1C0000 ≤ off ∧ off < 0x1E0000 then s.chnLive off w
  else if 0x1E0000 ≤ off ∧ off < 0x200000 then s.trvLive off w
  else if off = A.FLW_ENTRIES then (if s.cacheOnly then BitVec.ofNat 32 ((s.path.cache.map (fun e => e.2.length)).sum) else w)
  else if off = A.QSC_BUF_FREE then BitVec.ofNat 32 s.cellsFree
  else if off = A.QSC_SPILL_USED then BitVec.ofNat 32 s.spillUsed
  else if 0x380000 ≤ off ∧ off < 0x380100 ∧ off % 0x40 = 4 then setField w 4 8 (s.pausedMask ((off - 0x380000) / 0x40))
  else if 0x420000 ≤ off ∧ off < 0x428000 ∧ off % 32 = 28 then
    let age := match kvGet s.trv.sinr ((off - 0x420000) / 32) with
      | some (_, _, t) => min ((s.tim.now - t) / 1000000) 0xFFFF
      | none => 0xFFFF
    if s.isSet (F.NBR_W0_VALID ((off - 0x420000) / 32)) then setField w 16 16 age else w
  else if 0x8A0010 ≤ off ∧ off < 0x8C0000 ∧ off % 16 = 8 then BitVec.ofInt 32 (s.shaperTokens ((off - 0x8A0000) / 16))
  else w

/-- A register whose 32 bits read back although the field table of its record names fewer: word 0 of a shaper is its RATE (R297). DEDUCED (log 17). -/
def wholeWord (off : Nat) : Bool := decide (0x8A0010 ≤ off ∧ off < 0x8C0000) && (off % 16 == 0 || off % 16 == 8)

/-- What a read of `off` shows now, no latch held: WO fields, reserved bits and what no register defines read 0 (R7, R8, R332). -/
def State.shown (s : State) (off : Nat) : Word :=
  if wholeWord off then s.live off
  else match regAt off with
    | some r => r.shown (s.live off)
    | none => 0#32

/-! ### Wide values (R10) -/

/-- The offsets of the upper words of a value wider than 32 bits whose lowest word is at `off`. DEDUCED (log 17). -/
def upperWords (off : Nat) : List Nat :=
  if 0x20000 ≤ off ∧ off < 0x20200 then
    (match off % 0x40 with
     | 0x00 => [off + 4, off + 8]
     | 0x0C => [off + 4, off + 8]
     | 0x1C => [off + 4]
     | _ => [])
  else if 0x20804 ≤ off ∧ off < 0x20A04 ∧ off % 0x20 = 4 then [off + 4, off + 8]
  else if [A.CAL_SET0, A.CAL_ALARM0].contains off then [off + 4, off + 8]
  else if [A.CAL_LEAP_AT0, A.TB_DATUM_PTP_OFS_LO, A.KEY_PN_LO, A.KEY_INFO_PN_LO, A.SEAL_AAD_ADDR_LO, A.SEAL_IN_ADDR_LO, A.SEAL_OUT_ADDR_LO,
      A.TRV_HOPMAP_LO, A.TRV_HOPMAP_NEXT_LO, A.TRV_EFFECTIVE_LO, A.DRC_LAST_UE_ADDR_LO, A.HDM_BAR2_BASE_LO].contains off then [off + 4]
  else if [A.PLT_ACTIVE_DIGEST 0, A.KEY_FUSE_DATA 0, A.KEY_ROOT_HASH 0, A.KEY_CUST_HASH 0, A.KEY_ATT_NONCE 0].contains off then
    (List.range 7).map (fun i => off + 4 + 4 * i)
  else if [A.SEAL_TAG 0, A.RTE_PREFIX 0].contains off then [off + 4, off + 8, off + 12]
  else if off = A.SEAL_IV 0 then [off + 4, off + 8]
  else if off = A.HDM_EVT_BLOCKS 0 then [off + 4]
  else if 0x100000 ≤ off ∧ off < 0x1C0000 ∧ off % 8 = 0 ∧ ((hit (off % 0x40000) 0x8000 4 8192).isSome ∨ (hit (off % 0x40000) 0x10000 4 8192).isSome) then
    [off + 4]
  else if 0x1C0804 ≤ off ∧ off < 0x1C0C00 ∧ off % 16 = 4 then [off + 4, off + 8]
  else if 0x380000 ≤ off ∧ off < 0x380100 ∧ off % 0x40 = 8 then [off + 4]
  else if 0x381000 ≤ off ∧ off < 0x381400 ∧ (off % 0x100 = 0 ∨ off % 0x100 = 0x40) then [off + 4]
  else if 0x3E0000 ≤ off ∧ off < 0x3E0210 ∧ off % 16 = 0 then [off + 4]
  else if 0x420000 ≤ off ∧ off < 0x428000 ∧ off % 32 = 12 then [off + 4]
  else []

/-- The read of an RC register clears it; the read of the lowest word of a wide RC value clears the value (R7, R10). -/
def State.readClears (s : State) (off : Nat) : State :=
  match regAt off with
  | none => s
  | some r =>
    if r.isRc then (upperWords off).foldl (fun (s : State) o => s.wr o (resetWord o)) (s.wr off (r.cleared off (s.rd off)))
    else s

/-! ### Reads -/

/-- A read that reaches its register. `keep`: another master writes the register in the same cycle, and an RC register is not cleared (R330). -/
def State.regRead (s : State) (m : Master) (off : Nat) (keep : Bool) : State :=
  match hit off 0x20404 0x20 16, hit off 0x21000 0x20 7, hit off 0xC0010 0x40 4, hit off 0xC0014 0x40 4 with
  | some c, _, _, _ => s.capRead m c
  | _, some q, _, _ => s.txqRead m q
  | _, _, some n, _ => (s.chkRead n false).2.answer m off (s.chkRead n false).1
  | _, _, _, some n => (s.chkRead n true).2.answer m off (s.chkRead n true).1
  | _, _, _, _ =>
    if off = A.CAL_NOW0 then s.calNowRead m
    else if off = A.KEY_RNG then
      (if s.isSet F.KEY_EVENT_RNG_FAIL then s.answer m off 0#32 else s.freeW.2.answer m off s.freeW.1)
    else match s.latched m off with
      | some v => s.answer m off v
      | none =>
        let v := s.shown off
        let up := (upperWords off).map (fun o => (o, s.shown o))
        let s := if up = [] then s else s.latch m up
        let s := s.answer m off v
        if keep then s else s.readClears off

/-- R319: the DRAM address behind an offset of BAR2. -/
def State.bar2At (s : State) (off : Nat) : Nat :=
  (s.rd A.HDM_BAR2_BASE_LO).toNat + (s.rd A.HDM_BAR2_BASE_HI).toNat * 2 ^ 32 + (off - bar0Size)

/-- R319: a BAR2 read returns DRAM; before the training has ended it returns 0, and what a loss has withdrawn completes poisoned (R362). DESIGN CHOICE (log 15). -/
def State.bar2Read (s : State) (m : Master) (off : Nat) : State :=
  if !s.isSet F.DRC_STATUS_TRAINED then s.answer m off 0#32
  else if s.withdrawn (s.bar2At off) then { s with out := .poisoned (s.bar2At off) :: s.out }
  else
    let (v, s) := s.dramWord (s.bar2At off)
    s.answer m off v

/-- Offsets from 16 MiB on, 64 MiB of them, are BAR2's, which only the PCIe host has (R319). DESIGN CHOICE (log 15). DESIGN CHOICE (log 3). -/
def inBar2 (off : Nat) : Bool := decide (bar0Size ≤ off) && decide (off < bar0Size + bar2Size)

/-- The gate of BAR2: only the PCIe host reaches it, and R14 does not hold it back. DESIGN CHOICE (log 15). -/
def State.bar2Gate (s : State) (m : Master) : Gate :=
  if m ≠ .pcie then .forbidden else if !s.answers then .dead else if s.asleep then .held else .pass

/-- An access waits for the return to Run (R420), or a BAR2 read for the end of a freeze (R364). -/
def State.hold (s : State) (m : Master) (off : Nat) (v : Option Word) : State := { s with hst := { s.hst with held := s.hst.held ++ [(m, off, v)] } }

/-- A read by a master. DESIGN CHOICE (log 16). DESIGN CHOICE (log 3). -/
def State.busRead (s : State) (m : Master) (off : Nat) (keep : Bool) : State :=
  if inBar2 off then
    (match s.bar2Gate m with
     | .pass => if s.frozen then s.hold m off none else s.bar2Read m off
     | .held => s.hold m off none
     | _ => s)
  else s.hostRead m off (fun s => s.regRead m off keep)

/-! ### Writes -/

/-- The writes of the TB_ block that do more than store (R217, R226, R228, R238). -/
def State.tbBlockWrite (s : State) (off : Nat) (v : Word) : State :=
  if 0x20000 ≤ off ∧ off < 0x20200 then
    let n := (off - 0x20000) / 0x40
    match off % 0x40 with
    | 0x18 => s.tbCtrlWrite n v
    | 0x20 => s.tbRateWrite n v
    | 0x28 => s.tbStepWrite n v
    | 0x2C => s.tbSlewWrite n v
    | _ => s.tableWrite off v
  else match hit off 0x20400 0x20 16, hit off 0x20800 0x20 16, hit off 0x20804 0x20 16 with
  | some c, _, _ => s.capCtrlWrite c v
  | _, some c, _ => s.cmpCtrlWrite c v
  | _, _, some c => s.cmpTargetWrite c v
  | _, _, _ => if off = A.CAL_CTRL then s.calCtrlWrite v else if off = A.TB_PPS_CTRL then s.ppsCtrlWrite v else s.tableWrite off v

/-- The writes of the KEY_ and SEAL_ blocks (R372, R380, R381, R385, R387). -/
def State.keyBlockWrite (s : State) (off : Nat) (v : Word) : State :=
  if off = A.KEY_CMD then s.keyCmdWrite v
  else if off = A.KEY_FUSE_CTRL then s.keyFuseWrite v
  else if off = A.KEY_ATT_CTRL then s.attWrite v
  else match hit off 0x80220 4 8 with
  | some w => s.nonceWrite w v
  | none =>
    if off = A.SEAL_LOCK then s.sealLockWrite v
    else if off = A.SEAL_CMD then s.sealCmdWrite v
    else if 0x90000 ≤ off ∧ off < 0xA0000 ∧ (regAt off).isSome then s.sealTouch.tableWrite off v
    else s.tableWrite off v

/-- The writes of the check units (R390, R392). -/
def State.chkBlockWrite (s : State) (off : Nat) (v : Word) : State :=
  if off < 0xC0100 ∧ (regAt off).isSome then s.chkRegWrite ((off - 0xC0000) / 0x40) (off % 0x40 / 4) v else s.tableWrite off v

/-- The writes of a radio's block (R142, R147, R171 to R174). -/
def State.radBlockWrite (s : State) (m : Master) (off : Nat) (v : Word) : State :=
  let n := (off - 0x100000) / 0x40000
  let r := off % 0x40000
  if r = 0x828 then s.mapSelWrite n v
  else if r = 0x83C then s.measWrite n v
  else if r = 0xC04 then s.grtCtrlWrite m n v
  else if r = 0xC08 then (if bit v.toNat 0 then s.grtCommit n else s)
  else if r = 0xC2C then s.submitGrant n ⟨s.rd (A.RAD_GRT_GRANT_IN n 0), s.rd (A.RAD_GRT_GRANT_IN n 1), s.rd (A.RAD_GRT_GRANT_IN n 2), v⟩
  else match hit r 0x10000 4 8192, hit r 0x4000 4 4096 with
  | some x, _ => s.shadowWrite n x v
  | _, some x =>
    if !s.isSet (F.RAD_STP_MAP_SEL_DIR n) ∧ s.isSet (F.RAD_STP_MAP_SEL_WHICH n) then
      s.linkMod n (s.get (F.RAD_STP_MAP_SEL_LINK n)) (fun l => { l with win := kvPut l.win x (some v) })
    else s
  | _, _ => s.tableWrite off v

/-- The writes of the CHN_ block (R89, R108 to R112, R148). -/
def State.chnBlockWrite (s : State) (off : Nat) (v : Word) : State :=
  if off = A.CHN_CHAIN_REINSTATE then s.reinstateWrite v
  else if off = A.CHN_REG_SELECT then s.regSelectWrite v
  else if off = A.CHN_FUSE_CTRL then s.fuseCtrlWrite v
  else if off = A.CHN_COEX_CTRL then s.coexCtrlWrite v
  else match hit off 0x1C0800 16 64 with
  | some k => s.surveyWrite k v
  | none => s.tableWrite off v

/-- The writes of the TRV_ and WUR_ blocks (R183, R184, R205, R210, R212, R213). DEDUCED (log 20). -/
def State.trvBlockWrite (s : State) (off : Nat) (v : Word) : State :=
  if off = A.TRV_CTRL then s.trvCtrlWrite v
  else if (off = A.TRV_DOMAIN_ID ∨ off = A.TRV_MEMBER) ∧ s.dom ≠ 0 then s.bump A.TRV_WRITE_REJECT
  else if off = A.TRV_HOPMAP_NEXT_EPOCH then s.armMap v
  else if off = A.TRV_SKIP_CTRL then (s.tableWrite off v).skipUpdate
  else if off = A.TRV_HOST_TX then s.hostTxWrite v
  else if (hit off 0x1E0C00 4 4).isSome then (s.tableWrite off v).rootFollow
  else if off = A.WUR_RDV_CTRL then s.rdvCtrlWrite v
  else if off = A.WUR_RDV_TIMING ∧ s.rdvState ≠ 0 then s
  else match hit off 0x1E0040 4 8 with
  | some i => s.domainKeyPut (i / 4) (i % 4) v
  | none => s.tableWrite off v

/-- The writes of the packet path's block (R260, R264, R267, R279). -/
def State.pktBlockWrite (s : State) (off : Nat) (v : Word) : State :=
  if off = A.RTE_CMD then s.rteCmdWrite v
  else if off = A.FLW_CMD then s.flwCmdWrite v
  else if off = A.FLW_CMD_INDEX ∧ 2 ^ s.flowLog2 ≤ getField v 0 25 then s.bump A.PLT_STRUCT_REJECT
  else match hit off 0x201100 4 128, hit off 0x201804 8 256, hit off 0x202010 4 4 with
  | some i, _, _ => s.profileSet (i / 32) (i / 8 % 4) (i % 8) v
  | _, some i, _ => s.rangeWrite i v
  | _, _, some _ => if s.isSet F.RTE_CMD_STATUS_BUSY then s.bump A.RTE_WRITE_REJECT else s.tableWrite off v
  | _, _, _ => s.tableWrite off v

/-- The writes of the HDM_ block and the MSI-X area (R321, R327). -/
def State.hdmBlockWrite (s : State) (off : Nat) (v : Word) : State :=
  if off < 0x3E0210 then
    let r := (off - 0x3E0000) / 16
    if off % 16 = 8 then s.ringCtrlWrite r v
    else if off % 16 = 12 then s.ringTailWrite r v
    else s.ringBaseWrite off v
  else match hit off 0x3F000C 16 64 with
  | some k => (s.tableWrite off v).vecUnmask k
  | none => s.tableWrite off v

/-- The writes of the tables (R167, R263, R268, R292, R297, R305). DEDUCED (log 20). -/
def State.tablesWrite (s : State) (m : Master) (off : Nat) (v : Word) : State :=
  if 0x400000 ≤ off ∧ off < 0x420000 then (if off % 32 = 0 then s.stationWrite ((off - 0x400000) / 32) v else s.tableWrite off v)
  else if 0x500000 ≤ off ∧ off < 0x600000 then
    let h := (off - 0x500000) / 16
    if off % 16 = 12 then s.nhCommit m h v else s.nhStage m h (off % 16 / 4) v
  else if 0x600000 ≤ off ∧ off < 0x700000 then
    let x := (off - 0x600000) / 64
    if off % 64 = 60 then s.ruleCommitWrite m x v else s.ruleStage m x (off % 64 / 4) v
  else if 0x800000 ≤ off ∧ off < 0x8A0000 then s.recordWrite ((off - 0x800000) / 16) (off % 16 / 4) v
  else if 0x8A0000 ≤ off ∧ off < 0x8C0000 then
    let k := (off - 0x8A0000) / 16
    if k = 0 then s.bump A.GLB_UNMAPPED_WRITE
    else if off % 16 = 0 then s.wr off v
    else if off % 16 = 4 then s.shaperWrite k v
    else s
  else if 0x900000 ≤ off ∧ off < 0xA00000 ∧ off % 16 = 4 then s.policerWrite ((off - 0x900000) / 16) v
  else s.tableWrite off v

/-- A write that reaches its register, by its block (R331). -/
def State.regWrite (s : State) (m : Master) (off : Nat) (v : Word) : State :=
  if off < 0x10000 then s.tableWrite off v
  else if off < 0x20000 then
    (if off = A.PWR_CMD then s.pwrCmdWrite v else if off = A.PWR_FUNC then s.funcWrite v else if off = A.PWR_CLK_CTRL then s.clkCtrlWrite v
     else s.tableWrite off v)
  else if off < 0x30000 then s.tbBlockWrite off v
  else if off < 0x40000 then
    (if off = A.PLT_MBX_CMD then s.mbxWrite v
     else if off = A.PLT_MBX_ARG ∨ (0x32000 ≤ off ∧ off < 0x33000) then s.mbxDataWrite off v
     else s.tableWrite off v)
  else if off < 0x50000 then
    (if off = A.ENG_RECUT_CTRL then s.recutCtrlWrite v else if off = A.ENG_REINSTATE then s.engReinstateWrite v else s.tableWrite off v)
  else if off < 0xC0000 then s.keyBlockWrite off v
  else if off < 0xD0000 then s.chkBlockWrite off v
  else if off < 0x100000 then s.tableWrite off v
  else if off < 0x1C0000 then s.radBlockWrite m off v
  else if off < 0x1E0000 then s.chnBlockWrite off v
  else if off < 0x200000 then s.trvBlockWrite off v
  else if off < 0x300000 then s.pktBlockWrite off v
  else if off < 0x380000 then s.tableWrite off v
  else if off < 0x3C0000 then
    (match hit off 0x380000 0x40 4 with
     | some p => s.ethCtrl p v
     | none => s.tableWrite off v)
  else if off < 0x3E0000 then (if off = A.DRC_CTRL then s.drcCtrlWrite v else s.tableWrite off v)
  else if off < 0x400000 then s.hdmBlockWrite off v
  else s.tablesWrite m off v

/-- A write by a master. No register lies at an offset that is not a multiple of 4 or lies beyond both BARs (R6, R319, R332). DESIGN CHOICE (log 3).
DESIGN CHOICE (log 16). -/
def State.busWrite (s : State) (m : Master) (off : Nat) (v : Word) : State :=
  if inBar2 off then
    (match s.bar2Gate m with
     | .pass => s.bump A.HDM_BAR2_WRITE
     | .held => s.hold m off (some v)
     | _ => s)
  else s.hostWrite m off v (fun s => if off % 4 = 0 then s.regWrite m off v else s.bump A.GLB_UNMAPPED_WRITE)

/-! ### Two masters in one cycle (R330, R446, R447, R480) -/

/-- Master `a`'s write stands against master `b`'s write of the same register: the stylus with an engine halted, then the PCIe host, then the
secondary host, then the stylus without one. DESIGN CHOICE (log 21). -/
def State.outranks (s : State) (a b : Master) : Bool :=
  let rank (m : Master) : Nat := match m with
    | .stylus => if s.dbg.halted.isSome then 0 else 3
    | .pcie => 1
    | .secondary => 2
  decide (rank a ≤ rank b)

/-- A commit of a table entry that loses takes its staged words with it (R330). -/
def State.dropStaged (s : State) (m : Master) (off : Nat) : State :=
  if 0x500000 ≤ off ∧ off < 0x600000 ∧ off % 16 = 12 ∧ (s.stagingOf m 1).isSome then s.setStaging m 1 none
  else if 0x600000 ≤ off ∧ off < 0x700000 ∧ off % 64 = 60 ∧ (s.stagingOf m 0).isSome then s.setStaging m 0 none
  else s

/-- A write that loses is discarded: a host's is recorded in GLB_HOST_COLLIDE, the stylus's in DBG_STATUS.COLLIDE. DESIGN CHOICE (log 21). -/
def State.collided (s : State) (m : Master) (off : Nat) : State :=
  if m = .stylus then { s with dbg := { s.dbg with collide := min (s.dbg.collide + 1) 255 } }
  else ((s.dropStaged m off).put F.GLB_HOST_COLLIDE_OFFSET off).bump A.GLB_HOST_COLLIDE_COUNT

/-- A master's write reaches its register in this cycle. DESIGN CHOICE (log 21). -/
def State.reaches (s : State) (m : Master) (off : Nat) : Bool := !inBar2 off && s.gate m off == .pass

/-- The W1C bits of the register at `off`. -/
def w1cMask (off : Nat) : Word :=
  match regAt off with
  | some r => r.fields.foldl (fun x f => if f.acc = .w1c then x ||| fieldMask f.lo f.w else x) 0#32
  | none => 0#32

/-- R11: a W1C bit that a hardware event sets in the cycle of the write is not cleared by it. DESIGN CHOICE (log 1). -/
def lessEvents (off : Nat) (v events : Word) : Word := v &&& ~~~(events &&& w1cMask off)

/-- A write, with the master that writes the same register in the same cycle and the hardware events of that cycle. Two writes meet where both reach it. -/
def State.writeAgainst (s : State) (m : Master) (off : Nat) (v : Word) (o : SameCycle) : State :=
  match o.other with
  | some b => if s.reaches m off ∧ s.reaches b off ∧ !s.outranks m b then s.collided m off else s.busWrite m off (lessEvents off v o.events)
  | none => s.busWrite m off (lessEvents off v o.events)

/-- The identity of the PCIe endpoint in configuration space (R318): Vendor ID, Device ID, Revision ID (the silicon revision of GLB_ID), class code, MSI-X vectors, and the Device Serial
Number, the 64-bit fused serial number. -/
def State.endpoint (s : State) : Nat × Nat × Nat × Nat × Nat × Nat :=
  (Config.vendorId, 0x9640, s.get F.GLB_ID_REVISION, 0x028000, 64, leNat s.serialBytes)

/-! ### Commands -/

/-- R7. -/
def execRegisterWrite (m : Master) (off : Nat) (v : Word) (other : SameCycle) (s : State) : Res := .next (s.writeAgainst m off v other)

/-- R7, R330: a read; `other`: a master that reads (true) or writes (false) the register in the same cycle. -/
def execReadClear (m : Master) (off : Nat) (other : Option (Master × Bool)) (s : State) : Res :=
  .next (match other with
    | some (b, true) => (s.busRead b off true).busRead m off false
    | some (_, false) => s.busRead m off true
    | none => s.busRead m off false)

/-- R10. -/
def execLatchingRead (m : Master) (off : Nat) (s : State) : Res := .next (s.busRead m off false)

/-- R332. DESIGN CHOICE (log 23). -/
def execUnmappedAccess (m : Master) (off : Nat) (v : Option Word) (s : State) : Res :=
  .next (match v with
    | some v => s.busWrite m off v
    | none => s.busRead m off false)

/-! ### The secondary host (R328, R329) -/

/-- R329: the request has to be dropped. -/
def State.secBad (s : State) (f : List Byte) (macsec : Bool) : Bool :=
  let count := leAt f 18 1
  (s.isSet F.HDM_SEC_CTRL_REQUIRE_MACSEC && !macsec) || decide (sint 32 (leAt f 14 4 + 2 ^ 32 - (s.rd A.HDM_SEC_LAST_SEQ).toNat) ≤ 0) ||
    count == 0 || decide (64 < count) || decide (f.length < 22 + 8 * count)

/-- The value that the last read returned. -/
def State.lastRead (s : State) : Word :=
  match s.out with
  | .readData _ _ v :: _ => v
  | _ => 0#32

/-- R329: one operation: offset, code and value; answers its status and the value filled in. DESIGN CHOICE (log 22). -/
def State.secOp (s : State) (off op : Nat) (v : Word) (collide : Bool) : Nat × Word × State :=
  if op ≠ 1 ∧ op ≠ 2 then (4, v, s)
  else if s.gate .secondary off = .forbidden ∨ secondaryForbidden off then (1, v, s)
  else if off % 4 ≠ 0 ∨ (s.gate .secondary off = .pass ∧ (regAt off).isNone) then
    (3, if op = 1 then 0#32 else v, if op = 2 then s.bump A.GLB_UNMAPPED_WRITE else s)
  else if op = 1 then
    let t := s.busRead .secondary off collide
    (0, t.lastRead, { t with out := t.out.drop 1 })
  else if collide ∧ s.gate .secondary off = .pass ∧ !s.outranks .secondary .pcie then (2, v, s.collided .secondary off)
  else (0, v, s.busWrite .secondary off v)

/-- R329: the operations in order; answers the operations as they go back. -/
def State.secOps (s : State) : Nat → List Byte → List Bool → List Byte × State
  | 0, _, _ => ([], s)
  | n + 1, bs, cs =>
    let w := leAt bs 0 4
    let r := s.secOp (w % 2 ^ 24) (w / 2 ^ 24) (BitVec.ofNat 32 (leAt bs 4 4)) (cs.headD false)
    let t := r.2.2.secOps n (bs.drop 8) (cs.drop 1)
    (leBytes 4 (w % 2 ^ 24 + r.1 * 2 ^ 24) ++ leBytes 4 r.2.1.toNat ++ t.1, t.2)

/-- R329: the oldest request: dropped and counted, or carried out and answered in class 7 of its port. DESIGN CHOICE (log 22). -/
def State.secRequest (s : State) (collide : List Bool) : State :=
  match s.hst.secWait with
  | [] => s
  | (f, ms) :: l =>
    if !s.answers ∨ s.asleep then s else
    let s : State := { s with hst := { s.hst with secWait := l } }
    if s.secBad f ms then s.bump A.HDM_SEC_REJECT
    else
      let p := s.hostSecondary
      let n := leAt f 18 1
      let s := s.wr A.HDM_SEC_LAST_SEQ (BitVec.ofNat 32 (leAt f 14 4))
      let r := s.secOps n (f.drop 22) collide
      let ans := slice f 6 6 ++ s.portMac p ++ slice f 12 10 ++ r.1 ++ f.drop (22 + 8 * n)
      r.2.arrive (32768 + 8 * p + 7) { Pkt.fresh ans p with stage := .done (.eth p) }

/-- R329. -/
def execSecondaryRequest (collide : List Bool) (s : State) : Res := .next (s.secRequest collide)

end Sys2Proof.Machine
end

