-- ==== Sys2Proof/Machine/PowerReturn.lean ====
section
/-! DEFINITION. The return to Run (R421, R422), which completes the accesses that were held (R420). -/

namespace Sys2Proof.Machine

/-- R422: what comes back from Deep: memories, clocks, radios, the endpoint. -/
def State.fromDeep (s : State) (serdes : Bool) : State :=
  let s := s.retentionRestore [] []
  let s : State := { s with chn := { s.chn with xo80 := true } }
  let s := (s.put F.PWR_CLK_STATUS_XO80_OK 1).put F.PWR_CLK_STATUS_SERDES_LOCK (b2n serdes)
  let s := if s.tim.tclkOn then s else s.tclkResume
  let s := (List.range 3).foldl (fun (s : State) n => if s.rstate n = rSleep then s.setRadio n rStandby else s) s
  s.pcieComesUp

/-- R420: the accesses held during Sleep complete in their order. -/
def State.heldRun (s : State) : State :=
  let l := s.hst.held
  l.foldl (fun (s : State) (a : Master × Nat × Option Word) =>
    match a.2.2 with
    | some v => s.busWrite a.1 a.2.1 v
    | none => s.busRead a.1 a.2.1 false) { s with hst := { s.hst with held := [] } }

/-- R421: the time of the return has come: 45 µs after the registering edge from Sleep, 2.5 ms from Deep, within 1 µs. -/
def State.returnDue (s : State) : Bool := decide (s.pwr.wakeAt + (if s.get F.PWR_STATUS_TARGET = 2 then 2499000 else 44000) ≤ s.tim.now)

/-- R422: calibration cycles that the stay has left unfinished show OVERDUE. -/
def State.calStay (s : State) : State := (List.range 3).foldl (fun (s : State) n => s.calOverdue n) s

/-- R421, R422, R416: the device is in Run: RESULT shows the stay, the clusters are released, changes held apply. DEDUCED (log 31). -/
def State.returnRun (s : State) (eng pkt serdes : Bool) : State :=
  if s.pwrState ≠ 5 ∨ !s.returnDue then s else
  let s := (s.put F.PWR_CLK_STATUS_ENG_LOCK (b2n eng)).put F.PWR_CLK_STATUS_PKT_LOCK (b2n pkt)
  let s := s.lockOrFallBack
  let s := if s.get F.PWR_STATUS_TARGET = 2 then s.fromDeep serdes else s
  (s.calStay.pwrRelease 1 0 0).heldRun

/-- R422: the PLLs that have locked in time. DEDUCED (log 31). -/
def execReturnComplete (eng pkt serdes : Bool) (s : State) : Res := .next (s.returnRun eng pkt serdes)

end Sys2Proof.Machine
end

