-- ==== Sys2Proof/Machine/Idle.lean ====
section
/-! DEFINITION. What one period of TCLK does while no command waits. -/

namespace Sys2Proof.Machine

/-- Radio n after 4 ns: it comes back from rest by the usable start of the next run (R162); in a span its synthesiser has settled after the leading 8 µs and is at nominal again from the
trailing 8 µs on (R139); frames held are judged again. DEDUCED (log 48). -/
def State.radioTick (s : State) (n : Nat) : State :=
  let s := if s.usableStart n ≤ s.t0 then s.restLeave n else s
  let span : Bool := s.runKind n == kSTP
  let s := if span ∧ (s.rad n).settling ∧ s.usableStart n + 8000 ≤ s.t0 then s.radMod n (fun x => { x with settling := false }) else s
  let s := if span ∧ s.usableEnd n ≤ s.t0 + 8000 then s.radMod n (fun x => { x with adjust := 0 }) else s
  if (s.rad n).held = [] then s else s.releaseHeld n

/-- 4 ns pass (R214): the time bases tick and XO32K edges fall, the check units work on their FIFOs (R390), stalls of producers count in periods of the engine clock (R77), a
leave ends at its 30 ms (R205), and the radios go on; BAR2 reads that waited for the end of a freeze complete (R364). DESIGN CHOICE (log 2). -/
def State.idlePeriod (s : State) : State :=
  let s := ((((((s.jumped s.idleTick).chkTick 4000).stallTime 4000 s.chkPeriod).leaveDue).radioTick 0).radioTick 1).radioTick 2
  if s.hst.held ≠ [] ∧ s.answers ∧ !s.asleep ∧ !s.frozen then s.heldRun else s

/-! ### XO32K edges (R215, R237, R240) -/

/-- R215: TCLK stops, where it runs, and at the first XO32K edge after it XO32K carries the bases. -/
def execTclkStop (s : State) : Res := .next (if s.tim.carried then s else s.jumped s.tclkHalt.nextEdge)

/-- R215. -/
def execTclkResume (s : State) : Res := .next (s.jumped s.tclkResume)

/-- R215: an XO32K edge while XO32K carries the bases; nothing where it does not. -/
def execXo32kCarryEdge (s : State) : Res := .next (if s.tim.carried then s.jumped s.nextEdge else s)

/-- R215, R237, R239, R240: the XO32K edge at which the subseconds wrap; the measured XO32K period is kept. DEDUCED (log 81). -/
def execCalSecond (period : Option Word) (s : State) : Res :=
  .next (
    let s := match period with
      | some p => if s.tim.tclkOn then s.wr A.TB_XO32K_PERIOD p else s
      | none => s
    s.jumped (({ s with tim := { s.tim with calSub := if s.tim.calRuns then 32767 else s.tim.calSub } } : State).nextEdge))

/-- R240: an XO32K edge at which the count reaches the armed alarm. -/
def execCalAlarmEdge (s : State) : Res := .next (s.jumped s.nextEdge)

end Sys2Proof.Machine
end

