-- ==== Sys2Proof/Machine/SecurityRows.lean ====
section
/-! DEFINITION. The commands of chapter "Keys, ciphers, signatures and check units". -/

namespace Sys2Proof.Machine

/-- R372. -/
def execKeyLoad (m : Master) (v : Word) (s : State) : Res := .next (s.hostWrite m A.KEY_CMD (withOp v 3 1) (fun s => s.keyCmdWrite (withOp v 3 1)))
/-- R372. -/
def execKeyClear (m : Master) (v : Word) (s : State) : Res := .next (s.hostWrite m A.KEY_CMD (withOp v 3 2) (fun s => s.keyCmdWrite (withOp v 3 2)))
/-- R372. -/
def execKeyRead (m : Master) (v : Word) (s : State) : Res := .next (s.hostWrite m A.KEY_CMD (withOp v 3 3) (fun s => s.keyCmdWrite (withOp v 3 3)))
/-- R372. -/
def execKeySetTx (m : Master) (v : Word) (s : State) : Res := .next (s.hostWrite m A.KEY_CMD (withOp v 3 4) (fun s => s.keyCmdWrite (withOp v 3 4)))
/-- R372. -/
def execKeyLink (m : Master) (v : Word) (s : State) : Res := .next (s.hostWrite m A.KEY_CMD (withOp v 3 5) (fun s => s.keyCmdWrite (withOp v 3 5)))
/-- R373, R374. -/
def execPnAssign (c : Fin 3) (i : Fin 8192) (s : State) : Res := .next (s.pnAssigned c i)
/-- R378. -/
def execKeySlotFault (c : Fin 3) (i : Fin 8192) (s : State) : Res := .next (if i < classSize c then s.slotFault c i else s)

/-- R380. -/
def execSealClaim (m : Master) (tag : Fin 65536) (s : State) : Res :=
  .next (s.hostWrite m A.SEAL_LOCK (BitVec.ofNat 32 (tag + 2 ^ 16)) (fun s => s.sealLockWrite (BitVec.ofNat 32 (tag + 2 ^ 16))))
/-- R380. -/
def execSealRelease (m : Master) (tag : Fin 65536) (s : State) : Res :=
  .next (s.hostWrite m A.SEAL_LOCK (BitVec.ofNat 32 (tag + 2 ^ 17)) (fun s => s.sealLockWrite (BitVec.ofNat 32 (tag + 2 ^ 17))))
/-- R380. -/
def execSealLeaseExpire (s : State) : Res := .next s.sealLease
/-- R381. -/
def execSealGo (m : Master) (decrypt key256 : Bool) (s : State) : Res :=
  let v := fieldWord 0 1 1 ||| fieldWord 1 1 (b2n decrypt) ||| fieldWord 2 1 (b2n key256)
  .next (s.hostWrite m A.SEAL_CMD v (fun s => s.sealCmdWrite v))
/-- R382. -/
def execSealJobDone (data : Option (List Byte × List Byte)) (s : State) : Res := .next (s.sealDone data)

/-- R385. -/
def execFuseCustWrite (m : Master) (v : Word) (s : State) : Res :=
  .next (s.hostWrite m A.KEY_FUSE_CTRL (withOp v 2 1) (fun s => s.keyFuseWrite (withOp v 2 1)))
/-- R385. -/
def execFuseCustRevoke (m : Master) (v : Word) (s : State) : Res :=
  .next (s.hostWrite m A.KEY_FUSE_CTRL (withOp v 2 2) (fun s => s.keyFuseWrite (withOp v 2 2)))
/-- R385. -/
def execFuseRollbackBlow (m : Master) (v : Word) (s : State) : Res :=
  .next (s.hostWrite m A.KEY_FUSE_CTRL (withOp v 2 3) (fun s => s.keyFuseWrite (withOp v 2 3)))
/-- R385. -/
def execKeyFuseDone (s : State) : Res := .next s.keyFuseDone
/-- R387. -/
def execAttGo (m : Master) (s : State) : Res := .next (s.hostWrite m A.KEY_ATT_CTRL 1#32 (fun s => s.attWrite 1#32))
/-- R387. -/
def execAttDone (s : State) : Res := .next s.attDone
/-- R388. -/
def execRngHealthFail (s : State) : Res := .next (s.put F.KEY_EVENT_RNG_FAIL 1)

/-- R390: CKn_DATA8, DATA16 or DATA32. -/
def execCheckDataWrite (m : Master) (n : Fin 4) (size : Fin 3) (v : Word) (s : State) : Res :=
  .next (s.hostWrite m (A.CK_DATA8 n + 4 * size) v (fun s => s.chkRegWrite n (6 + size) v))
/-- R390. -/
def execCheckStart (m : Master) (n : Fin 4) (v : Word) (s : State) : Res :=
  .next (s.hostWrite m (A.CK_CTRL n) (setField v 4 1 1) (fun s => s.chkRegWrite n 0 (setField v 4 1 1)))
/-- R390: CKn_CTRL without START, CKn_POLY, CKn_INIT, CKn_XOROUT. -/
def execCheckConfigWrite (m : Master) (n : Fin 4) (k : Fin 4) (v : Word) (s : State) : Res :=
  let v := if k = 0 then setField v 4 1 0 else v
  .next (s.hostWrite m (A.CK_CTRL n + 4 * k) v (fun s => s.chkRegWrite n k v))
/-- R391. -/
def execCheckValueWrite (m : Master) (n : Fin 4) (v : Word) (s : State) : Res :=
  .next (s.hostWrite m (A.CK_VALUE n) v (fun s => s.chkRegWrite n 4 v))
/-- R390: a read of CKn_VALUE or, with `result`, CKn_RESULT. -/
def execCheckResultRead (m : Master) (n : Fin 4) (result : Bool) (s : State) : Res :=
  let off := if result then A.CK_RESULT n else A.CK_VALUE n
  .next (s.hostRead m off (fun s => match s.chkRead n result with | (v, t) => t.answer m off v))

end Sys2Proof.Machine
end

