-- ==== Sys2Proof/Machine/Tap.lean ====
section
/-! DEFINITION. The test port and the stylus, but for its ACCESS register (R472 to R478, R481): instructions, unlocking, halting an engine,
stepping and running it, breakpoints. -/

namespace Sys2Proof.Machine

/-! ### Instructions (R472, R473, R481) -/

/-- The debug port changed. -/
def State.dbgMod (s : State) (f : Dbg → Dbg) : State := { s with dbg := f s.dbg }

/-- What the port shifts out. -/
def State.tdo (s : State) (bs : List Byte) : State := { s with out := .tdo bs :: s.out }

/-- R472: the instructions that need an unlocked port. -/
def TapInstr.needsUnlock : TapInstr → Bool
  | .extest | .clamp | .highz | .haltCtrl | .breakReg | .access => true
  | _ => false

/-- R473: the balls leave their functions: links and the endpoint go down, the air falls silent. DESIGN CHOICE (log 102). -/
def State.ballsGo (s : State) : State :=
  let s := (List.range 4).foldl (fun (s : State) p => s.linkSet p false true) s
  let s := (List.range 3).foldl (fun (s : State) n => (s.endTx n .synthCut).rxAbort n) s
  s.pcieReset false

/-- R472, R473: an instruction is selected; a locked one acts as BYPASS and counts in DENIED. DESIGN CHOICE (log 108). -/
def State.tapSelect (s : State) (i : TapInstr) : State :=
  let deny : Bool := i.needsUnlock && !s.dbg.session
  let was := s.ballsTaken
  let s := s.dbgMod (fun d => { d with instr := if deny then .bypass else i, denied := if deny then min (d.denied + 1) 255 else d.denied })
  if !was ∧ s.ballsTaken then s.ballsGo
  else if was ∧ !s.ballsTaken then s.pcieComesUp
  else s

/-- R473. -/
def execTapExtest (s : State) : Res := .next (s.tapSelect .extest)
/-- R472. DESIGN CHOICE (log 102). -/
def execTapSamplePreload (s : State) : Res := .next (s.tapSelect .sample)
/-- R473. -/
def execTapClamp (s : State) : Res := .next (s.tapSelect .clamp)
/-- R473. -/
def execTapHighz (s : State) : Res := .next (s.tapSelect .highz)
/-- R472. -/
def execTapBypass (s : State) : Res := .next (s.tapSelect .bypass)

/-- R472: the identity register. -/
def State.idcode (s : State) : Nat := 1 + Config.manufacturer % 2048 * 2 + 0x9640 * 2 ^ 12 + s.get F.GLB_ID_REVISION % 16 * 2 ^ 28

/-- R472. -/
def execTapIdcode (s : State) : Res := let s := s.tapSelect .idcode; .next (s.tdo (leBytes 4 s.idcode))

/-- R481: DBG_STATUS. -/
def Dbg.status (d : Dbg) : Nat :=
  b2n d.session + 2 * b2n (d.verifying != []) + 4 * (d.fails % 8) + 32 * b2n d.haltTaken + 64 * (d.denied % 256) + 2 ^ 14 * (d.collide % 256) +
    2 ^ 22 * (d.shadowLost % 1024)

/-- R481. -/
def execTapDbgStatus (s : State) : Res := let s := s.tapSelect .dbgStatus; .next (s.tdo (leBytes 4 s.dbg.status))

/-- R481: HALT_CTRL as captured. -/
def Dbg.haltWord (d : Dbg) : Nat :=
  d.halted.getD 15 % 16 * 8 + d.result % 4 * 2 ^ 7 + b2n d.running * 2 ^ 9 + d.hitBp % 8 * 2 ^ 10 + b2n d.hit * 2 ^ 13 + d.hitSeq % 65536 * 2 ^ 14 +
    b2n (d.shadow == []) * 2 ^ 30

/-! ### Sessions (R474, R475) -/

/-- R477: the halted engine is cleared and a blank again. -/
def State.haltRelease (s : State) : State :=
  match s.dbg.halted with
  | none => s
  | some e =>
    let s := s.dbgMod (fun d => { d with halted := none, haltRole := 0, running := false, shadow := [] })
    ((s.engMod e (fun x => { x with sp := [] })).setEngine e eBlank 0 0).blankFree

/-- R475: an open session ends. DEDUCED (log 99). -/
def State.endSession (s : State) : State :=
  if s.dbg.session then (s.haltRelease).dbgMod (fun d => { d with session := false, bps := Dbg.reset.bps }) else s

/-- R475. -/
def execTapLock (s : State) : Res := .next (s.tapSelect .lock).endSession

/-- R475: TRST_N resets the controller, which selects IDCODE. -/
def execTrstNLow (s : State) : Res := .next ((s.endSession).tapSelect .idcode)

/-- R474: the bytes of the challenge numbered `n`, of draw `d` of the random number generator. DEDUCED (log 98). -/
def State.challenge (s : State) (d n : Nat) : List Byte :=
  [0x59#8, 0x44#8, 0x42#8, 0x47#8] ++ s.serialBytes ++ (List.range 32).map (Config.randomByte d) ++ leBytes 4 n

/-- R474: a challenge is issued; after 4 failures zeros come out and nothing is issued. -/
def State.challengeIssue (s : State) : State :=
  if 4 ≤ s.dbg.fails then s.tdo (List.replicate 48 0#8)
  else
    let n := s.dbg.issued + 1
    let c := s.challenge s.fresh n
    let s : State := { s with fresh := s.fresh + 1 }
    (s.dbgMod (fun d => { d with issued := n, chal := some ⟨c, s.tim.now, false⟩ })).tdo c

/-- R474. -/
def execUnlockChal (s : State) : Res := .next (s.tapSelect .chal).challengeIssue

/-- R474: the challenge that a response answers: unexpired and unused; empty where there is none. -/
def State.openChallenge (s : State) : List Byte :=
  match s.dbg.chal with
  | some c => if !c.used ∧ s.tim.now ≤ c.at_ + 60000000000 then c.bytes else []
  | none => []

/-- R474: a response is submitted; it uses its challenge up. DEDUCED (log 98). -/
def State.respond (s : State) (resp : List Byte) : State :=
  let c := s.openChallenge
  s.dbgMod (fun d => { d with verifying := d.verifying ++ [(resp, c)], chal := d.chal.map (fun x => { x with used := true }) })

/-- R474. -/
def execUnlockResp (resp : List Byte) (s : State) : Res := .next ((s.tapSelect .resp).respond resp)

/-- R474 step 5. DEDUCED (log 98). -/
def State.unlocks (s : State) (resp chal : List Byte) : Bool :=
  let signer := leAt resp 0 1
  let key := slice resp 1 32
  chal != [] && Config.sha256 key == s.signerHash signer && s.signerUsable signer && Config.slhDsaVerify key chal (slice resp 33 7856)

/-- R474: the outcome of the oldest response is known. -/
def State.verified (s : State) : State :=
  match s.dbg.verifying with
  | [] => s
  | (r, c) :: l =>
    let ok := s.unlocks r c
    s.dbgMod (fun d => { d with verifying := l, session := d.session || ok, fails := if ok then d.fails else min (d.fails + 1) 4 })

/-- R474. -/
def execUnlockVerifyDone (s : State) : Res := .next s.verified

/-! ### HALT_CTRL (R476, R477) -/

/-- HALT_CTRL is selected, its captured word shifted out, and with an open session the operation shifted in runs. -/
def State.haltCtrl (s : State) (op : State → State) : State :=
  let s := s.tapSelect .haltCtrl
  if s.dbg.session then op (s.tdo (leBytes 4 s.dbg.haltWord)) else s

/-- R476: why a halt is refused; 0 = it is not. DEDUCED (log 99). -/
def State.haltRefusal (s : State) (e : Nat) : Nat :=
  if s.blanks.length < 2 then 1
  else if s.recutLive ∨ s.eng.running.isSome ∨ s.eng.waiting ≠ [] ∨ s.pwrState ≠ 0 ∨ s.dbg.halted.isSome then 2
  else if 14 ≤ e ∨ s.estate e ≠ eServing then 3
  else 0

/-- R476: the role of engine e moves to a blank, and e is halted as it stood at the cut. `rets`: what its tokens in flight do (R72). DEDUCED (log 99). -/
def State.halt (s : State) (e : Nat) (rets : List (List (Nat × BitVec 512) × List (List Byte))) : State :=
  let r := s.haltRefusal e
  let s := s.dbgMod (fun d => { d with result := r })
  if r ≠ 0 then s else
  let c := s.erole e
  match preferred (s.rolePref c) s.blanks with
  | none => s
  | some w =>
    let s := s.retireAll e c rets
    let s := s.engMod w (fun x => { x with sp := (s.role c).ledger })
    let s := (s.setEngine w eServing c (s.bodyFlag c)).setEngine e eHalted 0 0
    let s := s.put (F.ENG_ROLE_AT_ENGINE (c - 1)) w
    let s := if s.counterproof then s else s.roleLost c
    s.dbgMod (fun d => { d with halted := some e, haltRole := c, running := false, hit := false, shadow := [], capture := [] })

/-- R476. -/
def execStylusHalt (e : BitVec 4) (rets : List (List (Nat × BitVec 512) × List (List Byte))) (s : State) : Res :=
  .next (s.haltCtrl (fun s => s.halt e.toNat rets))

/-- R478: a breakpoint is hit by a token with what it touches. -/
def Breakpoint.hits (b : Breakpoint) (t : Token) (r : TokenRun) : Bool :=
  match b.kind with
  | 1 => (b.value ^^^ BitVec.ofNat 64 (leAt t.body 0 8)) &&& b.mask == 0#64
  | 2 => r.touched.any (fun x => x.1.val == bits b.value.toNat 0 4 && x.2.1.val == bits b.value.toNat 4 4 && x.2.2 == bits b.value.toNat 8 16)
  | _ => false

/-- R478: how many tokens of a run are issued after the one that hits: none for a match at issue, one for each cycle up to the stage of an access. DEDUCED (log 100). -/
def Breakpoint.after (b : Breakpoint) : Nat := if b.kind = 2 then bits b.value.toNat 0 4 else 0

/-- R477: the oldest shadow token issues and retires on the halted engine; nothing leaves it but into the capture buffer, and a breakpoint's hit shows.
Answers how many tokens may still follow it, where it hit. -/
def State.shadowRun (s : State) (r : TokenRun) : Option Nat × State :=
  match s.dbg.halted, s.dbg.shadow with
  | some e, t :: l =>
    let s := s.engMod e (fun x => { x with sp := spApply x.sp (r.writes.take 32) })
    let cap := s.dbg.capture ++ r.outputs
    let s := s.dbgMod (fun d => { d with shadow := l, capture := cap.drop (cap.length - 16) })
    match (indexed (s.dbg.bps.getD e [])).find? (fun (b : Nat × Breakpoint) => b.2.hits t r) with
    | some b => (some b.2.after, s.dbgMod (fun d => { d with hit := true, hitBp := b.1, hitSeq := t.seq.getD 0 % 65536 }))
    | none => (none, s)
  | _, _ => (none, s)

/-- R477: STEP. DEDUCED (log 100). -/
def State.step1 (s : State) (r : TokenRun) : State :=
  if s.dbg.running ∨ s.dbg.halted.isNone ∨ s.dbg.shadow = [] then s else (s.dbgMod (fun d => { d with hit := false })).shadowRun r |>.2

/-- R477. -/
def execStylusStep (run : TokenRun) (s : State) : Res := .next (s.haltCtrl (fun s => s.step1 run))

/-- R477: the tokens of a RUN in order; after a hit at most `left` more, which were already issued, retire. The first hit stands. DEDUCED (log 100). -/
def State.runOn : State → Option Nat → List TokenRun → State
  | s, left, [] => if left.isSome ∨ s.dbg.shadow = [] then s.dbgMod (fun d => { d with running := false }) else s
  | s, left, r :: l =>
    if left = some 0 ∨ s.dbg.shadow = [] then s.dbgMod (fun d => { d with running := false })
    else match left with
      | none =>
        let x := s.shadowRun r
        x.2.runOn x.1 l
      | some n =>
        let d := s.dbg
        ((s.shadowRun r).2.dbgMod (fun x => { x with hit := d.hit, hitBp := d.hitBp, hitSeq := d.hitSeq })).runOn (some (n - 1)) l

/-- R477: RUN. -/
def State.runAll (s : State) (rs : List TokenRun) : State :=
  if s.dbg.halted.isNone then s else (s.dbgMod (fun d => { d with running := true, hit := false })).runOn none rs

/-- R477. -/
def execStylusRun (runs : List TokenRun) (s : State) : Res := .next (s.haltCtrl (fun s => s.runAll runs))
/-- R477. -/
def execStylusStop (s : State) : Res := .next (s.haltCtrl (fun s => s.dbgMod (fun d => { d with running := false })))
/-- R477. -/
def execStylusRelease (s : State) : Res := .next (s.haltCtrl (fun s => s.haltRelease))

/-! ### BREAK (R478) -/

/-- R478: one breakpoint written whole. -/
def State.breakWrite (s : State) (w : BitVec 137) : State :=
  let x := w.toNat
  let b : Breakpoint := ⟨bits x 7 2, BitVec.ofNat 64 (bits x 9 64), BitVec.ofNat 64 (bits x 73 64)⟩
  s.dbgMod (fun d => { d with bps := modAt d.bps (bits x 0 4) (fun l => l.set (bits x 4 3) b) })

/-- R478. -/
def execTapBreak (w : BitVec 137) (s : State) : Res :=
  .next (let s := s.tapSelect .breakReg; if s.dbg.session then s.breakWrite w else s)

end Sys2Proof.Machine
end

