-- ==== Sys2Proof/Machine/Stylus.lean ====
section
/-! DEFINITION. The ACCESS register of the stylus (R479, R480). -/

namespace Sys2Proof.Machine

/-- The result of an access: the value read and its status. -/
def State.accEnd (s : State) (status : Nat) (v : Word) : State := s.dbgMod (fun d => { d with accStatus := status, accData := v })

/-- R479 space 0: BAR0 as a host of its own (R10, R14, R263, R268, R480). -/
def State.accBar0 (s : State) (write : Bool) (addr : Nat) (v : Word) (collide : Bool) : State :=
  if addr % 4 ≠ 0 ∨ bar0Size ≤ addr then s.accEnd 5 0#32
  else if forbiddenTo .stylus addr then s.accEnd 4 0#32
  else if !s.answers then s.accEnd 1 0#32
  else if write then
    (if collide ∧ s.dbg.halted.isNone then (s.collided .stylus addr).accEnd 2 v else (s.busWrite .stylus addr v).accEnd 0 v)
  else
    let t := s.busRead .stylus addr collide
    ({ t with out := t.out.drop 1 } : State).accEnd 0 t.lastRead

/-- R479 space 1: a word of a scratchpad; writes reach only the halted engine. Address: scratchpad × 65,536 + line × 64 + byte. DEDUCED (log 101). -/
def State.accSp (s : State) (write : Bool) (e addr : Nat) (v : Word) : State :=
  if addr % 4 ≠ 0 ∨ 14 ≤ e ∨ 1048576 ≤ addr then s.accEnd 5 0#32
  else
    let i := addr / 64
    let sh := 8 * (addr % 64)
    let line := spLine (s.engine e).sp i
    if write then
      (if s.dbg.halted ≠ some e then s.accEnd 4 v
      else
        let mask : BitVec 512 := BitVec.ofNat 512 ((2 ^ 32 - 1) * 2 ^ sh)
        let new := (line &&& ~~~mask) ||| BitVec.ofNat 512 (v.toNat * 2 ^ sh)
        (s.engMod e (fun x => { x with sp := spWrite x.sp i new })).accEnd 0 v)
    else s.accEnd 0 (BitVec.ofNat 32 (line.toNat / 2 ^ sh))

/-- R479 space 2: a word of DRAM; an uncorrectable line returns its data poisoned (R361), or waits where it freezes the controller (R364). -/
def State.accDram (s : State) (write : Bool) (addr : Nat) (v : Word) (o : DramRead) : State :=
  if addr % 4 ≠ 0 ∨ s.get F.DRC_CONFIG_CAPACITY_MIB * 2 ^ 20 ≤ addr then s.accEnd 5 0#32
  else if s.frozen then s.accEnd 1 0#32
  else if write then
    let bs := leBytes 4 v.toNat
    let s := s.dramWrite addr bs
    (if addr < 0x08000000 then s.dramWrite (s.mirrorOf (addr - addr % 64) + addr % 64) bs else s).accEnd 0 v
  else
    let r : DReq := ⟨9, addr - addr % 64, none, s.tim.now⟩
    let (w, s) := s.dramWord addr
    let bad : Bool := match o with
      | .bad _ good _ => !(decide (r.addr < 0x08000000) && good && !s.lostSc (1 - s.scOf r.addr))
      | _ => false
    let s := s.readEnd r o
    s.accEnd (if s.frozen then 1 else if bad then 3 else 0) w

/-- R479 space 3: the capture buffer, 64 bytes for each token, oldest first. DEDUCED (log 101). -/
def State.accCapture (s : State) (write : Bool) (e addr : Nat) (v : Word) : State :=
  if addr % 4 ≠ 0 ∨ 1024 ≤ addr ∨ s.dbg.halted ≠ some e then s.accEnd 5 0#32
  else if write then s.accEnd 4 v
  else s.accEnd 0 (BitVec.ofNat 32 (leAt (slice (s.dbg.capture.getD (addr / 64) []) 0 64) (addr % 64) 4))

/-- R479: one access; a capture first returns the result of the one before. DEDUCED (log 101). -/
def State.access (s : State) (w : BitVec 80) (collide : Bool) (o : DramRead) : State :=
  let s := s.tdo (leBytes 10 (s.dbg.accStatus + s.dbg.accData.toNat * 2 ^ 48))
  let x := w.toNat
  let op := bits x 0 2
  let e := bits x 4 4
  let addr := bits x 8 40
  let v := BitVec.ofNat 32 (bits x 48 32)
  if op = 0 ∨ op = 3 then s
  else match bits x 2 2 with
    | 0 => s.accBar0 (op == 2) addr v collide
    | 1 => s.accSp (op == 2) e addr v
    | 2 => s.accDram (op == 2) addr v o
    | _ => s.accCapture (op == 2) e addr v

/-- R479. -/
def execTapAccess (w : BitVec 80) (collide : Bool) (o : DramRead) (s : State) : Res :=
  .next (let s := s.tapSelect .access; if s.dbg.session then s.access w collide o else s)

end Sys2Proof.Machine
end

