-- ==== Sys2Proof/Machine/Dispatch.lean ====
section
/-! DEFINITION. The dispatch: one arm per constructor of Instr, each one call of its meaning. -/

namespace Sys2Proof.Machine

/-- The meaning of every command. DESIGN CHOICE (log 12). -/
def exec (i : Instr) (s : State) : Host.Outcome State Fault Refusal :=
  match i with
  | .registerWrite m off v other => Sys2Proof.Machine.execRegisterWrite m off v other s
  | .readClear m off other => Sys2Proof.Machine.execReadClear m off other s
  | .latchingRead m off => Sys2Proof.Machine.execLatchingRead m off s
  | .unmappedAccess m off v => Sys2Proof.Machine.execUnmappedAccess m off v s
  | .powerOn => Sys2Proof.Machine.execPowerOn s
  | .uvlo => Sys2Proof.Machine.execUvlo s
  | .resetNLow ns => Sys2Proof.Machine.execResetNLow ns s
  | .startSequence o => Sys2Proof.Machine.execStartSequence o s
  | .vddioPresent => Sys2Proof.Machine.execVddioPresent s
  | .pllLockTimeout => Sys2Proof.Machine.execPllLockTimeout s
  | .pllLockRetry eng pkt serdes => Sys2Proof.Machine.execPllLockRetry eng pkt serdes s
  | .clockSwitch m v => Sys2Proof.Machine.execClockSwitch m v s
  | .plateBlockRead block => Sys2Proof.Machine.execPlateBlockRead block s
  | .plateSignatureCheck => Sys2Proof.Machine.execPlateSignatureCheck s
  | .dramTrained d => Sys2Proof.Machine.execDramTrained d s
  | .seedApply => Sys2Proof.Machine.execSeedApply s
  | .tokenEnqueue r t => Sys2Proof.Machine.execTokenEnqueue r t s
  | .tokenIssue e => Sys2Proof.Machine.execTokenIssue e s
  | .engineWake e => Sys2Proof.Machine.execEngineWake e s
  | .engineClockStop e => Sys2Proof.Machine.execEngineClockStop e s
  | .idleEnter => Sys2Proof.Machine.execIdleEnter s
  | .tokenRetire e writes effects => Sys2Proof.Machine.execTokenRetire e writes effects s
  | .ledgerCompare e line r buffered => Sys2Proof.Machine.execLedgerCompare e line r buffered s
  | .engineCheckFail e c => Sys2Proof.Machine.execEngineCheckFail e c s
  | .engineWatchdog e => Sys2Proof.Machine.execEngineWatchdog e s
  | .takeoverLoadDone => Sys2Proof.Machine.execTakeoverLoadDone s
  | .engineSelftestStart e => Sys2Proof.Machine.execEngineSelftestStart e s
  | .engReinstate m v => Sys2Proof.Machine.execEngReinstate m v s
  | .engineSelftestEnd e failing => Sys2Proof.Machine.execEngineSelftestEnd e failing s
  | .recutMoveRead => Sys2Proof.Machine.execRecutMoveRead s
  | .recutLoad => Sys2Proof.Machine.execRecutLoad s
  | .recutCut rets => Sys2Proof.Machine.execRecutCut rets s
  | .recutClearDone => Sys2Proof.Machine.execRecutClearDone s
  | .recutPause m v => Sys2Proof.Machine.execRecutPause m v s
  | .recutResume m v => Sys2Proof.Machine.execRecutResume m v s
  | .recutAbandon m v => Sys2Proof.Machine.execRecutAbandon m v s
  | .synthFault k freq => Sys2Proof.Machine.execSynthFault k freq s
  | .synthSpareLocked us => Sys2Proof.Machine.execSynthSpareLocked us s
  | .synthSelftestStart k => Sys2Proof.Machine.execSynthSelftestStart k s
  | .synthSelftestEnd k pass => Sys2Proof.Machine.execSynthSelftestEnd k pass s
  | .chainFault c cause => Sys2Proof.Machine.execChainFault c cause s
  | .chnChainReinstate m v => Sys2Proof.Machine.execChnChainReinstate m v s
  | .chainSelftest c pass => Sys2Proof.Machine.execChainSelftest c pass s
  | .radioRestart n => Sys2Proof.Machine.execRadioRestart n s
  | .radioStateChange n nx => Sys2Proof.Machine.execRadioStateChange n nx s
  | .channelChange n ch => Sys2Proof.Machine.execChannelChange n ch s
  | .fineAdjust n hz settled => Sys2Proof.Machine.execFineAdjust n hz settled s
  | .txRequest n r => Sys2Proof.Machine.execTxRequest n r s
  | .calStepStart n kind c idle => Sys2Proof.Machine.execCalStepStart n kind c idle s
  | .calStepEnd n ok => Sys2Proof.Machine.execCalStepEnd n ok s
  | .calOverdue n => Sys2Proof.Machine.execCalOverdue n s
  | .dpdCapture c dataUs inRange fin saturated hot => Sys2Proof.Machine.execDpdCapture c dataUs inRange fin saturated hot s
  | .dpdAdopt c noWorse => Sys2Proof.Machine.execDpdAdopt c noWorse s
  | .chnRegSelect m v => Sys2Proof.Machine.execChnRegSelect m v s
  | .fuseProgram m v => Sys2Proof.Machine.execFuseProgram m v s
  | .fuseLock m v => Sys2Proof.Machine.execFuseLock m v s
  | .fuseProgramDone => Sys2Proof.Machine.execFuseProgramDone s
  | .extReqRise pri => Sys2Proof.Machine.execExtReqRise pri s
  | .extPriRise => Sys2Proof.Machine.execExtPriRise s
  | .extReqFall => Sys2Proof.Machine.execExtReqFall s
  | .extGntPreslotDrop => Sys2Proof.Machine.execExtGntPreslotDrop s
  | .devReqRaise n => Sys2Proof.Machine.execDevReqRaise n s
  | .devGntFall => Sys2Proof.Machine.execDevGntFall s
  | .devTimeout n => Sys2Proof.Machine.execDevTimeout n s
  | .devReqRelease => Sys2Proof.Machine.execDevReqRelease s
  | .preambleDetect n d => Sys2Proof.Machine.execPreambleDetect n d s
  | .rxRestart n power lock => Sys2Proof.Machine.execRxRestart n power lock s
  | .ppduReceiveEnd n e => Sys2Proof.Machine.execPpduReceiveEnd n e s
  | .mapRecompute n k => Sys2Proof.Machine.execMapRecompute n k s
  | .stpRecompute m n v => Sys2Proof.Machine.execStpRecompute m n v s
  | .stpOffer m n v => Sys2Proof.Machine.execStpOffer m n v s
  | .mapOfferSend n k => Sys2Proof.Machine.execMapOfferSend n k s
  | .mapAcceptTimeout n k => Sys2Proof.Machine.execMapAcceptTimeout n k s
  | .spanStart n => Sys2Proof.Machine.execSpanStart n s
  | .stippleDataPpdu n k symbols eht rest ids => Sys2Proof.Machine.execStippleDataPpdu n k symbols eht rest ids s
  | .mapStale n k => Sys2Proof.Machine.execMapStale n k s
  | .contourWindow path c power => Sys2Proof.Machine.execContourWindow path c power s
  | .measCmd m n v => Sys2Proof.Machine.execMeasCmd m n v s
  | .measRun n powers => Sys2Proof.Machine.execMeasRun n powers s
  | .surveyWord0Write m k v => Sys2Proof.Machine.execSurveyWord0Write m k v s
  | .slotEdge n => Sys2Proof.Machine.execSlotEdge n s
  | .beaconRun n durs => Sys2Proof.Machine.execBeaconRun n durs s
  | .dlsExchange n dur total ids sounded => Sys2Proof.Machine.execDlsExchange n dur total ids sounded s
  | .ultRound n total answers => Sys2Proof.Machine.execUltRound n total answers s
  | .ctnContend n dur total ids => Sys2Proof.Machine.execCtnContend n dur total ids s
  | .restEnter n xo => Sys2Proof.Machine.execRestEnter n xo s
  | .ctsToSelf n dur idle => Sys2Proof.Machine.execCtsToSelf n dur idle s
  | .lateFrame n k ids => Sys2Proof.Machine.execLateFrame n k ids s
  | .stationWord0Write m st v => Sys2Proof.Machine.execStationWord0Write m st v s
  | .emlsrClaim n st dur collide => Sys2Proof.Machine.execEmlsrClaim n st dur collide s
  | .grantSubmit m n v => Sys2Proof.Machine.execGrantSubmit m n v s
  | .shadowWrite m n x v => Sys2Proof.Machine.execShadowWrite m n x v s
  | .grtCommit m n v => Sys2Proof.Machine.execGrtCommit m n v s
  | .domainEnWrite m n v => Sys2Proof.Machine.execDomainEnWrite m n v s
  | .guardRecompute => Sys2Proof.Machine.execGuardRecompute s
  | .referencePeriodEnd => Sys2Proof.Machine.execReferencePeriodEnd s
  | .traverseSlotStart => Sys2Proof.Machine.execTraverseSlotStart s
  | .traverseFrameReceive hdrOk bytes powerA powerB sinr cfo ago => Sys2Proof.Machine.execTraverseFrameReceive hdrOk bytes powerA powerB sinr cfo ago s
  | .traverseFrameSend => Sys2Proof.Machine.execTraverseFrameSend s
  | .hopmapNextArm m v => Sys2Proof.Machine.execHopmapNextArm m v s
  | .beaconSend => Sys2Proof.Machine.execBeaconSend s
  | .delayReqSend => Sys2Proof.Machine.execDelayReqSend s
  | .delayRetry => Sys2Proof.Machine.execDelayRetry s
  | .join m v => Sys2Proof.Machine.execJoin m v s
  | .leave m v => Sys2Proof.Machine.execLeave m v s
  | .scanChannelMove => Sys2Proof.Machine.execScanChannelMove s
  | .domainKeyWrite m n k v => Sys2Proof.Machine.execDomainKeyWrite m n k v s
  | .hostTxGo m v => Sys2Proof.Machine.execHostTxGo m v s
  | .wurFrameAccept wake fcsOk bcast id sender => Sys2Proof.Machine.execWurFrameAccept wake fcsOk bcast id sender s
  | .wurTransmit => Sys2Proof.Machine.execWurTransmit s
  | .rdvArm m v => Sys2Proof.Machine.execRdvArm m v s
  | .rdvDisarm m v => Sys2Proof.Machine.execRdvDisarm m v s
  | .rdvTimeReached => Sys2Proof.Machine.execRdvTimeReached s
  | .rdvWaitExpire => Sys2Proof.Machine.execRdvWaitExpire s
  | .rdvCall => Sys2Proof.Machine.execRdvCall s
  | .rdvSpanEnd => Sys2Proof.Machine.execRdvSpanEnd s
  | .tbSet m n v => Sys2Proof.Machine.execTbSet m n v s
  | .tbStep m n v => Sys2Proof.Machine.execTbStep m n v s
  | .tbSlew m n v => Sys2Proof.Machine.execTbSlew m n v s
  | .tbRate m n v => Sys2Proof.Machine.execTbRate m n v s
  | .tclkStop => Sys2Proof.Machine.execTclkStop s
  | .tclkResume => Sys2Proof.Machine.execTclkResume s
  | .xo32kCarryEdge => Sys2Proof.Machine.execXo32kCarryEdge s
  | .ptpLockedExpire => Sys2Proof.Machine.execPtpLockedExpire s
  | .ptpSteer => Sys2Proof.Machine.execPtpSteer s
  | .captureEvent src rising sub => Sys2Proof.Machine.execCaptureEvent src rising sub s
  | .capSw m c v => Sys2Proof.Machine.execCapSw m c v s
  | .capDataRead m c => Sys2Proof.Machine.execCapDataRead m c s
  | .cmpTargetCommit m c v => Sys2Proof.Machine.execCmpTargetCommit m c v s
  | .compareFire c => Sys2Proof.Machine.execCompareFire c s
  | .ppsPulse high => Sys2Proof.Machine.execPpsPulse high s
  | .txStamp q tb attempt id => Sys2Proof.Machine.execTxStamp q tb attempt id s
  | .txqHeadRead m q => Sys2Proof.Machine.execTxqHeadRead m q s
  | .calNowRead m => Sys2Proof.Machine.execCalNowRead m s
  | .calSet m v => Sys2Proof.Machine.execCalSet m v s
  | .calSecond period => Sys2Proof.Machine.execCalSecond period s
  | .vbatLoss => Sys2Proof.Machine.execVbatLoss s
  | .packetParse src => Sys2Proof.Machine.execPacketParse src s
  | .pktClassify k => Sys2Proof.Machine.execPktClassify k s
  | .flowLookup k => Sys2Proof.Machine.execFlowLookup k s
  | .routeLookup k => Sys2Proof.Machine.execRouteLookup k s
  | .flowCreate k written => Sys2Proof.Machine.execFlowCreate k written s
  | .packetRewrite k => Sys2Proof.Machine.execPacketRewrite k s
  | .recirculate k => Sys2Proof.Machine.execRecirculate k s
  | .pktRelease k => Sys2Proof.Machine.execPktRelease k s
  | .ruleStageWrite m x w v => Sys2Proof.Machine.execRuleStageWrite m x w v s
  | .ruleCommit m x v => Sys2Proof.Machine.execRuleCommit m x v s
  | .nexthopCommit m h v => Sys2Proof.Machine.execNexthopCommit m h v s
  | .rangeCommit m k v => Sys2Proof.Machine.execRangeCommit m k v s
  | .profileWrite m q k e v => Sys2Proof.Machine.execProfileWrite m q k e v s
  | .routeAdd m v => Sys2Proof.Machine.execRouteAdd m v s
  | .routeDelete m v => Sys2Proof.Machine.execRouteDelete m v s
  | .routeLookUp m v => Sys2Proof.Machine.execRouteLookUp m v s
  | .routeCmdDone => Sys2Proof.Machine.execRouteCmdDone s
  | .flwRead m v => Sys2Proof.Machine.execFlwRead m v s
  | .flwInsert m v => Sys2Proof.Machine.execFlwInsert m v s
  | .flwDelete m v => Sys2Proof.Machine.execFlwDelete m v s
  | .flwFlush m v => Sys2Proof.Machine.execFlwFlush m v s
  | .flowTouch => Sys2Proof.Machine.execFlowTouch s
  | .flowSweep => Sys2Proof.Machine.execFlowSweep s
  | .enqueue => Sys2Proof.Machine.execEnqueue s
  | .spillReturn k => Sys2Proof.Machine.execSpillReturn k s
  | .ethDequeue p => Sys2Proof.Machine.execEthDequeue p s
  | .hostDequeue => Sys2Proof.Machine.execHostDequeue s
  | .radioDraw n d => Sys2Proof.Machine.execRadioDraw n d s
  | .shaperWake root => Sys2Proof.Machine.execShaperWake root s
  | .queueRecordWrite m k w v => Sys2Proof.Machine.execQueueRecordWrite m k w v s
  | .shaperCommit m k v => Sys2Proof.Machine.execShaperCommit m k v s
  | .stationHomeMove st => Sys2Proof.Machine.execStationHomeMove st s
  | .stationFlush st => Sys2Proof.Machine.execStationFlush st s
  | .policerCommit m p v => Sys2Proof.Machine.execPolicerCommit m p v s
  | .meter k => Sys2Proof.Machine.execMeter k s
  | .policerRefresh q => Sys2Proof.Machine.execPolicerRefresh q s
  | .ethFrameReceive p bytes codeErr => Sys2Proof.Machine.execEthFrameReceive p bytes codeErr s
  | .pauseExpire p c => Sys2Proof.Machine.execPauseExpire p c s
  | .pfcXoff p => Sys2Proof.Machine.execPfcXoff p s
  | .pfcRefresh p => Sys2Proof.Machine.execPfcRefresh p s
  | .pfcXon p => Sys2Proof.Machine.execPfcXon p s
  | .linkChange p up receiving => Sys2Proof.Machine.execLinkChange p up receiving s
  | .ethCtrlWrite m p v => Sys2Proof.Machine.execEthCtrlWrite m p v s
  | .pcieReset up => Sys2Proof.Machine.execPcieReset up s
  | .ringEnable m r v => Sys2Proof.Machine.execRingEnable m r v s
  | .ringDisable m r v => Sys2Proof.Machine.execRingDisable m r v s
  | .ringTailPost m r v => Sys2Proof.Machine.execRingTailPost m r v s
  | .txDescriptor r ds data => Sys2Proof.Machine.execTxDescriptor r ds data s
  | .rxWriteback q ds => Sys2Proof.Machine.execRxWriteback q ds s
  | .ringPcieError r => Sys2Proof.Machine.execRingPcieError r s
  | .eventRecord => Sys2Proof.Machine.execEventRecord s
  | .msixSignal v => Sys2Proof.Machine.execMsixSignal v s
  | .secondaryRequest collide => Sys2Proof.Machine.execSecondaryRequest collide s
  | .memoryScrub pb bank word r => Sys2Proof.Machine.execMemoryScrub pb bank word r s
  | .memoryUe p bank word => Sys2Proof.Machine.execMemoryUe p bank word s
  | .platePageRefetch page => Sys2Proof.Machine.execPlatePageRefetch page s
  | .retentionRestore failed arrays => Sys2Proof.Machine.execRetentionRestore failed arrays s
  | .dramRefresh sc => Sys2Proof.Machine.execDramRefresh sc s
  | .dramMr4Read sc hot tooHot => Sys2Proof.Machine.execDramMr4Read sc hot tooHot s
  | .refreshRepay sc => Sys2Proof.Machine.execRefreshRepay sc s
  | .zqCalibration sc => Sys2Proof.Machine.execZqCalibration sc s
  | .dramCommandIssue sc arrived ready => Sys2Proof.Machine.execDramCommandIssue sc arrived ready s
  | .dramReadReturn port r => Sys2Proof.Machine.execDramReadReturn port r s
  | .dramPatrolScrub line r => Sys2Proof.Machine.execDramPatrolScrub line r s
  | .alertNFall sc => Sys2Proof.Machine.execAlertNFall sc s
  | .dramDeviceLoss sc lane => Sys2Proof.Machine.execDramDeviceLoss sc lane s
  | .dramThaw m v => Sys2Proof.Machine.execDramThaw m v s
  | .keyLoad m v => Sys2Proof.Machine.execKeyLoad m v s
  | .keyClear m v => Sys2Proof.Machine.execKeyClear m v s
  | .keyRead m v => Sys2Proof.Machine.execKeyRead m v s
  | .keySetTx m v => Sys2Proof.Machine.execKeySetTx m v s
  | .keyLink m v => Sys2Proof.Machine.execKeyLink m v s
  | .pnAssign c k => Sys2Proof.Machine.execPnAssign c k s
  | .keySlotFault c k => Sys2Proof.Machine.execKeySlotFault c k s
  | .sealClaim m tag => Sys2Proof.Machine.execSealClaim m tag s
  | .sealRelease m tag => Sys2Proof.Machine.execSealRelease m tag s
  | .sealLeaseExpire => Sys2Proof.Machine.execSealLeaseExpire s
  | .sealGo m decrypt key256 => Sys2Proof.Machine.execSealGo m decrypt key256 s
  | .sealJobDone data => Sys2Proof.Machine.execSealJobDone data s
  | .fuseCustWrite m v => Sys2Proof.Machine.execFuseCustWrite m v s
  | .fuseCustRevoke m v => Sys2Proof.Machine.execFuseCustRevoke m v s
  | .fuseRollbackBlow m v => Sys2Proof.Machine.execFuseRollbackBlow m v s
  | .keyFuseDone => Sys2Proof.Machine.execKeyFuseDone s
  | .attGo m => Sys2Proof.Machine.execAttGo m s
  | .attDone => Sys2Proof.Machine.execAttDone s
  | .rngHealthFail => Sys2Proof.Machine.execRngHealthFail s
  | .checkDataWrite m n size v => Sys2Proof.Machine.execCheckDataWrite m n size v s
  | .checkStart m n v => Sys2Proof.Machine.execCheckStart m n v s
  | .checkConfigWrite m n k v => Sys2Proof.Machine.execCheckConfigWrite m n k v s
  | .checkValueWrite m n v => Sys2Proof.Machine.execCheckValueWrite m n v s
  | .checkResultRead m n result => Sys2Proof.Machine.execCheckResultRead m n result s
  | .mbxOpen m => Sys2Proof.Machine.execMbxOpen m s
  | .mbxBlock m => Sys2Proof.Machine.execMbxBlock m s
  | .mbxProof m => Sys2Proof.Machine.execMbxProof m s
  | .proofDone => Sys2Proof.Machine.execProofDone s
  | .mbxRecut m => Sys2Proof.Machine.execMbxRecut m s
  | .mbxCancel m => Sys2Proof.Machine.execMbxCancel m s
  | .mbxCopy m => Sys2Proof.Machine.execMbxCopy m s
  | .copyDone bad => Sys2Proof.Machine.execCopyDone bad s
  | .mbxFlashDone ok => Sys2Proof.Machine.execMbxFlashDone ok s
  | .pwrSleep m => Sys2Proof.Machine.execPwrSleep m s
  | .pwrDeep m noHost => Sys2Proof.Machine.execPwrDeep m noHost s
  | .pwrOff m noHost key => Sys2Proof.Machine.execPwrOff m noHost key s
  | .pwrRestart m key => Sys2Proof.Machine.execPwrRestart m key s
  | .pwrAbort m => Sys2Proof.Machine.execPwrAbort m s
  | .clusterGrant d3hot => Sys2Proof.Machine.execClusterGrant d3hot s
  | .handshakeTimeout => Sys2Proof.Machine.execHandshakeTimeout s
  | .commitWindowClose wakeN fault => Sys2Proof.Machine.execCommitWindowClose wakeN fault s
  | .entryActionsDone => Sys2Proof.Machine.execEntryActionsDone s
  | .wakeRegister wakeN fault => Sys2Proof.Machine.execWakeRegister wakeN fault s
  | .returnComplete eng pkt serdes => Sys2Proof.Machine.execReturnComplete eng pkt serdes s
  | .pwrFuncWrite m v => Sys2Proof.Machine.execPwrFuncWrite m v s
  | .funcShutdownDone k => Sys2Proof.Machine.execFuncShutdownDone k s
  | .phaseFault rail phase => Sys2Proof.Machine.execPhaseFault rail phase s
  | .clockFault c => Sys2Proof.Machine.execClockFault c s
  | .clusterCheckFail c unit => Sys2Proof.Machine.execClusterCheckFail c unit s
  | .clusterResetDone c pass us => Sys2Proof.Machine.execClusterResetDone c pass us s
  | .dieLinkLaneFault lane us => Sys2Proof.Machine.execDieLinkLaneFault lane us s
  | .monitorConversion vin vddio vbat t0 t1 => Sys2Proof.Machine.execMonitorConversion vin vddio vbat t0 t1 s
  | .tapExtest => Sys2Proof.Machine.execTapExtest s
  | .tapSamplePreload => Sys2Proof.Machine.execTapSamplePreload s
  | .tapIdcode => Sys2Proof.Machine.execTapIdcode s
  | .tapClamp => Sys2Proof.Machine.execTapClamp s
  | .tapHighz => Sys2Proof.Machine.execTapHighz s
  | .tapBypass => Sys2Proof.Machine.execTapBypass s
  | .tapDbgStatus => Sys2Proof.Machine.execTapDbgStatus s
  | .unlockChal => Sys2Proof.Machine.execUnlockChal s
  | .unlockResp resp => Sys2Proof.Machine.execUnlockResp resp s
  | .unlockVerifyDone => Sys2Proof.Machine.execUnlockVerifyDone s
  | .tapLock => Sys2Proof.Machine.execTapLock s
  | .trstNLow => Sys2Proof.Machine.execTrstNLow s
  | .stylusHalt e rets => Sys2Proof.Machine.execStylusHalt e rets s
  | .stylusStep run => Sys2Proof.Machine.execStylusStep run s
  | .stylusRun runs => Sys2Proof.Machine.execStylusRun runs s
  | .stylusStop => Sys2Proof.Machine.execStylusStop s
  | .stylusRelease => Sys2Proof.Machine.execStylusRelease s
  | .tapBreak w => Sys2Proof.Machine.execTapBreak w s
  | .tapAccess w collide o => Sys2Proof.Machine.execTapAccess w collide o s
  | .xo32kStable => Sys2Proof.Machine.execXo32kStable s
  | .xo80Running => Sys2Proof.Machine.execXo80Running s
  | .devGntRise => Sys2Proof.Machine.execDevGntRise s
  | .calAlarmEdge => Sys2Proof.Machine.execCalAlarmEdge s
  | .pcieLaneFault lane => Sys2Proof.Machine.execPcieLaneFault lane s
  | .perstNRise => Sys2Proof.Machine.execPerstNRise s
  | .railLeavesRegulation rail => Sys2Proof.Machine.execRailLeavesRegulation rail s

end Sys2Proof.Machine
end

