-- ==== Sys2Proof/Machine/Step.lean ====
section
/-! DEFINITION. The step of the block: the command at the front of the queue, or with nothing waiting one period of TCLK. -/

namespace Sys2Proof.Machine

/-- With no command waiting, 4 ns pass (R214). DESIGN CHOICE (log 2). -/
def idle (s : State) : State := s.idlePeriod

/-- One step: the command at the front of the queue acts on the state with the queue's rest. DESIGN CHOICE (log 1). DESIGN CHOICE (log 2). -/
def step (s : State) : Host.Outcome State Fault Refusal :=
  match s.pending with
  | [] => .next (idle s)
  | c :: rest => exec c { s with pending := rest }

/-- The state with the command that a table word spells at the front of its queue. DESIGN CHOICE (log 4). -/
def State.withFetchWord (s : State) (nbits w : Nat) : State :=
  match decodeTableWord nbits w with
  | some c => { s with pending := c :: s.pending }
  | none => s

end Sys2Proof.Machine
end

