-- ==== Sys2Proof/Safety.lean ====
section
/-! DEFINITION. What a safe state and a safe step are, in the terms that the statements use. -/

namespace Sys2Proof.Machine

/-- The register file is canonical: offsets rise and no entry holds its register's reset value, so equal register files are equal lists. -/
def State.regsWf (s : State) : Bool := kvWf resetWord s.regs

/-- The DRAM image is canonical. -/
def State.dramOk (s : State) : Bool := dramWf s.mem.dram

/-- Every unit that the spec counts is there: 8 time bases (R216), 16 capture units (R226), 7 transmit timestamp queues (R235), 14 engines (R45), 12 roles
(R52), 16 chains and 3 radios (R78) with their receivers and tables, 64 surveyed neighbours (R148), 4 Ethernet ports (R309), 4 check units (R390). -/
def State.shapeOk (s : State) : Bool :=
  s.tim.tb.length == 8 && s.tim.cap.length == 16 && s.tim.txq.length == 7 && s.eng.engines.length == 14 && s.eng.roles.length == 12 &&
    s.chn.chains.length == 16 && s.chn.radios.length == 3 && s.ports.length == 4 && s.sec.checks.length == 4 &&
    s.phy.length == 3 && s.grt.radios.length == 3 && s.surveys.length == 64

/-- The canonical form of the stores. -/
def State.canonical (s : State) : Prop := s.regsWf = true ∧ s.dramOk = true

/-- A step that goes on. -/
def completes (o : Host.Outcome State Fault Refusal) (t : State) : Prop := o = .next t

end Sys2Proof.Machine
end

