-- ==== Sys2Proof/WellFormed.lean ====
section
/-! DEFINITION. Which commands can arise: the bounds that the spec puts on what a command carries and that its types do not say. `exec` is total on
the others as well. -/

namespace Sys2Proof

/-- "Scratchpads and their ports", R48: sixteen scratchpads of 1,024 lines of 64 bytes. -/
def linesOk (ws : List (Nat × BitVec 512)) : Bool := ws.all (fun w => decide (w.1 < 16384))

/-- R48, R477: what a token on the halted engine does names lines that exist. -/
def runOk (r : TokenRun) : Bool := linesOk r.writes && r.touched.all (fun t => decide (t.2.2 < 1024))

/-- R104: a channel of one of the three bands, of a width that the code names, covering that many 20 MHz channels. -/
def Channel.wf (c : Channel) : Bool := decide (c.band < 3) && decide (c.width < 5) && c.subs.length == 2 ^ c.width

/-- R359: a request is for a 64-byte line of the 16 GiB that the controller addresses. -/
def DramReq.wf (r : DramReq) : Bool :=
  r.addr % 64 == 0 && decide (r.addr < 2 ^ 34) && (match r.data with | some d => d.length == 64 | none => true)

/-- R155, R301: a draw is made in a run that sends, for users with a budget each. -/
def DrawReq.wf (d : DrawReq) : Bool := decide (d.kind < 8) && decide (d.ac < 4) && d.budget.length == d.users

/-- A command that can arise. -/
def Instr.wf : Instr → Bool
  | .startSequence o => o.badPhases.all (fun p => decide (p.1 < 6) && decide (p.2 < 6))
  | .plateBlockRead block => decide (block.length = 4096)
  | .dramTrained d => decide (d.rate < 3)
  | .tokenRetire _ ws _ => linesOk ws
  | .recutCut rets => rets.all (fun r => linesOk r.1)
  | .channelChange _ ch => ch.wf
  | .txRequest _ r => decide (0 < r.dur)
  | .contourWindow _ _ power => decide (0 < power)
  | .ctsToSelf _ dur _ => decide (0 < dur)
  | .radioDraw _ d => d.wf
  | .ethFrameReceive _ bytes _ => decide (0 < bytes.length)
  | .dramCommandIssue _ arrived _ => arrived.all DramReq.wf
  | .unlockResp resp => decide (resp.length = 7889)
  | .stylusHalt _ rets => rets.all (fun r => linesOk r.1)
  | .stylusStep r => runOk r
  | .stylusRun rs => rs.all runOk
  | .registerWrite _ _ _ _ | .readClear _ _ _ | .latchingRead _ _ | .unmappedAccess _ _ _ | .powerOn | .uvlo | .resetNLow _ | .vddioPresent | .pllLockTimeout | .pllLockRetry _ _ _ | .clockSwitch _ _ | .plateSignatureCheck
  | .seedApply | .tokenEnqueue _ _ | .tokenIssue _ | .engineWake _ | .engineClockStop _ | .idleEnter | .ledgerCompare _ _ _ _
  | .engineCheckFail _ _ | .engineWatchdog _ | .takeoverLoadDone | .engineSelftestStart _ | .engReinstate _ _ | .engineSelftestEnd _ _
  | .recutMoveRead | .recutLoad | .recutClearDone | .recutPause _ _ | .recutResume _ _ | .recutAbandon _ _ | .synthFault _ _
  | .synthSpareLocked _ | .synthSelftestStart _ | .synthSelftestEnd _ _ | .chainFault _ _ | .chnChainReinstate _ _ | .chainSelftest _ _
  | .radioRestart _ | .radioStateChange _ _ | .fineAdjust _ _ _ | .calStepStart _ _ _ _ | .calStepEnd _ _ | .calOverdue _
  | .dpdCapture _ _ _ _ _ _ | .dpdAdopt _ _ | .chnRegSelect _ _ | .fuseProgram _ _ | .fuseLock _ _ | .fuseProgramDone | .extReqRise _
  | .extPriRise | .extReqFall | .extGntPreslotDrop | .devReqRaise _ | .devGntFall | .devTimeout _ | .devReqRelease | .preambleDetect _ _
  | .rxRestart _ _ _ | .ppduReceiveEnd _ _ | .mapRecompute _ _ | .stpRecompute _ _ _ | .stpOffer _ _ _ | .mapOfferSend _ _
  | .mapAcceptTimeout _ _ | .spanStart _ | .stippleDataPpdu _ _ _ _ _ _ | .mapStale _ _ | .measCmd _ _ _ | .measRun _ _
  | .surveyWord0Write _ _ _ | .slotEdge _ | .beaconRun _ _ | .dlsExchange _ _ _ _ _ | .ultRound _ _ _ | .ctnContend _ _ _ _
  | .restEnter _ _ | .lateFrame _ _ _ | .stationWord0Write _ _ _ | .emlsrClaim _ _ _ _ | .grantSubmit _ _ _ | .shadowWrite _ _ _ _
  | .grtCommit _ _ _ | .domainEnWrite _ _ _ | .guardRecompute | .referencePeriodEnd | .traverseSlotStart
  | .traverseFrameReceive _ _ _ _ _ _ _ | .traverseFrameSend | .hopmapNextArm _ _ | .beaconSend | .delayReqSend | .delayRetry | .join _ _
  | .leave _ _ | .scanChannelMove | .domainKeyWrite _ _ _ _ | .hostTxGo _ _ | .wurFrameAccept _ _ _ _ _ | .wurTransmit | .rdvArm _ _
  | .rdvDisarm _ _ | .rdvTimeReached | .rdvWaitExpire | .rdvCall | .rdvSpanEnd | .tbSet _ _ _ | .tbStep _ _ _ | .tbSlew _ _ _
  | .tbRate _ _ _ | .tclkStop | .tclkResume | .xo32kCarryEdge | .ptpLockedExpire | .ptpSteer | .captureEvent _ _ _ | .capSw _ _ _
  | .capDataRead _ _ | .cmpTargetCommit _ _ _ | .compareFire _ | .ppsPulse _ | .txStamp _ _ _ _ | .txqHeadRead _ _ | .calNowRead _
  | .calSet _ _ | .calSecond _ | .vbatLoss | .packetParse _ | .pktClassify _ | .flowLookup _ | .routeLookup _ | .flowCreate _ _
  | .packetRewrite _ | .recirculate _ | .pktRelease _ | .ruleStageWrite _ _ _ _ | .ruleCommit _ _ _ | .nexthopCommit _ _ _
  | .rangeCommit _ _ _ | .profileWrite _ _ _ _ _ | .routeAdd _ _ | .routeDelete _ _ | .routeLookUp _ _ | .routeCmdDone | .flwRead _ _
  | .flwInsert _ _ | .flwDelete _ _ | .flwFlush _ _ | .flowTouch | .flowSweep | .enqueue | .spillReturn _ | .ethDequeue _ | .hostDequeue
  | .shaperWake _ | .queueRecordWrite _ _ _ _ | .shaperCommit _ _ _ | .stationHomeMove _ | .stationFlush _ | .policerCommit _ _ _
  | .meter _ | .policerRefresh _ | .pauseExpire _ _ | .pfcXoff _ | .pfcRefresh _ | .pfcXon _ | .linkChange _ _ _ | .ethCtrlWrite _ _ _
  | .pcieReset _ | .ringEnable _ _ _ | .ringDisable _ _ _ | .ringTailPost _ _ _ | .txDescriptor _ _ _ | .rxWriteback _ _ | .ringPcieError _
  | .eventRecord | .msixSignal _ | .secondaryRequest _ | .memoryScrub _ _ _ _ | .memoryUe _ _ _ | .platePageRefetch _
  | .retentionRestore _ _ | .dramRefresh _ | .dramMr4Read _ _ _ | .refreshRepay _ | .zqCalibration _ | .dramReadReturn _ _
  | .dramPatrolScrub _ _ | .alertNFall _ | .dramDeviceLoss _ _ | .dramThaw _ _ | .keyLoad _ _ | .keyClear _ _ | .keyRead _ _
  | .keySetTx _ _ | .keyLink _ _ | .pnAssign _ _ | .keySlotFault _ _ | .sealClaim _ _ | .sealRelease _ _ | .sealLeaseExpire | .sealGo _ _ _
  | .sealJobDone _ | .fuseCustWrite _ _ | .fuseCustRevoke _ _ | .fuseRollbackBlow _ _ | .keyFuseDone | .attGo _ | .attDone | .rngHealthFail
  | .checkDataWrite _ _ _ _ | .checkStart _ _ _ | .checkConfigWrite _ _ _ _ | .checkValueWrite _ _ _ | .checkResultRead _ _ _ | .mbxOpen _
  | .mbxBlock _ | .mbxProof _ | .proofDone | .mbxRecut _ | .mbxCancel _ | .mbxCopy _ | .copyDone _ | .mbxFlashDone _ | .pwrSleep _
  | .pwrDeep _ _ | .pwrOff _ _ _ | .pwrRestart _ _ | .pwrAbort _ | .clusterGrant _ | .handshakeTimeout | .commitWindowClose _ _
  | .entryActionsDone | .wakeRegister _ _ | .returnComplete _ _ _ | .pwrFuncWrite _ _ | .funcShutdownDone _ | .phaseFault _ _
  | .clockFault _ | .clusterCheckFail _ _ | .clusterResetDone _ _ _ | .dieLinkLaneFault _ _ | .monitorConversion _ _ _ _ _ | .tapExtest
  | .tapSamplePreload | .tapIdcode | .tapClamp | .tapHighz | .tapBypass | .tapDbgStatus | .unlockChal | .unlockVerifyDone | .tapLock
  | .trstNLow | .stylusStop | .stylusRelease | .tapBreak _ | .tapAccess _ _ _ | .xo32kStable | .xo80Running | .devGntRise | .calAlarmEdge
  | .pcieLaneFault _ | .perstNRise | .railLeavesRegulation _ => true

end Sys2Proof
end

