-- ==== Sys2Proof/Certificates/Slice0/Obligations.lean ====
section
/-! DEFINITION. The statements for the provers. -/

open Sys2Proof Sys2Proof.Machine

/-! ### The queue and the step -/

/-- The queue is first in, first out: a step with commands waiting runs the one in front on the state with the queue's rest. The queue is the model's
own (log 1). -/
def Obligations.StepRunsFront : Prop :=
  ∀ (c : Instr) (rest : List Instr) (s : State), step { s with pending := c :: rest } = exec c { s with pending := rest }

/-- With nothing waiting the block idles for one TCLK period, 4 ns (log 2): it goes on, the queue stays empty and time counts 4 ns on; where no access of a host is held,
the packets, queues, ports, keys, DRAM, Plate, power stage and sessions are as they were, and so are the engines where no producer stalls. -/
def IdleTickRules : Prop :=
  ∀ s : State, s.pending = [] → s.hst.held = [] →
    ∃ t, step s = .next t ∧ t.pending = [] ∧ t.tim.now = s.tim.now + 4 ∧ t.mem = s.mem ∧ t.path = s.path ∧ t.que = s.que ∧ t.sec.slots = s.sec.slots ∧
      t.ports = s.ports ∧ t.plt = s.plt ∧ t.upd = s.upd ∧ t.pwr = s.pwr ∧ t.dbg = s.dbg ∧ t.rfuse = s.rfuse ∧ t.surveys = s.surveys ∧
      ((∀ c, (s.role c).stall = none) → t.eng = s.eng)

/-- No command stops the block: whatever it is and whatever the state, it answers a next state and leaves the queue alone, and so does a step. -/
def Obligations.NoCommandStops : Prop :=
  (∀ (c : Instr) (s : State), ∃ t, exec c s = .next t ∧ t.pending = s.pending) ∧
  (∀ s : State, ∃ t, step s = .next t ∧ t.pending = s.pending.tail) ∧
  (∀ (c : Instr) (s : State) (r : Refusal), exec c s ≠ .refused r) ∧
  (∀ (c : Instr) (s : State) (f : Fault), exec c s ≠ .fault f)

/-- Every step, from every state, keeps the stores canonical: register offsets rise and no entry holds its register's reset value; DRAM addresses rise and no
entry holds zero. Equal contents are therefore equal data. Where the spec leaves a point open it follows the model's choices of log 14, 105. -/
def Obligations.StepKeepsCanonical : Prop :=
  ∀ s t : State, s.canonical → step s = .next t → t.canonical

/-- No command touches the queue: after a step the queue is what was behind the command that ran. -/
def StepKeepsQueueRules : Prop :=
  ∀ s t : State, step s = .next t → t.pending = s.pending.tail

/-- Every step keeps the number of the units that the spec counts: time bases (R214), capture units and timestamp queues, engines and roles, chains and
radios, Ethernet ports, check units. -/
def StepKeepsUnitsRules : Prop :=
  ∀ s t : State, s.shapeOk = true → step s = .next t → t.shapeOk = true

/-- Right after reset: no command waits, the stores are canonical and hold nothing, the units are there, and the reset values that the spec states show: GLB_FLT
records empty (no fault: location all ones, R5), 27,648 cells not yet shown, key slots empty (R368), the Plate not loaded, WEIGHT 512 in a TID 0 queue record (R292),
the check units' registers zero. Where the spec leaves a point open it follows the model's choices of log 5, 6, 110. -/
def Obligations.ResetState : Prop :=
  State.reset.pending = [] ∧ State.reset.canonical ∧ State.reset.shapeOk = true ∧ State.reset.regs = [] ∧ State.reset.mem.dram = [] ∧
  State.reset.sec.slots = [] ∧ State.reset.rd A.GLB_FLT_PRESENT_LOC = 0xFFFFFFFF#32 ∧ State.reset.rd A.GLB_FLT_LAST_LOC = 0xFFFFFFFF#32 ∧
  State.reset.get F.PLT_STATUS_STATE = 0 ∧ State.reset.get (F.QREC_W0_WEIGHT 0) = 512 ∧ State.reset.rd (A.QREC_W1 0) = 262144#32 ∧
  State.reset.rd (A.CK_CTRL 0) = 0#32

/-- No word of the opcode table spells a command, since no row gives bits: nothing decodes, and placing a word changes nothing. -/
def NoWordDecodesRules : Prop :=
  ∀ (nbits w : Nat) (s : State), decodeTableWord nbits w = none ∧ s.withFetchWord nbits w = s

/-- Every step takes one command from the queue and touches no other waiting one, and keeps the number of every unit that the spec counts. -/
def Obligations.StepKeepsQueueAndUnits : Prop :=
  StepKeepsQueueRules ∧ StepKeepsUnitsRules

/-- With nothing waiting the block idles for one TCLK period (log 2), and no word of the opcode table spells a command. -/
def Obligations.StepIdles : Prop :=
  IdleTickRules ∧ NoWordDecodesRules

/-! ### Resets, the start and the clocks (R427 to R430) -/

/-- What a package reset leaves (R428): the start at stage `g`; every register outside what R428 keeps at its reset value (`cause` has its own bit set in the
kept cause register, and PWR_CLK_STATUS keeps XO32K_OK); no key, no packet, no DRAM byte, DRAM_RESET_n low; the calendar clock, the fuses' profiles and the waiting commands as
they were. -/
def AfterPackageReset (s t : State) (g : StartStage) (cause : Fld) : Prop :=
  t.pwr.stage = g ∧ t.get cause = 1 ∧
  (∀ off, keptAtReset off = false → off ≠ cause.off → off ≠ A.PWR_CLK_STATUS → t.rd off = resetWord off) ∧
  t.get F.PWR_CLK_STATUS_XO32K_OK = s.get F.PWR_CLK_STATUS_XO32K_OK ∧
  t.sec.slots = [] ∧ t.mem.dram = [] ∧ t.mem.resetN = false ∧ t.path = State.reset.path ∧ t.que = State.reset.que ∧ t.eng = State.reset.eng ∧ t.dbg = State.reset.dbg ∧
  t.tim.calSec = s.tim.calSec ∧ t.tim.calSub = s.tim.calSub ∧ t.pending = s.pending

/-- R427, R428, R466: VIN rising through UVLO, VIN below it for 5 µs, RESET_N low for 1 µs or more: each resets the package and sets its cause bit. A pulse on
RESET_N below 0.2 µs does nothing (R466), and one between does the one or the other, which the spec leaves open. Where the spec leaves a point open it follows the model's choices of log 5, 27, 110. -/
def Obligations.PackageReset : Prop :=
  ∀ s : State,
    (s.pwr.stage = .unpowered → ∃ t, exec .powerOn s = .next t ∧ AfterPackageReset s t .begun F.PWR_RESET_CAUSE_POWER_ON) ∧
    (s.pwr.stage ≠ .unpowered → ∃ t, exec .uvlo s = .next t ∧ AfterPackageReset s t .unpowered F.PWR_RESET_CAUSE_UVLO) ∧
    (∀ ns, 1000 ≤ ns → s.pwr.stage ≠ .unpowered → s.pwr.stage ≠ .off →
      ∃ t, exec (.resetNLow ns) s = .next t ∧ AfterPackageReset s t .begun F.PWR_RESET_CAUSE_RESET_PIN) ∧
    (∀ ns, 200 ≤ ns → ns < 1000 → s.pwr.stage ≠ .unpowered → s.pwr.stage ≠ .off →
      ∃ t, exec (.resetNLow ns) s = .next t ∧ (t = { s with fresh := s.fresh + 1 } ∨ AfterPackageReset s t .begun F.PWR_RESET_CAUSE_RESET_PIN)) ∧
    (∀ ns, ns < 200 → exec (.resetNLow ns) s = .next s)

/-- R427, R429, R451, R453, R468: a start whose phases are good runs through to Plate loading once VDDIO is present, showing the locks it found and the fall-back that an unlocked ENG
or PKT PLL brings (R430), keeping the VDDIO setting it found (R453) and letting DRAM_RESET_n rise (R468); without VDDIO it holds at the end of step 2; with two phases of VCORE bad
it ends at step 1; with TMODE at any other level it does not start (R451). -/
def StartSequenceRules : Prop :=
  ∀ (s : State) (o : StartOutcome), s.pwr.stage = .begun → s.pwr.regulators = true →
    (o.testMode = false → o.badPhases = [] → s.pwr.vddio = true →
      ∃ t, exec (.startSequence o) s = .next t ∧ t.pwr.stage = .up ∧ t.pwr.vddio33 = some o.vddio33 ∧ t.mem.resetN = true ∧ t.get F.PWR_CLK_STATUS_ENG_LOCK = b2n o.engLock ∧
        t.get F.PWR_CLK_STATUS_PKT_LOCK = b2n o.pktLock ∧ t.get F.PWR_CLK_STATUS_SERDES_LOCK = b2n o.serdesLock ∧
        t.get F.PWR_CLK_STATUS_XO80_OK = b2n o.xo80 ∧ ((o.engLock = false ∨ o.pktLock = false) → t.get F.PWR_CLK_STATUS_FALLBACK = 1) ∧
        t.get F.QSC_BUF_TOTAL_CELLS = 27648 ∧ t.mem.dram = s.mem.dram ∧ t.sec.slots = s.sec.slots) ∧
    (o.testMode = false → o.badPhases = [] → s.pwr.vddio = false →
      ∃ t, exec (.startSequence o) s = .next t ∧ t.pwr.stage = .waitVddio ∧ t.pwr.outcome = some o ∧ t.sec.slots = s.sec.slots ∧ t.eng = s.eng ∧
        t.chn = s.chn ∧ t.tim = s.tim) ∧
    (o.testMode = true → exec (.startSequence o) s = .next { s with pwr := { s.pwr with stage := .testMode } }) ∧
    (o.testMode = false → o.badPhases = [(0, 0), (0, 1)] →
      ∃ t, exec (.startSequence o) s = .next t ∧ t.pwr.stage = .railHeld ∧ t.get F.PWR_PHASE_STATUS_RAIL = s.get F.PWR_PHASE_STATUS_RAIL ||| 1 ∧
        t.sec = s.sec ∧ t.eng = s.eng ∧ t.chn = s.chn ∧ t.tim = s.tim)

/-- R427: a start held for VDDIO goes on when it comes; otherwise its presence is only noted. -/
def VddioPresentRules : Prop :=
  ∀ s : State,
    (∀ o, s.pwr.stage = .waitVddio → s.pwr.outcome = some o →
      ∃ t, exec .vddioPresent s = .next t ∧ t.pwr.stage = .up ∧ t.pwr.vddio = true ∧ t.get F.PWR_CLK_STATUS_ENG_LOCK = b2n o.engLock ∧
        t.get F.QSC_BUF_TOTAL_CELLS = 27648) ∧
    (s.pwr.stage ≠ .waitVddio → exec .vddioPresent s = .next { s with pwr := { s.pwr with vddio := true } })

/-- R430: at the time limit of step 3 the device falls back where the ENG or PKT PLL has not locked, and else goes on as it is; in fall-back a retry shows the ENG and
PKT locks it achieves; SWITCH ends the fall-back when both are locked, and is else discarded and counted in PWR_CMD_REJECT. -/
def ClockFallBackRules : Prop :=
  ∀ s : State,
    (s.pwr.stage = .up → s.pllsLocked = false → exec .pllLockTimeout s = .next (s.put F.PWR_CLK_STATUS_FALLBACK 1)) ∧
    (s.pwr.stage = .up → s.pllsLocked = true → exec .pllLockTimeout s = .next s) ∧
    (s.pwr.stage = .up → s.isSet F.PWR_CLK_STATUS_FALLBACK = true →
      exec (.pllLockRetry true true false) s = .next ((s.put F.PWR_CLK_STATUS_ENG_LOCK 1).put F.PWR_CLK_STATUS_PKT_LOCK 1) ∧
      exec (.pllLockRetry false true false) s = .next (s.put F.PWR_CLK_STATUS_PKT_LOCK 1) ∧
      exec (.pllLockRetry true false false) s = .next (s.put F.PWR_CLK_STATUS_ENG_LOCK 1) ∧
      exec (.pllLockRetry false false false) s = .next s) ∧
    (∀ m v, s.gate m A.PWR_CLK_CTRL = .pass → getField v 0 1 = 1 →
      exec (.clockSwitch m v) s = .next (if s.pllsLocked then s.put F.PWR_CLK_STATUS_FALLBACK 0 else s.bump A.PWR_CMD_REJECT))

/-- R427, R429, R430: XO32K_OK shows the crystal stable; XO80 that begins running shows XO80_OK and lets TCLK resume; PERST_N rising lets the endpoint come up where
the SerDes PLL has locked. -/
def LateStartersRules : Prop :=
  ∀ s : State,
    (s.tim.tclkOn = true → exec .xo32kStable s = .next (s.put F.PWR_CLK_STATUS_XO32K_OK 1)) ∧
    (s.pwr.stage = .up → s.isSet F.PWR_CLK_STATUS_XO80_OK = false → s.tim.tclkOn = false →
      ∃ t, exec .xo80Running s = .next t ∧ t.get F.PWR_CLK_STATUS_XO80_OK = 1 ∧ t.chn.xo80 = true ∧ t.tim.tclkOn = true ∧ t.tim.carried = false ∧
        t.mem = s.mem ∧ t.sec = s.sec ∧ t.path = s.path ∧ t.eng = s.eng ∧ t.dbg = s.dbg) ∧
    (s.pwr.stage = .up → s.ballsTaken = false →
      exec .perstNRise s = .next { s with hst := { s.hst with perstLow := false, pcieUp := s.hst.pcieUp || s.isSet F.PWR_CLK_STATUS_SERDES_LOCK } })

/-- R427, R429, R430, R451, R453, R468: the steps of a start, VDDIO that comes and goes, what comes up later, and the fall-back of the clocks. Where the spec leaves a point open it follows the model's choices of log 31, 33. -/
def Obligations.DeviceStart : Prop :=
  StartSequenceRules ∧ VddioPresentRules ∧ LateStartersRules ∧ ClockFallBackRules

/-! ### Plate loading (R15, R22, R33, R35, R36, R38, R39, R353, R482, R483) -/

/-- R15, R35, R36, R38, R39, R482: the next block of a region under loading. A signature block whose CRC matches is taken, and the last one ends the reading; a block
whose CRC does not match fails the region with code 3 at its index, recorded unless an earlier failure is: region S gives way to Plate-wait, region A to a
proofed region S, with FALLBACK, or else to Plate-wait. Nothing under loading: the block is for nobody. -/
def PlateBlocksRules : Prop :=
  ∀ (s : State) (ld : Loader) (block : List Byte),
    (s.plt.loader = some ld → ld.phase = .reading → 0 < ld.blocks.length → ld.n ≤ ld.blocks.length + 2 → blockOk block = true →
      ∃ t, exec (.plateBlockRead block) s = .next t ∧ t.get F.PLT_STATUS_STATE = 1 ∧ t.get F.PLT_ERROR_CODE = s.get F.PLT_ERROR_CODE ∧
        t.plt.loader = some ⟨ld.region, ld.n, ld.blocks ++ [block], if ld.blocks.length + 1 = ld.n then .signature else .reading⟩) ∧
    (s.plt.loader = some ld → ld.phase = .reading → blockOk block = false → (ld.region ≠ 1 ∨ s.sProofed = false) →
      ∃ t, exec (.plateBlockRead block) s = .next t ∧ t.get F.PLT_STATUS_STATE = 5 ∧ t.get F.PLT_STATUS_SOURCE = 0 ∧ t.plt.loader = none ∧
        t.get F.PLT_ERROR_CODE = (if s.get F.PLT_ERROR_CODE = 0 then 3 else s.get F.PLT_ERROR_CODE) ∧
        (s.get F.PLT_ERROR_CODE = 0 → t.rd A.PLT_ERROR_DETAIL = BitVec.ofNat 32 ld.blocks.length)) ∧
    (s.plt.loader = some ld → ld.phase = .reading → blockOk block = false → ld.region = 1 → s.sProofed = true → blockCountOk s.bootRec.sBlocks = true →
      ∃ t, exec (.plateBlockRead block) s = .next t ∧ t.get F.PLT_STATUS_STATE = 0 ∧ t.get F.PLT_STATUS_SOURCE = 2 ∧
        t.get F.PLT_STATUS_FALLBACK = 1 ∧ t.plt.loader = some ⟨2, s.bootRec.sBlocks, [], .reading⟩) ∧
    (s.plt.loader = none → exec (.plateBlockRead block) s = .next s)

/-- R22, R36, R37, R483: with every block read, the signature's steps run. Where they and the Legend's check pass and every role finds an engine, the Plate is placed: STATE 3,
the tables of region `ld.n` wait for seeding, the Legend in force is the Plate's. Where step 4 fails on a region S, the device waits for a Plate
and the error shows. The signatures themselves are an opaque function of the model. -/
def PlateSignatureRules : Prop :=
  ∀ (s : State) (ld : Loader), s.plt.loader = some ld → ld.phase = .signature →
    ∃ t, exec .plateSignatureCheck s = .next t ∧
      (∀ f, ld.region = 2 → s.get F.PLT_ERROR_CODE = 0 → s.stepFour ld.blocks ld.n = some f →
        t.get F.PLT_STATUS_STATE = 5 ∧ t.plt.loader = none ∧ t.plt.legend = [] ∧ t.get F.PLT_ERROR_CODE = f.1 % 256) ∧
      (let c := contentOf ld.blocks (ld.n - 2)
       s.stepFour ld.blocks ld.n = none → s.stepFive c = none →
        (placeRoles (fun r => legAt (legendBytes c) (0x020 + 2 * (r - 1)) 2) ((List.range 12).map (· + 1)) s.blanks []).length = 12 →
        t.get F.PLT_STATUS_STATE = 3 ∧ t.plt.loader = some { ld with phase := .seeding } ∧ t.plt.legend = slice (legendBytes c) 0 512 ∧
          t.rd A.PLT_ACTIVE_VERSION = BitVec.ofNat 32 (leAt c 8 4))

/-- R353, R352: DRAM training ends: where a rate trained, TRAINED, the rate and the capacity of the devices found show; where none did, TRAINED is 0 and the capacity 0. The
image is cleared. -/
def DramTrainsRules : Prop :=
  ∀ (s : State) (ld : Loader) (l : List Byte) (d : DramFound), s.plt.loader = some ld → ld.legend = some l →
    ∃ t, exec (.dramTrained d) s = .next t ∧ t.mem.dram = [] ∧ t.mem.trained = some (legAt l 0x1F 1) ∧
      t.get F.DRC_STATUS_TRAINED = b2n d.ok ∧ t.get F.DRC_STATUS_RATE = min d.rate (legAt l 0x1F 1) % 4 ∧
      t.get F.DRC_CONFIG_CAPACITY_MIB = (if d.ok then dramCapacity d.x16 d.g16 else 0) ∧
      t.get F.DRC_CONFIG_ORDER = legAt l 0x1E 1 % 4 ∧
      t.plt = s.plt ∧ t.eng = s.eng ∧ t.path = s.path ∧ (∀ off, off ≠ A.DRC_STATUS → off ≠ A.DRC_CONFIG → t.rd off = s.rd off)

/-- R33, R36, R43, R44: a Plate without SEED sections whose Legend fits the trained DRAM enters service: STATE 4, nothing under loading; one whose Legend asks for more DRAM than
there is fails with the code of the check, and a region S gives way to Plate-wait. Before the training has ended the loader waits. -/
def SeedsApplyRules : Prop :=
  ∀ (s : State) (ld : Loader),
    (s.plt.loader = some ld → ld.phase = .seeding → s.mem.trained = some (s.leg 0x01F 1) → s.plt.seeds = [] →
      dramCheck s.plt.legend (s.get F.DRC_CONFIG_CAPACITY_MIB) = none →
      ∃ t, exec .seedApply s = .next t ∧ t.get F.PLT_STATUS_STATE = 4 ∧ t.inService = true ∧ t.plt.loader = none ∧ t.plt.seeds = [] ∧
        t.plt.legend = s.plt.legend ∧ t.mem = s.mem ∧ t.path = s.path ∧ t.que = s.que ∧ t.upd.copying = (s.upd.copying || s.plt.fromS)) ∧
    (∀ f, s.plt.loader = some ld → ld.phase = .seeding → s.mem.trained = some (s.leg 0x01F 1) → ld.region = 2 → s.get F.PLT_ERROR_CODE = 0 →
      dramCheck s.plt.legend (s.get F.DRC_CONFIG_CAPACITY_MIB) = some f →
      ∃ t, exec .seedApply s = .next t ∧ t.get F.PLT_STATUS_STATE = 5 ∧ t.plt.loader = none ∧ t.plt.legend = [] ∧ t.get F.PLT_ERROR_CODE = f.1 % 256) ∧
    (s.plt.loader = some ld → s.mem.trained = none → exec .seedApply s = .next s)

/-- R15, R22, R35, R36, R37, R38, R39, R482, R483: the blocks of a Plate and the check of its signature. Where the spec leaves a point open it follows the model's choices of log 10, 43, 45, 111. -/
def Obligations.PlateLoading : Prop :=
  PlateBlocksRules ∧ PlateSignatureRules

/-- R33, R36, R43, R44, R352, R353: the training of DDR5 and the seeds of the Plate. Where the spec leaves a point open it follows the model's choices of log 45, 46. -/
def Obligations.DramAndSeeds : Prop :=
  DramTrainsRules ∧ SeedsApplyRules

/-! ### Tokens and engine clocks (R45 to R60) -/

/-- R54, R56: a token offered to a role that is not shed: it joins the end of the input queue, PEAK following; at a full queue it waits, and the producer's first period of stall
counts (R77), or on a stopped role is lost and counted (R67); a timer's token joins the youngest waiting one of the same timer. -/
def TokenOffersRules : Prop :=
  ∀ (s : State) (r : Fin 12) (t : TokenIn), s.shapeOk = true → (isPkt (r + 1) = false ∨ s.isSet (F.ENG_ROLE_AT_SHED r) = false) →
    (t.timer = none → (s.role (r + 1)).queue.length < 4096 →
      ∃ u, exec (.tokenEnqueue r t) s = .next u ∧
        (u.role (r + 1)).queue = (s.role (r + 1)).queue ++ [⟨none, t.source % 68, t.hash, none, 0, t.body, none, false⟩] ∧
        (u.role (r + 1)).nextSeq = (s.role (r + 1)).nextSeq ∧ (u.role (r + 1)).ledger = (s.role (r + 1)).ledger ∧
        u.get (F.ENG_QUEUE_PEAK_PEAK r) = max (s.get (F.ENG_QUEUE_PEAK_PEAK r)) ((s.role (r + 1)).queue.length + 1) ∧
        (∀ c, 1 ≤ c → c ≠ r + 1 → u.role c = s.role c) ∧ (∀ off, off ≠ A.ENG_QUEUE_PEAK r → u.rd off = s.rd off)) ∧
    (t.timer = none → 4096 ≤ (s.role (r + 1)).queue.length → (s.role (r + 1)).stopped = false → (s.role (r + 1)).stall = none →
      exec (.tokenEnqueue r t) s = .next ((s.roleMod (r + 1) (fun x => { x with stall := some 0 })).bump (A.ENG_QUEUE_STALL r))) ∧
    (t.timer = none → 4096 ≤ (s.role (r + 1)).queue.length → (s.role (r + 1)).stopped = false → (s.role (r + 1)).stall ≠ none →
      exec (.tokenEnqueue r t) s = .next s) ∧
    (t.timer = none → 4096 ≤ (s.role (r + 1)).queue.length → (s.role (r + 1)).stopped = true →
      exec (.tokenEnqueue r t) s = .next (s.bump (A.ENG_QUEUE_STALL r))) ∧
    (∀ k i, t.timer = some k → (s.role (r + 1)).queue[i]?.any (fun x => x.seq.isNone && x.timer == some k) = true →
      ((s.role (r + 1)).queue.drop (i + 1)).any (fun x => x.seq.isNone && x.timer == some k) = false →
      ∃ u, exec (.tokenEnqueue r t) s = .next u ∧ u.regs = s.regs ∧
        (u.role (r + 1)).queue = (s.role (r + 1)).queue.modify i (fun x => { x with rep := min (x.rep + 1) 255 }) ∧
        (∀ c, 1 ≤ c → c ≠ r + 1 → u.role c = s.role c))

/-- R45, R47: an engine whose role has a token to issue and fewer than 16 in flight issues the first, under the role's next sequence number; with none waiting, or 16 in flight,
it issues nothing. -/
def TokenIssuesRules : Prop :=
  ∀ (s : State) (e : Fin 14), s.shapeOk = true → s.estate e = eServing → 1 ≤ s.erole e → s.erole e ≤ 12 →
    (∀ t, s.isSet (F.ENG_STATUS_IDLE e) = false → (s.inFlight (s.erole e)).length < 16 → s.roleAt (s.erole e) = e → s.pwr.idle = false →
      s.stopping 10 = false → s.dbg.halted = none → s.nextToken (s.erole e) = some t →
      ∃ u, exec (.tokenIssue e) s = .next u ∧ (u.role (s.erole e)).queue = numberToken t (s.role (s.erole e)).nextSeq (s.role (s.erole e)).queue ∧
        (u.role (s.erole e)).nextSeq = ((s.role (s.erole e)).nextSeq + 1) % 2 ^ 32 ∧ (u.role (s.erole e)).ledger = (s.role (s.erole e)).ledger ∧
        (∀ c, 1 ≤ c → c ≠ s.erole e → u.role c = s.role c) ∧ u.regs = s.regs ∧ u.dbg = s.dbg) ∧
    (s.nextToken (s.erole e) = none → exec (.tokenIssue e) s = .next s) ∧
    (16 ≤ (s.inFlight (s.erole e)).length → exec (.tokenIssue e) s = .next s)

/-- R49, R412: an engine with nothing to do, a blank among them, stops its clock; a token waiting at a serving engine whose clock stands starts it again and leaves Idle;
the device is in Idle once every engine's clock stands. -/
def EngineClocksRules : Prop :=
  ∀ (s : State) (e : Fin 14),
    ((s.estate e = eBlank ∨ (s.estate e = eServing ∧ (s.role (s.erole e)).queue = [])) → exec (.engineClockStop e) s = .next (s.put (F.ENG_STATUS_IDLE e) 1)) ∧
    (s.estate e = eServing → (s.role (s.erole e)).queue ≠ [] → exec (.engineClockStop e) s = .next s) ∧
    (s.estate e = eServing → s.isSet (F.ENG_STATUS_IDLE e) = true → (s.role (s.erole e)).queue ≠ [] →
      ∃ u, exec (.engineWake e) s = .next u ∧ u.isSet (F.ENG_STATUS_IDLE e) = false ∧ u.pwr.idle = false ∧ u.estate e = eServing ∧
        (∀ off, off ≠ A.ENG_STATUS e → u.rd off = s.rd off)) ∧
    (s.isSet (F.ENG_STATUS_IDLE e) = false → exec (.engineWake e) s = .next s) ∧
    ((List.range 14).all (fun k => s.estate k == eFenced || s.isSet (F.ENG_STATUS_IDLE k)) = true →
      exec .idleEnter s = .next { s with pwr := { s.pwr with idle := true } }) ∧
    (s.estate e = eServing → s.isSet (F.ENG_STATUS_IDLE e) = false → exec .idleEnter s = .next s)

/-- R48, R57, R60: the oldest token in flight retires: its scratchpad writes reach the engine and, with counterproof, the ledger; its queue entry is released; its effects leave
in their order; without counterproof there is no ledger. With no token in flight nothing retires. No register changes. Where the spec leaves a point open it follows the model's choices of log 42. -/
def Obligations.TokenCommits : Prop :=
  ∀ (s : State) (e : Fin 14) (ws : List (Nat × BitVec 512)) (fx : List (List Byte)),
    s.shapeOk = true → s.estate e = eServing → 1 ≤ s.erole e → s.erole e ≤ 12 → ws.length ≤ 32 →
    (∀ t l, s.inFlight (s.erole e) = t :: l →
      ∃ u, exec (.tokenRetire e ws fx) s = .next u ∧ (u.engine e).sp = spApply (s.engine e).sp ws ∧
        (u.role (s.erole e)).ledger = (if s.counterproof then spApply (s.role (s.erole e)).ledger ws else (s.role (s.erole e)).ledger) ∧
        (u.role (s.erole e)).queue = (s.role (s.erole e)).queue.filter (fun x => x.seq != t.seq) ∧
        (u.role (s.erole e)).counter = (s.role (s.erole e)).counter + 1 ∧
        u.out = (fx.map (fun b => Out.effect (s.erole e) b)).reverse ++ s.out ∧ u.regs = s.regs ∧
        (∀ k, k ≠ e.val → u.engine k = s.engine k) ∧ (∀ c, 1 ≤ c → c ≠ s.erole e → u.role c = s.role c)) ∧
    (s.inFlight (s.erole e) = [] → exec (.tokenRetire e ws fx) s = .next s)

/-! ### Engine faults, take-overs and self-tests (R57, R61 to R66, R74, R345) -/

/-- The least that an engine fault finds: engine `e` serves role `c`, no move runs or waits, no re-cut is live, the part is in Run, and a blank is there. -/
abbrev QuietServing (s : State) (e : Fin 14) (c : Nat) : Prop :=
  s.shapeOk = true ∧ s.estate e = eServing ∧ s.erole e = c ∧ 1 ≤ c ∧ c ≤ 12 ∧ s.eng.running = none ∧ s.eng.waiting = [] ∧ s.recutLive = false ∧
    s.pwrState = 0 ∧ s.pwr.stage = .up ∧ s.dbg.halted = none ∧ s.blanks ≠ []

/-- R61, R62, R64, R66: what the fault of cause `k` on an engine serving role `c` begins: the engine is fenced with its cause, role `c` moves to the blank that its
preference names, its uncommitted tokens wait to be issued again, and the fault is recorded. -/
def TakeOverBegins (s u : State) (e : Fin 14) (c k : Nat) : Prop :=
  u.get (F.ENG_STATUS_FENCE_CAUSE e) = k ∧ u.estate e = eFenced ∧ u.get (F.ENG_ROLE_AT_MOVING (c - 1)) = 1 ∧
    (∃ b, preferred (s.rolePref c) s.blanks = some b ∧ u.estate b = eLoading ∧ u.erole b = c ∧
      u.eng.running = some (⟨c, .takeover, e, k, s.tim.now⟩, b)) ∧
    (u.role c).queue = (s.role c).queue.map (fun x => { x with seq := none, again := x.again || x.seq.isSome }) ∧ (u.role c).ledger = (s.role c).ledger ∧
    u.isSet F.GLB_FLT_STATUS_PRESENT = true ∧ u.rd A.GLB_FLT_PRESENT_LOC = u.rd A.ENG_LAST_TAKEOVER_LOC

/-- R61 to R66, R346: each check of an engine that serves a role fences it with the cause of R61 and begins the role's take-over; a watchdog does with a token in flight, and else not; a
fault of a fenced engine changes nothing. -/
def EngineFaultsRules : Prop :=
  ∀ (s : State) (e : Fin 14) (c : Nat), QuietServing s e c →
    (∀ n w, ∃ u, exec (.engineCheckFail e (.scratchpad n w)) s = .next u ∧ TakeOverBegins s u e c 1) ∧
    (∀ n, ∃ u, exec (.engineCheckFail e (.stageTable n)) s = .next u ∧ TakeOverBegins s u e c 2) ∧
    (∀ n, ∃ u, exec (.engineCheckFail e (.residue n)) s = .next u ∧ TakeOverBegins s u e c 3) ∧
    (∃ u, exec (.engineCheckFail e .clock) s = .next u ∧ TakeOverBegins s u e c 5) ∧
    (s.inFlight c ≠ [] → ∃ u, exec (.engineWatchdog e) s = .next u ∧ TakeOverBegins s u e c 4) ∧
    (s.inFlight c = [] → exec (.engineWatchdog e) s = .next s)

/-- R57, R345, R346: the compare writer finds a line as the ledger has it and does nothing, or finds another value and the engine is fenced with cause 7; a correctable error of the
line or of the ledger's line is counted and the line written back; an uncorrectable one of a line that the ledger has is counted and repaired from it, the engine serving on. A line with
an uncommitted write of a token in flight buffered is left alone. -/
def LedgerComparesRules : Prop :=
  ∀ (s : State) (e : Fin 14) (c : Nat) (line : Fin 16384) (v : BitVec 512) (b : Bool), QuietServing s e c → s.counterproof = true →
    (s.role c).badLines.contains line.val = false →
    (s.inFlight c ≠ [] → exec (.ledgerCompare e line (.clean v) ⟨true, false⟩) s = .next s) ∧
    ((b = false ∨ s.inFlight c = []) →
      (v = spLine (s.role c).ledger line → exec (.ledgerCompare e line (.clean v) ⟨b, false⟩) s = .next s) ∧
      (v = spLine (s.role c).ledger line → ∃ u, exec (.ledgerCompare e line (.clean v) ⟨b, true⟩) s = .next u ∧
        (u.rd A.ENG_MEM_CE_LDG).toNat = min ((s.rd A.ENG_MEM_CE_LDG).toNat + 1) 0xFFFFFFFF ∧
        u.rd A.ENG_MEM_LAST_CE_LOC = s.loc .eng 15 (16 * (c - 1) + line / 1024) ∧ u.eng = s.eng ∧
        (∀ off, off ≠ A.ENG_MEM_CE_LDG → off ≠ A.ENG_MEM_LAST_CE_LOC → u.rd off = s.rd off)) ∧
      (v ≠ spLine (s.role c).ledger line → ∃ u, exec (.ledgerCompare e line (.clean v) ⟨b, false⟩) s = .next u ∧ TakeOverBegins s u e c 7) ∧
      (v = spLine (s.role c).ledger line → ∃ u, exec (.ledgerCompare e line (.corrected v) ⟨b, false⟩) s = .next u ∧
        (u.rd A.ENG_MEM_CE_SP).toNat = min ((s.rd A.ENG_MEM_CE_SP).toNat + 1) 0xFFFFFFFF ∧ u.rd A.ENG_MEM_LAST_CE_LOC = s.engLoc e (line / 1024) ∧
        spLine (u.engine e).sp line = v ∧ u.estate e = eServing ∧
        (∀ off, off ≠ A.ENG_MEM_CE_SP → off ≠ A.ENG_MEM_LAST_CE_LOC → u.rd off = s.rd off)) ∧
      (∃ u, exec (.ledgerCompare e line .uncorrectable ⟨b, false⟩) s = .next u ∧
        (u.rd A.ENG_MEM_UE_SP).toNat = min ((s.rd A.ENG_MEM_UE_SP).toNat + 1) 0xFFFFFFFF ∧ u.rd A.ENG_MEM_LAST_UE_LOC = s.engLoc e (line / 1024) ∧
        spLine (u.engine e).sp line = spLine (s.role c).ledger line ∧ u.estate e = eServing ∧ u.eng.running = none))

/-- R60, R64, R65, R346: the take-over of a role ends: its new engine serves it with the ledger's state, its queue and its numbers; without counterproof it starts from zeroed
scratchpads and STATE_LOST shows. The take-over is counted. With none running nothing happens. -/
def TakeOverEndsRules : Prop :=
  ∀ (s : State) (t : TakeOver) (e : Fin 14), s.shapeOk = true →
    (s.eng.running = some (t, e.val) → t.kind = .takeover → 1 ≤ t.role → t.role ≤ 12 → t.old ≠ e → s.eng.waiting = [] → s.eng.degraded = false →
      (s.role t.role).badLines = [] → s.pageBad t.role = false →
      ∃ u, exec .takeoverLoadDone s = .next u ∧ u.estate e = eServing ∧ u.erole e = t.role ∧ u.roleAt t.role = e ∧
        u.get (F.ENG_ROLE_AT_MOVING (t.role - 1)) = 0 ∧ u.eng.running = none ∧
        (u.engine e).sp = (if s.counterproof then (s.role t.role).ledger else []) ∧
        (u.role t.role).queue = (s.role t.role).queue ∧ (u.role t.role).nextSeq = (s.role t.role).nextSeq ∧
        u.get F.ENG_LAST_TAKEOVER_ROLE = t.role ∧ u.get F.ENG_LAST_TAKEOVER_STATE_LOST = b2n (!s.counterproof) ∧
        (u.rd A.ENG_TAKEOVER_COUNT).toNat = min ((s.rd A.ENG_TAKEOVER_COUNT).toNat + 1) 0xFFFFFFFF) ∧
    (s.eng.running = none → exec .takeoverLoadDone s = .next s)

/-- R74: a host's write of ENG_REINSTATE asks for the self-test of a fenced engine, and is ignored for any other; an engine whose test is asked for enters it; one that passes is a blank
with cleared scratchpads, one that fails is fenced again with cause 6 at the failing unit, or at the unit of a fault that struck during it. -/
def EngineSelfTestsRules : Prop :=
  ∀ (s : State) (e : Fin 14) (m : Master) (v : Word), s.shapeOk = true →
    (s.gate m A.ENG_REINSTATE = .pass → getField v 0 4 = e → s.estate e = eFenced →
      exec (.engReinstate m v) s = .next (s.engMod e (fun x => { x with testAsked := true }))) ∧
    (s.gate m A.ENG_REINSTATE = .pass → getField v 0 4 = e → s.estate e ≠ eFenced → exec (.engReinstate m v) s = .next s) ∧
    (s.estate e = eFenced → (s.engine e).testAsked = true →
      ∃ u, exec (.engineSelftestStart e) s = .next u ∧ u.estate e = eTest ∧ u.erole e = 0 ∧ (u.engine e).testAsked = false ∧
        u.eng.roles = s.eng.roles ∧ (∀ k : Fin 14, k ≠ e → u.estate k = s.estate k)) ∧
    (s.estate e ≠ eFenced → exec (.engineSelftestStart e) s = .next s) ∧
    (∀ n, s.estate e = eTest →
      ∃ u, exec (.engineSelftestEnd e (some n)) s = .next u ∧ u.estate e = eFenced ∧ u.get (F.ENG_STATUS_FENCE_CAUSE e) = 6 ∧
        u.rd A.ENG_LAST_TAKEOVER_LOC = s.engLoc e n ∧ u.eng.roles = s.eng.roles) ∧
    (∀ n, s.estate e = eTest → (s.engine e).testFailed = some n →
      ∃ u, exec (.engineSelftestEnd e none) s = .next u ∧ u.estate e = eFenced ∧ u.get (F.ENG_STATUS_FENCE_CAUSE e) = 6 ∧
        u.rd A.ENG_LAST_TAKEOVER_LOC = s.engLoc e n ∧ u.eng.roles = s.eng.roles) ∧
    (s.estate e = eTest → (s.engine e).testFailed = none →
      (∀ c ∈ [5, 6, 7, 8], s.isSet (F.ENG_ROLE_AT_SHED (c - 1)) = false ∧ (s.role c).stopped = false) →
      ∃ u, exec (.engineSelftestEnd e none) s = .next u ∧ u.estate e = eBlank ∧ u.erole e = 0 ∧ (u.engine e).sp = [] ∧ e.val ∈ u.blanks ∧
        u.eng.roles = s.eng.roles ∧ u.eng.running = s.eng.running)

/-! ### The re-cut (R69 to R73, R76) -/

/-- R71, R72: a re-cut's move. Step 1 pauses with cause 3 where the section of region S is not good, and else a blank loads the incoming body (the hashes and signatures
are opaque functions of the model); steps 2 and 3 end; the cut hands the role to its working blank, with the ledger's image, and the old engine clears; the last step makes the old engine a
blank and begins the next move, or completes the re-cut (PHASE 3, COPY_PENDING). -/
def RecutMovesRules : Prop :=
  ∀ (s : State) (r : Recut) (c : Nat) (l : List Nat), s.shapeOk = true → s.eng.recut = some r → s.get F.ENG_RECUT_STATUS_PHASE = 1 →
    (r.step = 1 → r.todo = c :: l → 1 ≤ c → c ≤ 12 →
      ∃ u, exec .recutMoveRead s = .next u ∧
        (s.sectionSGood c = false → u.get F.ENG_RECUT_STATUS_PHASE = 2 ∧ u.get F.ENG_RECUT_STATUS_PAUSE_CAUSE = 3 ∧
          u.eng.recut.map (fun x => x.step) = some 0) ∧
        (∀ e : Fin 14, s.sectionSGood c = true → s.roleAt c < 14 → r.pauseAsked = false → (2 ≤ s.blanks.length ∨ s.isSet F.ENG_RECUT_CTRL_ALLOW_SINGLE_BLANK = true) →
            s.workingBlank c = some e.val →
          u.eng.recut.map (fun x => (x.step, x.blank, x.old)) = some (2, e.val, s.roleAt c) ∧ u.estate e = eLoading ∧ u.erole e = c)) ∧
    (r.step = 2 → s.pageBad (r.todo.headD 0) = false → exec .recutLoad s = .next { s with eng := { s.eng with recut := some { r with step := 4 } } }) ∧
    (∀ rets, r.step = 4 → r.todo = c :: l → 1 ≤ c → c ≤ 12 → r.blank < 14 → r.old < 14 → r.blank ≠ r.old → s.inFlight c = [] → s.counterproof = true →
      r.pauseAsked = false → r.abandonAsked = false → s.eng.clearing = none → r.moved.length < 12 →
      ∃ u, exec (.recutCut rets) s = .next u ∧ u.roleAt c = r.blank ∧ u.estate r.blank = eServing ∧ u.erole r.blank = c ∧ u.estate r.old = eLoading ∧
        u.get (F.ENG_ROLE_AT_MOVING (c - 1)) = 0 ∧ (u.engine r.blank).sp = (s.role c).ledger ∧ (u.role c).queue = (s.role c).queue ∧
        u.get F.ENG_RECUT_STATUS_MOVED = r.moved.length + 1 ∧ u.eng.clearing = some r.old ∧ u.eng.recut.map (fun x => (x.step, x.todo)) = some (5, l)) ∧
    (∀ e, r.step = 5 → s.eng.clearing = some e → r.pauseAsked = false → e < 14 → r.todo = [] →
      (∀ c ∈ [5, 6, 7, 8], s.isSet (F.ENG_ROLE_AT_SHED (c - 1)) = false ∧ (s.role c).stopped = false) →
      ∃ u, exec .recutClearDone s = .next u ∧ u.estate e = eBlank ∧ (u.engine e).sp = [] ∧ u.get F.ENG_RECUT_STATUS_PHASE = 3 ∧
        u.get F.PLT_STAGE_COPY_PENDING = 1) ∧
    (∀ e, r.step = 5 → s.eng.clearing = some e → r.pauseAsked = false → e < 14 → r.todo = c :: l → 1 ≤ c → c ≤ 12 →
      (∀ c ∈ [5, 6, 7, 8], s.isSet (F.ENG_ROLE_AT_SHED (c - 1)) = false ∧ (s.role c).stopped = false) →
      ∃ u, exec .recutClearDone s = .next u ∧ u.estate e = eBlank ∧ u.get F.ENG_RECUT_STATUS_PHASE = 1 ∧ u.get F.ENG_RECUT_STATUS_ROLE = c ∧
        u.eng.recut.map (fun x => x.step) = some 1)

/-- R68, R76: the command bits of ENG_RECUT_CTRL. PAUSE between moves and in step 5 pauses at once with cause 0 and is else remembered; RESUME without a blank is refused with NO_SPARE and
stays paused, and with two begins the next move; ABANDON between moves and in step 5 ends the re-cut, and past step 3 waits for the cut. -/
def RecutCommandsRules : Prop :=
  ∀ (s : State) (r : Recut) (m : Master) (v : Word), s.shapeOk = true → s.gate m A.ENG_RECUT_CTRL = .pass → s.eng.recut = some r →
    (v.toNat % 8 = 1 → s.get F.ENG_RECUT_STATUS_PHASE = 1 → r.abandonAsked = false → (r.step = 0 ∨ r.step = 5) →
      ∃ u, exec (.recutPause m v) s = .next u ∧ u.get F.ENG_RECUT_STATUS_PHASE = 2 ∧ u.get F.ENG_RECUT_STATUS_PAUSE_CAUSE = 0 ∧
        u.get F.ENG_RECUT_CTRL_ALLOW_SINGLE_BLANK = getField v 3 1 ∧ u.eng = { s.eng with recut := some { r with pauseAsked := false } }) ∧
    (v.toNat % 8 = 1 → s.get F.ENG_RECUT_STATUS_PHASE = 1 → 1 ≤ r.step → r.step ≤ 4 →
      ∃ u, exec (.recutPause m v) s = .next u ∧ u.get F.ENG_RECUT_STATUS_PHASE = 1 ∧ u.eng = { s.eng with recut := some { r with pauseAsked := true } }) ∧
    (v.toNat % 8 = 2 → s.get F.ENG_RECUT_STATUS_PHASE = 2 → s.blanks = [] →
      ∃ u, exec (.recutResume m v) s = .next u ∧ u.get F.ENG_RECUT_STATUS_PHASE = 2 ∧ u.get F.ENG_RECUT_STATUS_REFUSAL = 1 ∧ u.eng = s.eng) ∧
    (∀ c l, v.toNat % 8 = 2 → s.get F.ENG_RECUT_STATUS_PHASE = 2 → 2 ≤ s.blanks.length → r.step = 0 → r.pauseAsked = false → r.todo = c :: l → 1 ≤ c → c ≤ 12 →
      ∃ u, exec (.recutResume m v) s = .next u ∧ u.get F.ENG_RECUT_STATUS_PHASE = 1 ∧ u.get F.ENG_RECUT_STATUS_ROLE = c ∧
        u.eng.recut.map (fun x => x.step) = some 1) ∧
    (v.toNat / 4 % 2 = 1 → s.recutLive = true → (r.step = 0 ∨ r.step = 5) →
      ∃ u, exec (.recutAbandon m v) s = .next u ∧ u.get F.ENG_RECUT_STATUS_PHASE = 4 ∧ u.eng = s.eng) ∧
    (v.toNat / 4 % 2 = 1 → s.recutLive = true → r.step = 4 →
      ∃ u, exec (.recutAbandon m v) s = .next u ∧ u.get F.ENG_RECUT_STATUS_PHASE = s.get F.ENG_RECUT_STATUS_PHASE ∧
        u.eng = { s.eng with recut := some { r with abandonAsked := true } })

/-- R45, R47, R49, R54, R56, R412: a token is offered and issued, and engines idle and wake. Where the spec leaves a point open it follows the model's choices of log 36. -/
def Obligations.TokensAndClocks : Prop :=
  TokenOffersRules ∧ TokenIssuesRules ∧ EngineClocksRules

/-- R57, R61, R62, R63, R64, R65, R66, R345, R346: the faults of engines, found by their checks and by the comparison with the ledger. Where the spec leaves a point open it follows the model's choices of log 13. -/
def Obligations.EngineFaultsFound : Prop :=
  EngineFaultsRules ∧ LedgerComparesRules

/-- R60, R64, R65, R74, R346: how a take-over ends, and the self-tests of engines. Where the spec leaves a point open it follows the model's choices of log 38. -/
def Obligations.TakeOvers : Prop :=
  TakeOverEndsRules ∧ EngineSelfTestsRules

/-- R68, R71, R72, R76: the moves of a re-cut, and the commands that pause, resume and abandon it. Where the spec leaves a point open it follows the model's choices of log 10, 37, 38, 42. -/
def Obligations.Recuts : Prop :=
  RecutMovesRules ∧ RecutCommandsRules

/-! ### Synthesisers, chains, radios (R79 to R103) -/

/-- R80, R81, R82, R84, R85, R444: a synthesiser that fails is fenced with its cause; the spare starts to take over its radio, which waits in Standby, and serves it at its nominal frequency once it has locked; a spare that fails meanwhile stops the radio;
without a spare the radio stops and the fault is done; the Traverse synthesiser's work goes to the spare from the next slot, the slot in progress being lost. A fenced
synthesiser may be tested: one that passes is the spare, holding every radio's band code, one that fails stays fenced with cause 3. -/
def SynthesisersRules : Prop :=
  ∀ (s : State) (k : Fin 5) (n sp : Nat) (freq : Bool), s.shapeOk = true → s.pwr.stage = .up →
    (k ≠ 4 → n < 3 → s.isSet (F.CHN_SYNTH_STATUS_FENCED k) = false → s.get (F.CHN_SYNTH_STATUS_SERVES k) = n → s.chn.subst = none → s.spareSynth = some sp →
      rSynthOn ≤ s.rstate n → ∃ u, exec (.synthFault k freq) s = .next u ∧ u.isSet (F.CHN_SYNTH_STATUS_FENCED k) = true ∧
        u.get (F.CHN_SYNTH_STATUS_FENCE_CAUSE k) = (if freq then 2 else 1) ∧ u.isSet (F.CHN_SYNTH_STATUS_LOCKED k) = false ∧ u.rstate n = rStandby ∧
        u.chn.subst = some (sp, n, k.val) ∧ u.isSet F.GLB_FLT_STATUS_PRESENT = true ∧ u.rd A.GLB_FLT_PRESENT_LOC = s.synthLoc k ∧
        u.rd A.CHN_LAST_FAULT_LOC = s.synthLoc k) ∧
    (k ≠ 4 → n < 3 → s.isSet (F.CHN_SYNTH_STATUS_FENCED k) = false → s.get (F.CHN_SYNTH_STATUS_SERVES k) = n → s.chn.subst = none → s.spareSynth = none →
      ∃ u, exec (.synthFault k freq) s = .next u ∧ u.isSet (F.CHN_SYNTH_STATUS_FENCED k) = true ∧ u.rstate n = rOff ∧ (u.rad n).stopped = true ∧
        (u.rad n).tx = none ∧ u.isSet F.GLB_FLT_STATUS_PRESENT = false ∧ u.rd A.GLB_FLT_LAST_LOC = s.synthLoc k ∧ u.isSet F.GLB_FLT_LAST_INFO_DONE = true) ∧
    (k ≠ 4 → s.isSet (F.CHN_SYNTH_STATUS_FENCED k) = true → exec (.synthFault k freq) s = .next s) ∧
    (s.chn.trvFenced = false → s.chn.trvBy = none → s.chn.trvNext = none → s.spareSynth = some sp →
      ∃ u, exec (.synthFault 4 freq) s = .next u ∧ u.chn.trvFenced = true ∧ u.chn.trvCause = (if freq then 2 else 1) ∧ u.chn.trvDown = true ∧
        u.chn.trvNext = some sp ∧ u.trv.slotLost = true ∧ (u.rd A.TRV_SLOT_LOST).toNat = min ((s.rd A.TRV_SLOT_LOST).toNat + 1) 0xFFFFFFFF ∧
        u.rd A.GLB_FLT_PRESENT_LOC = s.synthLoc 4) ∧
    (k ≠ 4 → s.isSet (F.CHN_SYNTH_STATUS_FENCED k) = false → n < 3 → s.chn.subst = some (k.val, n, sp) →
      ∃ u, exec (.synthFault k freq) s = .next u ∧ u.isSet (F.CHN_SYNTH_STATUS_FENCED k) = true ∧ u.chn.subst = none ∧ u.rstate n = rOff ∧ (u.rad n).stopped = true ∧
        u.rd A.GLB_FLT_LAST_LOC = s.synthLoc k ∧ u.isSet F.GLB_FLT_LAST_INFO_DONE = true) ∧
    (∀ us, sp < 4 → n < 3 → s.chn.subst = some (sp, n, k.val) → (s.rstate n = rOff ∨ s.rstate n = rSleep) →
      ∃ u, exec (.synthSpareLocked us) s = .next u ∧ u.get (F.CHN_SYNTH_STATUS_SERVES sp) = n ∧ u.isSet (F.CHN_SYNTH_STATUS_LOCKED sp) = false ∧
        u.rstate n = s.rstate n ∧ u.chn.subst = none) ∧
    (∀ us, sp < 4 → n < 3 → s.chn.subst = some (sp, n, k.val) → s.rstate n ≠ rOff → s.rstate n ≠ rSleep →
      ∃ u, exec (.synthSpareLocked us) s = .next u ∧ u.get (F.CHN_SYNTH_STATUS_SERVES sp) = n ∧ u.isSet (F.CHN_SYNTH_STATUS_LOCKED sp) = true ∧
        u.rstate n = rSynthOn ∧ (u.rad n).adjust = 0 ∧ u.chn.subst = none ∧
        (u.rd A.CHN_SYNTH_SWITCH_COUNT).toNat = min ((s.rd A.CHN_SYNTH_SWITCH_COUNT).toNat + 1) 0xFFFFFFFF) ∧
    (s.synthFenced k = true → s.chn.testing.contains k.val = false →
      exec (.synthSelftestStart k) s = .next { s with chn := { s.chn with testing := k.val :: s.chn.testing } }) ∧
    (s.synthFenced k = false → exec (.synthSelftestStart k) s = .next s) ∧
    (k ≠ 4 → s.chn.testing.contains k.val = true →
      ∃ u, exec (.synthSelftestEnd k true) s = .next u ∧ u.isSet (F.CHN_SYNTH_STATUS_FENCED k) = false ∧ u.get (F.CHN_SYNTH_STATUS_SERVES k) = 4 ∧
        u.chn.testing = s.chn.testing.filter (· != k.val) ∧ (∀ m ch, m < 3 → (s.rad m).chan = some ch → (m, ch) ∈ u.chn.bandCodes)) ∧
    (k ≠ 4 → s.chn.testing.contains k.val = true →
      ∃ u, exec (.synthSelftestEnd k false) s = .next u ∧ u.get (F.CHN_SYNTH_STATUS_FENCE_CAUSE k) = 3 ∧
        u.isSet (F.CHN_SYNTH_STATUS_FENCED k) = s.isSet (F.CHN_SYNTH_STATUS_FENCED k) ∧ u.chn.testing = s.chn.testing.filter (· != k.val)) ∧
    (s.chn.testing.contains 4 = true →
      ∃ u, exec (.synthSelftestEnd 4 true) s = .next u ∧ u.chn.trvFenced = false ∧ u.chn.trvBack = true)

/-- R86 to R89: a chain's check fails: the chain is fenced with its cause and its lines drop; its radio goes on with the chains left, or stops with its last. A fenced chain that
the host reinstates is tested in a CAL run, or when its time has come; one that passes rejoins later, one that fails stays fenced with cause 6. -/
def ChainFaultsRules : Prop :=
  ∀ (s : State) (c : Fin 16) (cause : Fin 5) (n : Nat), s.shapeOk = true →
    (s.get (F.CHN_CHAIN_STATUS_RADIO c) = n → n < 3 → s.chainFenced c = false → (cause.val ≠ 3 ∨ s.isSet (F.CHN_CHAIN_STATUS_FBRX_FAULT c) = false) →
      ∃ u, exec (.chainFault c cause) s = .next u ∧ u.chainFenced c = true ∧ u.get (F.CHN_CHAIN_STATUS_FENCE_CAUSE c) = cause + 1 ∧
        ((u.chain c).pa, (u.chain c).lna, (u.chain c).trsw) = (false, false, false) ∧ u.rd A.CHN_LAST_FAULT_LOC = s.chainLoc c ∧
        u.chainsOf n = (s.chainsOf n).filter (· != c.val) ∧
        ((∃ d ∈ s.chainsOf n, d ≠ c.val) → u.rstate n = s.rstate n ∧ (u.rad n).stopped = (s.rad n).stopped) ∧
        (s.chainsOf n = [c.val] → s.rstate n ≠ rOff → u.rstate n = rOff ∧ (u.rad n).stopped = true)) ∧
    (s.chainFenced c = true → exec (.chainFault c cause) s = .next s) ∧
    (∀ m v, s.gate m A.CHN_CHAIN_REINSTATE = .pass → getField v 0 4 = c → s.chainFenced c = true →
      s.get (F.CHN_CHAIN_STATUS_FENCE_CAUSE c) ≠ 7 → s.get (F.CHN_CHAIN_STATUS_FENCE_CAUSE c) ≠ 8 →
      exec (.chnChainReinstate m v) s = .next (s.chainMod c (fun x => { x with test := true, testAt := s.tim.now }))) ∧
    (∀ m v, s.gate m A.CHN_CHAIN_REINSTATE = .pass → getField v 0 4 = c →
      (s.chainFenced c = false ∨ s.get (F.CHN_CHAIN_STATUS_FENCE_CAUSE c) = 7 ∨ s.get (F.CHN_CHAIN_STATUS_FENCE_CAUSE c) = 8) →
      exec (.chnChainReinstate m v) s = .next s) ∧
    ((s.chain c).test = true →
      ((s.chain c).testAt + 1000000000 ≤ s.tim.now ∨ ((s.chain c).home < 3 ∧ s.runKind (s.chain c).home = kCAL ∧ (s.gr (s.chain c).home).run.isSome = true)) →
      exec (.chainSelftest c true) s = .next (s.chainMod c (fun x => { x with test := false, rejoin := true })) ∧
      exec (.chainSelftest c false) s = .next ((s.chainMod c (fun x => { x with test := false })).put (F.CHN_CHAIN_STATUS_FENCE_CAUSE c) 6)) ∧
    (s.testDue c = false → ∀ pass, exec (.chainSelftest c pass) s = .next s) ∧
    ((s.chain c).test = false → ∀ pass, exec (.chainSelftest c pass) s = .next s)

/-- R98 to R103, R107: a calibration step that is due and allowed starts on its chain, the radio noting it, and ends with the chain out of calibration; a feedback receiver that failed its tone is
marked; a period that ends with steps left sets OVERDUE. A capture of a good frame counts for the estimator and a bad one is discarded; a candidate from
enough captures is taken at a frame boundary, the chains of a cluster in turn, and one no worse ends DPD_STALE. Where the spec leaves a point open it follows the model's choices of log 49. -/
def Obligations.Calibration : Prop :=
  ∀ (s : State) (n : Fin 3) (c : Fin 16) (kind : CalKind), s.shapeOk = true →
    (∀ idle, kind ≠ .interChain → (s.rad n).cycles.any (fun y => y.todo.any (fun e => e.1 == kind && e.2 == c.val)) = true →
      (s.chainsOf n).contains c.val = true → s.stepAllowed n kind idle = true →
      ∃ u, exec (.calStepStart n kind c idle) s = .next u ∧ u.get (F.CHN_CHAIN_STATUS_STATE c) = 4 ∧ u.get (F.CHN_RADIO_STATE_CAL_STEP n) = 1 ∧
        (u.rad n).step = some (kind, [c.val]) ∧ ((u.chain c).pa, (u.chain c).lna, (u.chain c).trsw) = (false, calReceive kind, false) ∧
        (∀ off, off ≠ A.CHN_CHAIN_STATUS c → off ≠ A.CHN_RADIO_STATE n → u.rd off = s.rd off)) ∧
    (∀ idle, s.stepAllowed n kind idle = false → exec (.calStepStart n kind c idle) s = .next s) ∧
    (∀ ok, (s.rad n).step = some (kind, [c.val]) →
      ∃ u, exec (.calStepEnd n ok) s = .next u ∧ (u.rad n).step = none ∧ u.get (F.CHN_RADIO_STATE_CAL_STEP n) = 0 ∧
        (kind = .feedback → ok = false → u.isSet (F.CHN_CHAIN_STATUS_FBRX_FAULT c) = true)) ∧
    (∀ ok, (s.rad n).step = none → exec (.calStepEnd n ok) s = .next s) ∧
    (s.cyclesOn n = true → (s.rad n).cycles.any (fun y => y.todo != []) = true →
      ∃ u, exec (.calOverdue n) s = .next u ∧ u.get (F.CHN_CAL_STATUS_OVERDUE n) = 1 ∧
        (u.rad n).cycles = (s.rad n).cycles.map (fun y => { y with overdue := y.overdue || y.todo != [] })) ∧
    ((s.cyclesOn n = false ∨ (s.rad n).cycles.any (fun y => y.todo != []) = false) → exec (.calOverdue n) s = .next s) ∧
    (∀ us, s.get (F.CHN_CHAIN_STATUS_RADIO c) = n → s.isSet (F.CHN_CHAIN_STATUS_FBRX_FAULT c) = false → s.isSet (F.CHN_CAL_CTRL_FREEZE n) = false →
      s.isSet (F.CHN_CAL_CTRL_DPD_EN n) = true → 16 ≤ us →
      exec (.dpdCapture c us true .complete false false) s = .next (s.chainMod c (fun x => { x with accepted := min (x.accepted + 1) 17 })) ∧
      exec (.dpdCapture c us true .complete true false) s = .next (s.bump (A.CHN_DPD_DISCARD n)) ∧
      exec (.dpdCapture c us true .coexCut false false) s = .next (s.bump (A.CHN_DPD_DISCARD n))) ∧
    (∀ us fin, s.get (F.CHN_CHAIN_STATUS_RADIO c) = n → us < 16 →
      exec (.dpdCapture c us true fin false true) s = .next (s.chainMod c (fun x => { x with gainCut := x.gainCut + 1 })) ∧
      exec (.dpdCapture c us true fin false false) s = .next s) ∧
    (s.get (F.CHN_CHAIN_STATUS_RADIO c) = n → 17 ≤ (s.chain c).accepted → (s.chain c).lastCand = none → (s.rad n).tx = none →
      s.isSet (F.CHN_CAL_CTRL_FREEZE n) = false → s.isSet (F.CHN_CAL_CTRL_DPD_EN n) = true → s.isSet (F.CHN_CHAIN_STATUS_FBRX_FAULT c) = false →
      (∀ d : Fin 16, d / 4 = c / 4 → d ≠ c → (s.chain d).accepted < 17) → s.estimatorTurn (c / 4) = some c.val) ∧
    (s.estimatorTurn (c / 4) = some c.val →
      (let t : State := ({ s with chn := { s.chn with estLast := s.chn.estLast.set (c / 4) c.val } } : State).chainMod c (fun x => { x with accepted := 16, lastCand := some s.tim.now })
       exec (.dpdAdopt c false) s = .next t ∧
       exec (.dpdAdopt c true) s = .next ((t.chainMod c (fun x => { x with adoptT := some (s.get F.PWR_MON_TEMP_TJ_D1) })).put (F.CHN_CHAIN_STATUS_DPD_STALE c) 0))) ∧
    (s.estimatorTurn (c / 4) ≠ some c.val → ∀ b, exec (.dpdAdopt c b) s = .next s) ∧
    ((s.chain c).accepted < 17 → ∀ b, exec (.dpdAdopt c b) s = .next s)

/-- R83, R90, R91, R93, R105: a restart leads a radio through Off to Standby where it may run, its requests gone and its tables reloaded; an order moves it between the states that R90 joins
and no others; a channel change within the band stops at Synth-on with the new channel and each chain's stored or nearest results, and one that the profile forbids or the radio has not is refused and counted; a fine adjustment
is held to 300 kHz. -/
def RadioStatesRules : Prop :=
  ∀ (s : State) (n : Fin 3), s.shapeOk = true →
    (∃ u, exec (.radioRestart n) s = .next u ∧ (u.rad n).held = [] ∧ (u.rad n).tx = none ∧ (u.rad n).step = none ∧ (u.rad n).adjust = 0 ∧
      u.isSet (F.RAD_GRT_STATUS_RELOADED n) = true ∧ u.get (F.CHN_RADIO_STATE_HOLD n) = 0 ∧
      u.rstate n = (if s.radioEnable n ∧ !(s.rad n).stopped ∧ (s.func n).on ∧ !(s.func n).stopping ∧ s.isSet F.PWR_CLK_STATUS_XO80_OK ∧
        s.chainsOf n ≠ [] then rStandby else rOff)) ∧
    (∀ nx : Fin 6, mayMove (s.rstate n) nx = true → nx.val ≠ rRx →
      ∃ u, exec (.radioStateChange n nx) s = .next u ∧ u.rstate n = nx ∧ (s.rstate n = rTx → (u.rad n).tx = none)) ∧
    (mayMove (s.rstate n) rRx = true → (s.rad n).held = [] → ∃ u, exec (.radioStateChange n 4) s = .next u ∧ u.rstate n = rRx) ∧
    (∀ nx : Fin 6, mayMove (s.rstate n) nx = false → exec (.radioStateChange n nx) s = .next s) ∧
    (∀ ch, (channelAllowed (s.profile s.activeProfile) ch = false ∨ radioFits n ch = false) → exec (.channelChange n ch) s = .next (s.bump A.CHN_WRITE_REJECT)) ∧
    (∀ ch, channelAllowed (s.profile s.activeProfile) ch = true → radioFits n ch = true → (s.rstate n = rRx ∨ s.rstate n = rSynthOn) →
      ∃ u, exec (.channelChange n ch) s = .next u ∧ u.rstate n = rSynthOn ∧ (u.rad n).chan = some ch ∧ (u.rad n).adjust = 0 ∧ (u.ph n).rx = none ∧
        (∀ c ∈ s.chainsOf n, ((s.chain c).stored.contains (n.val, ch) = true → (u.chain c).results = some ch) ∧
          ((s.chain c).stored.contains (n.val, ch) = false → u.get (F.CHN_CHAIN_STATUS_DPD_STALE c) = 1 ∧ (u.chain c).results = nearestStored (s.chain c).stored n ch))) ∧
    (∀ hz, exec (.fineAdjust n hz false) s =
      .next (s.radMod n (fun x => { x with adjust := clampInt (-300000) 300000 hz, settling := true }))) ∧
    (∀ hz, (s.rad n).held = [] → ∃ u, exec (.fineAdjust n hz true) s = .next u ∧ (u.rad n).adjust = clampInt (-300000) 300000 hz ∧
      (u.rad n).settling = false)

/-- R94, R104, R107, R111, R118, R119, R152, R155: what becomes of a transmit request: none in a form that the radio has not; refused where nothing may radiate or the duty ceiling would be
passed; LATE past its start; held while a wire, the Traverse, the radio, the medium or the run in progress stops it; else on the air with every chain's target power, its
streams and width held to the radio's, and charged to the duty window. -/
def TransmitAdmissionRules : Prop :=
  ∀ (s : State) (n : Fin 3) (r : TxReq), s.shapeOk = true →
    let q : TxReq := { r with form := s.formFits n r.form }
    (formOk n q.form = false → exec (.txRequest n r) s = .next s) ∧
    (formOk n q.form = true → (s.mayRadiate = false ∨ s.dutyFits n r.dur = false ∨ (s.chainsOf n ≠ [] ∧ s.txChains n = [])) →
      exec (.txRequest n r) s = .next ((s.bump (A.CHN_REG_DUTY_HIT n)).status n r.tag .regLimit)) ∧
    (formOk n q.form = true → s.mayRadiate = true → s.dutyFits n r.dur = true → (s.chainsOf n = [] ∨ s.txChains n ≠ []) →
      (∀ t, r.startBy = some t → t < s.t0 → exec (.txRequest n r) s = .next ((s.bump (A.CHN_TX_LATE n)).status n r.tag .late)) ∧
      ((r.startBy.all (fun t => s.t0 ≤ t)) = true →
        (((s.extMasked n = true ∧ s.chn.extGnt = true) ∨ (n.val = 0 ∧ s.t0 < s.trv.hold0) ∨ (s.devMasked n = true ∧ s.chn.devGnt = false) ∨ (s.rad n).settling = true ∨
            (s.rad n).step.isSome = true ∨ (s.rad n).tx.isSome = true ∨ s.tim.now < (s.rad n).airEnd ∨ (r.kind = .contention ∧ s.mediumFree n = false) ∨ s.rstate n ≠ rRx ∨
            s.runAllows n r.kind s.t0 (r.dur + r.resp) = false) →
          ∃ u, exec (.txRequest n r) s = .next u ∧ (u.rad n).held = (s.rad n).held ++ [q] ∧ u.get (F.CHN_RADIO_STATE_HOLD n) = 1 ∧ (u.rad n).tx = (s.rad n).tx ∧
            u.out = s.out ∧ u.chn.devReq = (s.chn.devReq || (s.devMasked n && r.startBy.isNone))) ∧
        ((s.extMasked n = false ∨ s.chn.extGnt = false) → (n.val ≠ 0 ∨ s.trv.hold0 ≤ s.t0) → (s.devMasked n = false ∨ s.chn.devGnt = true) → (s.rad n).settling = false →
          (s.rad n).step = none → (s.rad n).tx = none → (s.rad n).airEnd ≤ s.tim.now → (r.kind = .contention → s.mediumFree n = true) → s.rstate n = rRx →
          s.runAllows n r.kind s.t0 (r.dur + r.resp) = true →
          ∃ u, exec (.txRequest n r) s = .next u ∧ u.rstate n = rTx ∧ (u.rad n).tx = some q ∧ (u.rad n).duty = (s.rad n).duty ++ [(s.tim.now, r.dur)] ∧
            (u.rad n).airEnd = s.tim.now + r.dur ∧ (u.rad n).exchEnd = s.tim.now + r.dur + r.resp ∧ u.out = s.out ∧
            (∀ c ∈ s.chainsOf n, (u.chain c).power = if s.chainMayTx n c then some (s.targetPower c n) else none))))

/-- R104 to R109: a profile takes force if it is written, no looser than the Legend's and allows every radio's channel, and else the write is refused and counted; a
program order with its key blows the staged bytes, and any fault of it sets ERROR and blows nothing; LOCK is for good, and puts the Legend's profile in force; the end of programming stores the profile and sets
DONE. Where the spec leaves a point open it follows the model's choices of log 52. -/
def Obligations.RegulatoryFuses : Prop :=
  ∀ (s : State) (m : Master) (v : Word),
    (s.gate m A.CHN_REG_SELECT = .pass → s.profileWritten (getField v 0 3) = true →
      profileWithin (s.profile (getField v 0 3)) (s.profile s.regProfile) = true →
      (∀ (n : Fin 3) (ch : Channel), (s.rad n).chan = some ch → channelAllowed (s.profile (getField v 0 3)) ch = true) →
      exec (.chnRegSelect m v) s =
        .next ((s.put F.CHN_REG_SELECT_PROFILE (getField v 0 3)).put F.CHN_REG_STATUS_ACTIVE_PROFILE (getField v 0 3))) ∧
    (s.gate m A.CHN_REG_SELECT = .pass → s.profileWritten (getField v 0 3) = false → exec (.chnRegSelect m v) s = .next (s.bump A.CHN_WRITE_REJECT)) ∧
    (s.gate m A.CHN_FUSE_CTRL = .pass → s.stopping 4 = false → s.isSet F.CHN_FUSE_STATUS_BUSY = false → bit v.toNat 3 = true → bit v.toNat 4 = false →
      getField v 16 16 = 0x9640 → s.rfuse.lock = false → profileMark (s.profile (getField v 0 3)) = false → profileCrcOk s.fuseStaged = true →
      dwellOk s.fuseStaged = true →
      exec (.fuseProgram m v) s =
        .next (({ s with rfuse := { s.rfuse with busy := some (getField v 0 3, s.fuseStaged) } }).put F.CHN_FUSE_STATUS_BUSY 1)) ∧
    (s.gate m A.CHN_FUSE_CTRL = .pass → s.stopping 4 = false → s.isSet F.CHN_FUSE_STATUS_BUSY = false → bit v.toNat 3 = true → bit v.toNat 4 = false →
      (getField v 16 16 ≠ 0x9640 ∨ s.rfuse.lock = true ∨ profileMark (s.profile (getField v 0 3)) = true ∨ profileCrcOk s.fuseStaged = false ∨
        dwellOk s.fuseStaged = false) →
      exec (.fuseProgram m v) s = .next (s.raise F.CHN_FUSE_STATUS_ERROR)) ∧
    (s.gate m A.CHN_FUSE_CTRL = .pass → s.stopping 4 = false → s.isSet F.CHN_FUSE_STATUS_BUSY = false → bit v.toNat 3 = false → bit v.toNat 4 = true →
      exec (.fuseLock m v) s = .next (if getField v 16 16 = 0x9640 then
        (((({ s with rfuse := { s.rfuse with lock := true } }).put F.CHN_REG_STATUS_LOCKED 1).put F.CHN_REG_SELECT_PROFILE s.regProfile).put F.CHN_REG_STATUS_ACTIVE_PROFILE s.regProfile).raise
          F.CHN_FUSE_STATUS_DONE
        else s.raise F.CHN_FUSE_STATUS_ERROR)) ∧
    (∀ p b, p < 8 → s.rfuse.busy = some (p, b) →
      ∃ u, exec .fuseProgramDone s = .next u ∧ u.rfuse.profiles = s.rfuse.profiles.set p b ∧ u.rfuse.busy = none ∧ u.rfuse.lock = s.rfuse.lock ∧
        u.isSet F.CHN_FUSE_STATUS_BUSY = false ∧ u.isSet F.CHN_FUSE_STATUS_DONE = true ∧
        (profileGood b = true → u.profileWritten p = true)) ∧
    (s.rfuse.busy = none → exec .fuseProgramDone s = .next s)

/-- R110 to R112: the coexistence wires. A low-priority external request is granted while no masked radio transmits or lies in a scheduled slot, and else waits; a high-priority one with
EXT_TRUNCATE cuts what masked radios send and is granted; EXT_REQ falling takes the grant back; a low-priority grant drops before a scheduled slot. DEV_REQ rises for a
masked radio whose transmission is due within DEV_LEAD or waits, and falls when none transmits, waits or is due; a contention frame that waited DEV_TIMEOUT is returned and counted; DEV_GNT falling with DEV_TRUNCATE cuts. A
write of CHN_COEX_CTRL acts on the wires at once. Where the spec leaves a point open it follows the model's choices of log 50. -/
def Obligations.Coexistence : Prop :=
  ∀ (s : State) (n : Fin 3), s.shapeOk = true →
    (s.chn.extReq = false → s.isSet F.CHN_COEX_CTRL_EXT_EN = true → s.extBusy = false → s.extScheduled = false →
      exec (.extReqRise false) s =
        .next { s with chn := { s.chn with extReq := true, extPri := false, extHigh := false, extGnt := true, extWait := false } }) ∧
    (s.chn.extReq = false → s.isSet F.CHN_COEX_CTRL_EXT_EN = true → (s.extBusy = true ∨ s.extScheduled = true) →
      exec (.extReqRise false) s = .next { s with chn := { s.chn with extReq := true, extPri := false, extHigh := false, extWait := true } }) ∧
    (s.chn.extReq = false → s.isSet F.CHN_COEX_CTRL_EXT_EN = true → s.isSet F.CHN_COEX_CTRL_EXT_TRUNCATE = true →
      (∀ k : Fin 3, s.rstate k = rTx → (s.rad k).tx.isSome = true) →
      ∃ u, exec (.extReqRise true) s = .next u ∧ u.chn.extReq = true ∧ u.chn.extHigh = true ∧ u.chn.extGnt = true ∧ u.chn.extWait = false ∧
        (∀ k : Fin 3, s.extMasked k = true → (u.rad k).tx = none) ∧ (∀ k : Fin 3, s.extMasked k = false → u.rad k = s.rad k)) ∧
    (∀ b, s.chn.extReq = true → exec (.extReqRise b) s = .next s) ∧
    (s.chn.extPri = false → s.chn.extReq = true → s.isSet F.CHN_COEX_CTRL_EXT_EN = true → s.isSet F.CHN_COEX_CTRL_EXT_TRUNCATE = false → s.extBusy = false →
      exec .extPriRise s = .next { s with chn := { s.chn with extPri := true, extHigh := true, extGnt := true, extWait := false } }) ∧
    (s.chn.extPri = false → s.chn.extReq = false → exec .extPriRise s = .next { s with chn := { s.chn with extPri := true } }) ∧
    (∃ u, exec .extReqFall s = .next u ∧ u.chn.extReq = false ∧ u.chn.extPri = false ∧ u.chn.extGnt = false ∧ u.chn.extWait = false) ∧
    (s.chn.extGnt = true → s.chn.extHigh = false →
      exec .extGntPreslotDrop s = .next { s with chn := { s.chn with extGnt := false, extWait := true } }) ∧
    ((s.chn.extGnt = false ∨ s.chn.extHigh = true) → exec .extGntPreslotDrop s = .next s) ∧
    (s.devMasked n = true → (s.devDue n = true ∨ (s.rad n).held ≠ []) → exec (.devReqRaise n) s = .next { s with chn := { s.chn with devReq := true } }) ∧
    ((s.devMasked n = false ∨ (s.devDue n = false ∧ (s.rad n).held = [])) → exec (.devReqRaise n) s = .next s) ∧
    (∃ u, exec .devGntRise s = .next u ∧ u.chn.devGnt = true) ∧
    (s.isSet F.CHN_COEX_CTRL_DEV_TRUNCATE = false → exec .devGntFall s = .next { s with chn := { s.chn with devGnt := false } }) ∧
    (s.isSet F.CHN_COEX_CTRL_DEV_TRUNCATE = true →
      ∃ u, exec .devGntFall s = .next u ∧ u.chn.devGnt = false ∧ (∀ k : Fin 3, s.devMasked k = true → (u.rad k).tx = none) ∧
        (∀ k : Fin 3, s.devMasked k = false → u.rad k = s.rad k)) ∧
    (∀ r, (s.rad n).held.find? (fun r => r.startBy.isNone) = some r → s.devMasked n = true → s.chn.devGnt = false →
      ∃ u, exec (.devTimeout n) s = .next u ∧ (u.rad n).held = (s.rad n).held.erase r ∧ u.out = .frameStatus n r.tag .coexDenied :: s.out ∧
        (u.rd A.CHN_COEX_DENIED).toNat = min ((s.rd A.CHN_COEX_DENIED).toNat + 1) 0xFFFFFFFF) ∧
    (s.chn.devGnt = true → exec (.devTimeout n) s = .next s) ∧
    ((∀ k : Fin 3, s.devMasked k = true → (s.rad k).tx = none ∧ (s.rad k).held = [] ∧ s.devDue k = false) →
      exec .devReqRelease s = .next { s with chn := { s.chn with devReq := false } }) ∧
    (s.devMasked n = true → ((s.rad n).tx.isSome = true ∨ s.devDue n = true) → exec .devReqRelease s = .next s) ∧
    (∀ m v, s.gate m A.CHN_COEX_CTRL = .pass →
      ∃ u, exec (.registerWrite m A.CHN_COEX_CTRL v ⟨none, 0⟩) s = .next u ∧ u.chn.extReq = s.chn.extReq ∧ u.chn.extPri = s.chn.extPri ∧
        (u.isSet F.CHN_COEX_CTRL_EXT_EN = false → u.chn.extGnt = false) ∧ (u.isSet F.CHN_COEX_CTRL_DEV_EN = false → u.chn.devReq = false) ∧
        (u.isSet F.CHN_COEX_CTRL_EXT_EN = true → s.chn.extReq = true → s.chn.extHigh = false → s.extBusy = false → s.extScheduled = false →
          v = s.rd A.CHN_COEX_CTRL → u.chn.extGnt = true))

/-- R80, R81, R82, R84, R85, R86, R87, R88, R89, R444: the locks and faults of synthesisers and of chains. Where the spec leaves a point open it follows the model's choices of log 33, 34. -/
def Obligations.SynthesisersAndChains : Prop :=
  SynthesisersRules ∧ ChainFaultsRules

/-- R83, R90, R91, R93, R94, R104, R105, R107, R111, R118, R119, R152, R155: the states of the radios, and which transmissions are let through. Where the spec leaves a point open it follows the model's choices of log 12, 48, 51, 59, 112. -/
def Obligations.RadiosAndTransmissions : Prop :=
  RadioStatesRules ∧ TransmitAdmissionRules

/-! ### Receivers (R120 to R125, R375, R376) -/

/-- The state after a reception on radio n has ended that counted nothing and leaves the medium reserved for `rest` ns. -/
abbrev RxOver (s : State) (n : Fin 3) (rest : Nat) : State :=
  ((s.phMod n (fun x => { x with rx := none })).count (A.RAD_RX_FCS_FAIL n) 0).phMod n (fun x => { x with busyUntil := max x.busyUntil (s.tim.now + rest) })

/-- R118, R120 to R125, R234, R252, R325, R375, R376: a preamble that a free receiver finds starts a reception, stamped, one triggered by noise included; a failed check of the signal fields
abandons it, counted; one found meanwhile by the watch detector restarts the reception when it is stronger by the margin, unless a response is awaited, and is else counted. A reception
ends once, whatever it was: a format that is not supported, lost streams and frames of failed FCS are counted, and contention waits while the frame reserves the medium; a protected MPDU
without its key, with a bad tag or an old number is counted, and else its receive counter follows and it goes to the parser, or where it is no data to the host; a retransmission
already delivered is dropped. Where the spec leaves a point open it follows the model's choices of log 55, 56, 116, 119. -/
def Obligations.Receptions : Prop :=
  ∀ (s : State) (n : Fin 3) (p : Int), s.shapeOk = true →
    (s.rstate n = rRx → s.onAir n = false → (s.ph n).rx = none → s.basebandUp n = true → s.stopping 6 = false →
      exec (.preambleDetect n (.preamble p)) s =
        .next (s.phMod n (fun x => { x with rx := some p, falseRx := false, stamp := some (s.rxStamp (4 + n) 0) })) ∧
      exec (.preambleDetect n (.noise p)) s =
        .next (s.phMod n (fun x => { x with rx := some p, falseRx := true, stamp := some (s.rxStamp (4 + n) 0) }))) ∧
    (s.rstate n ≠ rRx → exec (.preambleDetect n (.preamble p)) s = .next s) ∧
    (∀ c, (s.ph n).rx.isSome = true → checkOn n c = true →
      exec (.preambleDetect n (.abandoned c)) s = .next ((s.phMod n (fun x => { x with rx := none, falseRx := false })).bump (A.RAD_RX_SIG_FAIL n))) ∧
    (∀ c, ((s.ph n).rx = none ∨ checkOn n c = false) → exec (.preambleDetect n (.abandoned c)) s = .next s) ∧
    (n ≠ 0 → exec (.rxRestart n p true) s = .next s) ∧
    (∀ b, (b = false ∨ n = 0) →
      (s.onAir n = true → exec (.rxRestart n p b) s = .next (s.bump (A.RAD_RX_OVERLAP n))) ∧
      (s.onAir n = false → (s.ph n).rx = none → exec (.rxRestart n p b) s = .next s) ∧
      (∀ q, s.onAir n = false → (s.ph n).rx = some q → s.isSet (F.RAD_RX_CTRL_RESTART_EN n) = true → q + s.restartMargin n ≤ p → s.responseLock n = false →
        exec (.rxRestart n p b) s =
          .next ((s.phMod n (fun x => { x with rx := some p, falseRx := false, stamp := some (s.rxStamp (4 + n) 0) })).bump (A.RAD_RX_RESTART n))) ∧
      (∀ q, s.onAir n = false → (s.ph n).rx = some q → s.isSet (F.RAD_RX_CTRL_RESTART_EN n) = true → q + s.restartMargin n ≤ p → s.responseLock n = true →
        exec (.rxRestart n p b) s = .next (s.bump (A.RAD_RX_OVERLAP n))) ∧
      (∀ q, s.onAir n = false → (s.ph n).rx = some q → s.isSet (F.RAD_RX_CTRL_RESTART_EN n) = true → p < q + s.restartMargin n →
        exec (.rxRestart n p b) s = .next (s.bump (if (s.ph n).falseRx then A.RAD_RX_LOST_FALSE n else A.RAD_RX_OVERLAP n)))) ∧
    (∀ e, (s.ph n).rx.isSome = true → (s.ph n).falseRx = false → ∃ u, exec (.ppduReceiveEnd n e) s = .next u ∧ (u.ph n).rx = none) ∧
    (∀ e, ((s.ph n).rx = none ∨ (s.ph n).falseRx = true) → exec (.ppduReceiveEnd n e) s = .next s) ∧
    ((s.ph n).rx.isSome = true → (s.ph n).falseRx = false →
      (∀ rest, exec (.ppduReceiveEnd n (.unsupported rest)) s =
        .next (((s.phMod n (fun x => { x with rx := none })).bump (A.RAD_RX_UNSUPPORTED n)).phMod n
          (fun x => { x with busyUntil := max x.busyUntil (s.tim.now + rest) }))) ∧
      exec (.ppduReceiveEnd n .calLost) s = .next ((s.phMod n (fun x => { x with rx := none })).bump (A.CHN_CAL_RX_LOST n)) ∧
      (∀ f k rest, formOk n f = true → exec (.ppduReceiveEnd n (.frame f rest k [] [] [] none)) s =
        .next (((s.phMod n (fun x => { x with rx := none })).count (A.RAD_RX_FCS_FAIL n) k).phMod n
          (fun x => { x with busyUntil := max x.busyUntil (s.tim.now + rest) }))) ∧
      (∀ f k rest l, formOk n f = false → exec (.ppduReceiveEnd n (.frame f rest k l [] [] none)) s =
        .next (((s.phMod n (fun x => { x with rx := none })).bump (A.RAD_RX_UNSUPPORTED n)).phMod n
          (fun x => { x with busyUntil := max x.busyUntil (s.tim.now + rest) })))) ∧
    (∀ f b (st : Fin 4096) (m : MpduProt) bs rest, (s.ph n).rx.isSome = true → (s.ph n).falseRx = false → formOk n f = true → s.staValid st = true → frameTid bs = none →
      ((s.rxSlot st m.keyId = none ∨ m.micOk = false) →
        exec (.ppduReceiveEnd n (.frame f rest 0 [⟨b, some st, some m, bs⟩] [] [] none)) s = .next ((RxOver s n rest).bump (A.KEY_RX_MIC_FAIL n))) ∧
      (∀ i, s.rxSlot st m.keyId = some i → m.micOk = true → m.pn ≤ (s.slot 0 i).rx.getD m.counter.val 0 →
        exec (.ppduReceiveEnd n (.frame f rest 0 [⟨b, some st, some m, bs⟩] [] [] none)) s = .next ((RxOver s n rest).bump (A.KEY_RX_REPLAY n))) ∧
      (∀ i, s.rxSlot st m.keyId = some i → m.micOk = true → (s.slot 0 i).rx.getD m.counter.val 0 < m.pn →
        ∃ u, exec (.ppduReceiveEnd n (.frame f rest 0 [⟨b, some st, some m, bs⟩] [] [] none)) s = .next u ∧
          u.sec = (s.setSlot 0 i { s.slot 0 i with rx := (s.slot 0 i).rx.set m.counter.val m.pn }).sec ∧ u.regs = s.regs ∧
          (bits (leAt bs 0 2) 2 2 = 2 → u.path.toQueue = s.path.toQueue ∧ u.path.ingress = s.path.ingress ++ (dataPackets bs).map (fun x =>
            { Pkt.fresh x (4 + 16 * n + s.get (F.STA_W0_BSS st)) with station := st.val, stamp := (s.ph n).stamp })) ∧
          (bits (leAt bs 0 2) 2 2 ≠ 2 → u.path.ingress = s.path.ingress ∧ u.path.toQueue.length = s.path.toQueue.length + 1))) ∧
    (∀ f b (st : Fin 4096) m bs rest t, (s.ph n).rx.isSome = true → (s.ph n).falseRx = false → formOk n f = true → s.staValid st = true → frameTid bs = some t →
      (s.tidState (8 * st + t)).board.contains (leAt bs 22 2 / 16) = true →
      exec (.ppduReceiveEnd n (.frame f rest 0 [⟨b, some st, m, bs⟩] [] [] none)) s = .next (RxOver s n rest)) ∧
    (∀ f b bs rest m, (s.ph n).rx.isSome = true → (s.ph n).falseRx = false → formOk n f = true → bits (leAt bs 0 2) 2 2 = 2 →
      exec (.ppduReceiveEnd n (.frame f rest 0 [⟨b, none, none, bs⟩] [] [] none)) s = .next (RxOver s n rest) ∧
      exec (.ppduReceiveEnd n (.frame f rest 0 [⟨b, none, some m, bs⟩] [] [] none)) s = .next ((RxOver s n rest).bump (A.KEY_RX_MIC_FAIL n)))

/-! ### Stipple (R126 to R139, R147) -/

/-- R133, R134, R137, R147: the maps of a link. A computed map waits as a new one unless it loads like the active one; offering it numbers it, gives it its activation time, makes it pending
and sends it; a map is computed only when it is due; one not accepted in time is counted and offered again under the next version; a map that no longer fits goes stale. A write of the map selection runs
RECOMPUTE and OFFER after its fields. -/
def StippleMapsRules : Prop :=
  ∀ (s : State) (n : Fin 3) (k : Fin 8) (m : StpMap), s.shapeOk = true → (s.ph n).links.length = 8 →
    (s.linkOn n k = true → s.recomputeDue n k = true → s.mapCompute n k = some m → (s.link n k).rxMap.any (sameLoads m) = false →
      exec (.mapRecompute n k) s = .next (s.linkMod n k (fun l => { l with rxNew := some m, compAt := s.tim.now, since := 0 }))) ∧
    (s.linkOn n k = true → s.recomputeDue n k = true → s.mapCompute n k = some m → (s.link n k).rxMap.any (sameLoads m) = true →
      exec (.mapRecompute n k) s = .next (s.linkMod n k (fun l => { l with rxNew := none, compAt := s.tim.now, since := 0 }))) ∧
    ((s.linkOn n k = false ∨ s.recomputeDue n k = false) → exec (.mapRecompute n k) s = .next s) ∧
    (s.linkOn n k = true → (s.link n k).rxNew = some m →
      ∃ u, exec (.mapOfferSend n k) s = .next u ∧ u.get (F.RAD_STP_LINK_STATUS_RX_PENDING n k) = 1 ∧ (u.link n k).rxNew = none ∧
        (u.link n k).accepted = false ∧
        (u.link n k).rxPend = some { m with
          version := nextVersion (((s.link n k).rxMap.map (·.version)).getD 0),
          actS := (s.t0 + s.get (F.RAD_STP_CTRL_ACT_LEAD n) * 1000000) / nsPerS % 2 ^ 32,
          actNs := (s.t0 + s.get (F.RAD_STP_CTRL_ACT_LEAD n) * 1000000) % nsPerS } ∧
        (u.link n k).rxMap = (s.link n k).rxMap) ∧
    (((s.link n k).rxNew = none ∨ s.linkOn n k = false) → exec (.mapOfferSend n k) s = .next s) ∧
    ((s.link n k).rxPend = some m → (s.link n k).accepted = false → -2000000 ≤ stampDiff s.t0 m.act →
      ∃ u, exec (.mapAcceptTimeout n k) s = .next u ∧
        (u.rd (A.RAD_STP_ACT_FAIL n)).toNat = min ((s.rd (A.RAD_STP_ACT_FAIL n)).toNat + 1) 0xFFFFFFFF ∧
        (u.link n k).rxPend.map (fun x => (x.version, x.loads)) = some (nextVersion m.version, m.loads)) ∧
    ((s.link n k).accepted = true → exec (.mapAcceptTimeout n k) s = .next s) ∧
    ((s.link n k).txMap = some m → s.mapUnfit n m (s.link n k).txAt = true →
      ∃ u, exec (.mapStale n k) s = .next u ∧ u.get (F.RAD_STP_LINK_STATUS_TX_STALE n k) = 1 ∧ (u.link n k).txMap = some m) ∧
    ((s.link n k).rxMap = some m → s.mapUnfit n m (s.link n k).rxAt = true →
      ∃ u, exec (.mapStale n k) s = .next u ∧ u.get (F.RAD_STP_LINK_STATUS_RX_STALE n k) = 1 ∧ (u.link n k).rxMap = some m) ∧
    ((s.link n k).txMap = none → (s.link n k).rxMap = none → exec (.mapStale n k) s = .next s) ∧
    (∀ w v, s.gate w (A.RAD_STP_MAP_SEL n) = .pass → bit v.toNat 8 = false →
      exec (.stpRecompute w n v) s =
        .next ((s.wr (A.RAD_STP_MAP_SEL n) (fieldWord 0 8 v.toNat)).recompute n (v.toNat % 8))) ∧
    (∀ w v, s.gate w (A.RAD_STP_MAP_SEL n) = .pass → bit v.toNat 9 = false → v.toNat % 8 = k.val → s.linkOn n k = true →
      exec (.stpOffer w n v) s =
        .next (let t := s.wr (A.RAD_STP_MAP_SEL n) (fieldWord 0 8 v.toNat)
               let b := t.windowBytes n k (s.link n k).rxPend true
               if 16 ≤ b.length ∧ leAt b 2 1 ≤ 4 ∧ 1 ≤ leAt b 3 1 ∧ leAt b 3 1 ≤ 8 then t.mapOffer n k (mapDecode b) (s.offerVersion n k) else t))

/-- R127 to R130, R135, R136, R138, R139: as a span starts, an accepted map whose time has come becomes active and its version shows, and likewise a pending transmit map; a data PPDU that fits
the span and whose symbols hold the payload goes out as Stipple, its SSIG, L-SIG length and coded symbols with it, where the transmitter may use its map, and else as EHT with the
fallback's MCS and streams, counted. A Stipple PPDU for another member holds contention; one from a sender without a link, or on a map that is not the active one, is a
mismatch; one that can be decoded shows its echo. -/
def StippleSpansRules : Prop :=
  ∀ (s : State) (n : Fin 3) (k : Fin 8) (m : StpMap) (r : Run), s.shapeOk = true → (s.ph n).links.length = 8 →
    ((s.gr n).run = some r → r.kind = kSTP → s.linkTo n r.peer = some k.val → (s.link n k).rxPend = some m → (s.link n k).accepted = true →
      0 ≤ stampDiff (r.first * slotNs) m.act →
      ∃ u, exec (.spanStart n) s = .next u ∧ (u.link n k).rxMap = some m ∧ (u.link n k).rxPend = none ∧
        u.get (F.RAD_STP_LINK_VER_RX_VER n k) = m.version % 65536 ∧ u.get (F.RAD_STP_LINK_STATUS_RX_PENDING n k) = 0) ∧
    ((s.gr n).run = some r → r.kind = kSTP → s.linkTo n r.peer = some k.val → (s.link n k).txPend = some m → 0 ≤ stampDiff (r.first * slotNs) m.act →
      ∃ u, exec (.spanStart n) s = .next u ∧ (u.link n k).txMap = some m ∧ (u.link n k).txPend = none ∧
        u.get (F.RAD_STP_LINK_VER_TX_VER n k) = m.version % 65536 ∧ u.get (F.RAD_STP_LINK_STATUS_TX_PENDING n k) = 0) ∧
    ((s.gr n).run = none → exec (.spanStart n) s = .next s) ∧
    (∀ (symbols : Fin 4096) eht rest d, (s.gr n).run = some r → r.kind = kSTP → s.linkTo n r.peer = some k.val → s.usableStart n + 8000 ≤ s.t0 → s.stopping 6 = false →
      s.mayStipple n k = true → symbols.val ≠ 0 → (s.link n k).txMap = some m → 8 * d.bytes.length ≤ payloadBits m.loads m.rate symbols →
      stippleNs m.nss symbols ≤ 5484000 → s.t0 + stippleNs m.nss symbols + rest + 8000 ≤ s.usableEnd n → s.spaced n = true → d.mpdus = [] → (s.link n k).soundDue = false →
      s.admission n ⟨0, stippleNs m.nss symbols, some s.t0, .stp, PhyForm.basic, rest⟩ = .start →
      ∃ u, exec (.stippleDataPpdu n k symbols eht rest d) s = .next u ∧
        u.out = .stipple n (lsigLength (stippleNs m.nss symbols)) (ssigBytes (s.ssigOf n k m symbols)) (s.link n k).soundAt (dataField m.loads m.rate symbols d.bytes) ::
          s.out ∧
        u.get (F.RAD_STP_LINK_STATUS_LAST_STIPPLE n k) = 1 ∧ (u.rad n).duty = (s.rad n).duty ++ [(s.tim.now, stippleNs m.nss symbols)] ∧
        (u.rad n).airEnd = s.tim.now + stippleNs m.nss symbols ∧ (∀ off, off ≠ A.RAD_STP_LINK_STATUS n k → u.rd off = s.rd off)) ∧
    (∀ (symbols : Fin 4096) eht rest d, s.mayStipple n k = true → (s.link n k).txMap = some m → payloadBits m.loads m.rate symbols < 8 * d.bytes.length →
      exec (.stippleDataPpdu n k symbols eht rest d) s = .next s) ∧
    (∀ (symbols : Fin 4096) eht rest d, (s.gr n).run = some r → r.kind = kSTP → s.linkTo n r.peer = some k.val → s.usableStart n + 8000 ≤ s.t0 → s.stopping 6 = false →
      s.mayStipple n k = false → eht ≤ 5484000 → s.t0 + eht + rest + 8000 ≤ s.usableEnd n → s.spaced n = true → d.mpdus = [] → (s.link n k).soundDue = false →
      s.admission n ⟨0, eht, some s.t0, .stp, PhyForm.basic, rest⟩ = .start →
      ∃ u, exec (.stippleDataPpdu n k symbols eht rest d) s = .next u ∧ u.get (F.RAD_STP_LINK_STATUS_LAST_STIPPLE n k) = 0 ∧
        u.out = .ehtData n (s.get (F.RAD_STP_LINK_CFG_PEER n k)) (s.get (F.RAD_STP_LINK_CFG_FALLBACK_MCS n k)) (s.fallbackNss n k) :: s.out ∧
        (u.rd (A.RAD_STP_FALLBACK n)).toNat = min ((s.rd (A.RAD_STP_FALLBACK n)).toNat + 1) 0xFFFFFFFF) ∧
    (∀ (symbols : Fin 4096) eht rest d, (s.gr n).run = none → exec (.stippleDataPpdu n k symbols eht rest d) s = .next s) ∧
    (∀ (g : BitVec 90) fails rest ack x, (s.ph n).rx.isSome = true → (s.ph n).falseRx = false →
      (bits g.toNat 60 10 ≠ s.get F.TRV_MEMBER_MEMBER →
        exec (.ppduReceiveEnd n (.stipple g fails rest ack x)) s = .next (((s.phMod n (fun y => { y with rx := none })).measured n x).phMod n
          (fun y => { y with busyUntil := max y.busyUntil (s.tim.now + rest) }))) ∧
      (bits g.toNat 60 10 = s.get F.TRV_MEMBER_MEMBER → s.linkTo n (bits g.toNat 50 10) = none → bit g.toNat 0 = false →
        exec (.ppduReceiveEnd n (.stipple g fails rest ack x)) s =
          .next (((s.phMod n (fun y => { y with rx := none })).measured n x).bump (A.RAD_STP_MISMATCH n))) ∧
      (∀ j : Fin 8, bits g.toNat 60 10 = s.get F.TRV_MEMBER_MEMBER → s.linkTo n (bits g.toNat 50 10) = some j.val → bit g.toNat 0 = false →
        s.get (F.RAD_STP_LINK_VER_RX_VER n j) ≠ bits g.toNat 1 16 →
        ∃ u, exec (.ppduReceiveEnd n (.stipple g fails rest ack x)) s = .next u ∧ u.get (F.RAD_STP_LINK_STATUS_LAST_ECHO n j) = bits g.toNat 17 16 ∧
          (u.rd (A.RAD_STP_MISMATCH n)).toNat = min ((s.rd (A.RAD_STP_MISMATCH n)).toNat + 1) 0xFFFFFFFF ∧ u.out = s.out) ∧
      (∀ j : Fin 8, bits g.toNat 60 10 = s.get F.TRV_MEMBER_MEMBER → s.linkTo n (bits g.toNat 50 10) = some j.val → bit g.toNat 0 = true →
        ∃ u, exec (.ppduReceiveEnd n (.stipple g fails rest [] x)) s = .next u ∧ u.get (F.RAD_STP_LINK_STATUS_LAST_ECHO n j) = bits g.toNat 17 16 ∧
          (u.rd (A.RAD_RX_FCS_FAIL n)).toNat = min ((s.rd (A.RAD_RX_FCS_FAIL n)).toNat + fails) 0xFFFFFFFF ∧ u.out = s.out))

/-! ### The contour and surveyed neighbours (R140 to R142, R148, R187) -/

/-- R140 to R142, R148, R187: an idle window of a radio's present channel counts into its contour, and one of the Traverse's channel into that of the Traverse; a measurement is ordered once at a time and ends in a quiet run long
enough; a write of a surveyed neighbour's word 0 takes its fields and begins its estimates anew. Where the spec leaves a point open it follows the model's choices of log 53, 54. -/
def Obligations.Measurements : Prop :=
  ∀ (s : State) (n : Fin 3), s.shapeOk = true →
    (∀ ch c i x, n.val < 3 → (s.rad n).chan = some ch → ch.subs.contains c = true → s.rstate n = rRx → s.onAir n = false → (s.ph n).rx = none →
      (s.rad n).step = none → contourIndex ch.band c = some i →
      exec (.contourWindow (n.castLE (by decide)) c x) s = .next (s.contourTake n i x)) ∧
    (∀ i x l, kvGet (s.ph n).floor i = some l → above3Db x l = false → kvGet ((s.contourTake n i x).ph n).floor i = some ((63 * l + x) / 64)) ∧
    (∀ i x, kvGet (s.ph n).floor i = none → kvGet ((s.contourTake n i x).ph n).floor i = some x) ∧
    (∀ c x, (s.rad n).chan = none → exec (.contourWindow (n.castLE (by decide)) c x) s = .next s) ∧
    (∀ c x, s.trvUp = true → s.dom = 3 → s.windowIdle = true → s.trv.slotLost = false → s.trv.wurSlot = false →
      kvGet s.trv.floor (s.get F.TRV_STATUS_CHANNEL) = none →
      ∃ u, exec (.contourWindow 3 c x) s = .next u ∧ kvGet u.trv.floor (s.get F.TRV_STATUS_CHANNEL) = some x ∧
        kvGet u.trv.floorAt (s.get F.TRV_STATUS_CHANNEL) = some s.tim.now) ∧
    (∀ m v, s.gate m (A.RAD_MEAS_CMD n) = .pass → s.isSet (F.RAD_MEAS_CMD_BUSY n) = false → getField v 8 6 ≠ 0 →
      (contourOfNumber n (getField v 0 8)).isSome = true →
      exec (.measCmd m n v) s =
        .next ((s.phMod n (fun p => { p with meas := some (getField v 0 8, getField v 8 6) })).put (F.RAD_MEAS_CMD_BUSY n) 1)) ∧
    (∀ m v, s.gate m (A.RAD_MEAS_CMD n) = .pass → s.isSet (F.RAD_MEAS_CMD_BUSY n) = true → exec (.measCmd m n v) s = .next s) ∧
    (∀ c d r powers, (s.ph n).meas = some (c, d) → (s.gr n).run = some r → r.kind = kQUI → rStandby ≤ s.rstate n → s.onAir n = false → (s.ph n).rx = none →
      powers.length = 16 * d → s.usableStart n ≤ s.t0 → s.t0 + 90000 + d * 64000 ≤ s.usableEnd n →
      ∃ u, exec (.measRun n powers) s = .next u ∧ (u.ph n).meas = none ∧ u.get (F.RAD_MEAS_CMD_BUSY n) = 0 ∧ (u.rad n).chan = (s.rad n).chan ∧
        (∀ i, d ≠ 0 → contourOfNumber n c = some i → kvGet (u.ph n).floorAt i = some s.tim.now) ∧ (∀ off, off ≠ A.RAD_MEAS_CMD n → u.rd off = s.rd off)) ∧
    (∀ c d powers, (s.ph n).meas = some (c, d) → powers.length ≠ 16 * d → exec (.measRun n powers) s = .next s) ∧
    (∀ powers, (s.ph n).meas = none → exec (.measRun n powers) s = .next s) ∧
    (∀ m (k : Fin 64) v, s.gate m (A.CHN_SURVEY0 k) = .pass →
      ∃ u, exec (.surveyWord0Write m k v) s = .next u ∧ u.rd (A.CHN_SURVEY0 k) = fieldWord 0 15 v.toNat ∧ u.rd (A.CHN_SURVEY1 k) = 0#32 ∧
        u.rd (A.CHN_SURVEY2 k) = 0#32 ∧ u.rd (A.CHN_SURVEY3 k) = 0#32 ∧ u.surveys = s.surveys.set k ⟨none, []⟩ ∧
        (∀ off, off ≠ A.CHN_SURVEY0 k → off ≠ A.CHN_SURVEY1 k → off ≠ A.CHN_SURVEY2 k → off ≠ A.CHN_SURVEY3 k → u.rd off = s.rd off))

/-- R127, R128, R129, R130, R133, R134, R135, R136, R137, R138, R139, R147: the maps of Stipple links and the spans they hold. Where the spec leaves a point open it follows the model's choices of log 57, 59, 115. -/
def Obligations.Stipple : Prop :=
  StippleMapsRules ∧ StippleSpansRules

/-! ### The Graticule (R149 to R178) -/

/-- R150, R152, R153, R172 to R174: a slot edge. Within a superframe the run that starts there is in progress; at a superframe boundary the slots of a domain given up are taken back, the grants that fall due at an
epoch are applied one by one unless the table breaks R156, and a host's commit that is due merges its marked entries where the domain owns none; no slot table, no edge. -/
def SlotEdgesRules : Prop :=
  ∀ (s : State) (n : Fin 3), s.shapeOk = true →
    (s.sfSlots n = 0 → exec (.slotEdge n) s = .next s) ∧
    (s.sfSlots n ≠ 0 → s.position n s.slotIndex ≠ 0 → s.isEdge n s.slotIndex = true → (n.val ≠ 0 ∨ s.slotIndex % 4000 ≠ 0) →
      ∃ u, exec (.slotEdge n) s = .next u ∧ (u.gr n).run = some (s.runAt n s.slotIndex) ∧ (u.gr n).polled = false ∧ (u.rad n).adjust = 0 ∧
        (u.gr n).work = (s.gr n).work ∧ u.regs = s.regs) ∧
    (s.sfSlots n ≠ 0 → s.position n s.slotIndex ≠ 0 → s.isEdge n s.slotIndex = false → (n.val ≠ 0 ∨ s.slotIndex % 4000 ≠ 0) →
      exec (.slotEdge n) s = .next s) ∧
    (s.sfSlots n ≠ 0 → s.position n s.slotIndex = 0 → (s.rad n).restart = false → s.plt.applyLegend.contains n.val = false → s.grt.hold.wHeld = none →
      (∀ c < 16, (s.chain c).rejoin = false) → (s.gr n).commitAt = none → (s.gr n).pend = [] →
      ∃ u, exec (.slotEdge n) s = .next u ∧ (u.gr n).maskIn = s.get (F.RAD_GRT_MLD_MASK_MASK n) ∧ (u.gr n).served = [] ∧ (u.gr n).takeBack = false ∧
        (u.gr n).work = (if (s.gr n).takeBack then (s.gr n).work.map disown else (s.gr n).work) ∧
        (u.gr n).shadow = (if (s.gr n).takeBack then (s.gr n).shadow.map disown else (s.gr n).shadow)) ∧
    (∀ g, s.sfSlots n ≠ 0 → s.position n s.slotIndex = 0 → s.slotIndex % 4000 = 0 → s.grantsOk n = true → (s.rad n).restart = false →
      s.plt.applyLegend.contains n.val = false → s.grt.hold.wHeld = none → (∀ c < 16, (s.chain c).rejoin = false) → (s.gr n).commitAt = none →
      (s.gr n).takeBack = false → (s.gr n).pend = [g] → notLater g.epoch s.epoch = true →
      ∃ u, exec (.slotEdge n) s = .next u ∧ (u.gr n).pend = [] ∧ u.get (F.RAD_GRT_STATUS_PENDING n) = 0 ∧
        (u.gr n).work = (let w := overRange (s.gr n).work g.first g.count (fun _ => true) g.apply
                         if slotTableOk w then w else (s.gr n).work)) ∧
    (∀ t, s.sfSlots n ≠ 0 → s.position n s.slotIndex = 0 → (s.rad n).restart = false → s.plt.applyLegend.contains n.val = false → s.grt.hold.wHeld = none →
      (∀ c < 16, (s.chain c).rejoin = false) → (s.gr n).commitAt = some t → t ≤ s.slotIndex * slotNs → (s.gr n).takeBack = false → (s.gr n).pend = [] →
      ∃ u, exec (.slotEdge n) s = .next u ∧ (u.gr n).marks = [] ∧ (u.gr n).commitAt = none ∧ u.get (F.RAD_GRT_STATUS_COMMIT_BUSY n) = 0 ∧
        (u.gr n).shadow = (u.gr n).work ∧
        (u.gr n).work = (let w := (indexed (s.gr n).work).map (fun e =>
                           if (s.gr n).marks.contains e.1 ∧ !slotOwner e.2 then hostFields ((s.gr n).shadow.getD e.1 0) else e.2)
                         if slotTableOk w then w else (s.gr n).work))

/-- R118, R119, R152, R155, R157, R159 to R161, R164, R169, R376: exchanges of a run. A beacon that fits goes out with its bytes, and one that does not, or whose key refuses, is counted; a
downlink exchange, or one won by contention on a free medium, whose PPDU radio and stations can carry and that ends in time is charged, its PPDU goes out with those of its MPDUs that
have a key, and an MPDU acknowledged is held no longer; a trigger round goes out with its stations and random-access units, is charged and noted; outside their runs they do
nothing; a frame that comes back LATE goes to the heads of its queues, or is counted, by its kind; a free EMLSR station is claimed for the exchange by an MU-RTS trigger. Where the spec leaves a point open it follows the model's choices of log 62, 63, 64, 65, 119. -/
def Obligations.RunExchanges : Prop :=
  ∀ (s : State) (n : Fin 3), s.shapeOk = true →
    (∀ t d, s.runKind n = kBCN → (s.gr n).bcnLeft = [t] → s.mayRadiate = true → s.dutyFits n d = true → s.stopping 6 = false → s.beaconRefused n t = false →
      max s.t0 (s.usableStart n) + d ≤ s.usableEnd n →
      s.admissionAt n ⟨0, d, some (max s.t0 (s.usableStart n)), .beacon, PhyForm.basic, 0⟩ (max s.t0 (s.usableStart n)) = .start →
      ∃ u, exec (.beaconRun n [d]) s = .next u ∧ u.out = .airFrame n ((s.beaconPn n t).beaconBytes n t) :: s.out ∧ (u.gr n).bcnLeft = [] ∧
        (u.rad n).duty = (s.rad n).duty ++ [(s.tim.now, d)] ∧ u.regs = (s.beaconPn n t).regs) ∧
    (∀ t d, s.runKind n = kBCN → (s.gr n).bcnLeft = [t] →
      (s.usableEnd n < max s.t0 (s.usableStart n) + d ∨ (s.mayRadiate = true ∧ s.dutyFits n d = true ∧ s.beaconRefused n t = true)) →
      ∃ u, exec (.beaconRun n [d]) s = .next u ∧ u.out = s.out ∧ (u.gr n).bcnLeft = [] ∧
        (u.rd (A.RAD_GRT_BCN_SKIP n)).toNat = min ((s.rd (A.RAD_GRT_BCN_SKIP n)).toNat + 1) 0xFFFFFFFF) ∧
    (∀ durs, s.runKind n ≠ kBCN → exec (.beaconRun n durs) s = .next s) ∧
    (∀ dur total p l, s.runKind n = kDLS → s.ppduOk n p l = true → s.usableStart n ≤ s.t0 → s.t0 + total ≤ s.usableEnd n → s.spaced n = true → dur ≤ 5484000 →
      dur ≤ total → s.stopping 6 = false → s.admission n ⟨0, dur, some s.t0, .dls, PhyForm.basic, total - dur⟩ = .start →
      ∃ u, exec (.dlsExchange n dur total p l) s = .next u ∧ (u.rad n).duty = (s.rad n).duty ++ [(s.tim.now, dur)] ∧ (u.rad n).exchEnd = s.tim.now + total ∧
        u.path = s.path ∧ (∀ st ∈ l, (u.gr n).sounded.contains (st, s.tim.now) = true) ∧
        (∀ x, p.users = [x] → x.mpdus = [] → u.out = .ppdu n p :: s.out ∧ u.que.air = s.que.air) ∧
        (∀ x m h i k, p.users = [x] → x.mpdus = [m] → s.heldMpdu n m.id = some (h, i, k) → s.txKey n i k = .clear → k.reason ≠ 15 → u.out.head? = some (.ppdu n p) ∧
          u.que.air = (if m.acked then s.que.air.erase (h, i, k) else s.que.air.map (fun e => if e == (h, i, k) then (n.val, i, k) else e)))) ∧
    (∀ dur total p l, (s.runKind n ≠ kDLS ∨ s.ppduOk n p l = false) → exec (.dlsExchange n dur total p l) s = .next s) ∧
    (∀ dur total p, s.runKind n = kCTN → s.mediumFree n = true → s.ppduOk n p [] = true → p.users.length ≤ 1 → p.users.any (fun x => x.mpdus == []) = false →
      s.usableStart n ≤ s.t0 → s.t0 + total ≤ s.usableEnd n → s.spaced n = true → dur ≤ 5484000 → dur ≤ total → s.stopping 6 = false →
      s.admission n ⟨0, dur, none, .contention, PhyForm.basic, total - dur⟩ = .start →
      ∃ u, exec (.ctnContend n dur total p) s = .next u ∧ (u.rad n).duty = (s.rad n).duty ++ [(s.tim.now, dur)] ∧
        ∃ us, u.out.head? = some (.ppdu n { p with users := us }) ∧ us.all (fun x => p.users.any (fun y => y.st == x.st && y.ru == x.ru)) = true) ∧
    (∀ dur total p, (s.runKind n ≠ kCTN ∨ s.mediumFree n = false) → exec (.ctnContend n dur total p) s = .next s) ∧
    (∀ dur total p, (shortenPpdu p (s.t0 + total - s.usableEnd n)).users.any (fun x => x.mpdus == []) = true → exec (.ctnContend n dur total p) s = .next s) ∧
    (∀ r x answers, (s.gr n).run = some r → r.kind = kULT → s.usableStart n ≤ s.t0 → s.spaced n = true → 0 < s.tbNs n x → s.stopping 6 = false →
      ((s.schedLimit n (s.ulPlan n r).2).1 ≠ [] ∨ 0 < min (s.get (F.RAD_GRT_CTRL_RA_RU n)) (ruCount (((s.rad n).chan.map (fun c => c.width)).getD 0))) →
      s.admission n ⟨0, x.trig, some s.t0, .trigger, PhyForm.basic, s.tbNs n x + 2 * sifsNs n + x.ack⟩ = .start →
      ∃ u, exec (.ultRound n x answers) s = .next u ∧ (u.gr n).polled = true ∧ (u.rad n).duty = (s.rad n).duty ++ [(s.tim.now, x.trig)] ∧
        (let rus := ruCount (((s.rad n).chan.map (fun c => c.width)).getD 0)
         let l := (s.schedLimit n (s.ulPlan n r).2).1.take rus
         u.out = .trigger n (s.ulPlan n r).1 l (min (s.get (F.RAD_GRT_CTRL_RA_RU n)) (rus - l.length)) (s.tbNs n x) :: s.out)) ∧
    (∀ x answers, (s.runKind n ≠ kULT ∨ s.tbNs n x = 0) → exec (.ultRound n x answers) s = .next s) ∧
    (∀ t, (s.gr n).bcnLeft = [t] →
      ∃ u, exec (.lateFrame n .beacon [t]) s = .next u ∧ (u.gr n).bcnLeft = [] ∧
        (u.rd (A.RAD_GRT_BCN_SKIP n)).toNat = min ((s.rd (A.RAD_GRT_BCN_SKIP n)).toNat + 1) 0xFFFFFFFF) ∧
    (∀ ids, exec (.lateFrame n .cts ids) s = .next (s.bump (A.RAD_GRT_PROTECT_MISS n)) ∧
      exec (.lateFrame n .trigger ids) s = .next s ∧ exec (.lateFrame n .contention ids) s = .next s) ∧
    (∀ q k, s.que.air = [(n.val, q, k)] →
      ∃ u, exec (.lateFrame n .dls [k.id]) s = .next u ∧ u.que.air = [] ∧ u.que' q = k :: s.que' q ∧
        (u.rd (A.RAD_GRT_LATE_REQUEUE n)).toNat = min ((s.rd (A.RAD_GRT_LATE_REQUEUE n)).toNat + 1) 0xFFFFFFFF) ∧
    (∀ (st : Fin 4096) dur, s.staValid st = true → s.isSet (F.STA_W0_EMLSR st) = true → bit (s.get (F.STA_W0_LINKS st)) n = true → s.stopping 6 = false →
      s.grt.claims.find? (fun c => c.1 == st.val && decide (s.tim.now < c.2.2)) = none →
      (let pad := emlsrPadNs (s.get (F.STA_W3_EMLSR_PAD st))
       s.admission n ⟨0, pad, if s.runKind n = kCTN then none else some s.t0, frameKind (s.runKind n), PhyForm.basic, 0⟩ = .start →
       ∃ u, exec (.emlsrClaim n st dur false) s = .next u ∧ u.out = .muRts n st pad :: s.out ∧
        u.grt.claims = (st.val, n.val, s.tim.now + dur + emlsrTransNs (s.get (F.STA_W3_EMLSR_TRANS st))) :: s.grt.claims.filter (fun c => c.1 != st.val))) ∧
    (∀ (st : Fin 4096) dur c, s.grt.claims.find? (fun c => c.1 == st.val && decide (s.tim.now < c.2.2)) = some c → c.2.1 ≠ n.val →
      exec (.emlsrClaim n st dur false) s = .next s)

/-- R162, R163: a radio rests in a quiet run as deep as the run's REST code and its length allow; a quiet stretch is protected by one CTS-to-self that reaches over it, after which the
run sends nothing more, or the miss is counted. -/
def RestAndProtectionRules : Prop :=
  ∀ (s : State) (n : Fin 3) (r : Run), s.shapeOk = true → (s.gr n).run = some r →
    (∀ xo, (r.kind = kQUI ∨ r.kind = kINS) → rSynthOn ≤ s.rstate n → (s.rad n).tx = none →
      ∃ u, exec (.restEnter n xo) s = .next u ∧
        u.rstate n = [rRx, rSynthOn, rStandby].getD (restDepth r.rest (r.len * slotNs - (r.guard + s.guardNs n)) xo) rSleep ∧
        (2 < restDepth r.rest (r.len * slotNs - (r.guard + s.guardNs n)) xo → u.chn.xo80 = !u.mayStopXo80)) ∧
    (∀ xo, r.kind ≠ kQUI → r.kind ≠ kINS → exec (.restEnter n xo) s = .next s) ∧
    (∀ dur idle, s.protects n r = true → (s.gr n).ctsDone = false → s.usableEnd n < s.t0 + dur → exec (.ctsToSelf n dur idle) s = .next (s.bump (A.RAD_GRT_PROTECT_MISS n))) ∧
    (∀ dur, s.protects n r = true → (s.gr n).ctsDone = false → r.kind = kCTN → exec (.ctsToSelf n dur false) s = .next (s.bump (A.RAD_GRT_PROTECT_MISS n))) ∧
    (∀ dur, s.protects n r = true → (s.gr n).ctsDone = false → s.t0 + dur ≤ s.usableEnd n → r.kind ≠ kCTN → s.stopping 6 = false →
      s.admission n ⟨0, dur, some s.t0, .cts, PhyForm.basic, 0⟩ = .start →
      ∃ u, exec (.ctsToSelf n dur true) s = .next u ∧
        u.out = .cts n (ceilDiv (r.endNs + (s.stretchAfter n r).length * slotNs + s.guardNs n - (s.t0 + dur)) 1000) :: s.out ∧ (u.gr n).ctsDone = true ∧ u.regs = s.regs) ∧
    (∀ dur idle, (s.protects n r = false ∨ (s.gr n).ctsDone = true) → exec (.ctsToSelf n dur idle) s = .next s)

/-- R167, R170, R171, R173, R174, R178, R304, R448: the host's hand on the tables. A station is installed, refused and counted, or removed with its flush to come; a grant is taken, rejected or dropped; a word of
the shadow window marks its entry; GO makes a commit wait; a write of the control register takes its fields, gives the domain's slots up where DOMAIN_EN is 0, keeps it against a secondary host, and is discarded out of range. -/
def GraticuleWritesRules : Prop :=
  ∀ (s : State) (m : Master) (n : Fin 3) (v : Word), s.shapeOk = true →
    (∀ (st : Fin 4096), s.gate m (A.STA_W0 st) = .pass → getField v 0 1 = 1 → s.stationBad st v = true →
      exec (.stationWord0Write m st v) s = .next (s.bump (A.RAD_GRT_STA_REJECT (((List.range 3).find? (fun k => bit (getField v 1 3) k)).getD 0)))) ∧
    (∀ (st : Fin 4096), s.gate m (A.STA_W0 st) = .pass → getField v 0 1 = 1 → s.stationBad st v = false → s.staValid st = false →
      exec (.stationWord0Write m st v) s = .next (s.wr (A.STA_W0 st) (setField (setField v 21 1 (s.get (F.STA_W0_PS st))) 30 2 0))) ∧
    (∀ (st : Fin 4096), s.gate m (A.STA_W0 st) = .pass → getField v 0 1 = 0 → s.staValid st = true → s.que.flushing = [] →
      ∃ u, exec (.stationWord0Write m st v) s = .next u ∧ u.que.flushing = [st.val] ∧ u.get F.QSC_FLUSH_STATUS_STATION = st ∧
        u.get F.QSC_FLUSH_STATUS_BUSY = 1 ∧ u.staValid st = false) ∧
    (let g : Grant := ⟨s.rd (A.RAD_GRT_GRANT_IN n 0), s.rd (A.RAD_GRT_GRANT_IN n 1), s.rd (A.RAD_GRT_GRANT_IN n 2), v⟩
     s.gate m (A.RAD_GRT_GRANT_IN n 3) = .pass →
      (s.grantBad n g = true → exec (.grantSubmit m n v) s = .next (s.bump (A.RAD_GRT_GRANT_REJECT n))) ∧
      (s.grantBad n g = false → 256 ≤ (s.gr n).pend.length → exec (.grantSubmit m n v) s = .next (s.bump (A.RAD_GRT_GRANT_DROP n))) ∧
      (s.grantBad n g = false → (s.gr n).pend.length < 256 →
        ∃ u, exec (.grantSubmit m n v) s = .next u ∧ (u.gr n).pend = (s.gr n).pend ++ [g] ∧
          u.get (F.RAD_GRT_STATUS_PENDING n) = (s.gr n).pend.length + 1 ∧
          (u.rd (A.RAD_GRT_GRANT_LATE n)).toNat = min ((s.rd (A.RAD_GRT_GRANT_LATE n)).toNat + b2n (notLater g.epoch s.epoch)) 0xFFFFFFFF)) ∧
    (∀ (x : Fin 8192), s.gate m (A.RAD_SHADOW n x) = .pass →
      (s.sfSlots n ≤ x.val / 2 → exec (.shadowWrite m n x v) s = .next (s.bump A.PLT_STRUCT_REJECT)) ∧
      (x.val / 2 < s.sfSlots n → s.isSet (F.RAD_GRT_STATUS_COMMIT_BUSY n) = true →
        exec (.shadowWrite m n x v) s = .next (s.bump (A.RAD_GRT_LOCAL_REJECT n))) ∧
      (x.val / 2 < s.sfSlots n → s.isSet (F.RAD_GRT_STATUS_COMMIT_BUSY n) = false →
        ∃ u, exec (.shadowWrite m n x v) s = .next u ∧ x.val / 2 ∈ (u.gr n).marks ∧ (u.gr n).work = (s.gr n).work ∧ u.regs = s.regs ∧
          (∀ q, q ≠ x.val / 2 → (u.gr n).shadow[q]? = (s.gr n).shadow[q]?) ∧ (x.val % 2 = 1 → (u.gr n).shadow = (s.gr n).shadow))) ∧
    (s.gate m (A.RAD_GRT_COMMIT n) = .pass → v.toNat % 2 = 1 → s.isSet (F.RAD_GRT_STATUS_COMMIT_BUSY n) = false →
      exec (.grtCommit m n v) s =
        .next ((s.grMod n (fun r => { r with commitAt := some (s.t0 + 64000) })).put (F.RAD_GRT_STATUS_COMMIT_BUSY n) 1)) ∧
    (s.gate m (A.RAD_GRT_COMMIT n) = .pass → (v.toNat % 2 = 0 ∨ s.isSet (F.RAD_GRT_STATUS_COMMIT_BUSY n) = true) → exec (.grtCommit m n v) s = .next s) ∧
    (s.gate m (A.RAD_GRT_CTRL n) = .pass → (getField v 0 10 = 0 ∨ 512 < getField v 0 10 ∨ 8 < getField v 10 4) → exec (.domainEnWrite m n v) s = .next s) ∧
    (s.gate m (A.RAD_GRT_CTRL n) = .pass → 1 ≤ getField v 0 10 → getField v 0 10 ≤ 512 → getField v 10 4 ≤ 8 → bit v.toNat 16 = true →
      exec (.domainEnWrite m n v) s = .next (s.wr (A.RAD_GRT_CTRL n) (setField (s.rd (A.RAD_GRT_CTRL n)) 0 17 (getField v 0 17)))) ∧
    (s.gate m (A.RAD_GRT_CTRL n) = .pass → 1 ≤ getField v 0 10 → getField v 0 10 ≤ 512 → getField v 10 4 ≤ 8 → bit v.toNat 16 = false → m ≠ .secondary →
      exec (.domainEnWrite m n v) s = .next ((s.wr (A.RAD_GRT_CTRL n) (setField (s.rd (A.RAD_GRT_CTRL n)) 0 17 (getField v 0 17))).grMod n
        (fun r => { r with takeBack := true }))) ∧
    (s.gate m (A.RAD_GRT_CTRL n) = .pass → 1 ≤ getField v 0 10 → getField v 0 10 ≤ 512 → getField v 10 4 ≤ 8 → bit v.toNat 16 = false → m = .secondary →
      ∃ u, exec (.domainEnWrite m n v) s = .next u ∧ u.get (F.RAD_GRT_CTRL_DOMAIN_EN n) = s.get (F.RAD_GRT_CTRL_DOMAIN_EN n) ∧
        u.get (F.RAD_GRT_CTRL_SCHED_MAX n) = getField v 0 10 ∧ u.grt = s.grt ∧
        (u.rd (A.RAD_GRT_LOCAL_REJECT n)).toNat = min ((s.rd (A.RAD_GRT_LOCAL_REJECT n)).toNat + 1) 0xFFFFFFFF)

/-- R175 to R177, R179, R221: the guard follows its formula on every radio while LOCKED; a holdover whose guard outgrows GUARD_MAX is CAPPED. A reference period with a beacon clears the misses; one without counts a miss, and the
third takes a LOCKED member into HOLDOVER, counted, its next valid reference taking over. A member that follows no reference counts nothing. -/
def HoldoverRules : Prop :=
  ∀ s : State,
    (s.dstage = 0 → exec .guardRecompute s =
      .next (((s.put (F.RAD_GRT_GUARD_GUARD_NS 0) s.guardNow).put (F.RAD_GRT_GUARD_GUARD_NS 1) s.guardNow).put (F.RAD_GRT_GUARD_GUARD_NS 2) s.guardNow)) ∧
    (s.dstage = 0 → s.guardNow = ceilDiv (min s.guardMaxNum (max (s.get F.TRV_HOLD_CTRL_GUARD_MIN * 1000)
      (2 * s.eNow + s.get F.TRV_HOLD_CTRL_PROP * 10) * nsPerS)) (10 * nsPerS) * 10) ∧
    (s.dstage = 1 → s.guardMaxNum < s.guardNum → s.wNum ≤ 256000 * nsPerS → s.grt.hold.wHeld = none →
      ∃ u, exec .guardRecompute s = .next u ∧ u.dstage = 2 ∧ u.tim.offs = []) ∧
    ((s.isRoot = true ∨ s.dom < 2) → exec .referencePeriodEnd s = .next s) ∧
    (s.isRoot = false → 2 ≤ s.dom → s.grt.hold.got = true →
      exec .referencePeriodEnd s = .next ((s.holdMod (fun h => { h with got := false })).put F.TRV_DATUM_STATE_MISSES 0)) ∧
    (s.isRoot = false → 2 ≤ s.dom → s.grt.hold.got = false → s.get F.TRV_DATUM_STATE_MISSES < 2 →
      exec .referencePeriodEnd s =
        .next ((s.holdMod (fun h => { h with consec := 0 })).put F.TRV_DATUM_STATE_MISSES (s.get F.TRV_DATUM_STATE_MISSES + 1))) ∧
    (s.isRoot = false → 2 ≤ s.dom → s.grt.hold.got = false → 2 ≤ s.get F.TRV_DATUM_STATE_MISSES → s.dstage = 0 →
      ∃ u, exec .referencePeriodEnd s = .next u ∧ u.dstage = 1 ∧ u.get F.TRV_DATUM_STATE_MISSES = 0 ∧ u.grt.hold.eHold = s.eNow ∧
        (u.rd A.TRV_HOLDOVER_COUNT).toNat = min ((s.rd A.TRV_HOLDOVER_COUNT).toNat + 1) 0xFFFFFFFF ∧
        u.refNow = (match [1, 2, 3].find? (fun d => s.refValid ((s.refNow + d) % 4)) with
          | some d => (s.refNow + d) % 4
          | none => s.refNow))

/-- R150, R152, R153, R162, R163, R172, R173, R174: what a slot edge does, rest, and the protection of run ends. Where the spec leaves a point open it follows the model's choices of log 61. -/
def Obligations.SlotsAndRest : Prop :=
  SlotEdgesRules ∧ RestAndProtectionRules

/-- R167, R170, R171, R173, R174, R175, R176, R177, R178, R179, R221, R304, R448: the tables of the Graticule and its holdover. Where the spec leaves a point open it follows the model's choices of log 60, 61, 66, 67. -/
def Obligations.GraticuleAndHoldover : Prop :=
  GraticuleWritesRules ∧ HoldoverRules

/-! ### The Traverse (R181 to R206) -/

/-- R84, R181, R183, R185: a Traverse slot starts: the notes of the last slot go, a member takes the channel of the slot, an armed map whose epoch has come becomes the domain map, and a
synthesiser that waits for the slot takes over. -/
def TraverseSlotsRules : Prop :=
  ∀ s : State, s.shapeOk = true →
    (∃ u, exec .traverseSlotStart s = .next u ∧ u.trv.sentInSlot = false ∧ u.trv.wurSlot = false ∧ u.trv.blockedNoted = false) ∧
    (2 ≤ s.dom → s.trv.next = none → s.grt.hold.wHeld = none → ∃ u, exec .traverseSlotStart s = .next u ∧ u.get F.TRV_STATUS_CHANNEL = s.hopNow % 64) ∧
    (∀ map version e, s.trv.next = some (map, version, e) → notLater e (slotEpoch s.trvSlot) = true → map < 2 ^ 40 →
      ∃ u, exec .traverseSlotStart s = .next u ∧ u.trv.next = none ∧ u.hopMap = map ∧ u.get F.TRV_HOPMAP_HI_VERSION = version % 65536 ∧
        u.get F.TRV_STATUS_MAP_PENDING = 0) ∧
    (∀ k : Fin 4, s.chn.trvBack = false → s.chn.trvNext = some k.val →
      ∃ u, exec .traverseSlotStart s = .next u ∧ u.get (F.CHN_SYNTH_STATUS_SERVES k) = 3 ∧ u.chn.trvBy = some k.val ∧ u.chn.trvNext = none)

/-- The transceiver hears frames at all: R190's conditions before its checks. -/
abbrev TraverseHears (s : State) : Prop :=
  s.ballsTaken = false ∧ s.dom ≠ 0 ∧ s.trv.wurSlot = false ∧ s.pwr.stage = .up ∧ s.trv.rest = false ∧ s.radioEnable 3 = true ∧ s.trvLost = false

/-- R181, R182, R190, R191, R194: a received frame. One whose PHY header fails its CRC or range, or that breaks off, is counted in RX_ABORT; one outside the receive span of the slot is not
received; then in turn: another domain, this member's own number (DUP_MEMBER sets), a key not loaded or a
tag that does not match (the cipher is an opaque function of the model), an unknown type, a replay; a later number of the sender's session passes, is counted, and its number and
window become the sender's. Where the spec leaves a point open it follows the model's choices of log 74, 75, 114. -/
def Obligations.TraverseReceives : Prop :=
  ∀ (s : State) (phy : BitVec 26) (bytes : List Byte) (pa pb sinr : Nat) (cfo : Int) (ago : Nat), s.shapeOk = true →
    let b := bytes.take (bytes.length - 16)
    let m := leAt b 2 2 % 1024
    let key := leAt b 1 1 % 2
    let good := frameTag (s.domainKey key) b = bytes.drop (bytes.length - 16)
    let span := s.inRxSpan ((phyLoad phy.toNat).frameNs (phyLen phy.toNat)) ago
    let plus (u : State) (off : Nat) : Prop := (u.rd off).toNat = min ((s.rd off).toNat + 1) 0xFFFFFFFF
    (s.dom = 0 → exec (.traverseFrameReceive phy bytes pa pb sinr cfo ago) s = .next s) ∧
    (TraverseHears s → (s.trv.slotLost = true ∨ phyOk phy.toNat = false ∨ bytes.length < phyLen phy.toNat) →
      exec (.traverseFrameReceive phy bytes pa pb sinr cfo ago) s = .next (s.bump A.TRV_RX_ABORT)) ∧
    (TraverseHears s → s.trv.slotLost = false → phyOk phy.toNat = true → phyLen phy.toNat ≤ bytes.length → span = false →
      exec (.traverseFrameReceive phy bytes pa pb sinr cfo ago) s = .next s) ∧
    (TraverseHears s → s.trv.slotLost = false → phyOk phy.toNat = true → bytes.length = phyLen phy.toNat → span = true →
      ∃ u, exec (.traverseFrameReceive phy bytes pa pb sinr cfo ago) s = .next u ∧
        (leAt b 8 4 ≠ (s.rd A.TRV_DOMAIN_ID).toNat → plus u A.TRV_RX_OTHER_DOMAIN ∧ u.trv.sinr = s.trv.sinr) ∧
        (leAt b 8 4 = (s.rd A.TRV_DOMAIN_ID).toNat → m = s.get F.TRV_MEMBER_MEMBER → plus u A.TRV_RX_SELF ∧ u.isSet F.TRV_STATUS_DUP_MEMBER = true) ∧
        (leAt b 8 4 = (s.rd A.TRV_DOMAIN_ID).toNat → m ≠ s.get F.TRV_MEMBER_MEMBER → (leAt b 4 2 % 1024 = s.get F.TRV_MEMBER_MEMBER ∨ bit (leAt b 4 2) 15 = true) →
          ((s.keyLoadedAt key = false ∨ ¬good) → plus u A.TRV_RX_AUTH_FAIL ∧ u.trv.queue = s.trv.queue) ∧
          (s.keyLoadedAt key = true → good → (leAt b 0 1 = 0 ∨ 10 < leAt b 0 1) → plus u A.TRV_RX_UNKNOWN) ∧
          (s.keyLoadedAt key = true → good → 1 ≤ leAt b 0 1 → leAt b 0 1 ≤ 10 → s.isSet (F.NBR_W0_VALID m) = true →
            (s.rd (A.NBR_SESSION m)).toNat = leAt b 12 4 → leAt b 16 4 = (s.rd (A.NBR_HIGH m)).toNat → bit (s.nbrWindow m) 0 = true →
            plus u A.TRV_RX_REPLAY ∧ u.rd (A.NBR_HIGH m) = s.rd (A.NBR_HIGH m)) ∧
          (s.keyLoadedAt key = true → good → 1 ≤ leAt b 0 1 → leAt b 0 1 ≤ 10 → s.isSet (F.NBR_W0_VALID m) = true →
            (s.rd (A.NBR_SESSION m)).toNat = leAt b 12 4 → 0 < sint 32 (leAt b 16 4 + 2 ^ 32 - (s.rd (A.NBR_HIGH m)).toNat) →
            plus u A.TRV_RX_OK ∧ u.rd (A.NBR_HIGH m) = BitVec.ofNat 32 (leAt b 16 4) ∧ u.isSet (F.NBR_W0_VALID m) = true)))

/-- R184, R186, R188, R192, R195, R197, R199: sending. The frame of highest priority that fits its slot, once the medium has been idle for 36 µs and k times 18 µs of a k drawn for it (R195), goes
out under the next number and leaves the queue; a slot blocked by the mask, or held by the
dwell, is counted once; a beacon goes out once in its period and slot; a delay exchange begins with the reference member, is tried again once 8 of
the member's transmit slots have passed, and fails after its last try. -/
def TraverseSendsRules : Prop :=
  ∀ s : State,
    (∀ f k, s.nextFrame = some f → f.type ≠ 9 → s.txGate = .go → s.fitsNow ((s.frameLoad f).frameNs f.len) = true → s.trv.seq < 2 ^ 32 →
      s.trv.senseK = some k → s.senseOk f k = true →
      ∃ u, exec .traverseFrameSend s = .next u ∧ u.trv.queue = s.trv.queue.erase f ∧ u.trv.seq = s.trv.seq + 1 ∧ u.trv.sentInSlot = true ∧ u.trv.senseK = none ∧
        u.trv.txUntil = s.t0 + (s.frameLoad f).frameNs f.len ∧ u.out.tail = s.out ∧
        (u.rd A.TRV_TX_FRAMES).toNat = min ((s.rd A.TRV_TX_FRAMES).toNat + 1) 0xFFFFFFFF) ∧
    (∀ f k, s.nextFrame = some f → s.txGate = .go → s.trv.senseK = some k → s.senseOk f k = false → exec .traverseFrameSend s = .next s) ∧
    (∀ f, s.nextFrame = some f → s.txGate = .go → s.fitsNow ((s.frameLoad f).frameNs f.len) = true → s.trv.senseK = none → (∀ k < 16, s.senseOk f k = false) →
      ∃ u, exec .traverseFrameSend s = .next u ∧ (∃ k < 16, u.trv = { s.trv with senseK := some k }) ∧ u.regs = s.regs ∧ u.out = s.out) ∧
    (∀ f, s.nextFrame = some f → s.txGate = .blocked →
      exec .traverseFrameSend s = .next ((s.bump A.TRV_BLOCKED_SLOTS).trvMod (fun t => { t with blockedNoted := true }))) ∧
    (∀ f, s.nextFrame = some f → s.txGate = .dwell →
      exec .traverseFrameSend s = .next ((s.bump A.TRV_DWELL_HOLD).trvMod (fun t => { t with blockedNoted := true }))) ∧
    ((s.nextFrame = none ∨ s.txGate = .no) → exec .traverseFrameSend s = .next s) ∧
    (s.isSet F.TRV_CTRL_BCN_EN = true → s.dom = 3 → (s.dstage = 0 ∨ s.isRoot = true) → s.trv.bcnPeriod ≠ some (refPeriod (s.trvSlot * trvSlotNs)) →
      beaconSlot s.trvSlot = s.get F.TRV_CTRL_BCN_SLOT → s.txGate = .go → 35000 ≤ s.t0 % trvSlotNs → s.t0 % trvSlotNs ≤ 35000 → s.trv.seq < 2 ^ 32 →
      ∃ u, exec .beaconSend s = .next u ∧ u.trv.bcnPeriod = some (refPeriod (s.trvSlot * trvSlotNs)) ∧ u.trv.seq = s.trv.seq + 1 ∧ u.out.tail = s.out ∧
        u.trv.queue = s.trv.queue ∧ (u.rd A.TRV_TX_FRAMES).toNat = min ((s.rd A.TRV_TX_FRAMES).toNat + 1) 0xFFFFFFFF) ∧
    ((s.isSet F.TRV_CTRL_BCN_EN = false ∨ s.dom ≠ 3) → exec .beaconSend s = .next s) ∧
    (∀ m, s.refMember = some m → s.isRoot = false → 2 ≤ s.dom → s.trv.mayTx = true → s.trv.exch = none → s.trv.exchDone = false → s.trv.queue.length < 64 →
      exec .delayReqSend s =
        .next (s.trvMod (fun t => { t with exch := some ⟨1, none, 0⟩, queue := t.queue ++ [⟨2, some m, List.replicate 4 0#8, none⟩] }))) ∧
    ((s.isRoot = true ∨ s.dom < 2 ∨ s.trv.mayTx = false ∨ s.trv.exchDone = true) → exec .delayReqSend s = .next s) ∧
    (∀ m e, s.trv.exch = some e → s.refMember = some m → e.sent.isSome = true → 8 ≤ e.slots → e.tries < 5 → s.trv.queue.length < 64 →
      exec .delayRetry s =
        .next (s.trvMod (fun t => { t with exch := some ⟨e.tries + 1, none, 0⟩, queue := t.queue ++ [⟨2, some m, List.replicate 4 0#8, none⟩] }))) ∧
    (∀ m e, s.trv.exch = some e → s.refMember = some m → e.sent.isSome = true → 8 ≤ e.slots → 5 ≤ e.tries →
      exec .delayRetry s = .next ((s.trvMod (fun t => { t with exch := none, exchDone := true })).bump A.TRV_DELAY_FAIL)) ∧
    (∀ e, s.trv.exch = some e → (e.sent = none ∨ e.slots < 8) → exec .delayRetry s = .next s) ∧
    (s.trv.exch = none → exec .delayRetry s = .next s)

/-- R183, R205, R212: the host's writes of the Traverse. A root arms the next map; a member outside joins, as the domain's member where it is the root and into a scan else; one inside leaves, with three
frames if it may transmit; a scan moves to the next channel after 1 s; a domain key loads with its last word and unloads with its first; a frame given by the host waits, is lost on a full queue, or is refused. Where the spec leaves a point open it follows the model's choices of log 72. -/
def Obligations.TraverseWrites : Prop :=
  ∀ (s : State) (m : Master) (v : Word),
    (s.gate m A.TRV_HOPMAP_NEXT_EPOCH = .pass → s.isRoot = false → exec (.hopmapNextArm m v) s = .next (s.bump A.TRV_WRITE_REJECT)) ∧
    (let map := (s.rd A.TRV_HOPMAP_NEXT_LO).toNat + s.get F.TRV_HOPMAP_NEXT_HI_CHANNELS * 2 ^ 32
     s.gate m A.TRV_HOPMAP_NEXT_EPOCH = .pass → s.isRoot = true → s.minHopset ≤ popcount 40 map → 4 ≤ sint 32 (v.toNat + 2 ^ 32 - s.epoch) →
      ∃ u, exec (.hopmapNextArm m v) s = .next u ∧ u.trv.next = some (map, (s.get F.TRV_HOPMAP_HI_VERSION + 1) % 65536, v.toNat) ∧
        u.get F.TRV_STATUS_MAP_PENDING = 1 ∧ u.hopMap = s.hopMap) ∧
    (s.gate m A.TRV_CTRL = .pass → s.dom = 0 → getField v 21 7 ≠ 0 → getField v 28 4 ≠ 0 →
      ∃ u, exec (.join m v) s = .next u ∧ u.dom = (if s.isRoot then 3 else 1) ∧ u.trv.mayTx = s.isRoot ∧ u.trv.queue = [] ∧ u.trv.sinr = [] ∧
        (∀ k : Fin 1024, u.isSet (F.NBR_W0_VALID k) = false) ∧ u.get F.TRV_DATUM_STATE_MISSES = 0 ∧ u.dstage = (if s.isRoot then 0 else 3)) ∧
    (s.gate m A.TRV_CTRL = .pass → (getField v 21 7 = 0 ∨ getField v 28 4 = 0) →
      exec (.join m v) s = .next (s.bump A.TRV_WRITE_REJECT) ∧ exec (.leave m v) s = .next (s.bump A.TRV_WRITE_REJECT)) ∧
    (s.gate m A.TRV_CTRL = .pass → 2 ≤ s.dom → getField v 21 7 ≠ 0 → getField v 28 4 ≠ 0 → s.trv.leaveLeft = 0 → s.trv.mayTx = true →
      ∃ u, exec (.leave m v) s = .next u ∧ u.trv.leaveLeft = 3 ∧ u.trv.leaveAt = s.tim.now ∧ u.trv.joinLeft = 0 ∧ u.dom = s.dom) ∧
    (s.gate m A.TRV_CTRL = .pass → 1 ≤ s.dom → getField v 21 7 ≠ 0 → getField v 28 4 ≠ 0 → s.trv.leaveLeft = 0 → s.trv.mayTx = false →
      ∃ u, exec (.leave m v) s = .next u ∧ u.dom = 0 ∧ u.trv.queue = []) ∧
    (s.dom = 1 → s.trv.scanAt + 1000000000 ≤ s.tim.now → exec .scanChannelMove s =
      .next ((s.put F.TRV_STATUS_SCAN_CH (s.scanNext (some (s.get F.TRV_STATUS_SCAN_CH)))).trvMod (fun t => { t with scanAt := s.tim.now }))) ∧
    ((s.dom ≠ 1 ∨ s.tim.now < s.trv.scanAt + 1000000000) → exec .scanChannelMove s = .next s) ∧
    (∀ (n : Fin 2) (k : Fin 4), s.gate m (A.TRV_DKEY n k) = .pass → s.trv.keys.length = 2 →
      ∃ u, exec (.domainKeyWrite m n k v) s = .next u ∧ u.domainKey n = patch (s.domainKey n) (4 * k) (leBytes 4 v.toNat) ∧
        (k.val = 0 → u.keyLoadedAt n = false) ∧ (k.val = 3 → u.keyLoadedAt n = true) ∧ ((k.val = 1 ∨ k.val = 2) → u.keyLoadedAt n = s.keyLoadedAt n) ∧
        (∀ off, off ≠ A.TRV_DKEY_STATUS → u.rd off = s.rd off)) ∧
    (s.gate m A.TRV_HOST_TX = .pass → 1024 < getField v 0 11 → exec (.hostTxGo m v) s = .next (s.bump A.TRV_WRITE_REJECT)) ∧
    (s.gate m A.TRV_HOST_TX = .pass → getField v 0 11 ≤ 1024 → s.get F.TRV_HOST_TX_BUSY = 0 → s.trv.queue.length < 64 →
      ∃ u, exec (.hostTxGo m v) s = .next u ∧ u.get F.TRV_HOST_TX_BUSY = 1 ∧
        u.trv.queue = s.trv.queue ++ [⟨10, if bit v.toNat 21 then none else some (getField v 11 10),
          (wordBytes ((List.range 256).map (fun i => s.rd (A.TRV_HOST_PAYLOAD i)))).take (getField v 0 11), none⟩])

/-- R114, R207 to R210, R213: wake-up frames and the rendezvous. A frame that a port holds and nothing of this member drowns, of this member's identifier, or a broadcast it takes, is counted and
sets WAKE, others are counted or ignored; the frame waiting takes a slot from its start, and is held and counted once while the part does not run or the profile does not allow
it; a rendezvous is armed at least 5 ms ahead, calls at its time, after WAIT and every INTERVAL, and ends in FAIL when its span is over, or by DISARM. Where the spec leaves a point open it follows the model's choices of log 76, 77. -/
def Obligations.WakeUps : Prop :=
  ∀ (s : State) (m : Master) (v : Word) (id : BitVec 12) (w : WurSender),
    (∀ p ago, s.wurHolder w = some (p, ago) → s.wurDrowned ago = false →
      (id.toNat = s.get F.WUR_CTRL_WUR_ID → s.rdvState = 0 →
        ∃ u, exec (.wurFrameAccept true true false id w) s = .next u ∧ u.isSet F.WUR_STATUS_WAKE = true ∧ u.get F.WUR_STATUS_LAST_SENDER = w.member.toNat ∧
          (u.rd A.WUR_RX_WAKE).toNat = min ((s.rd A.WUR_RX_WAKE).toNat + 1) 0xFFFFFFFF ∧ u.trv = { s.trv with wurPort := p, wurEnd := s.tim.now }) ∧
      (s.isSet F.WUR_CTRL_BCAST_WAKE = true → s.rdvState = 0 →
        ∃ u, exec (.wurFrameAccept true true true id w) s = .next u ∧ u.isSet F.WUR_STATUS_WAKE = true ∧ u.get F.WUR_STATUS_LAST_SENDER = w.member.toNat) ∧
      (∀ ok b, exec (.wurFrameAccept false ok b id w) s = .next ((s.trvMod (fun t => { t with wurPort := p, wurEnd := s.tim.now })).bump A.WUR_RX_OTHER)) ∧
      (id.toNat ≠ s.get F.WUR_CTRL_WUR_ID →
        exec (.wurFrameAccept true true false id w) s = .next (s.trvMod (fun t => { t with wurPort := p, wurEnd := s.tim.now })) ∧
        exec (.wurFrameAccept true false false id w) s = .next (s.trvMod (fun t => { t with wurPort := p, wurEnd := s.tim.now })))) ∧
    (∀ wake ok b p ago, s.wurHolder w = some (p, ago) → s.wurDrowned ago = true → exec (.wurFrameAccept wake ok b id w) s = .next s) ∧
    (∀ wake ok b, (s.wurListens 0 = false ∨ w.atA = none) → (s.wurListens 1 = false ∨ w.atB = none) → exec (.wurFrameAccept wake ok b id w) s = .next s) ∧
    (∀ f l, s.trv.wurQueue = f :: l → 2 ≤ s.pwrState → f.limited = false →
      exec .wurTransmit s = .next ((s.trvMod (fun x => { x with wurQueue := { f with limited := true } :: l })).bump A.WUR_TX_LIMITED)) ∧
    (∀ f l, s.trv.wurQueue = f :: l → s.pwrState < 2 → s.trvUp = true → s.mayRadiate = true → s.stopping 7 = false → s.trv.slotLost = false →
      s.trv.wurSlot = false → s.trv.sentInSlot = false → s.trv.txUntil ≤ s.t0 → s.t0 % trvSlotNs ≤ txFrom → (s.wurMasked f.ch = false ∨ (s.rad 0).tx = none) →
      (s.wurAllowed (wurNs (s.isSet F.WUR_CTRL_TX_RATE)) = true → s.rdvState = 0 →
        ∃ u, exec .wurTransmit s = .next u ∧ u.trv.wurQueue = l ∧ u.trv.wurSlot = true ∧
          u.trv.txUntil = s.t0 - s.t0 % trvSlotNs + txFrom + wurNs (s.isSet F.WUR_CTRL_TX_RATE) ∧ (s.wurMasked f.ch = true → u.trv.hold0 = u.trv.txUntil) ∧
          u.out = .wurFrame f.ch f.id (s.get F.TRV_MEMBER_MEMBER) (s.isSet F.WUR_CTRL_TX_RATE) (min (s.get F.WUR_CTRL_TX_POWER) (s.prof 0x3A 1)) :: s.out ∧
          (u.rd A.WUR_TX_FRAMES).toNat = min ((s.rd A.WUR_TX_FRAMES).toNat + 1) 0xFFFFFFFF) ∧
      (s.wurAllowed (wurNs (s.isSet F.WUR_CTRL_TX_RATE)) = false → f.limited = false →
        exec .wurTransmit s = .next ((s.trvMod (fun x => { x with wurQueue := { f with limited := true } :: l })).bump A.WUR_TX_LIMITED))) ∧
    ((s.trv.wurSlot = true ∨ s.trv.sentInSlot = true ∨ txFrom < s.t0 % trvSlotNs) → s.pwrState < 2 → exec .wurTransmit s = .next s) ∧
    (s.trv.wurQueue = [] → exec .wurTransmit s = .next s) ∧
    (let l := stampDiff ((s.rd A.WUR_RDV_TIME_S).toNat * nsPerS + s.get F.WUR_RDV_TIME_NS_NS : Nat) s.t0
     s.gate m A.WUR_RDV_CTRL = .pass → s.rdvState = 0 → bit v.toNat 27 = false → 1 ≤ getField v 22 4 → getField v 22 4 ≤ 13 →
      (5000000 ≤ l → ∃ u, exec (.rdvArm m v) s = .next u ∧ u.rdvState = 1 ∧ u.get F.WUR_RDV_STATUS_FRAMES = 0 ∧ u.trv.rdvT = s.t0 + l.toNat ∧
        u.rd A.WUR_RDV_CTRL = fieldWord 0 26 v.toNat ∧ u.get F.CAL_CTRL_ALARM_EN = 1) ∧
      (l < 5000000 → exec (.rdvArm m v) s = .next ((s.wr A.WUR_RDV_CTRL (fieldWord 0 26 v.toNat)).bump A.TRV_WRITE_REJECT))) ∧
    (s.gate m A.WUR_RDV_CTRL = .pass → s.rdvState ≠ 0 →
      exec (.rdvDisarm m v) s = .next ((s.put F.WUR_RDV_STATUS_STATE 0).trvMod (fun t => { t with wurQueue := [] }))) ∧
    (s.rdvState = 1 → s.trv.rdvT ≤ s.t0 →
      ∃ u, exec .rdvTimeReached s = .next u ∧ u.rdvState = 2 ∧ u.trv.wurQueue =
        s.trv.wurQueue ++ [⟨s.get F.WUR_RDV_CTRL_PARTNER_CH, s.get F.WUR_RDV_CTRL_PARTNER_WUR_ID, false, false⟩]) ∧
    ((s.rdvState ≠ 1 ∨ s.t0 < s.trv.rdvT) → exec .rdvTimeReached s = .next s) ∧
    (s.rdvState = 2 → s.trv.rdvT + s.rdvWaitNs ≤ s.t0 →
      ∃ u, exec .rdvWaitExpire s = .next u ∧ u.rdvState = 3 ∧ u.trv.rdvNext = s.trv.rdvT + s.rdvWaitNs) ∧
    (s.rdvState ≠ 2 → exec .rdvWaitExpire s = .next s) ∧
    (s.rdvState = 3 → s.trv.rdvNext ≤ s.t0 → s.t0 < s.trv.rdvT + s.trv.rdvSpan + s.rdvWaitNs →
      ∃ u, exec .rdvCall s = .next u ∧ u.regs = s.regs ∧ u.trv.wurQueue.length = s.trv.wurQueue.length + 1 ∧
        u.trv.rdvNext = s.trv.rdvNext + s.get F.WUR_RDV_TIMING_INTERVAL * 1000000) ∧
    (s.rdvState ≠ 3 → exec .rdvCall s = .next s) ∧
    ((s.rdvState = 2 ∨ s.rdvState = 3) → s.trv.rdvT + s.trv.rdvSpan + s.rdvWaitNs ≤ s.t0 →
      ∃ u, exec .rdvSpanEnd s = .next u ∧ u.rdvState = 0 ∧ u.isSet F.WUR_RDV_STATUS_FAIL = true ∧ u.trv.wurQueue = []) ∧
    (s.rdvState < 2 → exec .rdvSpanEnd s = .next s)

/-- R84, R181, R183, R184, R185, R186, R188, R192, R195, R197, R199: the slots of the Traverse and what it sends in them. Where the spec leaves a point open it follows the model's choices of log 68, 69, 70, 71. -/
def Obligations.TraverseSlotsAndSends : Prop :=
  TraverseSlotsRules ∧ TraverseSendsRules

/-! ### Time bases, captures, compares and the calendar (R214 to R245) -/

/-- R216, R217: what a tick that ends a period of `dt` (in 2^-16 ns) does to every base that counts: a set replaces its time, a step adds to it, and the time else advances by
the period scaled by RATE; nothing stays committed, and a base that does not count by itself (R223, R224) stands. -/
def TicksOver (s u : State) (dt : Nat) : Prop :=
  ∀ n : Fin 8,
    (s.tbCounts n = false → u.tbAt n = s.tbAt n) ∧
    (s.tbCounts n = true →
      (u.tbAt n).setPend = none ∧ (u.tbAt n).stepPend = none ∧ (u.tbAt n).slewPend = none ∧ (u.tbAt n).ratePend = none ∧
      (u.tbAt n).rate = (s.tbAt n).ratePend.getD (s.tbAt n).rate ∧
      (∀ v, (s.tbAt n).setPend = some v → (u.tbAt n).t = v) ∧
      (∀ d, (s.tbAt n).setPend = none → (s.tbAt n).stepPend = some d → (s.tbAt n).slew = 0 → (s.tbAt n).ratePend = none →
        ((u.tbAt n).t : Int) = (((s.tbAt n).t : Int) + ((dt * 2 ^ 32 : Nat) + (dt : Int) * (s.tbAt n).rate / 2 ^ 16) + d * 2 ^ 48) % (tbWrap : Int)) ∧
      ((s.tbAt n).setPend = none → (s.tbAt n).stepPend = none → (s.tbAt n).slew = 0 → (s.tbAt n).ratePend = none →
        ((u.tbAt n).t : Int) = (((s.tbAt n).t : Int) + ((dt * 2 ^ 32 : Nat) + (dt : Int) * (s.tbAt n).rate / 2 ^ 16)) % (tbWrap : Int)))

/-- R214 to R217: TCLK ticks the bases over 4 ns at each idle step; as it stops, the first XO32K edge ends the period begun and XO32K carries the bases from then on, each edge adding
the measured period, until TCLK resumes. Without a stable XO32K nothing carries them. -/
def TimeBasesTickRules : Prop :=
  ∀ s : State, s.shapeOk = true →
    (s.pending = [] → s.hst.held = [] → s.tim.tclkOn = true → s.tim.carried = false → ∃ u, step s = .next u ∧ TicksOver s u (4 * 2 ^ 16)) ∧
    (s.tim.carried = false → s.tim.tclkOn = true → s.isSet F.PWR_CLK_STATUS_XO32K_OK = true →
      ∃ u, exec .tclkStop s = .next u ∧ TicksOver s u ((s.rd A.TB_XO32K_PERIOD).toNat - s.tim.xoPhase) ∧ u.tim.carried = true ∧ u.tim.tclkOn = false ∧
        u.tim.xoPhase = 0 ∧ u.tim.now = s.tim.now + ((s.rd A.TB_XO32K_PERIOD).toNat - s.tim.xoPhase) / 2 ^ 16 ∧ u.mem = s.mem ∧ u.path = s.path) ∧
    (s.tim.carried = false → s.isSet F.PWR_CLK_STATUS_XO32K_OK = false →
      ∃ u, exec .tclkStop s = .next u ∧ u.tim.tb = s.tim.tb ∧ u.tim.carried = false ∧ u.tim.tclkOn = false ∧ u.mem = s.mem ∧ u.path = s.path) ∧
    (s.tim.carried = true → exec .tclkStop s = .next s) ∧
    (s.tim.carried = true → s.tim.tclkOn = false →
      ∃ u, exec .tclkResume s = .next u ∧ TicksOver s u (s.rd A.TB_XO32K_PERIOD).toNat ∧ u.tim.carried = false ∧ u.tim.tclkOn = true ∧ u.mem = s.mem ∧
        u.path = s.path) ∧
    (s.tim.carried = false → s.tim.tclkOn = false → s.isSet F.PWR_CLK_STATUS_XO32K_OK = false →
      ∃ u, exec .tclkResume s = .next u ∧ u.tim.tb = s.tim.tb ∧ u.tim.carried = false ∧ u.tim.tclkOn = true) ∧
    (s.tim.tclkOn = true → exec .tclkResume s = .next s) ∧
    (s.tim.carried = true → ∃ u, exec .xo32kCarryEdge s = .next u ∧ TicksOver s u (s.rd A.TB_XO32K_PERIOD).toNat ∧ u.tim.carried = true) ∧
    (s.tim.carried = false → exec .xo32kCarryEdge s = .next s)

/-- R217, R218, R220 to R222: a base of a source that may be adjusted takes a set, step, slew or rate, to act at the next tick; one that may not, and a SLEW_MAX outside 1 to 1,000, are
discarded and counted. The PTP base's LOCKED expires 4 s after the last write that holds it; while PTP steering is in force on a member that is not the root, each offset slews TB0 and
the bases of source 1 against it and shows. -/
def TimeAdjustmentsRules : Prop :=
  ∀ (s : State) (m : Master) (n : Fin 8) (v : Word), s.shapeOk = true →
    (s.gate m (A.TB_CTRL n) = .pass → 1 ≤ getField v 2 10 → getField v 2 10 ≤ 1000 → getField v 0 1 = 1 → s.tbAccepts n true = true →
      ∃ u, exec (.tbSet m n v) s = .next u ∧ u.get (F.TB_CTRL_SLEW_MAX n) = getField v 2 10 ∧
        u.tbAt n = { s.tbAt n with
          setPend := some (((s.get (F.TB_SET1_S_LO n) + s.get (F.TB_SET2_S_HI n) * 2 ^ 32) * 1000000000 + s.get (F.TB_SET0_N n)) * 2 ^ 48 + s.get (F.TB_SET2_F n) * 2 ^ 32) } ∧
        (∀ k : Fin 8, k ≠ n → u.tbAt k = s.tbAt k) ∧ (∀ off, off ≠ A.TB_CTRL n → u.rd off = s.rd off)) ∧
    (s.gate m (A.TB_CTRL n) = .pass → (getField v 2 10 = 0 ∨ 1000 < getField v 2 10 ∨ (getField v 0 1 = 1 ∧ s.tbAccepts n true = false)) →
      exec (.tbSet m n v) s = .next (s.bump A.TB_WRITE_REJECT)) ∧
    (s.gate m (A.TB_STEP_HI n) = .pass → exec (.tbStep m n v) s = .next (
      if s.tbAccepts n true then s.tbMod n (fun b => { b with stepPend := some (sint 64 (v.toNat * 2 ^ 32 + s.get (F.TB_STEP_LO_STEP n))) })
      else s.bump A.TB_WRITE_REJECT)) ∧
    (s.gate m (A.TB_SLEW n) = .pass → exec (.tbSlew m n v) s = .next (
      if s.tbAccepts n false then (s.ptpHeld n).tbMod n (fun b => { b with slewPend := some (sint 32 v.toNat * 2 ^ 48) }) else s.bump A.TB_WRITE_REJECT)) ∧
    (s.gate m (A.TB_RATE_HI n) = .pass → s.tbAccepts n false = true →
      ∃ u, exec (.tbRate m n v) s = .next u ∧ (u.tbAt n).ratePend = some (sint 40 (v.toNat % 256 * 2 ^ 32 + s.get (F.TB_RATE_LO_RATE n))) ∧
        u.get (F.TB_RATE_HI_RATE n) = v.toNat % 256 ∧ (u.tbAt n).t = (s.tbAt n).t ∧ (∀ k : Fin 8, k ≠ n → u.tbAt k = s.tbAt k)) ∧
    (s.gate m (A.TB_RATE_HI n) = .pass → s.tbAccepts n false = false → exec (.tbRate m n v) s = .next (s.bump A.TB_WRITE_REJECT)) ∧
    (∀ k, s.baseOf 2 = some k → s.tim.ptpAt + 4000000000 ≤ s.tim.now → exec .ptpLockedExpire s = .next (s.put (F.TB_CTRL_LOCKED k) 0)) ∧
    ((s.baseOf 2 = none ∨ s.tim.now < s.tim.ptpAt + 4000000000) → exec .ptpLockedExpire s = .next s) ∧
    (s.ptpInForce = true → s.dom ≠ 0 → s.isRoot = false →
      ∃ u, exec .ptpSteer s = .next u ∧ u.rd A.TB_DATUM_OFFSET = BitVec.ofInt 32 s.ptpOffset ∧ u.tim.offs = (s.ptpOffset :: s.tim.offs).take 8 ∧
        (∀ k : Fin 8, (u.tbAt k).t = (s.tbAt k).t ∧
          ((k = 0 ∨ s.get (F.TB_STATUS_SOURCE k) = 1) → (u.tbAt k).slewPend = some (-s.ptpOffset * (s.get F.TB_DATUM_CTRL_KP : Int) * 2 ^ 44)) ∧
          (k ≠ 0 → s.get (F.TB_STATUS_SOURCE k) ≠ 1 → u.tbAt k = s.tbAt k))) ∧
    ((s.ptpInForce = false ∨ s.dom = 0 ∨ s.isRoot = true) → exec .ptpSteer s = .next s)

/-- R226, R227, R235, R236: each unit that selects the event captures the time of its base; a full FIFO loses the capture, counted, with OVF; a software capture is taken as SW is written to a unit of source
9; a read of DATA0 removes the oldest entry and holds the rest of it for the words that follow. The transmit timestamp queues likewise, for the frames
whose stamp has been asked for. -/
def CapturesAndStampsRules : Prop :=
  ∀ (s : State) (m : Master) (c : Fin 16) (q : Fin 7), s.shapeOk = true →
    (∀ (src : Fin 22) (rising : Bool) (sub : Fin 4), s.get (F.CAP_CTRL_SOURCE c) = src.val → edgeTaken (s.get (F.CAP_CTRL_EDGE c)) rising = true →
      ∃ u, exec (.captureEvent src rising sub) s = .next u ∧
        ((s.tim.cap.getD c []).length < 4 → u.tim.cap.getD c [] = s.tim.cap.getD c [] ++
          [(let v := s.stampOf (s.get (F.CAP_CTRL_TB c)) sub; ⟨rising, s.tim.carried, tvN v, tvS v, tvF v⟩)] ∧
          u.get (F.CAP_STATUS_COUNT c) = (s.tim.cap.getD c []).length + 1) ∧
        (4 ≤ (s.tim.cap.getD c []).length → u.tim.cap.getD c [] = s.tim.cap.getD c [] ∧ u.get (F.CAP_STATUS_OVF c) = 1 ∧
          (u.rd (A.CAP_OVF c)).toNat = min ((s.rd (A.CAP_OVF c)).toNat + 1) 0xFFFFFFFF)) ∧
    (∀ (src : Fin 22) (rising : Bool) (sub : Fin 4), (s.get (F.CAP_CTRL_SOURCE c) ≠ src.val ∨ edgeTaken (s.get (F.CAP_CTRL_EDGE c)) rising = false) →
      ∃ u, exec (.captureEvent src rising sub) s = .next u ∧ u.tim.cap.getD c [] = s.tim.cap.getD c [] ∧ u.rd (A.CAP_OVF c) = s.rd (A.CAP_OVF c)) ∧
    (∀ v, s.gate m (A.CAP_CTRL c) = .pass → getField v 0 5 = 9 → (getField v 5 2 = 1 ∨ getField v 5 2 = 3) → getField v 10 1 = 1 →
      (s.tim.cap.getD c []).length < 4 →
      ∃ u, exec (.capSw m c v) s = .next u ∧ u.get (F.CAP_CTRL_SOURCE c) = 9 ∧ u.get (F.CAP_CTRL_TB c) = getField v 7 3 ∧
        u.tim.cap.getD c [] = s.tim.cap.getD c [] ++ [(let x := s.stampOf (getField v 7 3) 0; ⟨true, s.tim.carried, tvN x, tvS x, tvF x⟩)]) ∧
    (∀ v, s.gate m (A.CAP_CTRL c) = .pass → getField v 0 5 ≤ 21 → getField v 10 1 = 0 →
      exec (.capSw m c v) s = .next (s.wr (A.CAP_CTRL c) (BitVec.ofNat 32 (v.toNat % 2 ^ 10)))) ∧
    (∀ v, s.gate m (A.CAP_CTRL c) = .pass → 21 < getField v 0 5 → exec (.capSw m c v) s = .next (s.bump A.TB_WRITE_REJECT)) ∧
    (∀ e l, s.gate m (A.CAP_DATA0 c) = .pass → s.tim.cap.getD c [] = e :: l →
      ∃ u, exec (.capDataRead m c) s = .next u ∧ u.tim.cap.getD c [] = l ∧ u.out = .readData m (A.CAP_DATA0 c) e.words.1 :: s.out ∧
        u.latched m (A.CAP_DATA1 c) = some (BitVec.ofNat 32 e.ns) ∧ u.latched m (A.CAP_DATA2 c) = some (BitVec.ofNat 32 (e.sec % 2 ^ 32)) ∧
        u.latched m (A.CAP_DATA3 c) = some (fieldWord 0 16 (e.sec / 2 ^ 32) ||| fieldWord 16 16 e.frac) ∧
        (∀ k : Fin 16, k ≠ c → u.tim.cap.getD k [] = s.tim.cap.getD k [])) ∧
    (s.gate m (A.CAP_DATA0 c) = .pass → s.tim.cap.getD c [] = [] → exec (.capDataRead m c) s = .next (s.answer m (A.CAP_DATA0 c) 0#32)) ∧
    (∀ (b : Fin 8) attempt (id : BitVec 16), s.tim.stampReq.contains (q.val, b.val, min attempt 15, id.toNat) = true →
      ((s.tim.txq.getD q []).length < txqCap q →
        ∃ u, exec (.txStamp q b attempt id) s = .next u ∧ u.tim.txq.getD q [] = s.tim.txq.getD q [] ++
          [(let v := s.stampOf b 0; ⟨b, min attempt 15, id.toNat, tvN v, tvS v, tvF v⟩)] ∧ u.get (F.TXQ_STATUS_COUNT q) = (s.tim.txq.getD q []).length + 1 ∧
          u.tim.stampReq = s.tim.stampReq.erase (q.val, b.val, min attempt 15, id.toNat)) ∧
      (txqCap q ≤ (s.tim.txq.getD q []).length →
        ∃ u, exec (.txStamp q b attempt id) s = .next u ∧ u.tim.txq = s.tim.txq ∧ u.get (F.TXQ_STATUS_OVF q) = 1 ∧
          (u.rd (A.TXQ_OVF q)).toNat = min ((s.rd (A.TXQ_OVF q)).toNat + 1) 0xFFFFFFFF)) ∧
    (∀ (b : Fin 8) attempt (id : BitVec 16), s.tim.stampReq.contains (q.val, b.val, min attempt 15, id.toNat) = false → exec (.txStamp q b attempt id) s = .next s) ∧
    (∀ e l, s.gate m (A.TXQ_HEAD0 q) = .pass → s.tim.txq.getD q [] = e :: l →
      ∃ u, exec (.txqHeadRead m q) s = .next u ∧ u.tim.txq.getD q [] = l ∧ u.out = .readData m (A.TXQ_HEAD0 q) e.words.1 :: s.out ∧
        u.latched m (A.TXQ_HEAD1 q) = some (BitVec.ofNat 32 e.ns) ∧ u.latched m (A.TXQ_HEAD2 q) = some (BitVec.ofNat 32 (e.sec % 2 ^ 32)) ∧
        u.latched m (A.TXQ_HEAD3 q) = some (fieldWord 0 16 (e.sec / 2 ^ 32) ||| fieldWord 16 16 e.frac)) ∧
    (s.gate m (A.TXQ_HEAD0 q) = .pass → s.tim.txq.getD q [] = [] → exec (.txqHeadRead m q) s = .next (s.answer m (A.TXQ_HEAD0 q) 0#32))

/-- R228, R229, R230, R233: a write of CMPm_TARGET0 commits the target, if its nanoseconds are legal; an armed unit whose base has reached its target fires: FIRED, a toggle of the pin it drives, disarmed
if one-shot, its period added if not, or after a forward jump moved to the first fire time to come with the others counted in SKIPPED; before its target nothing; a pulse stands WIDTH TCLK periods, and output 5 asks for a housekeeping conversion. PPS_OUT rises while EN is 1 as its base
reaches a whole second, and falls WIDTH µs later. -/
def CompareUnitsRules : Prop :=
  ∀ (s : State) (m : Master) (c : Fin 16) (v : Word), s.tim.cmpTarget.length = 16 → s.tim.late.length = 16 → s.tim.jumped.length = 16 → s.tim.tout.length = 4 →
    s.tim.pulseEnd.length = 4 →
    (s.gate m (A.CMP_TARGET0 c) = .pass → getField v 0 30 ≤ 999999999 →
      ∃ u, exec (.cmpTargetCommit m c v) s = .next u ∧ u.get (F.CMP_TARGET0_N c) = getField v 0 30 ∧
        u.cmpTarget c = (s.get (F.CMP_TARGET1_S_LO c) + s.get (F.CMP_TARGET2_S_HI c) * 2 ^ 32) * 1000000000 + getField v 0 30 ∧
        u.tim.late.getD c false = (s.cmpArmed c && decide (u.cmpTarget c ≤ s.cmpTime c)) ∧ (∀ k : Fin 16, k ≠ c → u.cmpTarget k = s.cmpTarget k) ∧
        (∀ off, off ≠ A.CMP_TARGET0 c → u.rd off = s.rd off)) ∧
    (s.gate m (A.CMP_TARGET0 c) = .pass → 999999999 < getField v 0 30 → exec (.cmpTargetCommit m c v) s = .next (s.bump A.TB_WRITE_REJECT)) ∧
    ((s.cmpArmed c = false ∨ s.cmpTime c < s.cmpTarget c) → exec (.compareFire c) s = .next s) ∧
    (s.cmpArmed c = true → s.cmpTarget c ≤ s.cmpTime c → s.get (F.CMP_CTRL_OUTPUT c) ≤ 5 →
      ∃ u, exec (.compareFire c) s = .next u ∧ u.get (F.CMP_STATUS_FIRED c) = 1 ∧ u.tim.late.getD c false = false ∧
        (s.tim.late.getD c false = true → u.get (F.CMP_STATUS_MISSED c) = 1) ∧
        ((s.rd (A.CMP_PERIOD c)).toNat = 0 → u.cmpArmed c = false ∧ u.cmpTarget c = s.cmpTarget c) ∧
        ((s.rd (A.CMP_PERIOD c)).toNat ≠ 0 → s.tim.jumped.getD c false = false → u.cmpArmed c = true ∧ u.cmpTarget c = s.cmpTarget c + (s.rd (A.CMP_PERIOD c)).toNat) ∧
        ((s.rd (A.CMP_PERIOD c)).toNat ≠ 0 → s.tim.jumped.getD c false = true → s.cmpTime c < u.cmpTarget c ∧
          u.cmpTarget c ≤ s.cmpTime c + (s.rd (A.CMP_PERIOD c)).toNat ∧
          u.get (F.CMP_STATUS_SKIPPED c) = min (s.get (F.CMP_STATUS_SKIPPED c) + (s.cmpTime c - s.cmpTarget c) / (s.rd (A.CMP_PERIOD c)).toNat) 255)) ∧
    (∀ p : Fin 4, s.cmpArmed c = true → s.cmpTarget c ≤ s.cmpTime c → s.get (F.CMP_CTRL_OUTPUT c) = p.val + 1 → s.get (F.CMP_CTRL_ACTION c) = 2 →
      s.cmpOverruled c = false → ∃ u, exec (.compareFire c) s = .next u ∧ u.tim.tout.getD p false = !s.tim.tout.getD p false) ∧
    (s.get (F.CMP_CTRL_OUTPUT c) ≤ 4 → s.cmpArmed c = true → s.cmpTarget c ≤ s.cmpTime c → 1 ≤ s.get (F.CMP_CTRL_OUTPUT c) → s.cmpOverruled c = true →
      ∃ u, exec (.compareFire c) s = .next u ∧ u.get (F.CMP_STATUS_CONFLICT c) = 1 ∧ u.tim.tout = s.tim.tout) ∧
    (∀ p : Fin 4, s.cmpArmed c = true → s.cmpTarget c ≤ s.cmpTime c → s.get (F.CMP_CTRL_OUTPUT c) = p.val + 1 → s.get (F.CMP_CTRL_ACTION c) = 1 →
      s.cmpOverruled c = false →
      ∃ u, exec (.compareFire c) s = .next u ∧ u.tim.tout.getD p false = true ∧
        u.tim.pulseEnd.getD p none = some (s.tim.tclkNs + 4 * s.get (F.CMP_WIDTH_TICKS c))) ∧
    (s.cmpArmed c = true → s.cmpTarget c ≤ s.cmpTime c → s.get (F.CMP_CTRL_OUTPUT c) = 5 → s.isSet F.PWR_MON_CTRL_EXT_TRIG = true →
      ∃ u, exec (.compareFire c) s = .next u ∧ u.tim.adcDue = true ∧ u.tim.tout = s.tim.tout) ∧
    (s.isSet F.TB_PPS_CTRL_EN = true → s.tim.pps = false → s.ppsReached = true →
      ∃ u, exec (.ppsPulse true) s = .next u ∧ u.tim.pps = true ∧ u.tim.ppsUntil = s.tim.now + s.get F.TB_PPS_CTRL_WIDTH * 1000 ∧ u.tim.tout = s.tim.tout) ∧
    ((s.isSet F.TB_PPS_CTRL_EN = false ∨ s.tim.pps = true ∨ s.ppsReached = false) → exec (.ppsPulse true) s = .next s) ∧
    (s.tim.pps = true → s.tim.ppsUntil ≤ s.tim.now → ∃ u, exec (.ppsPulse false) s = .next u ∧ u.tim.pps = false ∧ u.tim.tout = s.tim.tout) ∧
    ((s.tim.pps = false ∨ s.tim.now < s.tim.ppsUntil) → exec (.ppsPulse false) s = .next s)

/-- R237 to R241, R245: a read of CAL_NOW0 holds the count and the calendar fields (29 February 2000, a Tuesday, is second 951,782,400); a SET is BUSY until an XO32K edge applies it and starts the clock; the count
advances by one second as the subseconds wrap, holds through an inserted leap second, and passes over a deleted one; the alarm shows once, at the first edge at or past its time; the loss of VBAT without VIN stops the
clock and clears its domain, and the next start shows LOST. Where the spec leaves a point open it follows the model's choices of log 81. -/
def Obligations.CalendarClock : Prop :=
  calDate 951782400 = some (BitVec.ofNat 32 (2000 + 2 * 2 ^ 14 + 29 * 2 ^ 18 + 2 * 2 ^ 23)) ∧
  ∀ (s : State) (m : Master) (v : Word),
    (s.gate m A.CAL_NOW0 = .pass →
      ∃ u, exec (.calNowRead m) s = .next u ∧ u.out = .readData m A.CAL_NOW0 (fieldWord 0 15 s.tim.calSub) :: s.out ∧ u.regs = s.regs ∧ u.tim = s.tim ∧
        u.latched m A.CAL_NOW1 = some (BitVec.ofNat 32 (s.tim.calSec % 2 ^ 32)) ∧ u.latched m A.CAL_NOW2 = some (fieldWord 0 16 (s.tim.calSec / 2 ^ 32)) ∧
        (∀ d, s.tim.leapHold = false → calDate s.tim.calSec = some d → u.latched m A.CAL_DATE = some d ∧ u.latched m A.CAL_TIME = some (calTime s.tim.calSec))) ∧
    (s.gate m A.CAL_CTRL = .pass → getField v 2 2 ≠ 3 → (getField v 2 2 = 0 ∨ s.leapAt % 86400 = 0) → getField v 0 1 = 1 → s.isSet F.CAL_STATUS_BUSY = false →
      ∃ u, exec (.calSet m v) s = .next u ∧ u.get F.CAL_STATUS_BUSY = 1 ∧ u.get F.CAL_CTRL_ALARM_EN = getField v 1 1 ∧ u.get F.CAL_CTRL_LEAP_NEXT = getField v 2 2 ∧
        u.tim.calSet = some (s.get F.CAL_SET1_S_LO + s.get F.CAL_SET2_S_HI * 2 ^ 32, s.get F.CAL_SET0_SUBSEC) ∧ u.tim.calSec = s.tim.calSec ∧
        u.tim.calSub = s.tim.calSub ∧ u.tim.tb = s.tim.tb ∧ (getField v 1 1 = 0 → u.tim.alarmDone = false)) ∧
    (s.gate m A.CAL_CTRL = .pass → (getField v 2 2 = 3 ∨ (getField v 2 2 ≠ 0 ∧ s.leapAt % 86400 ≠ 0) ∨ (getField v 0 1 = 1 ∧ s.isSet F.CAL_STATUS_BUSY = true)) →
      exec (.calSet m v) s = .next (s.bump A.TB_WRITE_REJECT)) ∧
    (∀ sec sub, s.tim.calSet = some (sec, sub) →
      ∃ u, exec .calAlarmEdge s = .next u ∧ u.tim.calSec = sec ∧ u.tim.calSub = sub ∧ u.tim.calSet = none ∧ u.tim.calRuns = true ∧ u.tim.leapHold = false ∧
        u.get F.CAL_STATUS_BUSY = 0 ∧ u.get F.CAL_STATUS_LOST = 0) ∧
    (s.tim.calSet = none → s.tim.calRuns = true → s.tim.calSub < 32767 →
      ∃ u, exec .calAlarmEdge s = .next u ∧ u.tim.calSec = s.tim.calSec ∧ u.tim.calSub = s.tim.calSub + 1 ∧
        u.get F.CAL_STATUS_ALARM = (if s.isSet F.CAL_CTRL_ALARM_EN = true ∧ s.tim.alarmDone = false ∧ s.calAlarmAt ≤ s.calCount + 1 then 1 else s.get F.CAL_STATUS_ALARM)) ∧
    (∀ p, s.tim.tclkOn = true → ∃ u, exec (.calSecond (some p)) s = .next u ∧ u.rd A.TB_XO32K_PERIOD = p) ∧
    (s.tim.calRuns = true → s.tim.calSet = none → s.tim.leapHold = false → s.get F.CAL_CTRL_LEAP_NEXT = 0 →
      ∃ u, exec (.calSecond none) s = .next u ∧ u.tim.calSec = (s.tim.calSec + 1) % 2 ^ 48 ∧ u.tim.calSub = 0 ∧ u.tim.leapHold = false) ∧
    (s.tim.calRuns = true → s.tim.calSet = none → s.tim.leapHold = false → s.get F.CAL_CTRL_LEAP_NEXT = 1 → (s.tim.calSec + 1) % 2 ^ 48 = s.leapAt →
      ∃ u, exec (.calSecond none) s = .next u ∧ u.tim.calSec = s.leapAt ∧ u.tim.leapHold = true) ∧
    (s.tim.calRuns = true → s.tim.calSet = none → s.tim.leapHold = true →
      ∃ u, exec (.calSecond none) s = .next u ∧ u.tim.calSec = s.tim.calSec ∧ u.tim.calSub = 0 ∧ u.tim.leapHold = false ∧ u.get F.CAL_CTRL_LEAP_NEXT = 0 ∧
        u.get F.CAL_LEAP_TAI_UTC = (s.get F.CAL_LEAP_TAI_UTC + 1) % 65536) ∧
    (s.tim.calRuns = true → s.tim.calSet = none → s.tim.leapHold = false → s.get F.CAL_CTRL_LEAP_NEXT = 2 → (s.tim.calSec + 1) % 2 ^ 48 + 1 = s.leapAt →
      ∃ u, exec (.calSecond none) s = .next u ∧ u.tim.calSec = s.leapAt ∧ u.tim.leapHold = false ∧ u.get F.CAL_CTRL_LEAP_NEXT = 0 ∧
        u.get F.CAL_LEAP_TAI_UTC = (s.get F.CAL_LEAP_TAI_UTC + 65535) % 65536) ∧
    (s.pwr.stage = .unpowered →
      ∃ u, exec .vbatLoss s = .next u ∧ u.tim.calRuns = false ∧ u.tim.calSec = 0 ∧ u.tim.calSub = 0 ∧ u.get F.CAL_LEAP_TAI_UTC = 0 ∧
        u.get F.PWR_CLK_STATUS_XO32K_OK = 0 ∧ u.rd A.CAL_ALARM1 = 0#32 ∧ u.tim.tb = s.tim.tb ∧ u.sec = s.sec) ∧
    (s.pwr.stage ≠ .unpowered → exec .vbatLoss s = .next s) ∧
    (∀ o, s.pwr.stage = .begun → s.pwr.regulators = true → o.testMode = false → o.badPhases = [] → s.pwr.vddio = true → s.tim.calRuns = false →
      ∃ u, exec (.startSequence o) s = .next u ∧ u.get F.CAL_STATUS_LOST = 1 ∧ u.tim.calRuns = true ∧ u.tim.calSec = 0)

/-- R214, R215, R216, R217, R218, R220, R221, R222: how the time bases run and how they are set. Where the spec leaves a point open it follows the model's choices of log 2, 79, 80, 81. -/
def Obligations.TimeBases : Prop :=
  TimeBasesTickRules ∧ TimeAdjustmentsRules

/-- R226, R227, R228, R229, R230, R233, R235, R236: capture units, timestamp queues and compare units. Where the spec leaves a point open it follows the model's choices of log 78, 82, 83. -/
def Obligations.CapturesAndCompares : Prop :=
  CapturesAndStampsRules ∧ CompareUnitsRules

/-! ### Packets, tables, routes and flows (R246 to R282) -/

/-- The token that brought packet `p`, numbered `k`, the result it waits for has committed (R46, R48). -/
abbrev ResultIn (s : State) (k : Nat) (p : Pkt) : Prop := s.pktToken k = false ∧ p.result = true

/-- The state with that result taken. -/
abbrev ResultTaken (s : State) (k : Nat) : State := s.pktMod k (fun x => { x with result := false })

/-- R46, R48, R55, R56, R58: the result of a classification, of a flow lookup, of a route lookup and of a flow's two writes returns as a new token, at the end of the input queue of the
packet's role, once the token that asked for it has ended; on a full queue it stalls; and while a token of a packet is uncommitted nothing becomes of the packet. -/
def ResultsAreTokensRules : Prop :=
  ∀ (s : State) (k : Nat) (p : Pkt), s.shapeOk = true → s.pktAt k = some p → (∀ n, s.intake n = true) → s.frozen = false →
    (s.pktToken k = true →
      exec (.pktClassify k) s = .next s ∧ exec (.flowLookup k) s = .next s ∧ exec (.routeLookup k) s = .next s ∧ exec (.flowCreate k true) s = .next s ∧
      exec (.flowCreate k false) s = .next s ∧ exec (.packetRewrite k) s = .next s ∧ exec (.recirculate k) s = .next s ∧ exec (.pktRelease k) s = .next s) ∧
    (s.pktToken k = false → p.result = false → s.isSet (F.ENG_ROLE_AT_SHED (p.role - 1)) = false → 5 ≤ p.role → p.role ≤ 8 → (s.role p.role).queue.length < 4096 →
      ∀ c : Instr, ((c = .pktClassify k ∧ (p.stage = .classify ∨ p.stage = .egress)) ∨ (c = .flowLookup k ∧ p.stage = .flow) ∨
        (c = .routeLookup k ∧ p.stage = .route) ∨ (c = .flowCreate k true ∧ p.stage = .await k)) →
      ∃ u, exec c s = .next u ∧ u.path.inRole = s.path.inRole.map (fun x => if x.id = k then { x with result := true } else x) ∧
        (u.role p.role).queue = (s.role p.role).queue ++ [p.token] ∧ (∀ off, off ≠ A.ENG_QUEUE_PEAK (p.role - 1) → u.rd off = s.rd off)) ∧
    (s.pktToken k = false → p.result = false → p.stage = .flow → s.isSet (F.ENG_ROLE_AT_SHED (p.role - 1)) = false → 5 ≤ p.role → p.role ≤ 8 →
      4096 ≤ (s.role p.role).queue.length → (s.role p.role).stopped = false → (s.role p.role).stall ≠ none → exec (.flowLookup k) s = .next s)

/-- R247 to R250, R254, R262, R265, R271: the parser takes the oldest waiting packet of a source to the role that its hash names; one that fails its parse is counted and goes to the host with reason 1 and the code, or is dropped, as its source's default says. A
recirculated packet goes through the parser again with its PASS counted on. A classified packet takes its rule's verdict (DROP, TO_HOST, CONTINUE, NEXTHOP), counted in the rule's hits, or the default for no match. Where the spec leaves a point open it follows the model's choices of log 84, 113, 117. -/
def Obligations.PacketsEnter : Prop :=
  ∀ (s : State) (src : Fin 68) (k : Nat) (p : Pkt), s.shapeOk = true →
    (∀ q, s.path.ingress.find? (fun x => x.source == src.val) = some p → s.intake 0 = true → s.parserUp = true → (4 ≤ src.val ∨ s.stopping 8 = false) →
      s.parsed { p with id := s.path.nextId } = (0, q) → s.isSet (F.ENG_ROLE_AT_SHED (q.role - 1)) = false → (s.role q.role).queue.length < 4096 →
      ∃ u, exec (.packetParse src) s = .next u ∧
        u.path = { s.path with ingress := s.path.ingress.eraseP (fun x => x.source == src.val), nextId := s.path.nextId + 1, inRole := s.path.inRole ++ [q] } ∧
        (u.role q.role).queue = (s.role q.role).queue ++ [q.token]) ∧
    (∀ q c, s.path.ingress.find? (fun x => x.source == src.val) = some p → s.intake 0 = true → s.parserUp = true → (4 ≤ src.val ∨ s.stopping 8 = false) →
      s.parsed { p with id := s.path.nextId } = (c, q) → 1 ≤ c → c ≤ 16 → (∀ x ∈ s.path.inRole, x.id < s.path.nextId) →
      ∃ u, exec (.packetParse src) s = .next u ∧ (u.rd (A.PRS_SRC_FAIL src)).toNat = min ((s.rd (A.PRS_SRC_FAIL src)).toNat + 1) 0xFFFFFFFF ∧
        (u.rd (A.PRS_FAIL (c - 1))).toNat = min ((s.rd (A.PRS_FAIL (c - 1))).toNat + 1) 0xFFFFFFFF ∧
        (s.get (F.PRS_DEFAULT_PARSE_FAIL src) = 0 →
          (u.pktAt s.path.nextId).map (fun x => (x.stage, x.reason, x.detail)) = some (.done (.host q.hostQ), 1, c)) ∧
        (s.get (F.PRS_DEFAULT_PARSE_FAIL src) = 1 → u.path.inRole = s.path.inRole)) ∧
    (s.path.ingress.find? (fun x => x.source == src.val) = none → exec (.packetParse src) s = .next s) ∧
    (s.intake 0 = false → exec (.packetParse src) s = .next s) ∧
    (∀ d q, s.pktAt k = some p → p.stage = .recirc d → s.pktToken k = false → s.parserUp = true →
      s.parsed { p with bytes := if d then p.decapped else p.bytes, pass := p.pass + 1 } = (0, q) → s.isSet (F.ENG_ROLE_AT_SHED (q.role - 1)) = false →
      (s.role q.role).queue.length < 4096 →
      ∃ u, exec (.recirculate k) s = .next u ∧ u.path = { s.path with inRole := s.path.inRole.filter (fun x => x.id != k) ++ [q] } ∧
        (u.role q.role).queue = (s.role q.role).queue ++ [q.token]) ∧
    (s.pktAt k = some p → p.stage = .classify → exec (.recirculate k) s = .next s) ∧
    (s.pktAt k = some p → s.intake 1 = true → p.stage = .classify → ResultIn s k p → s.classify (ingressPartition p.source) false p = none →
      p.source < 68 →
      ∃ u, exec (.pktClassify k) s = .next u ∧ (u.rd (A.PRS_SRC_NOMATCH p.source)).toNat = min ((s.rd (A.PRS_SRC_NOMATCH p.source)).toNat + 1) 0xFFFFFFFF ∧
        (s.get (F.PRS_DEFAULT_NO_MATCH p.source) = 0 → u.pktAt k = some { p with result := false, stage := .done (.host p.hostQ), reason := 2, detail := 0 }) ∧
        (s.get (F.PRS_DEFAULT_NO_MATCH p.source) = 1 → u.path.inRole = s.path.inRole.filter (fun x => x.id != k))) ∧
    (∀ x, s.pktAt k = some p → s.intake 1 = true → p.stage = .classify → ResultIn s k p → s.classify (ingressPartition p.source) false p = some x → x < 16384 →
      (s.rd (A.RULE_W13 x)).toNat ≤ 3 →
      ∃ u, exec (.pktClassify k) s = .next u ∧ (u.rd (A.RULE_HITS x)).toNat = min ((s.rd (A.RULE_HITS x)).toNat + 1) 0xFFFFFFFF ∧
        (s.rd (A.RULE_W13 x) = 1#32 → u.path.inRole = s.path.inRole.filter (fun x => x.id != k)) ∧
        (s.rd (A.RULE_W13 x) = 2#32 → u.pktAt k = some { p with result := false, rule := x, stage := .done (.host p.hostQ), reason := 3, detail := 0 }) ∧
        (s.rd (A.RULE_W13 x) = 0#32 → u.pktAt k = some { p with result := false, rule := x, noFlow := false, nat := none, stage := .flow }) ∧
        (s.rd (A.RULE_W13 x) = 3#32 → (u.pktAt k).map (fun y => (y.rule, y.stage, y.nexthop)) =
          some (x, .egress, s.nhMember (getField (s.rd (A.RULE_W14 x)) 16 16) p.hash))) ∧
    (s.pktAt k = some p → s.intake 1 = true → p.stage = .egress → ResultIn s k p → s.classify 2 true p = none →
      exec (.pktClassify k) s = .next ((ResultTaken s k).toStage k .rewrite)) ∧
    (s.pktAt k = some p → p.stage = .flow → exec (.pktClassify k) s = .next s)

/-- R266, R273, R274, R268, R269, R248: a flow lookup hits the cache (next hop, translation, a touch), waits for a pending creation, or misses and goes to the route; a route gives the next hop, and a packet that may starts a connection; a creation takes two free
places and, written, is in force; rewriting drops at a DROP next hop, delivers to the host with reason 8, puts on Ethernet headers, and turns a packet whose TTL is spent to the host; a packet leaves its role only after every earlier one of its flow. -/
def PacketsLeaveRoleRules : Prop :=
  ∀ (s : State) (k : Nat) (p : Pkt), s.pktAt k = some p →
    (s.intake 3 = true → p.stage = .flow → ResultIn s k p → p.fragment = true → p.nat = none → exec (.flowLookup k) s = .next ((ResultTaken s k).toStage k .route)) ∧
    (∀ key c, s.intake 3 = true → p.stage = .flow → ResultIn s k p → p.fragment = false → s.dramGone = false → p.lookupKey = some key → s.pendFor key = none →
      (s.cacheSet key).find? (fun c => c.sig == h2 key) = some c →
      ∃ u, exec (.flowLookup k) s = .next u ∧ (u.rd A.FLW_CACHE_HIT).toNat = min ((s.rd A.FLW_CACHE_HIT).toNat + 1) 0xFFFFFFFF ∧
        (u.pktAt k).map (fun x => (x.stage, x.nexthop, x.xlate)) =
          some (.egress, s.nhMember c.nexthop p.hash, if c.nat then some (c.dir, c.xaddr, c.xport) else none) ∧
        u.path.touches.length = s.path.touches.length + (if s.cacheOnly then 0 else 1)) ∧
    (∀ key c, s.intake 3 = true → p.stage = .flow → ResultIn s k p → p.fragment = false → s.dramGone = false → p.lookupKey = some key → s.pendFor key = some c →
      exec (.flowLookup k) s = .next ((ResultTaken s k).toStage k (.await c.creator))) ∧
    (∀ key, s.intake 3 = true → p.stage = .flow → ResultIn s k p → p.fragment = false → s.dramGone = false → p.lookupKey = some key → s.pendFor key = none →
      (s.cacheSet key).find? (fun c => c.sig == h2 key) = none → s.tableFind key = none → exec (.flowLookup k) s = .next (((ResultTaken s k).bump A.FLW_CACHE_MISS).toStage k .route)) ∧
    (p.stage ≠ .flow → exec (.flowLookup k) s = .next s) ∧
    (∀ nh, s.intake 2 = true → p.stage = .route → ResultIn s k p → p.rcd.l3 ≠ 0 → s.routeOf (p.rcd.l3 = 2) (addrOf (p.rcd.l3 = 2) (p.rcd.field 7 16)) = some nh →
      exec (.routeLookup k) s = .next (if s.mayCreate p then s.pktMod k (fun x => { x with result := false, nexthop := nh, stage := .create })
        else s.pktMod k (fun x => { x with result := false, nexthop := s.nhMember nh x.hash, stage := .egress }))) ∧
    (s.intake 2 = true → p.stage = .route → ResultIn s k p → p.rcd.l3 = 0 → s.get (F.PRS_DEFAULT_NO_MATCH p.source) = 0 → p.source < 68 →
      ∃ u, exec (.routeLookup k) s = .next u ∧ (u.rd A.RTE_MISS).toNat = min ((s.rd A.RTE_MISS).toNat + 1) 0xFFFFFFFF ∧
        u.pktAt k = some { p with result := false, stage := .done (.host p.hostQ), reason := 5, detail := 0 }) ∧
    (p.stage ≠ .route → exec (.routeLookup k) s = .next s) ∧
    (∀ i j, s.intake 3 = true → s.pktToken k = false → p.stage = .create → s.pendFor p.key = none → s.lookup k p.key = none → s.path.pend.length < 1024 → p.nat = none → s.cacheOnly = false → s.frozen = false →
      s.freePlace p.key noIndex = some i → s.freePlace (keySwap p.key) i = some j →
      ∃ u, exec (.flowCreate k false) s = .next u ∧ (u.pktAt k).map (fun x => x.stage) = some (.await k) ∧
        u.path.pend.map (fun c => (c.creator, c.keyO, c.keyR, c.idxO, c.idxR)) =
          s.path.pend.map (fun c => (c.creator, c.keyO, c.keyR, c.idxO, c.idxR)) ++ [(k, p.key, keySwap p.key, i, j)] ∧ u.mem = s.mem) ∧
    (s.intake 3 = true → s.pktToken k = false → p.stage = .create → s.pendFor p.key = none → s.lookup k p.key = none → s.path.pend.length < 1024 → p.nat = none → s.cacheOnly = false → s.frozen = false →
      s.freePlace p.key noIndex = none → exec (.flowCreate k false) s = .next ((s.bump A.FLW_FULL).toEgress k p.nexthop)) ∧
    (∀ c, s.intake 3 = true → s.frozen = false → p.stage = .await k → ResultIn s k p → s.path.pend.find? (fun c => c.creator == k) = some c → s.cacheOnly = false → c.wordsO.length = 16 → c.wordsR.length = 16 → c.idxO ≠ c.idxR →
      ∃ u, exec (.flowCreate k true) s = .next u ∧ u.flowWords c.idxO = c.wordsO ∧ u.flowWords c.idxR = c.wordsR ∧
        u.path.pend = s.path.pend.filter (fun c => c.creator != k) ∧ (u.rd A.FLW_CREATED).toNat = min ((s.rd A.FLW_CREATED).toNat + 1) 0xFFFFFFFF ∧
        (u.rd A.FLW_ENTRIES).toNat = min ((s.rd A.FLW_ENTRIES).toNat + 2) 0xFFFFFFFF) ∧
    (s.pktToken k = false → p.stage = .rewrite → s.nhDest p.nexthop = none → exec (.packetRewrite k) s = .next ((s.bump A.RTE_NH_DROP).pktDrop k)) ∧
    (∀ q, s.pktToken k = false → p.stage = .rewrite → s.nhDest p.nexthop = some (.host q) →
      ∃ u, exec (.packetRewrite k) s = .next u ∧ u.pktAt k = some { p.translated with stage := .done (.host q), reason := 8, detail := 0 }) ∧
    (∀ e, s.pktToken k = false → p.stage = .rewrite → s.nhDest p.nexthop = some (.eth e) → p.rcd.l3 = 0 →
      ∃ u, exec (.packetRewrite k) s = .next u ∧ u.pktAt k = some { p with bytes := s.ethHeaders p p.nexthop, stage := .done (.eth e) } ∧ u.regs = s.regs) ∧
    (∀ d, s.pktToken k = false → p.stage = .rewrite → s.nhDest p.nexthop = some d → (∀ q, d ≠ .host q) → p.rcd.l3 ≠ 0 → getField (s.nhWord p.nexthop 0) 21 1 = 1 → beNat (p.rcd.field 0xA 1) ≤ 1 →
      ∃ u, exec (.packetRewrite k) s = .next u ∧ u.pktAt k = some { p with stage := .done (.host p.hostQ), reason := 6, detail := 0 } ∧
        (u.rd A.RTE_TTL_MTU).toNat = min ((s.rd A.RTE_TTL_MTU).toNat + 1) 0xFFFFFFFF) ∧
    (p.stage ≠ .rewrite → exec (.packetRewrite k) s = .next s) ∧
    (∀ d, s.pktToken k = false → p.stage = .done d → s.path.inRole.any (fun q => decide (q.id < k) && q.source == p.source && q.entry == p.entry && q.role == p.role) = false →
      exec (.pktRelease k) s =
        .next { s with path := { s.path with inRole := s.path.inRole.filter (fun x => x.id != k), toQueue := s.path.toQueue ++ [p] } }) ∧
    (∀ d, s.pktToken k = false → p.stage = .done d → s.path.inRole.any (fun q => decide (q.id < k) && q.source == p.source && q.entry == p.entry && q.role == p.role) = true →
      exec (.pktRelease k) s = .next s)

/-- R260 to R264, R268: a rule's words are staged and word 15 commits them whole, VALID as written, its hits cleared as it turns VALID; a rule beyond the partitions of the Legend is refused. A next hop is committed by its word 3 unless it is a GROUP with no legal COUNT; a
comparator by its word 1 where FIELD has one or two bytes; an extract where it fits its field and its profile. Where the spec leaves a point open it follows the model's choices of log 23. -/
def Obligations.ClassifierTables : Prop :=
  ∀ (s : State) (m : Master) (v : Word),
    (∀ (x : Fin 16384) (w : Fin 15), s.gate m (0x600000 + 64 * x + 4 * w) = .pass →
      (x.val < s.ruleCount → s.stagingOf m 0 = none → exec (.ruleStageWrite m x w v) s =
        .next { s with hst := { s.hst with staging := s.hst.staging.filter (fun b => !(b.m == m && b.table == 0)) ++ [⟨m, 0, x.val, [(0x600000 + 64 * x + 4 * w, v)]⟩] } }) ∧
      (s.ruleCount ≤ x.val → exec (.ruleStageWrite m x w v) s = .next (s.bump A.PLT_STRUCT_REJECT))) ∧
    (∀ x : Fin 16384, s.gate m (A.RULE_W15 x) = .pass →
      (x.val < s.ruleCount →
        ∃ u, exec (.ruleCommit m x v) s = .next u ∧ u.get (F.RULE_W15_VALID x) = getField v 0 1 ∧ u.get (F.RULE_W15_PROFILE x) = getField v 1 2 ∧
          u.get (F.RULE_W15_PRIORITY x) = getField v 3 12 ∧
          (∀ (w : Fin 12) val, s.stagedFor m 0 x = [(A.RULE_KEY x w, val)] → u.rd (A.RULE_KEY x w) = val ∧ u.stagedFor m 0 x = []) ∧
          (s.isSet (F.RULE_W15_VALID x) = false → getField v 0 1 = 1 → u.rd (A.RULE_HITS x) = 0#32)) ∧
      (s.ruleCount ≤ x.val → exec (.ruleCommit m x v) s = .next (s.bump A.PLT_STRUCT_REJECT))) ∧
    (∀ h : Fin 65536, s.gate m (A.NH_W3 h) = .pass → s.stagedFor m 1 h = [] →
      (s.get (F.NH_W0_KIND h) ≠ 4 → ∃ u, exec (.nexthopCommit m h v) s = .next u ∧ u.get (F.NH_W3_MTU h) = getField v 0 14 ∧
        (∀ off, off ≠ A.NH_W3 h → u.rd off = s.rd off)) ∧
      (s.get (F.NH_W0_KIND h) = 4 → (getField (s.rd (A.NH_W1 h)) 16 7 = 0 ∨ 64 < getField (s.rd (A.NH_W1 h)) 16 7) →
        exec (.nexthopCommit m h v) s = .next (s.bump A.RTE_WRITE_REJECT))) ∧
    (∀ i : Fin 256, s.gate m (A.CLS_RANGE_W1 i) = .pass →
      ((fieldLen (getField v 0 8) = 1 ∨ fieldLen (getField v 0 8) = 2) →
        ∃ u, exec (.rangeCommit m i v) s = .next u ∧ u.get (F.CLS_RANGE_W1_FIELD i) = getField v 0 8 ∧ u.rangeAt i = (s.rd (A.CLS_RANGE_W0 i), u.rd (A.CLS_RANGE_W1 i)) ∧
          (∀ j, j ≠ i.val → u.rangeAt j = s.rangeAt j)) ∧
      (fieldLen (getField v 0 8) ≠ 1 → fieldLen (getField v 0 8) ≠ 2 → exec (.rangeCommit m i v) s = .next (s.bump A.CLS_WRITE_REJECT))) ∧
    (∀ (q k : Fin 4) (e : Fin 8), s.gate m (A.CLS_PROFILE q k e) = .pass →
      (getField v 12 5 ≤ 16 → getField v 8 4 + getField v 12 5 ≤ fieldLen (getField v 0 8) →
        (((s.fieldsWrite (A.CLS_PROFILE q k e) v).extracts q k).map (fun x => x.2.2)).sum ≤ 24 →
        ∃ u, exec (.profileWrite m q k e v) s = .next u ∧ u.get (F.CLS_PROFILE_FIELD q k e) = getField v 0 8 ∧
          u.get (F.CLS_PROFILE_START q k e) = getField v 8 4 ∧ u.get (F.CLS_PROFILE_LENGTH q k e) = getField v 12 5 ∧
          (∀ off, off ≠ A.CLS_PROFILE q k e → u.rd off = s.rd off)) ∧
      (getField v 12 5 ≠ 0 → fieldLen (getField v 0 8) < getField v 8 4 + getField v 12 5 →
        exec (.profileWrite m q k e v) s = .next (s.bump A.CLS_WRITE_REJECT)))

/-- The prefix that RTE_PREFIX0 to RTE_PREFIX3 hold, in the family of a command word `v` (R267). -/
def prefixHeld (s : State) (v : Word) : Nat :=
  let bs := wordBytes ((List.range 4).map (fun i => s.rd (A.RTE_PREFIX i)))
  if getField v 2 1 = 1 then beNat bs else beNat (bs.take 4)

/-- R267, R282: a route command acts at once and reports as it ends: an added route is in force, replacing one of its prefix and length; a deleted one is gone; a look up finds the longest one; a prefix that is not canonical, a missing route and a full table report their
codes; a command while another runs is refused. -/
def RouteCommandsRules : Prop :=
  ∀ (s : State) (m : Master) (v : Word), s.gate m A.RTE_CMD = .pass →
    let v6 := decide (getField v 2 1 = 1)
    let len := getField v 3 8
    let pfx := prefixHeld s v
    let legal := len ≤ addrBits v6 ∧ pfx % 2 ^ (addrBits v6 - len) = 0
    let held := (s.routes v6).any (fun r => r.1 == pfx && r.2.1 == len)
    (s.isSet F.RTE_CMD_STATUS_BUSY = true →
      exec (.routeAdd m v) s = .next (s.bump A.RTE_WRITE_REJECT) ∧ exec (.routeDelete m v) s = .next (s.bump A.RTE_WRITE_REJECT) ∧
      exec (.routeLookUp m v) s = .next (s.bump A.RTE_WRITE_REJECT)) ∧
    (s.isSet F.RTE_CMD_STATUS_BUSY = false → legal →
      (held = false → (s.routes v6).length < s.routeCap v6 → nodesUsed v6 (s.routes v6 ++ [(pfx, len, getField v 16 16)]) ≤ s.nodePool v6 →
        ∃ u, exec (.routeAdd m v) s = .next u ∧ u.routes v6 = s.routes v6 ++ [(pfx, len, getField v 16 16)] ∧ u.routes (!v6) = s.routes (!v6) ∧
          u.path.cmd = some (0, 0, 0) ∧ u.get F.RTE_CMD_STATUS_BUSY = 1) ∧
      (held = true →
        ∃ u, exec (.routeAdd m v) s = .next u ∧
          u.routes v6 = (s.routes v6).map (fun r => if r.1 = pfx ∧ r.2.1 = len then (pfx, len, getField v 16 16) else r) ∧ u.path.cmd = some (0, 0, 0)) ∧
      (held = false → s.routeCap v6 ≤ (s.routes v6).length →
        exec (.routeAdd m v) s = .next ({ s with path := { s.path with cmd := some (2, 0, 0) } }.put F.RTE_CMD_STATUS_BUSY 1)) ∧
      (held = true →
        ∃ u, exec (.routeDelete m v) s = .next u ∧ u.routes v6 = (s.routes v6).filter (fun r => !(r.1 == pfx && r.2.1 == len)) ∧
          u.routes (!v6) = s.routes (!v6) ∧ u.path.cmd = some (0, 0, 0) ∧ u.get F.RTE_CMD_STATUS_BUSY = 1) ∧
      (held = false → exec (.routeDelete m v) s = .next ({ s with path := { s.path with cmd := some (1, 0, 0) } }.put F.RTE_CMD_STATUS_BUSY 1)) ∧
      (∀ r, longest ((s.routes v6).filter (fun r => decide (r.2.1 ≤ len) && covers v6 pfx r)) = some r →
        exec (.routeLookUp m v) s = .next ({ s with path := { s.path with cmd := some (0, r.2.1, r.2.2) } }.put F.RTE_CMD_STATUS_BUSY 1)) ∧
      (longest ((s.routes v6).filter (fun r => decide (r.2.1 ≤ len) && covers v6 pfx r)) = none →
        exec (.routeLookUp m v) s = .next ({ s with path := { s.path with cmd := some (1, 0, 0) } }.put F.RTE_CMD_STATUS_BUSY 1))) ∧
    (s.isSet F.RTE_CMD_STATUS_BUSY = false → ¬legal →
      exec (.routeAdd m v) s = .next ({ s with path := { s.path with cmd := some (4, 0, 0) } }.put F.RTE_CMD_STATUS_BUSY 1)) ∧
    (∀ r, s.intake 2 = true → s.frozen = false → s.path.cmd = some r →
      ∃ u, exec .routeCmdDone s = .next u ∧ u.path.cmd = none ∧ u.get F.RTE_CMD_STATUS_BUSY = 0 ∧ u.get F.RTE_CMD_STATUS_RESULT = r.1 % 8 ∧
        u.get F.RTE_CMD_STATUS_FOUND_LENGTH = r.2.1 % 256 ∧ u.get F.RTE_CMD_STATUS_FOUND_NEXTHOP = r.2.2 % 65536 ∧ u.routes v6 = s.routes v6) ∧
    (s.path.cmd = none → exec .routeCmdDone s = .next s)

/-- R277 to R279: the host's flow commands. READ shows an entry and its peer; INSERT writes both directions, if their keys and places are free; DELETE removes a connection; FLUSH is BUSY until the next sweep, which leaves no connection where STATIC ones are asked for too; a
command while another runs is refused, and one of an entry not in use answers code 1. A touch renews its entry; a sweep leaves every entry that is not stale. -/
def FlowCommandsRules : Prop :=
  ∀ (s : State) (m : Master) (v : Word), s.gate m A.FLW_CMD = .pass →
    (s.isSet F.FLW_CMD_STATUS_BUSY = true →
      exec (.flwRead m v) s = .next (s.bump A.FLW_WRITE_REJECT) ∧ exec (.flwInsert m v) s = .next (s.bump A.FLW_WRITE_REJECT) ∧
      exec (.flwDelete m v) s = .next (s.bump A.FLW_WRITE_REJECT) ∧ exec (.flwFlush m v) s = .next (s.bump A.FLW_WRITE_REJECT)) ∧
    (s.isSet F.FLW_CMD_STATUS_BUSY = false → s.cacheOnly = false →
      (s.flowValid (s.get F.FLW_CMD_INDEX_INDEX) = true →
        ∃ u, exec (.flwRead m v) s = .next u ∧ u.get F.FLW_CMD_STATUS_RESULT = 0 ∧ u.mem = s.mem ∧
          (∀ i : Fin 16, u.rd (A.FLW_DATA i) = (s.flowWords (s.get F.FLW_CMD_INDEX_INDEX)).getD i 0#32)) ∧
      (s.flowValid (s.get F.FLW_CMD_INDEX_INDEX) = false →
        exec (.flwRead m v) s = .next (s.flwResult 1 0) ∧ exec (.flwDelete m v) s = .next (s.flwResult 1 0)) ∧
      (s.flowValid (s.get F.FLW_CMD_INDEX_INDEX) = true →
        ∃ u, exec (.flwDelete m v) s = .next u ∧ u.flowValid (s.get F.FLW_CMD_INDEX_INDEX) = false ∧ u.get F.FLW_CMD_STATUS_RESULT = 0 ∧
          (u.rd A.FLW_AGED).toNat = min ((s.rd A.FLW_AGED).toNat + 1) 0xFFFFFFFF) ∧
      (let o := (List.range 16).map (fun i => s.rd (A.FLW_DATA i))
       let r := (List.range 16).map (fun i => s.rd (A.FLW_DATA (16 + i)))
       ((s.keyTaken (keyOfWords o) = true ∨ s.keyTaken (keyOfWords r) = true) → exec (.flwInsert m v) s = .next (s.flwResult 2 0)) ∧
       (∀ i j, s.keyTaken (keyOfWords o) = false → s.keyTaken (keyOfWords r) = false → s.freePlace (keyOfWords o) noIndex = some i → s.freePlace (keyOfWords r) i = some j →
         i < 0x2000000 → j < 0x2000000 →
         ∃ u, exec (.flwInsert m v) s = .next u ∧ u.flowValid i = true ∧ u.flowValid j = true ∧ getField (u.flowWord i 10) 0 25 = j ∧ getField (u.flowWord j 10) 0 25 = i ∧
           (u.rd A.FLW_ENTRIES).toNat = min ((s.rd A.FLW_ENTRIES).toNat + 2) 0xFFFFFFFF ∧ u.get F.FLW_CMD_STATUS_RESULT = 0 ∧ u.get F.FLW_CMD_STATUS_INDEX = i))) ∧
    (s.isSet F.FLW_CMD_STATUS_BUSY = false → s.cacheOnly = true →
      exec (.flwRead m v) s = .next (s.flwResult 4 0) ∧ exec (.flwInsert m v) s = .next (s.flwResult 4 0)) ∧
    (s.isSet F.FLW_CMD_STATUS_BUSY = false →
      ∃ u, exec (.flwFlush m v) s = .next u ∧ u.get F.FLW_CMD_STATUS_BUSY = 1 ∧ u.get F.FLW_STATUS_FLUSHING = 1 ∧ u.path.flushStatic = (getField v 3 1 == 1) ∧
        u.mem = s.mem) ∧
    (s.path.touches = [] → exec .flowTouch s = .next s) ∧
    (∀ t rest, s.intake 3 = true → s.frozen = false → s.path.touches = t :: rest → s.cacheOnly = false → s.flowValid t.idx = true → keyOfWords (s.flowWords t.idx) = t.key →
      ∃ u, exec .flowTouch s = .next u ∧ u.path.touches = rest ∧ getField (u.flowWord t.idx 12) 16 16 = s.flowSeconds ∧
        (u.flowWord t.idx 13).toNat = min ((s.flowWord t.idx 13).toNat + 1) 0xFFFFFFFF ∧ u.regs = s.regs) ∧
    (∀ t rest, s.intake 3 = true → s.frozen = false → s.path.touches = t :: rest → s.flowValid t.idx = false →
      exec .flowTouch s = .next { s with path := { s.path with touches := rest } }) ∧
    (s.intake 3 = true → s.frozen = false → s.flowEngineUp = true → s.cacheOnly = false → s.isSet F.FLW_STATUS_FLUSHING = false → (∀ i ∈ s.flowsInUse, s.flowStale i = false) →
      exec .flowSweep s = .next s) ∧
    (s.intake 3 = true → s.frozen = false → s.flowEngineUp = true → s.cacheOnly = false → s.isSet F.FLW_STATUS_FLUSHING = true → s.path.flushStatic = true → s.dramOk = true →
      ∃ u, exec .flowSweep s = .next u ∧ u.flowsInUse = [] ∧ u.get F.FLW_STATUS_FLUSHING = 0 ∧ u.get F.FLW_CMD_STATUS_BUSY = 0)

/-- R46, R48, R55, R56, R58, R248, R266, R268, R269, R273, R274: flows, routes, creation, rewriting and release of packets, and the results that return as tokens. Where the spec leaves a point open it follows the model's choices of log 87, 88, 113, 117. -/
def Obligations.PacketsLeave : Prop :=
  PacketsLeaveRoleRules ∧ ResultsAreTokensRules

/-- R267, R277, R278, R279, R282: the commands on routes and on flows. Where the spec leaves a point open it follows the model's choices of log 85, 86. -/
def Obligations.RoutesAndFlows : Prop :=
  RouteCommandsRules ∧ FlowCommandsRules

/-! ### Queues, shapers and policers (R284 to R307) -/

/-- R289 to R291, R287, R304: the oldest packet on its way arrives at the queue of its destination: on-chip, in the spill area behind others, or dropped and counted where its LIMIT or the buffer is full; one for a station that is not VALID or is being flushed is counted. Spilled packets
come back in their order while cells are free, while the queue's role runs and the DRAM is not frozen. A moved home lets its packets go on; a flushed station's queues are empty and their packets counted. -/
def QueueArrivalsRules : Prop :=
  ∀ s : State,
    (∀ p d, s.intake 4 = true → s.path.toQueue.find? (fun p => !s.mustWait p) = some p → p.stage = .done d → (∀ st, d ≠ .sta st) → s.queueFor p d < 32864 →
      pktBytes (s.que' (s.queueFor p d)) + p.bytes.length ≤ s.limit (s.queueFor p d) →
      ∃ u, exec .enqueue s = .next u ∧ u.path = { s.path with toQueue := s.path.toQueue.eraseP (fun p => !s.mustWait p) } ∧
        (s.placeFor (s.queueFor p d) p = .chip → u.que' (s.queueFor p d) = s.que' (s.queueFor p d) ++ [{ p with spilled := false }] ∧
          u.rd (A.QREC_W2 (s.queueFor p d)) = BitVec.ofNat 32 (pktBytes (s.que' (s.queueFor p d)) + p.bytes.length)) ∧
        (s.placeFor (s.queueFor p d) p = .spill → u.que' (s.queueFor p d) = s.que' (s.queueFor p d) ++ [{ p with spilled := true }]) ∧
        (s.placeFor (s.queueFor p d) p = .drop → u.que = s.que ∧ (u.rd A.QSC_BUF_DROP).toNat = min ((s.rd A.QSC_BUF_DROP).toNat + 1) 0xFFFFFFFF)) ∧
    (∀ p d, s.intake 4 = true → s.path.toQueue.find? (fun p => !s.mustWait p) = some p → p.stage = .done d → (∀ st, d ≠ .sta st) → s.queueFor p d < 32864 →
      s.limit (s.queueFor p d) < pktBytes (s.que' (s.queueFor p d)) + p.bytes.length →
      ∃ u, exec .enqueue s = .next u ∧ u.que = s.que ∧ (u.rd A.QSC_BUF_DROP).toNat = min ((s.rd A.QSC_BUF_DROP).toNat + 1) 0xFFFFFFFF ∧
        (u.rd (A.QREC_W3 (s.queueFor p d))).toNat = min ((s.rd (A.QREC_W3 (s.queueFor p d))).toNat + 1) 0xFFFFFFFF) ∧
    (∀ p st, s.intake 4 = true → s.path.toQueue.find? (fun p => !s.mustWait p) = some p → p.stage = .done (.sta st) → (s.staValid st = false ∨ s.que.flushing.contains st = true) →
      ∃ u, exec .enqueue s = .next u ∧ u.que = s.que ∧ (u.rd A.QSC_STA_INVALID).toNat = min ((s.rd A.QSC_STA_INVALID).toNat + 1) 0xFFFFFFFF) ∧
    (s.path.toQueue.find? (fun p => !s.mustWait p) = none → exec .enqueue s = .next s) ∧
    (∀ (i : Fin 32864) p rest, s.queueRuns i = true → s.frozen = false → (s.que' i).drop ((s.que' i).takeWhile (fun x => !x.spilled)).length = p :: rest →
      pktBytes ((s.que' i).takeWhile (fun x => !x.spilled)) < s.headKeep → cellsOf p ≤ s.cellsFree → s.allocatorLost = false →
      ∃ u, exec (.spillReturn i) s = .next u ∧ (u.que' i)[((s.que' i).takeWhile (fun x => !x.spilled)).length]? = some { p with spilled := false } ∧
        (u.que' i).map (fun x => { x with spilled := false }) = (s.que' i).map (fun x => { x with spilled := false })) ∧
    (∀ i : Fin 32864, ((∀ p ∈ s.que' i, p.spilled = false) ∨ s.queueRuns i = false ∨ s.frozen = true) → exec (.spillReturn i) s = .next s) ∧
    (∀ st : Fin 4096, exec (.stationHomeMove st) s = .next { s with que := { s.que with moving := s.que.moving.filter (· != st.val) } }) ∧
    (∀ st : Fin 4096, s.que.flushing.contains st.val = true →
      ∃ u, exec (.stationFlush st) s = .next u ∧ (∀ t : Fin 8, u.que' (8 * st + t) = [] ∧ u.rd (A.QREC_W2 (8 * st + t)) = 0#32) ∧ u.que.flushing.contains st.val = false ∧
        (∀ e ∈ u.grt.tids, e.1 / 8 ≠ st.val) ∧
        (u.rd A.QSC_FLUSH_DROP).toNat = min ((s.rd A.QSC_FLUSH_DROP).toNat + (((List.range 8).map (fun t => (s.que' (8 * st + t)).length)).sum +
          (s.que.air.filter (fun e => e.2.1 / 8 == st.val && decide (e.2.1 < 32768))).length)) 0xFFFFFFFF ∧
        (s.que.flushing = [st.val] → u.get F.QSC_FLUSH_STATUS_BUSY = 0)) ∧
    (∀ st : Fin 4096, s.que.flushing.contains st.val = false → exec (.stationFlush st) s = .next s)

/-- R293 to R301, R303: a port that may send takes the packet its root selects and sends it, padded, with its FCS; the host root delivers to a ring with a free descriptor; a draw hands the selected packets of its user to the radio and takes them from their queue; nothing is
taken where the port may not send, or where the role that holds the queues does not run; a draw that does not agree with the run in progress returns no user. A strict eligible queue of the highest number is served before all. -/
def DequeuesRules : Prop :=
  ∀ s : State, s.shapeOk = true →
    (∀ (p : Fin 4) c strict x l, s.portSends p = true → s.qscRuns (s.qscOf (3 + p)) = true → s.flatSelect (ethRoot p) (32768 + 8 * p) 8 (fun c => !s.paused p c) = some (c, strict) → c < 8 →
      s.que' (32768 + 8 * p + c) = x :: l → x.bad = false → s.isSet (F.ETH_MACSEC_CTRL_EN p) = false →
      ∃ u, exec (.ethDequeue p) s = .next u ∧ u.que' (32768 + 8 * p + c) = l ∧
        u.out = .ethFrame p (let f := x.bytes ++ List.replicate (60 - x.bytes.length) 0#8; f ++ leBytes 4 (crc32 f)) :: s.out ∧
        (u.rd (A.ETH_TX_FRAMES p)).toNat = min ((s.rd (A.ETH_TX_FRAMES p)).toNat + 1) 0xFFFFFFFF ∧
        (∀ i, i ≠ 32768 + 8 * p + c → u.que' i = s.que' i)) ∧
    (∀ p : Fin 4, s.headReady (32768 + 8 * p + 7) = true → s.strict (32768 + 8 * p + 7) = true → s.paused p 7 = false → s.shaperAllows (32768 + 8 * p + 7) = true →
      s.shaperAllows (ethRoot p) = true → s.flatSelect (ethRoot p) (32768 + 8 * p) 8 (fun c => !s.paused p c) = some (7, true)) ∧
    (∀ p : Fin 4, (s.portSends p = false ∨ s.qscRuns (s.qscOf (3 + p)) = false) → exec (.ethDequeue p) s = .next s) ∧
    (∀ q strict x l, s.qscRuns (s.qscOf 7) = true → s.flatSelect hostRoot 32800 16 (fun q => decide (0 < s.ringOwned (16 + q)) && s.isSet (F.HDM_RING_CTRL_EN (16 + q)) && !s.que.toHost.any (fun e => e.1 == q)) =
        some (q, strict) → q < 16 → s.que' (32800 + q) = x :: l → x.bad = false →
      ∃ u, exec .hostDequeue s = .next u ∧ u.que' (32800 + q) = l ∧ u.que.toHost = s.que.toHost ++ [(q, x, 0)] ∧ u.out = s.out) ∧
    (∀ (n : Fin 3) (d : DrawReq) (t : Fin 16), d.kind = 1 → d.named = some t.val → s.drawFits n d = true → s.qscRuns (s.qscOf n) = true →
      (s.gr n).groupLeft.contains t.val = true → s.shaperAllows (32816 + 16 * n + t) = true →
      (let ps := fitting (s.get (F.QSC_RAD_MPDU_BYTES n)) ((d.budget.take (min d.users (s.userMax n))).headD 0 * max 1 (s.get (F.QSC_RAD_DEF_RATE n)) / 16) (s.que' (32816 + 16 * n + t))
       ps ≠ [] → (∀ x ∈ ps, x.bad = false) →
        ∃ u, exec (.radioDraw n d) s = .next u ∧ u.que' (32816 + 16 * n + t) = (s.que' (32816 + 16 * n + t)).drop ps.length ∧
          u.que.air = s.que.air ++ ps.map (fun x => (n.val, 32816 + 16 * n.val + t.val, x)) ∧ u.out = .draw n [(0xFFFF, t.val, pktBytes ps)] :: s.out)) ∧
    (∀ (n : Fin 3) (d : DrawReq) st t ps, d.kind = 2 → s.drawFits n d = true → s.qscRuns (s.qscOf n) = true → s.shaperAllows (radioRoot n) = true →
      s.drawUsers n d (s.schedRoom n) (s.stations.filter (fun x => s.drawEligible n d x)) (d.budget.take (min d.users (s.userMax n))) = [(st, t, ps)] → (∀ x ∈ ps, x.bad = false) → t < 8 → st < 4096 →
      ∃ u, exec (.radioDraw n d) s = .next u ∧ u.que' (8 * st + t) = (s.que' (8 * st + t)).drop ps.length ∧
        u.que.air = s.que.air ++ ps.map (fun x => (n.val, 8 * st + t, x)) ∧ u.out = .draw n [(st, t, pktBytes ps)] :: s.out ∧ (u.gr n).served.contains st = true) ∧
    (∀ (n : Fin 3) (d : DrawReq), (s.drawFits n d = false ∨ s.qscRuns (s.qscOf n) = false) → exec (.radioDraw n d) s = .next { s with out := .draw n [] :: s.out }) ∧
    (∀ (n : Fin 3) (d : DrawReq) st t b, s.drawFits n d = true → (d.kind = 2 ∨ d.kind = 3) → s.schedRoom n = 0 → (s.gr n).served.contains st = false →
      ∀ cands bs, (st, t, b) ∉ s.drawUsers n d (s.schedRoom n) cands bs)

/-- R292, R297, R305, R306, R307: a queue's WEIGHT is 1 to 4,096; a root has only its SHAPER, and no record beyond the tables takes a write. Word 1 of a shaper or a policer commits both words, its tokens held to BURST, or is refused where BURST is below 64; a policer that becomes valid starts full. A
metered packet that its policer has tokens for takes its verdict, another is dropped; a refresh brings every bucket of its role, and every shaper, to the present. The wake-up that a root has armed disarms it and gives the root's role a
token of its timer; another does nothing. Where the spec leaves a point open it follows the model's choices of log 89, 118. -/
def Obligations.ShapersAndPolicers : Prop :=
  ∀ (s : State) (m : Master) (v : Word),
    (∀ (i : Fin 40960), s.gate m (A.QREC_W0 i + 4 * (0 : Fin 4)) = .pass →
      (i.val < 32768 → 1 ≤ getField v 0 13 → getField v 0 13 ≤ 4096 → getField v 13 1 = 0 →
        ∃ u, exec (.queueRecordWrite m i 0 v) s = .next u ∧ u.weight i = getField v 0 13 ∧ u.shaperOf i = getField v 14 13 ∧ u.maySpill i = (getField v 27 1 == 1) ∧
          u.que = s.que ∧ (∀ off, off ≠ A.QREC_W0 i → u.rd off = s.rd off)) ∧
      (i.val < 32816 → (getField v 0 13 = 0 ∨ 4096 < getField v 0 13) → exec (.queueRecordWrite m i 0 v) s = .next (s.bump A.QSC_WRITE_REJECT)) ∧
      (32864 ≤ i.val → i.val < 32872 → exec (.queueRecordWrite m i 0 v) s = .next (s.wr (A.QREC_W0 i) (fieldWord 14 13 (getField v 14 13)))) ∧
      (32872 ≤ i.val → i.val < 36864 → exec (.queueRecordWrite m i 0 v) s = .next (s.bump A.GLB_UNMAPPED_WRITE))) ∧
    (∀ (i : Fin 40960), s.gate m (A.QREC_W0 i + 4 * (1 : Fin 4)) = .pass → i.val < 32864 →
      ∃ u, exec (.queueRecordWrite m i 1 v) s = .next u ∧ u.limit i = getField v 0 24 ∧ u.que = s.que) ∧
    (∀ k : Fin 8192, s.gate m (A.QREC_W1 (40960 + k)) = .pass →
      (k.val = 0 → exec (.shaperCommit m k v) s = .next (s.bump A.GLB_UNMAPPED_WRITE)) ∧
      (k.val ≠ 0 → getField v 0 24 < 64 → exec (.shaperCommit m k v) s = .next (s.bump A.QSC_WRITE_REJECT)) ∧
      (k.val ≠ 0 → 64 ≤ getField v 0 24 →
        ∃ u, exec (.shaperCommit m k v) s = .next u ∧
          u.shaper k = ⟨(s.rd (A.QREC_W0 (40960 + k))).toNat, getField v 0 24, true,
            min ((s.shaper k).refill s.usClock).tokens ((getField v 0 24 * 65536 : Nat) : Int), s.usClock⟩ ∧ (∀ j, j ≠ k.val → u.shaper j = s.shaper j))) ∧
    (∀ p : Fin 65536, s.gate m (A.POL_W1 p) = .pass →
      (getField v 24 1 = 1 → getField v 0 24 < 64 → exec (.policerCommit m p v) s = .next (s.bump A.QSC_WRITE_REJECT)) ∧
      (getField v 24 1 = 1 → 64 ≤ getField v 0 24 → (s.policer p).valid = false →
        ∃ u, exec (.policerCommit m p v) s = .next u ∧
          u.policer p = ⟨(s.rd (A.POL_W0 p)).toNat, getField v 0 24, true, ((getField v 0 24 * 65536 : Nat) : Int), s.usClock⟩ ∧ (∀ j, j ≠ p.val → u.policer j = s.policer j)) ∧
      (getField v 24 1 = 0 → ∃ u, exec (.policerCommit m p v) s = .next u ∧ (u.policer p).valid = false)) ∧
    (∀ k x w14 rule, s.pktAt k = some x → x.stage = .meter true 32#32 w14 rule → s.qscRuns (getField w14 0 16 / 32768) = true → ResultIn s k x →
      (let b := (s.policer (getField w14 0 16)).refill s.usClock
       ((s.policer (getField w14 0 16)).valid = true → ((x.bytes.length * 65536 : Nat) : Int) ≤ b.tokens →
          ∃ u, exec (.meter k) s = .next u ∧ u.pktAt k = some { x with result := false, rule := rule, stage := .rewrite } ∧
            u.policer (getField w14 0 16) = { b with tokens := b.tokens - ((x.bytes.length * 65536 : Nat) : Int) } ∧
            (u.rd (A.POL_W3 (getField w14 0 16))).toNat = min ((s.rd (A.POL_W3 (getField w14 0 16))).toNat + 1) 0xFFFFFFFF) ∧
       ((s.policer (getField w14 0 16)).valid = true → b.tokens < ((x.bytes.length * 65536 : Nat) : Int) →
          ∃ u, exec (.meter k) s = .next u ∧ u.path.inRole = s.path.inRole.filter (fun y => y.id != k) ∧ u.policer (getField w14 0 16) = b ∧
            (u.rd (A.POL_W2 (getField w14 0 16))).toNat = min ((s.rd (A.POL_W2 (getField w14 0 16))).toNat + 1) 0xFFFFFFFF)) ∧
      ((s.policer (getField w14 0 16)).valid = false →
        ∃ u, exec (.meter k) s = .next u ∧ u.pktAt k = some { x with result := false, rule := rule, stage := .rewrite } ∧
          (u.rd A.QSC_POL_INVALID).toNat = min ((s.rd A.QSC_POL_INVALID).toNat + 1) 0xFFFFFFFF)) ∧
    (∀ k x, s.pktAt k = some x → x.stage = .flow → exec (.meter k) s = .next s) ∧
    (∀ k x egress w13 w14 rule, s.pktAt k = some x → x.stage = .meter egress w13 w14 rule → s.qscRuns (getField w14 0 16 / 32768) = false →
      exec (.meter k) s = .next s) ∧
    (∀ (q : Fin 2), s.qscRuns q = false → exec (.policerRefresh q) s = .next s) ∧
    (∀ (q : Fin 2), s.qscRuns q = true → ∃ u, exec (.policerRefresh q) s = .next u ∧
      (∀ p b, p / 32768 = q.val → kvGet s.que.policers p = some b → u.policer p = b.refill s.usClock) ∧ (∀ p, p / 32768 ≠ q.val → u.policer p = s.policer p) ∧
      (∀ k b, kvGet s.que.shapers k = some b → u.shaper k = b.refill s.usClock) ∧ u.regs = s.regs) ∧
    (∀ r : Fin 8, s.que.armed.contains (32864 + r.val) = false → exec (.shaperWake r) s = .next s) ∧
    (∀ r : Fin 8, s.que.armed.contains (32864 + r.val) = true → s.shapeOk = true → (s.role (9 + s.qscOf (splitBit r))).queue.length < 4096 →
      (∀ t ∈ (s.role (9 + s.qscOf (splitBit r))).queue, t.timer ≠ some (32864 + r.val)) →
      ∃ u, exec (.shaperWake r) s = .next u ∧ u.que = { s.que with armed := s.que.armed.filter (· != 32864 + r.val) } ∧
        (u.role (9 + s.qscOf (splitBit r))).queue = (s.role (9 + s.qscOf (splitBit r))).queue ++
          [⟨none, 0, 0, some (32864 + r.val), 0, [], none, false⟩])

/-- R287, R289, R290, R291, R293, R294, R295, R296, R297, R298, R299, R300, R301, R303, R304: what arrives at queues and what leaves them. Where the spec leaves a point open it follows the model's choices of log 89, 118. -/
def Obligations.Queues : Prop :=
  QueueArrivalsRules ∧ DequeuesRules

/-! ### Ethernet ports, rings, events and interrupts (R310 to R327) -/

/-- R315: the priority pause frame of port p with a time: the priorities of TX_EN, padded, with its FCS. -/
def pfcWire (s : State) (p time : Nat) : List Byte :=
  let en := s.get (F.ETH_PFC_TX_EN p)
  let f := beBytes 6 0x0180C2000001 ++ s.portMac p ++ beBytes 2 0x8808 ++ beBytes 2 0x0101 ++ beBytes 2 en ++
    (List.range 8).flatMap (fun c => beBytes 2 (if bit en c then time else 0))
  let g := f ++ List.replicate (60 - f.length) 0#8
  g ++ leBytes 4 (crc32 g)

/-- R310 to R315: a received frame is refused and counted by the first check of R311 that it fails, and else waits for the parser with its stamp; a pause frame pauses the eight classes for its time; a pause whose time is over is gone. The port sends a priority pause frame as its
FIFO rises above XOFF, again while it stays above XON, and one of time 0 as it falls below. The link shows what it does, and a change of mode takes it down. Where the spec leaves a point open it follows the model's choices of log 90, 91. -/
def Obligations.EthernetPorts : Prop :=
  ∀ (s : State) (p : Fin 4) (raw : List Byte), s.shapeOk = true →
    ((s.linkUp p = false ∨ (s.port p).lost = true) → ∀ e, exec (.ethFrameReceive p raw e) s = .next s) ∧
    (s.linkUp p = true → (s.port p).lost = false →
      exec (.ethFrameReceive p raw true) s = .next (s.bump (A.ETH_RX_CODE_ERR p)) ∧
      (raw.length < 64 → exec (.ethFrameReceive p raw false) s = .next (s.bump (A.ETH_RX_UNDERSIZE p))) ∧
      (64 ≤ raw.length → s.get (F.ETH_MAXLEN_LEN p) < raw.length → exec (.ethFrameReceive p raw false) s = .next (s.bump (A.ETH_RX_OVERSIZE p))) ∧
      (64 ≤ raw.length → raw.length ≤ s.get (F.ETH_MAXLEN_LEN p) → leNat (raw.drop (raw.length - 4)) ≠ crc32 (raw.take (raw.length - 4)) →
        exec (.ethFrameReceive p raw false) s = .next (s.bump (A.ETH_RX_FCS_ERR p))) ∧
      (let f := raw.take (raw.length - 4)
       64 ≤ raw.length → raw.length ≤ s.get (F.ETH_MAXLEN_LEN p) → leNat (raw.drop (raw.length - 4)) = crc32 f →
        (beAt f 12 2 ≠ 0x8808 → s.isSet (F.ETH_MACSEC_CTRL_EN p) = false →
          (s.filterPasses p (f.take 6) = false → exec (.ethFrameReceive p raw false) s = .next (s.bump (A.ETH_RX_FILTERED p))) ∧
          (s.filterPasses p (f.take 6) = true → s.isSecondary p f = false → s.fifoLevel p + f.length ≤ 262144 →
            ∃ u, exec (.ethFrameReceive p raw false) s = .next u ∧
              u.path = { s.path with ingress := s.path.ingress ++ [{ Pkt.fresh f p with macsec := false, stamp := some (s.rxStamp p (raw.length * 8000 / modeRate (s.portMode p))) }] } ∧
              (u.rd (A.ETH_RX_FRAMES p)).toNat = min ((s.rd (A.ETH_RX_FRAMES p)).toNat + 1) 0xFFFFFFFF) ∧
          (s.filterPasses p (f.take 6) = true → s.isSecondary p f = false → 262144 < s.fifoLevel p + f.length →
            ∃ u, exec (.ethFrameReceive p raw false) s = .next u ∧ u.path = s.path ∧
              (u.rd (A.ETH_RX_FIFO_DROP p)).toNat = min ((s.rd (A.ETH_RX_FIFO_DROP p)).toNat + 1) 0xFFFFFFFF)) ∧
        (beAt f 12 2 = 0x8808 → beAt f 14 2 = 1 → s.filterPasses p (f.take 6) = true → s.isSet (F.ETH_CTRL_PAUSE_RX p) = true → beAt f 16 2 ≠ 0 → (s.port p).pause.length = 8 →
          ∃ u, exec (.ethFrameReceive p raw false) s = .next u ∧ u.path = s.path ∧
            (∀ c : Fin 8, (u.port p).pause.getD c none =
              some (if s.paused p c then s.tim.now else s.tim.now + 200, s.tim.now + beAt f 16 2 * 512 * 1000 / modeRate (s.portMode p))) ∧
            (u.rd (A.ETH_RX_PAUSE p)).toNat = min ((s.rd (A.ETH_RX_PAUSE p)).toNat + 1) 0xFFFFFFFF))) ∧
    (∀ (c : Fin 8) a b, (s.port p).pause.getD c none = some (a, b) →
      (b ≤ s.tim.now → exec (.pauseExpire p c) s = .next (s.portMod p (fun x => { x with pause := x.pause.set c none }))) ∧
      (s.tim.now < b → exec (.pauseExpire p c) s = .next s)) ∧
    (s.get (F.ETH_PFC_THR_XOFF p) * 1024 < s.fifoLevel p → (s.port p).above = false → s.get (F.ETH_PFC_TX_EN p) ≠ 0 → s.linkUp p = true →
      ∃ u, exec (.pfcXoff p) s = .next u ∧ (u.port p).above = true ∧ u.out = .ethFrame p (pfcWire s p (s.get (F.ETH_PFC_TIME p))) :: s.out ∧ u.path = s.path) ∧
    ((s.fifoLevel p ≤ s.get (F.ETH_PFC_THR_XOFF p) * 1024 ∨ (s.port p).above = true) → exec (.pfcXoff p) s = .next s) ∧
    (s.get (F.ETH_PFC_THR_XON p) * 1024 < s.fifoLevel p → (s.port p).above = true → (s.port p).sentAt + s.pfcHalf p ≤ s.tim.now → s.get (F.ETH_PFC_TX_EN p) ≠ 0 →
      s.linkUp p = true → ∃ u, exec (.pfcRefresh p) s = .next u ∧ (u.port p).above = true ∧ (u.port p).sentAt = s.tim.now ∧
        u.out = .ethFrame p (pfcWire s p (s.get (F.ETH_PFC_TIME p))) :: s.out) ∧
    (s.tim.now < (s.port p).sentAt + s.pfcHalf p → exec (.pfcRefresh p) s = .next s) ∧
    ((s.port p).above = false → exec (.pfcRefresh p) s = .next s ∧ exec (.pfcXon p) s = .next s) ∧
    (s.fifoLevel p < s.get (F.ETH_PFC_THR_XON p) * 1024 → (s.port p).above = true → s.get (F.ETH_PFC_TX_EN p) ≠ 0 → s.linkUp p = true →
      ∃ u, exec (.pfcXon p) s = .next u ∧ (u.port p).above = false ∧ u.out = .ethFrame p (pfcWire s p 0) :: s.out) ∧
    (∀ r, s.ballsTaken = false → s.portMode p ≠ 0 → (s.port p).lost = false → (s.func (3 + p)).on = true → (s.func (3 + p)).stopping = false →
      exec (.linkChange p true r) s = .next ((s.portMod p (fun x => { x with cut := false })).put (F.ETH_STATUS_LINK p) 1)) ∧
    (∀ r, (s.portMode p = 0 ∨ (s.port p).lost = true) → exec (.linkChange p true r) s = .next s) ∧
    (∀ r, ∃ u, exec (.linkChange p false r) s = .next u ∧ u.get (F.ETH_STATUS_LINK p) = 0 ∧ u.path = s.path ∧
      (u.port p).cut = false ∧
      (r = true → (s.linkUp p = true ∨ (s.port p).cut = true) → (u.rd (A.ETH_RX_CODE_ERR p)).toNat = min ((s.rd (A.ETH_RX_CODE_ERR p)).toNat + 1) 0xFFFFFFFF)) ∧
    (∀ m v, s.gate m (A.ETH_CTRL p) = .pass →
      ((getField v 5 2 = 3 ∨ (getField v 5 2 = 2 ∧ s.portMode p ≠ 1) ∨ (getField v 5 2 = 1 ∧ 3 ≤ s.portMode p)) → exec (.ethCtrlWrite m p v) s = .next s) ∧
      ((getField v 5 2 = 0 ∨ (getField v 5 2 = 1 ∧ s.portMode p ≤ 2) ∨ (getField v 5 2 = 2 ∧ s.portMode p = 1)) →
        ∃ u, exec (.ethCtrlWrite m p v) s = .next u ∧ u.rd (A.ETH_CTRL p) = BitVec.ofNat 32 (v.toNat % 256) ∧
          ((s.rd (A.ETH_CTRL p) ^^^ v) &&& 0xF8#32 ≠ 0#32 → u.get (F.ETH_STATUS_LINK p) = 0) ∧
          ((s.rd (A.ETH_CTRL p) ^^^ v) &&& 0xF8#32 = 0#32 → u.get (F.ETH_STATUS_LINK p) = s.get (F.ETH_STATUS_LINK p))))

/-- R320 to R327, R336: a PCIe reset resets the rings, the MSI-X table and the HDM_ registers and gives the packets on their way back to their host queues. A ring starts from entry 0 as it is enabled and stops at once, or after its begun frame; a tail beyond it and a size below 64 are refused. A frame of the
next posted entries is accepted or refused with its status written back; a packet goes into the posted buffers with its descriptor; a PCIe error stops its ring with ERROR. An event record is written when a ring entry is free; a vector signals once its count or holdoff is reached. Where the spec leaves a point open it follows the model's choices of log 92. -/
def Obligations.HostRings : Prop :=
  ∀ (s : State) (m : Master) (v : Word),
    (∀ up, s.sec.sealJob = none →
      ∃ u, exec (.pcieReset up) s = .next u ∧ u.hst.pcieUp = (up && !s.ballsTaken) ∧ u.hst.evtWait = [] ∧ u.que.toHost = [] ∧
        (∀ off, 0x3E0000 ≤ off → off < 0x400000 → off ≠ A.HDM_SEC_CTRL → off ≠ A.HDM_SEC_LAST_SEQ → u.rd off = resetWord off) ∧
        (∀ off, off < 0x3E0000 → u.rd off = s.rd off) ∧ (∀ q p k, s.que.toHost = [(q, p, k)] → u.que' (32800 + q) = p :: s.que' (32800 + q))) ∧
    (∀ r : Fin 33, s.gate m (A.HDM_RING_CTRL r) = .pass →
      (getField v 1 4 < 6 → exec (.ringEnable m r v) s = .next (s.bump A.HDM_WRITE_REJECT) ∧ exec (.ringDisable m r v) s = .next (s.bump A.HDM_WRITE_REJECT)) ∧
      (6 ≤ getField v 1 4 → s.isSet (F.HDM_RING_CTRL_STOPPED r) = false → getField v 1 4 ≠ s.get (F.HDM_RING_CTRL_LOG2_SIZE r) →
        exec (.ringEnable m r v) s = .next (s.bump A.HDM_WRITE_REJECT)) ∧
      (6 ≤ getField v 1 4 → s.isSet (F.HDM_RING_CTRL_STOPPED r) = true → s.isSet (F.HDM_RING_CTRL_EN r) = false →
        ∃ u, exec (.ringEnable m r v) s = .next u ∧ u.get (F.HDM_RING_CTRL_EN r) = 1 ∧ u.get (F.HDM_RING_CTRL_STOPPED r) = 0 ∧
          u.get (F.HDM_RING_CTRL_LOG2_SIZE r) = getField v 1 4 ∧ u.get (F.HDM_RING_CTRL_VECTOR r) = getField v 5 6 ∧ u.rd (A.HDM_RING_IDX r) = 0#32) ∧
      (getField v 1 4 = s.get (F.HDM_RING_CTRL_LOG2_SIZE r) → 6 ≤ getField v 1 4 → s.isSet (F.HDM_RING_CTRL_EN r) = true →
        ∃ u, exec (.ringDisable m r v) s = .next u ∧ u.get (F.HDM_RING_CTRL_EN r) = 0 ∧
          (s.ringBegun r = false → u.get (F.HDM_RING_CTRL_STOPPED r) = 1) ∧
          (s.ringBegun r = true → u.get (F.HDM_RING_CTRL_STOPPED r) = s.get (F.HDM_RING_CTRL_STOPPED r)))) ∧
    (∀ r : Fin 33, s.gate m (A.HDM_RING_IDX r) = .pass →
      (getField v 0 16 < 2 ^ s.get (F.HDM_RING_CTRL_LOG2_SIZE r) → exec (.ringTailPost m r v) s = .next (s.put (F.HDM_RING_IDX_TAIL r) (getField v 0 16))) ∧
      (2 ^ s.get (F.HDM_RING_CTRL_LOG2_SIZE r) ≤ getField v 0 16 → exec (.ringTailPost m r v) s = .next (s.bump A.HDM_WRITE_REJECT))) ∧
    (∀ (r : Fin 16) (a b w2 w3 : Word) data, s.intake 9 = true → 1 ≤ s.ringOwned r → getField w2 14 1 = 0 →
      (∀ d : List Byte, data = some d → getField w2 19 2 = 0 → getField w2 25 1 = 0 → getField w2 26 1 = 0 → 14 ≤ (slice d 0 (getField w2 0 14)).length →
        (slice d 0 (getField w2 0 14)).length ≤ 9216 →
        ∃ u, exec (.txDescriptor r [(a, b, w2, w3)] data) s = .next u ∧ u.path.ingress.map (fun x => (x.bytes, x.source)) =
          s.path.ingress.map (fun x => (x.bytes, x.source)) ++ [(slice d 0 (getField w2 0 14), 52 + r.val)] ∧
          u.out = .writeback r (s.get (F.HDM_RING_IDX_HEAD r)) [a, b, setField (setField w2 15 1 1) 16 3 0, w3] :: s.out ∧
          u.get (F.HDM_RING_IDX_HEAD r) = (s.get (F.HDM_RING_IDX_HEAD r) + 1) % 2 ^ s.get (F.HDM_RING_CTRL_LOG2_SIZE r)) ∧
      (data = none → ∃ u, exec (.txDescriptor r [(a, b, w2, w3)] data) s = .next u ∧ u.path = s.path ∧
        u.out = .writeback r (s.get (F.HDM_RING_IDX_HEAD r)) [a, b, setField (setField w2 15 1 1) 16 3 2, w3] :: s.out) ∧
      (∀ d : List Byte, data = some d → (slice d 0 (getField w2 0 14)).length < 14 → ∃ u, exec (.txDescriptor r [(a, b, w2, w3)] data) s = .next u ∧ u.path = s.path ∧
        u.out = .writeback r (s.get (F.HDM_RING_IDX_HEAD r)) [a, b, setField (setField w2 15 1 1) 16 3 1, w3] :: s.out)) ∧
    (∀ (r : Fin 16) d ds (b : List Byte), s.intake 9 = true → frameDescs (d :: ds) = d :: ds → ds.length < s.ringOwned r → getField d.2.2.1 19 2 = 0 →
      getField d.2.2.1 25 1 = 0 → getField d.2.2.1 26 1 = 0 →
      (let f := slice b 0 (((d :: ds).map (fun x => getField x.2.2.1 0 14)).sum)
       14 ≤ f.length → f.length ≤ 9216 →
        ∃ u, exec (.txDescriptor r (d :: ds) (some b)) s = .next u ∧
          u.path.ingress.map (fun x => (x.bytes, x.source)) = s.path.ingress.map (fun x => (x.bytes, x.source)) ++ [(f, 52 + r.val)] ∧
          u.get (F.HDM_RING_IDX_HEAD r) = (s.get (F.HDM_RING_IDX_HEAD r) + (ds.length + 1)) % 2 ^ s.get (F.HDM_RING_CTRL_LOG2_SIZE r))) ∧
    (∀ (r : Fin 16) ds data, (frameDescs ds = [] ∨ s.ringOwned r < (frameDescs ds).length) → exec (.txDescriptor r ds data) s = .next s) ∧
    (∀ (q : Fin 16) p (a b c : Word), s.intake 9 = true → s.que.toHost.find? (fun e => e.1 == q.val) = some (q.val, p, 0) → 1 ≤ s.ringOwned (16 + q) → p.bytes ≠ [] →
      p.bytes.length ≤ getField c 0 14 →
      ∃ u, exec (.rxWriteback q [(a, b, c)]) s = .next u ∧ u.que.toHost = s.que.toHost.eraseP (fun e => e.1 == q.val) ∧
        u.out = .writeback (16 + q) (s.get (F.HDM_RING_IDX_HEAD (16 + q))) (s.rxWords p p.bytes.length) :: .hostData (a.toNat + b.toNat * 2 ^ 32) p.bytes :: s.out) ∧
    (∀ (q : Fin 16) ds, s.que.toHost.find? (fun e => e.1 == q.val) = none → exec (.rxWriteback q ds) s = .next s) ∧
    (∀ r : Fin 33, s.isSet (F.HDM_RING_CTRL_EN r) = true →
      ∃ u, exec (.ringPcieError r) s = .next u ∧ u.get (F.HDM_RING_CTRL_ERROR r) = 1 ∧ u.get (F.HDM_RING_CTRL_EN r) = 0 ∧
        (s.ringBegun r = false → u.get (F.HDM_RING_CTRL_STOPPED r) = 1)) ∧
    (∀ r : Fin 33, s.isSet (F.HDM_RING_CTRL_EN r) = false → exec (.ringPcieError r) s = .next s) ∧
    (∀ e rest, s.hst.evtWait = e :: rest → s.ringOwned 32 ≠ 0 →
      ∃ u, exec .eventRecord s = .next u ∧ u.hst.evtWait = rest ∧
        u.out = .writeback 32 (s.get (F.HDM_RING_IDX_HEAD 32)) [fieldWord 0 24 e.off, fieldWord 0 5 e.bit ||| fieldWord 31 1 1, fieldWord 0 30 e.ns, BitVec.ofNat 32 e.sec] ::
          .eventRecord e.off e.bit e.ns e.sec :: s.out) ∧
    ((s.hst.evtWait = [] ∨ s.ringOwned 32 = 0) → exec .eventRecord s = .next s) ∧
    (∀ (w : Fin 64) n t, s.hst.vecs.getD w ⟨0, none⟩ = ⟨n, some t⟩ → s.hst.pcieUp = true →
      (s.get (F.HDM_VEC_COUNT w) ≤ n ∨ t + s.get (F.HDM_VEC_HOLDOFF w) * 1000 ≤ s.tim.now) →
      ∃ u, exec (.msixSignal w) s = .next u ∧ u.hst.vecs.getD w ⟨0, none⟩ = ⟨0, none⟩ ∧
        (s.vecMasked w = false → u.out = .msix w :: s.out ∧ u.regs = s.regs) ∧
        (s.vecMasked w = true → u.out = s.out ∧ bit (u.rd (A.MSIX_PBA (w / 32))).toNat (w % 32) = true)) ∧
    (∀ (w : Fin 64) n, s.hst.vecs.getD w ⟨0, none⟩ = ⟨n, none⟩ → exec (.msixSignal w) s = .next s)

/-! ### On-chip memories and the DDR5 controller (R338 to R364) -/

/-- R444: a fault whose handling ended at once: it is counted in its class, EVENT shows, and the most recent record holds its place, class, outcome and DONE; no present record is left. -/
def FaultShown (s u : State) (cls outcome : Nat) (loc : Word) : Prop :=
  u.rd A.GLB_FLT_LAST_LOC = loc ∧ u.get F.GLB_FLT_LAST_INFO_CLASS = cls ∧ u.get F.GLB_FLT_LAST_INFO_OUTCOME = outcome ∧ u.get F.GLB_FLT_LAST_INFO_DONE = 1 ∧
  u.get F.GLB_FLT_STATUS_PRESENT = 0 ∧ u.get F.GLB_FLT_STATUS_EVENT = 1 ∧
  (u.rd (A.GLB_FLT_COUNT cls)).toNat = min ((s.rd (A.GLB_FLT_COUNT cls)).toNat + 1) 0xFFFFFFFF

/-- R338, R345, R346, R348, R350: a correctable error is counted and its place kept; an uncorrectable one is counted and recorded, and what it struck is put right or given up: a Plate-cache page waits for its refetch, a ledger line for its repair, a queue entry and its token are lost, a flow-cache entry goes,
a record and a policer are reset, a second error in a cell bank within a second fences it. Banks kept through Deep come back as they were; one that failed is reported; a failing key array is cleared. Where the spec leaves a point open it follows the model's choices of log 94. -/
def Obligations.MemoryErrors : Prop :=
  ∀ (s : State) (bank : Fin 256) (word : Fin 8192), s.shapeOk = true → s.pwr.stage = .up →
    let pb := s.loc .pkt 4 bank
    (∀ b, exec (.memoryScrub b bank word .clean) s = .next s) ∧
    exec (.memoryScrub true bank word .corrected) s = .next ((s.bump A.ENG_MEM_CE_PB).wr A.ENG_MEM_LAST_CE_LOC pb) ∧
    exec (.memoryScrub false bank word .corrected) s = .next ((s.bump A.ENG_MEM_CE_PCA).wr A.ENG_MEM_LAST_CE_LOC (s.loc .eng 14 (bank % 128))) ∧
    (∀ b p, exec (.memoryScrub b bank word (.uncorrectable p)) s = exec (.memoryUe p bank word) s) ∧
    (∀ v6, ∃ u, exec (.memoryUe (.trie v6) bank word) s = .next u ∧ FaultShown s u 1 0 pb ∧ u.rd A.ENG_MEM_LAST_UE_LOC = pb ∧ u.get F.ENG_MEM_LAST_UE_ADDR_WORD = word ∧
      (u.rd A.ENG_MEM_UE_PB).toNat = min ((s.rd A.ENG_MEM_UE_PB).toNat + 1) 0xFFFFFFFF ∧ u.path = s.path) ∧
    (∀ (page : Fin 2048) (role : Fin 13), ∃ u, exec (.memoryUe (.plateCache page role) bank word) s = .next u ∧ FaultShown s u 1 0 (s.loc .eng 14 (page % 128)) ∧
      u.plt.badPages.any (fun b => b.1 == page.val) = true ∧
      (s.plt.badPages.any (fun b => b.1 == page.val) = false → u.plt.badPages = (page.val, role.val) :: s.plt.badPages) ∧ (u.rd A.ENG_MEM_UE_PCA).toNat = min ((s.rd A.ENG_MEM_UE_PCA).toNat + 1) 0xFFFFFFFF) ∧
    (∀ page : Fin 2048, exec (.platePageRefetch page) s = .next { s with plt := { s.plt with badPages := s.plt.badPages.filter (fun b => b.1 != page.val) } }) ∧
    (∀ (r : Fin 12) (line : Fin 16384), ∃ u, exec (.memoryUe (.ledger r line) bank word) s = .next u ∧ FaultShown s u 1 0 (s.loc .eng 15 (16 * r + line / 1024)) ∧
      (u.role (r + 1)).badLines.contains line.val = true ∧ (u.role (r + 1)).ledger = (s.role (r + 1)).ledger) ∧
    (∀ (q : Fin 32864) k, ∃ u, exec (.memoryUe (.cell q k) bank word) s = .next u ∧ FaultShown s u 1 1 pb ∧
      u.que' q = modAt (s.que' q) k (fun x => { x with bad := true }) ∧
      (∀ t, 148 ≤ bank.val → kvGet s.mem.cellErr bank = some t → s.tim.now < t + 1000000000 → s.mem.fenced.contains bank.val = false →
        u.get F.QSC_BUF_TOTAL_CELLS = s.get F.QSC_BUF_TOTAL_CELLS - 256 ∧ u.get F.ENG_MEM_STATUS_PB_FENCE = 1) ∧
      ((bank.val < 148 ∨ kvGet s.mem.cellErr bank = none) → u.get F.QSC_BUF_TOTAL_CELLS = s.get F.QSC_BUF_TOTAL_CELLS)) ∧
    (∀ (r : Fin 12) k t, (s.role (r + 1)).queue[k]? = some t → t.pkt = none →
      ∃ u, exec (.memoryUe (.queueEntry r k) bank word) s = .next u ∧ FaultShown s u 1 1 pb ∧ (u.role (r + 1)).queue = (s.role (r + 1)).queue.eraseIdx k ∧
        (u.rd A.ENG_MEM_TOKEN_LOST).toNat = min ((s.rd A.ENG_MEM_TOKEN_LOST).toNat + 1) 0xFFFFFFFF) ∧
    (∀ (set : Fin 65536) (way : Fin 4), ∃ u, exec (.memoryUe (.flowCache set way) bank word) s = .next u ∧ FaultShown s u 1 (if s.cacheOnly then 1 else 0) pb ∧
      kvRead (fun _ => []) u.path.cache set = (kvRead (fun _ => []) s.path.cache set).eraseIdx way) ∧
    (∀ i : Fin 49152, i.val < 40960 → ∃ u, exec (.memoryUe (.record i) bank word) s = .next u ∧ FaultShown s u 1 1 pb ∧
      u.weight i = getField (resetWord (A.QREC_W0 i)) 0 13 ∧ u.limit i = getField (resetWord (A.QREC_W1 i)) 0 24 ∧ u.get F.ENG_MEM_STATUS_RECORD_RESET = 1) ∧
    (∀ i : Fin 65536, ∃ u, exec (.memoryUe (.policer i) bank word) s = .next u ∧ FaultShown s u 1 1 pb ∧ (u.policer i).valid = false ∧ u.get (F.POL_W1_VALID i) = 0 ∧
      u.get F.ENG_MEM_STATUS_RECORD_RESET = 1) ∧
    (∀ banks, s.mem.retained = some banks → s.pwrState = 5 →
      (∃ u, exec (.retentionRestore [] []) s = .next u ∧ u.mem.retained = none ∧ u.get F.ENG_MEM_STATUS_RETFAIL_BANKS = 0 ∧
        (∀ e : Fin 14, s.estate e = eServing → (u.engine e).sp = keptLines (s.erole e) banks (s.engine e).sp) ∧
        (∀ e : Fin 14, s.estate e ≠ eServing → (u.engine e).sp = []) ∧
        (∀ r : Fin 12, s.servingRole (r + 1) = true → s.counterproof = true → (u.role (r + 1)).ledger = (u.engine (s.roleAt (r + 1))).sp)) ∧
      (∀ (r : Fin 12) (n : Fin 16), banks.contains (r.val + 1, n.val) = true →
        ∃ u, exec (.retentionRestore [(r, n, false)] []) s = .next u ∧ FaultShown s u 12 0 (s.bankLoc (r + 1, n)) ∧ u.get F.ENG_MEM_STATUS_RETFAIL = 1 ∧
          u.get F.ENG_MEM_STATUS_RETFAIL_BANKS = 1 ∧ u.rd A.ENG_MEM_RETFAIL_LOC = s.bankLoc (r + 1, n)) ∧
      (∃ u, exec (.retentionRestore [] [3]) s = .next u ∧ FaultShown s u 12 1 (s.loc .pkt 0x0A 3) ∧ u.get F.TRV_DKEY_STATUS_LOADED = 0 ∧ u.get F.KEY_EVENT_FAULT = 1)) ∧
    (s.mem.retained = none → ∀ l a, exec (.retentionRestore l a) s = .next s)

/-- R353, R357 to R361: a due refresh is forced at a debt of 4, postponed and counted while an urgent request waits, and else closes the rows; a hot reading ends every postponement; two cool ones end the hot state; a repaid refresh lowers the debt. A command slot takes the chosen request: a write's 64 bytes reach memory, and its
second copy below 128 MiB, no other byte changing; a read goes in flight, and returns clean, corrected and counted, from its mirror, or poisoned, counted and recorded; in freeze mode such a read stops the controller. -/
def DramCommandsRules : Prop :=
  ∀ (s : State) (sc : Fin 2),
    (4 ≤ s.get (debtFld sc) → exec (.dramRefresh sc) s = .next ((s.bump A.DRC_REF_FORCED).closeRows sc)) ∧
    (s.get (debtFld sc) < 4 → s.urgentFor sc = true →
      ∃ u, exec (.dramRefresh sc) s = .next u ∧ u.get (debtFld sc) = s.get (debtFld sc) + 1 ∧ u.mem = s.mem ∧
        (u.rd A.DRC_REF_POSTPONED).toNat = min ((s.rd A.DRC_REF_POSTPONED).toNat + 1) 0xFFFFFFFF) ∧
    (s.get (debtFld sc) < 4 → s.urgentFor sc = false → exec (.dramRefresh sc) s = .next (s.closeRows sc)) ∧
    (∀ hot tooHot, hot = true ∨ tooHot = true → s.isSet (hotFld sc) = false →
      ∃ u, exec (.dramMr4Read sc hot tooHot) s = .next u ∧ u.get (hotFld sc) = 1 ∧ u.get (debtFld sc) = 0 ∧ u.mem.rows = s.mem.rows.filter (fun r => r.1.1 != sc.val) ∧
        (tooHot = true → u.get F.DRC_STATUS_TOO_HOT = 1)) ∧
    (1 ≤ s.mem.cool.getD sc 0 → ∃ u, exec (.dramMr4Read sc false false) s = .next u ∧ u.get (hotFld sc) = 0 ∧ u.mem.dram = s.mem.dram) ∧
    (s.mem.cool.getD sc 0 = 0 → ∃ u, exec (.dramMr4Read sc false false) s = .next u ∧ u.regs = s.regs ∧ u.mem.dram = s.mem.dram) ∧
    (exec (.refreshRepay sc) s = .next (if 0 < s.get (debtFld sc) ∧ s.urgentFor sc = false then (s.put (debtFld sc) (s.get (debtFld sc) - 1)).closeRows sc else s)) ∧
    exec (.zqCalibration sc) s = .next s ∧
    (∀ (arrived : List DramReq) ready,
      let t : State := { s with mem := { s.mem with reqs := s.mem.reqs ++ arrived.map (fun r => ⟨r.port, r.addr / 64 * 64, r.data, s.tim.now⟩) } }
      ((s.isSet F.DRC_STATUS_FROZEN = true ∨ s.isSet F.DRC_STATUS_TRAINED = false ∨ t.dramChoice sc ready = none) → exec (.dramCommandIssue sc arrived ready) s = .next t) ∧
      (∀ r, s.isSet F.DRC_STATUS_FROZEN = false → s.isSet F.DRC_STATUS_TRAINED = true → t.dramChoice sc ready = some r → r.data = none →
        ∃ u, exec (.dramCommandIssue sc arrived ready) s = .next u ∧ u.mem.flight = s.mem.flight ++ [r] ∧ u.mem.reqs = t.mem.reqs.erase r ∧ u.mem.dram = s.mem.dram ∧
          u.regs = s.regs) ∧
      (∀ r bs, s.isSet F.DRC_STATUS_FROZEN = false → s.isSet F.DRC_STATUS_TRAINED = true → t.dramChoice sc ready = some r → r.data = some bs → r.addr % 64 = 0 →
        ∃ u, exec (.dramCommandIssue sc arrived ready) s = .next u ∧ u.mem.reqs = t.mem.reqs.erase r ∧ u.dramRead r.addr 64 = slice bs 0 64 ∧
          (r.addr < 0x08000000 → u.dramRead (s.mirrorOf r.addr) 64 = slice bs 0 64) ∧
          (∀ a, (a < r.addr ∨ r.addr + 64 ≤ a) → (0x08000000 ≤ r.addr ∨ a < s.mirrorOf r.addr ∨ s.mirrorOf r.addr + 64 ≤ a) → u.dramByte a = s.dramByte a))) ∧
    (∀ (port : Fin 10) o, (s.isSet F.DRC_STATUS_FROZEN = true ∨ s.mem.flight.find? (fun r => r.port == port.val) = none) → exec (.dramReadReturn port o) s = .next s) ∧
    (∀ (port : Fin 10) r, s.isSet F.DRC_STATUS_FROZEN = false → s.mem.flight.find? (fun r => r.port == port.val) = some r →
      (∃ u, exec (.dramReadReturn port .clean) s = .next u ∧ u.mem = { s.mem with flight := s.mem.flight.erase r } ∧
        u.get (F.DRC_PORT_PEAK_AGE port) = max (s.get (F.DRC_PORT_PEAK_AGE port)) (min ((s.tim.now - r.at_) / 10) 65535) ∧
        (s.dramTarget port < s.tim.now - r.at_ → (u.rd (A.DRC_PORT_MISSED port)).toNat = min ((s.rd (A.DRC_PORT_MISSED port)).toNat + 1) 0xFFFFFFFF)) ∧
      (∃ u, exec (.dramReadReturn port .corrected) s = .next u ∧ (u.rd A.DRC_CE).toNat = min ((s.rd A.DRC_CE).toNat + 1) 0xFFFFFFFF ∧ u.mem.flight = s.mem.flight.erase r) ∧
      (∀ (lane : Fin 5) (q : Fin 32864), r.addr < 0x08000000 → s.lostSc (1 - s.scOf r.addr) = false →
        ∃ u, exec (.dramReadReturn port (.bad lane true q)) s = .next u ∧ (u.rd A.DRC_MIRROR_READ).toNat = min ((s.rd A.DRC_MIRROR_READ).toNat + 1) 0xFFFFFFFF ∧
          u.rd A.DRC_UE = s.rd A.DRC_UE) ∧
      (∀ (lane : Fin 5) good (q : Fin 32864), s.pwr.stage = .up → (0x08000000 ≤ r.addr ∨ good = false ∨ s.lostSc (1 - s.scOf r.addr) = true) →
        ∃ u, exec (.dramReadReturn port (.bad lane good q)) s = .next u ∧ FaultShown s u 9 1 (s.deviceLoc (s.scOf r.addr) lane) ∧
          (u.rd A.DRC_UE).toNat = min ((s.rd A.DRC_UE).toNat + 1) 0xFFFFFFFF ∧ u.rd A.DRC_LAST_UE_LOC = s.deviceLoc (s.scOf r.addr) lane ∧
          u.rd A.DRC_LAST_UE_ADDR_LO = BitVec.ofNat 32 r.addr ∧
          (s.isSet F.DRC_CTRL_FREEZE_EN = true → u.get F.DRC_STATUS_FROZEN = 1 ∧ u.get F.DRC_STATUS_FREEZE_CAUSE = 2 ∧ u.mem.failing.map (fun x => x.addr) = some r.addr) ∧
          (s.isSet F.DRC_CTRL_FREEZE_EN = false → (u.rd (A.DRC_PORT_POISON port)).toNat = min ((s.rd (A.DRC_PORT_POISON port)).toNat + 1) 0xFFFFFFFF)))

/-- R361 to R364: the patrol scrubber's read is a read at port 8. A lost device withdraws the spill area, dropping the spilled packets, and leaves the flow cache alone in service; an alert replays, and stands for a lost device at the fourth within 100 µs; in freeze mode it stops the controller until THAW lets
the replay run or the failing read return poisoned. -/
def DramLossesRules : Prop :=
  ∀ (s : State) (sc : Fin 2), s.pwr.stage = .up →
    (∀ (line : Fin 268435456), (s.isSet F.DRC_STATUS_FROZEN = true → ∀ o, exec (.dramPatrolScrub line o) s = .next s) ∧
      (s.isSet F.DRC_STATUS_FROZEN = false → exec (.dramPatrolScrub line .clean) s = .next s ∧ exec (.dramPatrolScrub line .corrected) s = .next (s.bump A.DRC_CE)) ∧
      (∀ (lane : Fin 5) good (q : Fin 32864), s.isSet F.DRC_STATUS_FROZEN = false → 0x200000 ≤ line.val →
        ∃ u, exec (.dramPatrolScrub line (.bad lane good q)) s = .next u ∧ FaultShown s u 9 1 (s.deviceLoc (s.scOf (line * 64)) lane) ∧
          (u.rd A.DRC_UE).toNat = min ((s.rd A.DRC_UE).toNat + 1) 0xFFFFFFFF)) ∧
    (∀ lane : Fin 5, s.lostSc sc = false →
      ∃ u, exec (.dramDeviceLoss sc lane) s = .next u ∧ u.lostSc sc = true ∧ u.cacheOnly = true ∧ u.que.spillGone = true ∧ u.path.touches = [] ∧
        (∀ i, u.que' i = (s.que' i).filter (fun p => !p.spilled)) ∧ FaultShown s u 8 (if s.lostSc (1 - sc) then 2 else 1) (s.deviceLoc sc lane) ∧
        (u.rd A.QSC_SPILL_LOST).toNat = min ((s.rd A.QSC_SPILL_LOST).toNat + (s.que.qs.flatMap (fun q => q.2.filter (fun p => p.spilled))).length) 0xFFFFFFFF) ∧
    (∀ lane : Fin 5, s.lostSc sc = true → exec (.dramDeviceLoss sc lane) s = .next s) ∧
    (let recent := (s.mem.alerts.filter (fun a => a.1 == sc.val && decide (s.tim.now < a.2 + 100000))).length
     (s.isSet F.DRC_CTRL_FREEZE_EN = true → s.isSet F.DRC_STATUS_FROZEN = false →
       ∃ u, exec (.alertNFall sc) s = .next u ∧ u.get F.DRC_STATUS_FROZEN = 1 ∧ u.get F.DRC_STATUS_FREEZE_CAUSE = 1 ∧ u.mem.dram = s.mem.dram) ∧
     (s.isSet F.DRC_STATUS_FROZEN = true → ∃ u, exec (.alertNFall sc) s = .next u ∧ u.regs = s.regs ∧ u.que = s.que ∧ u.mem.rows = s.mem.rows ∧
       u.mem.dram = s.mem.dram) ∧
     (s.isSet F.DRC_CTRL_FREEZE_EN = false → s.isSet F.DRC_STATUS_FROZEN = false →
       ∃ u, exec (.alertNFall sc) s = .next u ∧ (u.rd A.DRC_PAR_REPLAY).toNat = min ((s.rd A.DRC_PAR_REPLAY).toNat + 1) 0xFFFFFFFF ∧
         u.mem.rows = s.mem.rows.filter (fun r => r.1.1 != sc.val) ∧ (3 ≤ recent → u.lostSc sc = true) ∧ (recent < 3 → u.lostSc sc = s.lostSc sc ∧ u.que = s.que))) ∧
    (∀ (m : Master) (v : Word), s.gate m A.DRC_CTRL = .pass →
      (getField v 1 1 = 0 ∨ s.isSet F.DRC_STATUS_FROZEN = false → exec (.dramThaw m v) s = .next (s.put F.DRC_CTRL_FREEZE_EN (getField v 0 1))) ∧
      (getField v 1 1 = 1 → s.isSet F.DRC_STATUS_FROZEN = true → s.get F.DRC_STATUS_FREEZE_CAUSE = 1 →
        ∃ u, exec (.dramThaw m v) s = .next u ∧ u.get F.DRC_STATUS_FROZEN = 0 ∧ u.get F.DRC_STATUS_FREEZE_CAUSE = 0 ∧
          (u.rd A.DRC_PAR_REPLAY).toNat = min ((s.rd A.DRC_PAR_REPLAY).toNat + 1) 0xFFFFFFFF) ∧
      (∀ r, getField v 1 1 = 1 → s.isSet F.DRC_STATUS_FROZEN = true → s.get F.DRC_STATUS_FREEZE_CAUSE = 2 → s.mem.failing = some r → r.port < 10 →
        ∃ u, exec (.dramThaw m v) s = .next u ∧ u.get F.DRC_STATUS_FROZEN = 0 ∧ u.mem.failing = none ∧
          (u.rd (A.DRC_PORT_POISON r.port)).toNat = min ((s.rd (A.DRC_PORT_POISON r.port)).toNat + 1) 0xFFFFFFFF))

/-- R353, R357, R358, R359, R360, R361, R362, R363, R364: the commands, losses, alerts and freezes of DDR5. Where the spec leaves a point open it follows the model's choices of log 88, 94. -/
def Obligations.Dram : Prop :=
  DramCommandsRules ∧ DramLossesRules

/-! ### Keys, the Seal engine, fuses, attestation and check units (R368 to R395) -/

/-- A key command that ended with a result: KEY_STAGE is zeroised and the result shows (R371, R372). -/
def KeyCmdEnds (u : State) (r : Nat) : Prop := (∀ w : Fin 8, u.rd (A.KEY_STAGE w) = 0#32) ∧ u.get F.KEY_CMD_STATUS_RESULT = r ∧ u.get F.KEY_CMD_STATUS_BUSY = 0

/-- R371 to R374, R376, R378, R394: LOAD puts the staged key into its slot, CLEAR empties it, READ shows everything but the key, SET_TX leaves one transmitting slot of a radio, BSS and kind, LINK names the partner; each ends with its result, refused ones changing no slot. An encryption takes the slot's next
number, the last one exhausting it, and is refused and counted where the slot may not send; a faulted slot says so. Where the spec leaves a point open it follows the model's choices of log 93. -/
def Obligations.KeyCommands : Prop :=
  ∀ (s : State) (m : Master) (v : Word), s.gate m A.KEY_CMD = .pass →
    let c := getField v 3 2
    let i := getField v 5 13
    (s.stopping 2 = true → exec (.keyLoad m v) s = .next (s.bump A.PWR_STOPPING_REJECT)) ∧
    (s.stopping 2 = false →
      (c < 3 → i < classSize c → cipherOf c (getField v 18 4) = true →
        ∃ u, exec (.keyLoad m v) s = .next u ∧ KeyCmdEnds u 0 ∧ (u.slot c i).valid = true ∧ (u.slot c i).cipher = getField v 18 4 ∧ (u.slot c i).keyid = getField v 22 3 ∧
          (u.slot c i).key = s.stagedKey (keyBytes (getField v 18 4)) ∧ (u.slot c i).tx = false ∧ (u.slot c i).fault = false ∧ (u.slot c i).exhausted = false ∧
          (u.slot c i).pn = (let p := (s.rd A.KEY_PN_LO).toNat + (s.rd A.KEY_PN_HI).toNat * 2 ^ 32; if p = 0 then 1 else p) ∧
          (∀ d j, d * 8192 + j ≠ c * 8192 + i → u.slot d j = s.slot d j)) ∧
      (c < 3 → i < classSize c → cipherOf c (getField v 18 4) = false → ∃ u, exec (.keyLoad m v) s = .next u ∧ KeyCmdEnds u 2 ∧ u.sec = s.sec) ∧
      (c < 3 → classSize c ≤ i → ∃ u, exec (.keyLoad m v) s = .next u ∧ KeyCmdEnds u 1 ∧ u.sec = s.sec) ∧
      (c = 3 → ∃ u, exec (.keyRead m v) s = .next u ∧ KeyCmdEnds u 4 ∧ u.sec = s.sec) ∧
      (c < 3 → i < classSize c → ∃ u, exec (.keyClear m v) s = .next u ∧ KeyCmdEnds u 0 ∧ u.slot c i = KeySlot.blank ∧
        (c = 0 → u.que.air = s.que.air.filter (fun e => !s.heldUnder i e) ∧
          (u.rd A.KEY_RETRY_ABANDON).toNat = min ((s.rd A.KEY_RETRY_ABANDON).toNat + (s.que.air.filter (s.heldUnder i)).length) 0xFFFFFFFF) ∧
        (c ≠ 0 → u.que = s.que)) ∧
      (c < 3 → i < classSize c → ∃ u, exec (.keyRead m v) s = .next u ∧ KeyCmdEnds u 0 ∧ u.sec = s.sec ∧ u.get F.KEY_INFO_VALID = b2n (s.slot c i).valid ∧
        u.get F.KEY_INFO_CIPHER = (s.slot c i).cipher % 16 ∧ u.get F.KEY_INFO_TX = b2n (s.slot c i).tx ∧ u.rd A.KEY_INFO_PN_LO = BitVec.ofNat 32 (s.slot c i).pn) ∧
      (c = 1 → i < 64 → (s.slot 1 i).valid = true →
        ∃ u, exec (.keySetTx m v) s = .next u ∧ KeyCmdEnds u 0 ∧ u.slot 1 i = { s.slot 1 i with tx := true } ∧
          (∀ j, j < 64 → j ≠ i → (s.slot 1 j).valid = true → (s.slot 1 j).radio = (s.slot 1 i).radio → (s.slot 1 j).bss = (s.slot 1 i).bss →
            isBip (s.slot 1 j).cipher = isBip (s.slot 1 i).cipher → u.slot 1 j = { s.slot 1 j with tx := false })) ∧
      (c = 1 → i < 64 → (s.slot 1 i).valid = false → ∃ u, exec (.keySetTx m v) s = .next u ∧ KeyCmdEnds u 3 ∧ u.sec = s.sec) ∧
      (c = 0 → (s.slot 0 i).valid = true →
        ∃ u, exec (.keyLink m v) s = .next u ∧ KeyCmdEnds u 0 ∧
          u.slot 0 i = { s.slot 0 i with partner := getField (s.rd A.KEY_AUX) 0 13, partnerEn := getField (s.rd A.KEY_AUX) 13 1 == 1 }) ∧
      (c = 1 → ∃ u, exec (.keyLink m v) s = .next u ∧ KeyCmdEnds u 4 ∧ u.sec = s.sec)) ∧
    (∀ (c : Fin 3) (i : Fin 8192),
      ((s.slot c i).sends = false → exec (.pnAssign c i) s = .next (s.bump A.KEY_TX_REFUSED)) ∧
      ((s.slot c i).sends = true → (s.slot c i).pn < lastPn (s.slot c i).cipher →
        ∃ u, exec (.pnAssign c i) s = .next u ∧ (u.slot c i).pn = (s.slot c i).pn + 1 ∧ (u.slot c i).exhausted = false ∧
          ((s.slot c i).near = false → (lastPn (s.slot c i).cipher + 1) / 16 * 15 ≤ (s.slot c i).pn + 1 → (u.slot c i).near = true ∧ u.get F.KEY_EVENT_NEAR = 1 ∧
            u.get F.KEY_EVENT_CLASS = c ∧ u.get F.KEY_EVENT_SLOT = i) ∧
          ((s.slot c i).near = false → (s.slot c i).pn + 1 < (lastPn (s.slot c i).cipher + 1) / 16 * 15 → u.regs = s.regs)) ∧
      ((s.slot c i).sends = true → (s.slot c i).pn = lastPn (s.slot c i).cipher →
        ∃ u, exec (.pnAssign c i) s = .next u ∧ (u.slot c i).exhausted = true ∧ u.get F.KEY_EVENT_EXHAUSTED = 1 ∧ u.get F.KEY_EVENT_CLASS = c ∧
          u.get F.KEY_EVENT_SLOT = i ∧ u.rd A.KEY_TX_REFUSED = s.rd A.KEY_TX_REFUSED) ∧
      (i < classSize c → ∃ u, exec (.keySlotFault c i) s = .next u ∧ u.slot c i = { s.slot c i with fault := true } ∧ u.get F.KEY_EVENT_FAULT = 1 ∧
        u.get F.KEY_EVENT_CLASS = c ∧ u.get F.KEY_EVENT_SLOT = i) ∧
      (classSize c ≤ i → exec (.keySlotFault c i) s = .next s))

/-- R380 to R382: a claim takes a free lock; the owner's release frees it, zeroising key, IV and tag, at once or as the running job ends; an idle lease of 100 ms frees it, counted from the last write of a SEAL_ register. GO starts a job of the owner; the job's end shows its result: a tag, the plaintext under the right tag, zeros under a wrong one, or the PCIe error. AES-GCM is
an opaque function of the model. -/
def Obligations.SealEngine : Prop :=
  ∀ (s : State) (m : Master) (tag : Fin 65536),
    (s.gate m A.SEAL_LOCK = .pass →
      (tag ≠ 0 → s.get F.SEAL_OWNER_OWNER = 0 →
        ∃ u, exec (.sealClaim m tag) s = .next u ∧ u.get F.SEAL_OWNER_OWNER = tag ∧ u.sec = { s.sec with sealAt := s.tim.now } ∧ (∀ off, off ≠ A.SEAL_OWNER → u.rd off = s.rd off)) ∧
      (s.get F.SEAL_OWNER_OWNER ≠ 0 → exec (.sealClaim m tag) s = .next { s with sec := { s.sec with sealAt := s.tim.now } }) ∧
      (tag ≠ 0 → s.get F.SEAL_OWNER_OWNER = tag → s.sec.sealJob = none →
        ∃ u, exec (.sealRelease m tag) s = .next u ∧ u.get F.SEAL_OWNER_OWNER = 0 ∧ (∀ w : Fin 8, u.rd (A.SEAL_KEY w) = 0#32) ∧ (∀ w : Fin 3, u.rd (A.SEAL_IV w) = 0#32) ∧
          (∀ w : Fin 4, u.rd (A.SEAL_TAG w) = 0#32)) ∧
      (tag ≠ 0 → s.get F.SEAL_OWNER_OWNER = tag → s.sec.sealJob ≠ none →
        exec (.sealRelease m tag) s = .next { s with sec := { s.sec with sealAt := s.tim.now, sealRelease := true } }) ∧
      (s.get F.SEAL_OWNER_OWNER ≠ tag → exec (.sealRelease m tag) s = .next { s with sec := { s.sec with sealAt := s.tim.now } })) ∧
    (s.get F.SEAL_OWNER_OWNER ≠ 0 → s.sec.sealJob = none → s.sec.sealAt + 100000000 ≤ s.tim.now →
      ∃ u, exec .sealLeaseExpire s = .next u ∧ u.get F.SEAL_OWNER_OWNER = 0 ∧ (∀ w : Fin 8, u.rd (A.SEAL_KEY w) = 0#32) ∧ (∀ w : Fin 3, u.rd (A.SEAL_IV w) = 0#32) ∧
        (∀ w : Fin 4, u.rd (A.SEAL_TAG w) = 0#32)) ∧
    ((s.sec.sealJob ≠ none ∨ s.tim.now < s.sec.sealAt + 100000000) → exec .sealLeaseExpire s = .next s) ∧
    (∀ decrypt key256, s.gate m A.SEAL_CMD = .pass →
      (s.stopping 3 = false → s.sealOn = true → s.get F.SEAL_OWNER_OWNER ≠ 0 → s.sec.sealJob = none →
        ∃ u, exec (.sealGo m decrypt key256) s = .next u ∧ u.get F.SEAL_STATUS_BUSY = 1 ∧
          u.sec.sealJob = some ⟨decrypt, s.regBytes A.SEAL_KEY (if key256 then 8 else 4), s.regBytes A.SEAL_IV 3, s.get F.SEAL_AAD_LEN_LEN, s.get F.SEAL_LEN_LEN,
            (s.rd A.SEAL_OUT_ADDR_LO).toNat + (s.rd A.SEAL_OUT_ADDR_HI).toNat * 2 ^ 32, s.regBytes A.SEAL_TAG 4⟩) ∧
      (s.stopping 3 = false → s.sealOn = true → (s.get F.SEAL_OWNER_OWNER = 0 ∨ s.sec.sealJob ≠ none) →
        ∃ u, exec (.sealGo m decrypt key256) s = .next u ∧ u.sec.sealJob = s.sec.sealJob ∧ (u.rd A.SEAL_REJECT).toNat = min ((s.rd A.SEAL_REJECT).toNat + 1) 0xFFFFFFFF) ∧
      ((s.stopping 3 = true ∨ s.sealOn = false) →
        ∃ u, exec (.sealGo m decrypt key256) s = .next u ∧ u.sec.sealJob = s.sec.sealJob ∧
          (u.rd A.PWR_STOPPING_REJECT).toNat = min ((s.rd A.PWR_STOPPING_REJECT).toNat + 1) 0xFFFFFFFF)) ∧
    (s.sec.sealJob = none → ∀ d, exec (.sealJobDone d) s = .next s) ∧
    (∀ j, s.sec.sealJob = some j → s.sec.sealRelease = false →
      (∃ u, exec (.sealJobDone none) s = .next u ∧ u.sec.sealJob = none ∧ u.get F.SEAL_STATUS_RESULT = 2 ∧ u.get F.SEAL_STATUS_BUSY = 0 ∧ u.get F.SEAL_STATUS_DONE = 1 ∧
        u.out = s.out) ∧
      (∀ aad input, j.decrypt = false →
        ∃ u, exec (.sealJobDone (some (aad, input))) s = .next u ∧ u.sec.sealJob = none ∧ u.get F.SEAL_STATUS_RESULT = 0 ∧ u.get F.SEAL_STATUS_DONE = 1 ∧
          u.out = .hostData j.outAddr (Config.gcmEncrypt j.key j.iv (slice aad 0 j.aadLen) (slice input 0 j.inLen)).1 :: s.out ∧
          (∀ w : Fin 4, u.rd (A.SEAL_TAG w) = (leWords 4 (Config.gcmEncrypt j.key j.iv (slice aad 0 j.aadLen) (slice input 0 j.inLen)).2).getD w 0#32) ∧
          (u.rd A.SEAL_JOBS).toNat = min ((s.rd A.SEAL_JOBS).toNat + 1) 0xFFFFFFFF) ∧
      (∀ aad input, j.decrypt = true →
        ∃ u, exec (.sealJobDone (some (aad, input))) s = .next u ∧ u.sec.sealJob = none ∧ u.get F.SEAL_STATUS_BUSY = 0 ∧
          (let r := Config.gcmDecrypt j.key j.iv (slice aad 0 j.aadLen) (slice input 0 j.inLen)
           (r.2 = j.tag → u.get F.SEAL_STATUS_RESULT = 0 ∧ u.out = .hostData j.outAddr r.1 :: s.out) ∧
           (r.2 ≠ j.tag → u.get F.SEAL_STATUS_RESULT = 1 ∧ u.out = .hostData j.outAddr (List.replicate j.inLen 0#8) :: .hostData j.outAddr r.1 :: s.out ∧
             (u.rd A.SEAL_AUTH_FAIL).toNat = min ((s.rd A.SEAL_AUTH_FAIL).toNat + 1) 0xFFFFFFFF)))) ∧
    (∀ j d, s.sec.sealJob = some j → s.sec.sealRelease = true →
      ∃ u, exec (.sealJobDone d) s = .next u ∧ u.sec.sealJob = none ∧ u.get F.SEAL_OWNER_OWNER = 0 ∧ (∀ w : Fin 8, u.rd (A.SEAL_KEY w) = 0#32) ∧
        (∀ w : Fin 3, u.rd (A.SEAL_IV w) = 0#32) ∧ (∀ w : Fin 4, u.rd (A.SEAL_TAG w) = 0#32)) ∧
    (∀ (w : Fin 8) v, s.gate m (A.SEAL_KEY w) = .pass →
      ∃ u, exec (.registerWrite m (A.SEAL_KEY w) v ⟨none, 0⟩) s = .next u ∧ u.sec = { s.sec with sealAt := s.tim.now })

/-- R385 to R388, R395: a fuse operation that the key 0x9640 and its slot's state allow is BUSY and, done, writes the hash and the slot's state or the rollback value; any other shows ERROR. GO of an attestation signs the statement of that moment, which stands in the window as DONE sets. A failed health test shows. Where the spec leaves a point open it follows the model's choices of log 10, 52, 96. -/
def Obligations.FusesAndAttestation : Prop :=
  ∀ (s : State) (m : Master) (v : Word),
    (s.gate m A.KEY_FUSE_CTRL = .pass → s.stopping 4 = false →
      let slot := getField v 2 2
      let data := s.regBytes A.KEY_FUSE_DATA 8
      (s.isSet F.KEY_FUSE_STATUS_BUSY = true → exec (.fuseCustWrite m v) s = .next s ∧ exec (.fuseCustRevoke m v) s = .next s ∧ exec (.fuseRollbackBlow m v) s = .next s) ∧
      (s.isSet F.KEY_FUSE_STATUS_BUSY = false → getField v 16 16 ≠ 0x9640 →
        (∃ u, exec (.fuseCustWrite m v) s = .next u ∧ u.get F.KEY_FUSE_STATUS_ERROR = 1 ∧ u.sec = s.sec) ∧
        (∃ u, exec (.fuseCustRevoke m v) s = .next u ∧ u.get F.KEY_FUSE_STATUS_ERROR = 1 ∧ u.sec = s.sec) ∧
        (∃ u, exec (.fuseRollbackBlow m v) s = .next u ∧ u.get F.KEY_FUSE_STATUS_ERROR = 1 ∧ u.sec = s.sec)) ∧
      (s.isSet F.KEY_FUSE_STATUS_BUSY = false → getField v 16 16 = 0x9640 →
        (s.custSlot slot = 0 → ∃ u, exec (.fuseCustWrite m v) s = .next u ∧ u.get F.KEY_FUSE_STATUS_BUSY = 1 ∧ u.sec = { s.sec with fuse := some (1, slot, data) }) ∧
        (s.custSlot slot ≠ 0 → ∃ u, exec (.fuseCustWrite m v) s = .next u ∧ u.get F.KEY_FUSE_STATUS_ERROR = 1 ∧ u.sec = s.sec) ∧
        (s.custSlot slot = 1 → s.get F.PLT_ACTIVE_SIGNER_SIGNER ≠ slot + 1 →
          ∃ u, exec (.fuseCustRevoke m v) s = .next u ∧ u.get F.KEY_FUSE_STATUS_BUSY = 1 ∧ u.sec = { s.sec with fuse := some (2, slot, data) }) ∧
        ((s.custSlot slot ≠ 1 ∨ s.get F.PLT_ACTIVE_SIGNER_SIGNER = slot + 1) →
          ∃ u, exec (.fuseCustRevoke m v) s = .next u ∧ u.get F.KEY_FUSE_STATUS_ERROR = 1 ∧ u.sec = s.sec) ∧
        (s.get F.KEY_ROLLBACK_VALUE < 64 → s.get F.KEY_ROLLBACK_VALUE + 1 ≤ s.get F.PLT_ACTIVE_ROLLBACK_VALUE →
          ∃ u, exec (.fuseRollbackBlow m v) s = .next u ∧ u.get F.KEY_FUSE_STATUS_BUSY = 1 ∧ u.sec = { s.sec with fuse := some (3, slot, data) }) ∧
        ((s.get F.KEY_ROLLBACK_VALUE = 64 ∨ s.get F.PLT_ACTIVE_ROLLBACK_VALUE < s.get F.KEY_ROLLBACK_VALUE + 1) →
          ∃ u, exec (.fuseRollbackBlow m v) s = .next u ∧ u.get F.KEY_FUSE_STATUS_ERROR = 1 ∧ u.sec = s.sec))) ∧
    (∀ (slot : Fin 4) hash, s.sec.fuse = some (1, slot.val, hash) →
      ∃ u, exec .keyFuseDone s = .next u ∧ u.sec.fuse = none ∧ u.custSlot slot = 1 ∧ u.get F.KEY_FUSE_STATUS_BUSY = 0 ∧ u.get F.KEY_FUSE_STATUS_DONE = 1 ∧
        (∀ w : Fin 8, u.rd (A.KEY_CUST_HASH (8 * slot + w)) = (leWords 8 hash).getD w 0#32)) ∧
    (∀ (slot : Fin 4) hash, s.sec.fuse = some (2, slot.val, hash) →
      ∃ u, exec .keyFuseDone s = .next u ∧ u.sec.fuse = none ∧ u.custSlot slot = 2 ∧ u.get F.KEY_FUSE_STATUS_DONE = 1) ∧
    (∀ slot hash, s.sec.fuse = some (3, slot, hash) → s.get F.KEY_ROLLBACK_VALUE < 64 →
      ∃ u, exec .keyFuseDone s = .next u ∧ u.sec.fuse = none ∧ u.get F.KEY_ROLLBACK_VALUE = s.get F.KEY_ROLLBACK_VALUE + 1 ∧ u.get F.KEY_FUSE_STATUS_DONE = 1) ∧
    (s.sec.fuse = none → exec .keyFuseDone s = .next s) ∧
    (s.gate m A.KEY_ATT_CTRL = .pass → s.stopping 4 = false →
      (s.isSet F.KEY_ATT_STATUS_BUSY = false → ∃ u, exec (.attGo m) s = .next u ∧ u.get F.KEY_ATT_STATUS_BUSY = 1 ∧ u.sec = { s.sec with signing := some s.statement }) ∧
      (s.isSet F.KEY_ATT_STATUS_BUSY = true → exec (.attGo m) s = .next s)) ∧
    (∀ st, s.sec.signing = some st → st.length = 144 →
      ∃ u, exec .attDone s = .next u ∧ u.sec.signing = none ∧ u.get F.KEY_ATT_STATUS_BUSY = 0 ∧ u.get F.KEY_ATT_STATUS_DONE = 1 ∧
        (∀ w : Fin 36, u.rd (A.KEY_ATT_WINDOW w) = (leWords 36 st).getD w 0#32)) ∧
    (s.sec.signing = none → exec .attDone s = .next s) ∧
    exec .rngHealthFail s = .next (s.put F.KEY_EVENT_RNG_FAIL 1)

/-- R389 to R392: what has been written to a unit takes effect in the order of writing, and a read of VALUE or RESULT sees all of it: bytes of 1, 2 and 4, START, the configuration, a running value. CK3 belongs to the SUP role and takes no host write. CRC-32C of the bytes "123456789" is 0xE3069283. Where the spec leaves a point open it follows the model's choices of log 97. -/
def Obligations.CheckUnits : Prop :=
  ((ChkUnit.reset.take (.ctrl 0x10#32)).take (.data [0x31#8, 0x32#8, 0x33#8, 0x34#8, 0x35#8, 0x36#8, 0x37#8, 0x38#8, 0x39#8])).result = 0xE3069283 ∧
  ∀ (s : State) (m : Master) (n : Fin 4) (v : Word), s.shapeOk = true →
    (∀ size : Fin 3, s.gate m (A.CK_DATA8 n + 4 * size) = .pass →
      (n ≠ 3 → ∃ u, exec (.checkDataWrite m n size v) s = .next u ∧ u.regs = s.regs ∧
        (u.chkUnit n).drain = (s.chkUnit n).drain.take (.data (leBytes ([1, 2, 4].getD size 0) v.toNat)) ∧ (∀ k : Fin 4, k ≠ n → u.chkUnit k = s.chkUnit k)) ∧
      (n = 3 → exec (.checkDataWrite m n size v) s = .next (s.bump A.CHK_WRITE_REJECT))) ∧
    (s.gate m (A.CK_CTRL n) = .pass →
      (n ≠ 3 → ∃ u, exec (.checkStart m n v) s = .next u ∧ (u.chkUnit n).drain = (s.chkUnit n).drain.take (.ctrl (setField v 4 1 1)) ∧
        u.get (F.CK_CTRL_POLY_SEL n) = getField v 0 2) ∧
      (n = 3 → exec (.checkStart m n v) s = .next (s.bump A.CHK_WRITE_REJECT))) ∧
    (∀ k : Fin 4, s.gate m (A.CK_CTRL n + 4 * k) = .pass →
      (n ≠ 3 → ∃ u, exec (.checkConfigWrite m n k v) s = .next u ∧
        (u.chkUnit n).drain = (s.chkUnit n).drain.take ([.ctrl (setField v 4 1 0), .poly v, .init v, .xorout v].getD k (.value v)) ∧
        (∀ j : Fin 4, j ≠ n → u.chkUnit j = s.chkUnit j)) ∧
      (n = 3 → exec (.checkConfigWrite m n k v) s = .next (s.bump A.CHK_WRITE_REJECT))) ∧
    (s.gate m (A.CK_VALUE n) = .pass →
      (n ≠ 3 → ∃ u, exec (.checkValueWrite m n v) s = .next u ∧ (u.chkUnit n).drain = (s.chkUnit n).drain.take (.value v) ∧ u.regs = s.regs) ∧
      (n = 3 → exec (.checkValueWrite m n v) s = .next (s.bump A.CHK_WRITE_REJECT)) ∧
      (∃ u, exec (.checkResultRead m n false) s = .next u ∧ u.chkUnit n = (s.chkUnit n).drain ∧
        u.out = .readData m (A.CK_VALUE n) (BitVec.ofNat 32 (s.chkUnit n).drain.value) :: s.out)) ∧
    (s.gate m (A.CK_RESULT n) = .pass →
      ∃ u, exec (.checkResultRead m n true) s = .next u ∧ u.chkUnit n = (s.chkUnit n).drain ∧
        u.out = .readData m (A.CK_RESULT n) (BitVec.ofNat 32 (s.chkUnit n).drain.result) :: s.out)

/-! ### Updating the Plate (R401 to R408) -/

/-- R402: a mailbox command has ended: BUSY reads 0, DONE is set, and RESULT, CODE and the detail show. -/
def MbxEnded (u : State) (result code detail : Nat) : Prop :=
  u.get F.PLT_MBX_STATUS_BUSY = 0 ∧ u.get F.PLT_MBX_STATUS_DONE = 1 ∧ u.get F.PLT_MBX_STATUS_RESULT = result ∧ u.get F.PLT_MBX_STATUS_CODE = code % 256 ∧
  u.rd A.PLT_MBX_DETAIL = BitVec.ofNat 32 detail

/-- R402: the mailbox takes a command: the write passes the gate, no command runs, the cluster is not stopping, and the device is in service or in Plate-wait. -/
abbrev MbxReady (s : State) (m : Master) : Prop :=
  s.gate m A.PLT_MBX_CMD = .pass ∧ s.isSet F.PLT_MBX_STATUS_BUSY = false ∧ s.stopping 5 = false ∧ (s.inService = true ∨ s.get F.PLT_STATUS_STATE = 5)

/-- R401, R402, R403, R404, R405, R406, R407, R408, R416: a mailbox write while BUSY is only counted, and a command while the flash cluster is stopping ends with BUSY. Else OPEN, BLOCK, PROOF, RECUT, CANCEL and COPY each start, or end with the RESULT of the
first condition they break and change nothing: region S and its state stay. -/
def MailboxCommandsRules : Prop :=
  ∀ (s : State) (m : Master),
    let arg := (s.rd A.PLT_MBX_ARG).toNat
    let i := arg / 4096
    let b := s.mbxWindow
    let head := if i = 0 then headerCheck (b.take 4092) (s.get F.GLB_ID_REVISION) (s.upd.openSize / 4096) else none
    let refused (c : Instr) (result code detail : Nat) : Prop :=
      ∃ u, exec c s = .next u ∧ MbxEnded u result code detail ∧ u.upd = s.upd ∧ u.rd A.PLT_STAGE = s.rd A.PLT_STAGE
    let notNow : Nat := if s.sInUse then 9 else 10
    (∀ c, c ∈ [.mbxOpen m, .mbxBlock m, .mbxProof m, .mbxRecut m, .mbxCancel m, .mbxCopy m] → s.gate m A.PLT_MBX_CMD = .pass →
      (s.isSet F.PLT_MBX_STATUS_BUSY = true → exec c s = .next (s.bump A.PLT_MBX_REJECT)) ∧
      (s.isSet F.PLT_MBX_STATUS_BUSY = false → s.stopping 5 = true → refused c 9 0 0)) ∧
    (MbxReady s m →
      ((s.stage = 1 ∨ s.stage = 2 ∨ s.sInUse = true) → refused (.mbxOpen m) notNow 0 0) ∧
      (s.stage = 0 ∨ s.stage = 3 ∨ s.stage = 4 → s.sInUse = false →
        ((arg % 4096 ≠ 0 ∨ blockCountOk i = false) → refused (.mbxOpen m) 2 0 0) ∧
        (arg % 4096 = 0 → blockCountOk i = true →
          ∃ u, exec (.mbxOpen m) s = .next u ∧ u.rd A.PLT_STAGE = fieldWord 0 3 1 ∧ u.get F.PLT_STATUS_START_PENDING = 0 ∧ u.get F.PLT_MBX_STATUS_BUSY = 1 ∧
            u.upd = { s.upd with openSize := arg, op := some (.openErase i) })) ∧
      (s.stage ≠ 1 → refused (.mbxBlock m) notNow 0 0 ∧ refused (.mbxProof m) notNow 0 0) ∧
      (s.stage = 1 →
        ((arg % 4096 ≠ 0 ∨ s.upd.openSize ≤ arg) → refused (.mbxBlock m) 2 0 0) ∧
        (arg % 4096 = 0 → arg < s.upd.openSize →
          (blockOk b = false → refused (.mbxBlock m) 1 0 0) ∧
          (∀ f, blockOk b = true → head = some f → refused (.mbxBlock m) 4 f.1 f.2) ∧
          (blockOk b = true → head = none → i = 0 → leAt b 0xC 2 < s.get F.KEY_ROLLBACK_VALUE → refused (.mbxBlock m) 5 0 0) ∧
          (blockOk b = true → head = none → (i = 0 → s.get F.KEY_ROLLBACK_VALUE ≤ leAt b 0xC 2) →
            (∀ x, kvGet s.upd.regionS i = some x → refused (.mbxBlock m) (if x = b then 0 else 3) 0 0) ∧
            (kvGet s.upd.regionS i = none →
              ∃ u, exec (.mbxBlock m) s = .next u ∧ u.get F.PLT_MBX_STATUS_BUSY = 1 ∧ u.upd = { s.upd with op := some (.program i b) } ∧ u.rd A.PLT_STAGE = s.rd A.PLT_STAGE))) ∧
        (s.get F.PLT_STAGE_BLOCKS ≠ s.upd.openSize / 4096 → refused (.mbxProof m) 6 0 0) ∧
        (s.get F.PLT_STAGE_BLOCKS = s.upd.openSize / 4096 →
          ∃ u, exec (.mbxProof m) s = .next u ∧ u.get F.PLT_STAGE_STATE = 2 ∧ u.get F.PLT_MBX_STATUS_BUSY = 1 ∧ u.upd = { s.upd with proving := true })) ∧
      (s.stage ≠ 3 → refused (.mbxRecut m) 8 0 0) ∧
      (s.stage = 3 →
        (s.recutRefusal s.contentS ≠ 0 → ∃ u, exec (.mbxRecut m) s = .next u ∧ MbxEnded u 12 0 0 ∧ u.upd = s.upd ∧ u.eng.recut = s.eng.recut ∧
          u.get F.ENG_RECUT_STATUS_REFUSAL = s.recutRefusal s.contentS % 8) ∧
        (∀ c l, s.recutRefusal s.contentS = 0 → s.moveOrder s.contentS = c :: l → 1 ≤ c → c ≤ 12 →
          ∃ u, exec (.mbxRecut m) s = .next u ∧ MbxEnded u 0 0 0 ∧ u.upd = s.upd ∧ u.get F.ENG_RECUT_STATUS_PHASE = 1 ∧ u.get F.ENG_RECUT_STATUS_ROLE = c ∧
            u.plt.legendNew = legendBytes s.contentS ∧ u.eng.recut.map (fun r => (r.todo, r.moved, r.step)) = some (c :: l, [], 1))) ∧
      ((s.stage = 0 ∨ s.sInUse = true) → refused (.mbxCancel m) notNow 0 0) ∧
      (s.stage ≠ 0 → s.sInUse = false →
        ∃ u, exec (.mbxCancel m) s = .next u ∧ u.get F.PLT_MBX_STATUS_BUSY = 1 ∧ u.upd = { s.upd with op := some .cancel } ∧ u.rd A.PLT_STAGE = s.rd A.PLT_STAGE) ∧
      (s.isSet F.PLT_STAGE_COPY_PENDING = false → refused (.mbxCopy m) 10 0 0) ∧
      (s.isSet F.PLT_STAGE_COPY_PENDING = true → s.upd.copying = true → refused (.mbxCopy m) 9 0 0) ∧
      (s.isSet F.PLT_STAGE_COPY_PENDING = true → s.upd.copying = false →
        ∃ u, exec (.mbxCopy m) s = .next u ∧ MbxEnded u 0 0 0 ∧ u.upd.copying = true ∧ u.aValid = false ∧ u.get F.PLT_COPY_STATE = 1 ∧ u.get F.PLT_COPY_BLOCKS = 0 ∧
          u.upd.regionA = s.upd.regionA.filter (fun e => decide (s.bootRec.sBlocks ≤ e.1)) ∧ u.upd.regionS = s.upd.regionS))

/-- R401, R403, R404, R405, R407: what ends a mailbox command or the copy. The erase of OPEN empties region S; a block programmed counts and shows the version of block 0, one whose read-back differs makes the region FAILED; CANCEL empties it. Proofing that fails
shows its code and makes the region FAILED; one that passes makes it PROOFED, with START_PENDING and COPY_PENDING where a start field differs, and in Plate-wait the loader starts from S. The copy writes region A from S and the boot record, or stops at the first bad block. -/
def MailboxEndsRules : Prop :=
  ∀ (s : State),
    (s.upd.op = none → ∀ ok, exec (.mbxFlashDone ok) s = .next s) ∧
    (∀ n ok, s.upd.op = some (.openErase n) → ∃ u, exec (.mbxFlashDone ok) s = .next u ∧ MbxEnded u 0 0 0 ∧ u.upd.op = none ∧
      u.upd.regionS = s.upd.regionS.filter (fun e => decide (n ≤ e.1)) ∧ u.rd A.PLT_STAGE_VERSION = 0#32 ∧ u.bootRec.sBlocks = n ∧ u.rd A.PLT_STAGE = s.rd A.PLT_STAGE) ∧
    (∀ i b, s.upd.op = some (.program i b) →
      (∃ u, exec (.mbxFlashDone false) s = .next u ∧ MbxEnded u 11 0 0 ∧ u.upd.op = none ∧ u.get F.PLT_STAGE_STATE = 4 ∧ u.upd.regionS = s.upd.regionS) ∧
      (∃ u, exec (.mbxFlashDone true) s = .next u ∧ MbxEnded u 0 0 0 ∧ u.upd = { s.upd with op := none, regionS := kvPut s.upd.regionS i (some b) } ∧
        u.get F.PLT_STAGE_BLOCKS = (s.get F.PLT_STAGE_BLOCKS + 1) % 4096 ∧ u.get F.PLT_STAGE_STATE = s.get F.PLT_STAGE_STATE ∧
        u.rd A.PLT_STAGE_VERSION = (if i = 0 then BitVec.ofNat 32 (leAt b 8 4) else s.rd A.PLT_STAGE_VERSION))) ∧
    (∀ ok, s.upd.op = some .cancel → ∃ u, exec (.mbxFlashDone ok) s = .next u ∧ MbxEnded u 0 0 0 ∧ u.upd.op = none ∧ u.rd A.PLT_STAGE = 0#32 ∧
      u.rd A.PLT_STAGE_VERSION = 0#32 ∧ u.get F.PLT_STATUS_START_PENDING = 0) ∧
    (∀ ok, s.upd.op = some .record → ∃ u, exec (.mbxFlashDone ok) s = .next u ∧ u.upd.op = none ∧ u.bootRec.flags = b2n s.aValid + 2 * s.get F.PLT_STAGE_STATE + 16 * s.get F.PLT_STAGE_COPY_PENDING ∧
      u.regs = s.regs) ∧
    (s.upd.proving = false → exec .proofDone s = .next s) ∧
    (s.upd.proving = true →
      let n := s.upd.openSize / 4096
      let c := contentOf (regionBlocks s.upd.regionS n) (n - 2)
      ∃ u, exec .proofDone s = .next u ∧ u.upd.proving = false ∧
        (∀ f, s.proofCheck = some f → MbxEnded u 7 f.1 f.2 ∧ u.get F.PLT_STAGE_STATE = 4 ∧ u.get F.PLT_STAGE_COPY_PENDING = s.get F.PLT_STAGE_COPY_PENDING) ∧
        (s.proofCheck = none → MbxEnded u 0 0 0 ∧ u.get F.PLT_STAGE_STATE = 3 ∧
          u.rd A.PLT_STAGE_VERSION = BitVec.ofNat 32 (leAt c 8 4) ∧ u.bootRec.sVersion = leAt c 8 4 ∧ u.bootRec.sBlocks = n ∧
          u.bootRec.sDigest = slice (sigBlock (regionBlocks s.upd.regionS n) n) 0x28 32 ∧
          ((s.inService && startDiffers s.plt.legend (legendBytes c)) = true → u.get F.PLT_STATUS_START_PENDING = 1 ∧ u.get F.PLT_STAGE_COPY_PENDING = 1) ∧
          (s.get F.PLT_STATUS_STATE ≠ 5 → u.plt = s.plt ∧ u.get F.PLT_STATUS_STATE = s.get F.PLT_STATUS_STATE) ∧
          (s.get F.PLT_STATUS_STATE = 5 → blockCountOk n = true → u.plt.loader = some ⟨2, n, [], .reading⟩ ∧ u.get F.PLT_STATUS_STATE = 0 ∧ u.get F.PLT_STATUS_SOURCE = 2))) ∧
    (s.upd.copying = false ∨ s.stopping 5 = true → ∀ bad, exec (.copyDone bad) s = .next s) ∧
    (s.upd.copying = true → s.stopping 5 = false →
      let n := s.bootRec.sBlocks
      let blocks := regionBlocks s.upd.regionS n
      (∀ i, i < n → blockOk (blocks.getD i []) = true) →
        (∃ u, exec (.copyDone none) s = .next u ∧ u.upd.copying = false ∧ u.get F.PLT_COPY_STATE = 2 ∧ u.get F.PLT_COPY_BLOCKS = n % 4096 ∧
          u.get F.PLT_STAGE_COPY_PENDING = 0 ∧ u.get F.PLT_STAGE_STATE = 3 ∧ u.aValid = true ∧ u.bootRec.aVersion = s.bootRec.sVersion ∧ u.bootRec.aBlocks = n ∧
          u.bootRec.aDigest = s.bootRec.sDigest ∧ u.plt.fromS = false ∧ (∀ i, i < n → kvGet u.upd.regionA i = some (blocks.getD i [])) ∧ u.upd.regionS = s.upd.regionS) ∧
        (∀ b, b < n → ∃ u, exec (.copyDone (some b)) s = .next u ∧ u.upd.copying = false ∧ u.get F.PLT_COPY_STATE = 3 ∧ u.get F.PLT_COPY_BLOCKS = b % 4096 ∧
          u.rd A.PLT_STAGE = s.rd A.PLT_STAGE ∧ u.bootRec = s.bootRec ∧ u.plt = s.plt))

/-- R401, R402, R403, R404, R405, R406, R407, R408, R416: the mailbox's commands and their ends. Where the spec leaves a point open it follows the model's choices of log 47. -/
def Obligations.Mailbox : Prop :=
  MailboxCommandsRules ∧ MailboxEndsRules

/-! ### Power states (R411 to R424, R435) -/

/-- R417: the clusters are released: PWR_STATUS shows Run, no cluster stopping, and the outcome. -/
def PwrReleased (u : State) (result reason cluster : Nat) : Prop :=
  u.rd A.PWR_STATUS = fieldWord 5 3 result ||| fieldWord 8 4 cluster ||| fieldWord 12 4 reason ∧ u.pwr.asked = 0 ∧ u.pwr.edges = []

/-- R414, R417, R428, R434: SLEEP, DEEP and OFF are refused with the reason in force, else begin the handshake at its first cluster; while one is handled, or with a wrong KEY, they are discarded and counted. RESTART resets the package. ABORT ends a handshake. -/
def PowerRequestsRules : Prop :=
  ∀ (s : State) (m : Master), s.gate m A.PWR_CMD = .pass →
    (∀ nh, ∀ e ∈ [(Instr.pwrSleep m, 1), (.pwrDeep m nh, 2), (.pwrOff m nh 0x9640#16, 3)],
      (s.pwrState ≠ 0 → exec e.1 s = .next (s.bump A.PWR_CMD_REJECT)) ∧
      (s.pwrState = 0 → s.pwrRefusal ≠ 0 → ∃ u, exec e.1 s = .next u ∧ PwrReleased u 2 s.pwrRefusal 0 ∧ u.eng = s.eng ∧ u.mem = s.mem ∧ u.hst = s.hst ∧ u.chn = s.chn) ∧
      (s.pwrState = 0 → s.pwrRefusal = 0 →
        ∃ u, exec e.1 s = .next u ∧ u.get F.PWR_STATUS_STATE = 1 ∧ u.get F.PWR_STATUS_TARGET = e.2 ∧ u.get F.PWR_STATUS_RESULT = 0 ∧ u.get F.PWR_STATUS_STOPPING = 1 ∧
          u.pwr.asked = 1 ∧ u.eng = s.eng ∧ u.mem = s.mem ∧ u.hst = s.hst ∧ u.chn = s.chn)) ∧
    (s.recutLive = true → s.pwrRefusal = 2) ∧
    (s.recutLive = false → (s.eng.running.isSome = true ∨ s.eng.waiting ≠ []) → s.pwrRefusal = 3) ∧
    (s.recutLive = false → s.eng.running = none → s.eng.waiting = [] →
      (s.inService = false → s.pwrRefusal = 4) ∧
      (s.inService = true → s.isSet F.DRC_STATUS_FROZEN = true → s.pwrRefusal = 6) ∧
      (s.inService = true → s.isSet F.DRC_STATUS_FROZEN = false →
        s.pwrRefusal = (if s.dbg.halted.isSome then 7 else if s.isSet F.PWR_CLK_STATUS_XO32K_OK = false then 8 else if s.isSet F.PWR_CLK_STATUS_FALLBACK = true then 9 else 0))) ∧
    (∀ nh key, key ≠ 0x9640#16 → exec (.pwrOff m nh key) s = .next (s.bump A.PWR_CMD_REJECT) ∧ exec (.pwrRestart m key) s = .next (s.bump A.PWR_CMD_REJECT)) ∧
    (s.pwrState ≠ 0 → exec (.pwrRestart m 0x9640#16) s = .next (s.bump A.PWR_CMD_REJECT)) ∧
    (s.pwrState = 0 → ∃ u, exec (.pwrRestart m 0x9640#16) s = .next u ∧ AfterPackageReset s u .begun F.PWR_RESET_CAUSE_RESTART) ∧
    (s.pwrState = 1 → ∃ u, exec (.pwrAbort m) s = .next u ∧ PwrReleased u 5 0 0 ∧ u.eng = s.eng ∧ u.mem = s.mem) ∧
    (s.pwrState ≠ 0 → s.pwrState ≠ 1 → exec (.pwrAbort m) s = .next (s.bump A.PWR_CMD_REJECT))

/-- R415, R417, R418: the cluster asked grants unless it is in its delaying condition, and the next is asked; after the tenth the commit window opens. A cluster that still delays at its bound ends the request, the host's missing D3hot as reason 5. At the close of the window an active level source cancels
the entry and is recorded with FROM 0; without one the entry actions begin. -/
def PowerHandshakeRules : Prop :=
  ∀ (s : State),
    (∀ d3hot, s.pwrState ≠ 1 → exec (.clusterGrant d3hot) s = .next s ∧ exec .handshakeTimeout s = .next s) ∧
    (∀ d3hot, s.pwrState = 1 →
      let t : State := { s with hst := { s.hst with d3hot := d3hot } }
      (t.clusterDelays s.pwr.asked = true → exec (.clusterGrant d3hot) s = .next t) ∧
      (t.clusterDelays s.pwr.asked = false → s.pwr.asked < 10 → exec (.clusterGrant d3hot) s = .next { t with pwr := { s.pwr with asked := s.pwr.asked + 1 } }) ∧
      (t.clusterDelays s.pwr.asked = false → s.pwr.asked = 10 →
        ∃ u, exec (.clusterGrant d3hot) s = .next u ∧ u.pwr.asked = 11 ∧ u.get F.PWR_STATUS_STATE = 2 ∧ u.get F.PWR_STATUS_TARGET = s.get F.PWR_STATUS_TARGET ∧
          u.get F.PWR_STATUS_STOPPING = s.get F.PWR_STATUS_STOPPING)) ∧
    (s.pwrState = 1 → s.pwr.asked = 1 → 2 ≤ s.get F.PWR_STATUS_TARGET → s.pwr.noHost = false →
      exec (.clusterGrant false) s = .next { s with hst := { s.hst with d3hot := false } }) ∧
    (s.pwrState = 1 → s.pwr.asked = 3 → s.sec.sealJob.isSome = true → exec (.clusterGrant true) s = .next { s with hst := { s.hst with d3hot := true } }) ∧
    (s.pwrState = 1 → s.pwr.asked = 9 → s.eng.roles.any (fun r => r.queue != []) = true →
      exec (.clusterGrant true) s = .next { s with hst := { s.hst with d3hot := true } }) ∧
    (s.pwrState = 1 → s.pwr.asked = 1 → s.waitsD3 = true → s.dmaRuns = false → ∃ u, exec .handshakeTimeout s = .next u ∧ PwrReleased u 2 5 1 ∧ u.eng = s.eng) ∧
    (s.pwrState = 1 → (s.pwr.asked ≠ 1 ∨ s.dmaRuns = true) → ∃ u, exec .handshakeTimeout s = .next u ∧ PwrReleased u 4 0 s.pwr.asked ∧ u.eng = s.eng) ∧
    (∀ wakeN fault, s.pwrState ≠ 2 → exec (.commitWindowClose wakeN fault) s = .next s) ∧
    (∀ wakeN fault, s.pwrState = 2 → s.wakeSource (s.get F.PWR_STATUS_TARGET) wakeN fault false = none →
      exec (.commitWindowClose wakeN fault) s = .next (s.put F.PWR_STATUS_STATE 3)) ∧
    (∀ wakeN fault c, s.pwrState = 2 → s.wakeSource (s.get F.PWR_STATUS_TARGET) wakeN fault false = some c →
      ∃ u, exec (.commitWindowClose wakeN fault) s = .next u ∧ PwrReleased u 3 0 0 ∧ u.get F.PWR_LAST_WAKE_SOURCE = c ∧ u.get F.PWR_LAST_WAKE_FROM = 0 ∧
        u.rd A.PWR_LAST_WAKE_S = BitVec.ofNat 32 s.tim.calSec) ∧
    (∀ fault, s.pwrState = 2 → bit (s.rd A.PWR_WAKE_EN).toNat 0 = true →
      ∃ u, exec (.commitWindowClose true fault) s = .next u ∧ PwrReleased u 3 0 0 ∧ u.get F.PWR_LAST_WAKE_SOURCE = 1)

/-- R349, R411, R419, R420, R421, R422, R423: the entry actions bring the radios and the Traverse to rest and stop the PLLs for Sleep; for Deep also XO80 and the SerDes, and what R349 clears; Off leaves the calendar domain, fuses and flash. A wake registers the lowest active source with the state left, and
begins a start from Off. The return ends in Run with RESULT 1, falling back where a PLL has not locked; from Deep, XO80 and the memories are back and the radios are in Standby. Where the spec leaves a point open it follows the model's choices of log 30, 31. -/
def Obligations.PowerStates : Prop :=
  ∀ (s : State),
    (s.pwrState ≠ 3 → exec .entryActionsDone s = .next s) ∧
    (s.pwrState = 3 → s.get F.PWR_STATUS_TARGET = 1 →
      ∃ u, exec .entryActionsDone s = .next u ∧ u.get F.PWR_STATUS_STATE = 4 ∧ u.trv.rest = true ∧ u.get F.PWR_CLK_STATUS_ENG_LOCK = 0 ∧ u.get F.PWR_CLK_STATUS_PKT_LOCK = 0 ∧
        u.mem = s.mem ∧ u.sec = s.sec ∧ u.eng = s.eng ∧ u.path = s.path ∧ (∀ n : Fin 3, u.rstate n = min (s.rstate n) 2 ∧ (2 < s.rstate n → (u.ph n).rx = none))) ∧
    (s.pwrState = 3 → s.get F.PWR_STATUS_TARGET = 2 →
      ∃ u, exec .entryActionsDone s = .next u ∧ u.get F.PWR_STATUS_STATE = 4 ∧ u.trv.rest = true ∧ u.mem.retained = some s.retainedBanks ∧ u.mem.dram = s.mem.dram ∧
        u.path.cache = [] ∧ u.chn.xo80 = false ∧ u.get F.PWR_CLK_STATUS_XO80_OK = 0 ∧ u.get F.PWR_CLK_STATUS_SERDES_LOCK = 0 ∧ u.hst.pcieUp = false ∧
        (∀ n : Fin 3, u.rstate n = min (s.rstate n) 1) ∧ (∀ p : Fin 4, u.get (F.ETH_STATUS_LINK p) = 0) ∧ (∀ w : Fin 8, u.rd (A.KEY_STAGE w) = 0#32) ∧
        (s.tim.carried = false → u.tim.tclkOn = false)) ∧
    (s.pwrState = 3 → s.get F.PWR_STATUS_TARGET = 3 →
      ∃ u, exec .entryActionsDone s = .next u ∧ u.pwr.stage = .off ∧ u.pwr.offWake = (s.rd A.PWR_WAKE_EN).toNat ∧ u.tim.calSec = s.tim.calSec ∧ u.tim.calSub = s.tim.calSub ∧
        u.sec.slots = [] ∧ u.mem.dram = [] ∧ u.eng = State.reset.eng ∧ (∀ off, keptAtReset off = false → off ≠ A.PWR_CLK_STATUS → u.rd off = resetWord off)) ∧
    (∀ fault, s.pwr.stage = .off →
      (bit s.pwr.offWake 0 = true → ∃ u, exec (.wakeRegister true fault) s = .next u ∧ AfterPackageReset s u .begun F.PWR_RESET_CAUSE_OFF_WAKE ∧
        u.get F.PWR_LAST_WAKE_SOURCE = 1 ∧ u.get F.PWR_LAST_WAKE_FROM = 3) ∧
      (s.isSet F.CAL_STATUS_ALARM = true → bit s.pwr.offWake 2 = true → ∃ u, exec (.wakeRegister false fault) s = .next u ∧
        AfterPackageReset s u .begun F.PWR_RESET_CAUSE_OFF_WAKE ∧ u.get F.PWR_LAST_WAKE_SOURCE = 3 ∧ u.get F.PWR_LAST_WAKE_FROM = 3) ∧
      (s.isSet F.CAL_STATUS_ALARM = false ∨ bit s.pwr.offWake 2 = false → exec (.wakeRegister false fault) s = .next s)) ∧
    (∀ wakeN fault, s.pwr.stage ≠ .off →
      (∀ c, s.pwrState = 4 → s.wakeSource (s.get F.PWR_STATUS_TARGET) wakeN fault true = some c →
        ∃ u, exec (.wakeRegister wakeN fault) s = .next u ∧ u.get F.PWR_STATUS_STATE = 5 ∧ u.get F.PWR_LAST_WAKE_SOURCE = c ∧
          u.get F.PWR_LAST_WAKE_FROM = s.get F.PWR_STATUS_TARGET ∧ u.rd A.PWR_LAST_WAKE_S = BitVec.ofNat 32 s.tim.calSec ∧ u.pwr.edges = []) ∧
      (∀ c, s.pwrState = 1 → s.wakeSource (s.get F.PWR_STATUS_TARGET) wakeN fault false = some c →
        ∃ u, exec (.wakeRegister wakeN fault) s = .next u ∧ PwrReleased u 3 0 0 ∧ u.get F.PWR_LAST_WAKE_SOURCE = c ∧ u.get F.PWR_LAST_WAKE_FROM = 0) ∧
      ((s.pwrState = 0 ∨ s.pwrState = 2 ∨ s.pwrState = 3 ∨ s.pwrState = 5 ∨
          (s.pwrState = 4 ∧ s.wakeSource (s.get F.PWR_STATUS_TARGET) wakeN fault true = none)) → exec (.wakeRegister wakeN fault) s = .next s)) ∧
    (∀ eng pkt serdes, (s.pwrState ≠ 5 ∨ s.tim.now < s.pwr.wakeAt + 44000 ∨ (s.get F.PWR_STATUS_TARGET = 2 ∧ s.tim.now < s.pwr.wakeAt + 2499000)) →
      exec (.returnComplete eng pkt serdes) s = .next s) ∧
    (∀ eng pkt serdes, s.pwrState = 5 → s.hst.held = [] →
      (s.get F.PWR_STATUS_TARGET = 1 → s.pwr.wakeAt + 44000 ≤ s.tim.now → ∃ u, exec (.returnComplete eng pkt serdes) s = .next u ∧ PwrReleased u 1 0 0 ∧ u.get F.PWR_CLK_STATUS_ENG_LOCK = b2n eng ∧
        u.get F.PWR_CLK_STATUS_PKT_LOCK = b2n pkt ∧ (eng = false ∨ pkt = false → u.get F.PWR_CLK_STATUS_FALLBACK = 1) ∧ u.mem = s.mem ∧ u.que = s.que ∧ u.eng = s.eng ∧
        u.path = s.path) ∧
      (s.get F.PWR_STATUS_TARGET = 2 → s.pwr.wakeAt + 2499000 ≤ s.tim.now → ∃ u, exec (.returnComplete eng pkt serdes) s = .next u ∧ PwrReleased u 1 0 0 ∧ u.get F.PWR_CLK_STATUS_XO80_OK = 1 ∧
        u.get F.PWR_CLK_STATUS_SERDES_LOCK = b2n serdes ∧ u.tim.tclkOn = true ∧ u.mem.retained = none ∧ u.mem.dram = s.mem.dram ∧ u.que = s.que ∧
        (∀ n : Fin 3, s.rstate n = 1 → u.rstate n = 2)))

/-- R416, R424, R435: a write of PWR_FUNC starts the shutdown or the start-up of each function whose bit changes, and latches a change against one still running; while clusters stop it is held. A function that has shut down is off, or starts where a start is latched; PWR_FUNC_STATUS shows each. Where the spec leaves a point open it follows the model's choices of log 12. -/
def Obligations.PowerFunctions : Prop :=
  ∀ (s : State), s.shapeOk = true → s.pwr.funcs.length = 8 →
    (∀ (m : Master) (v : Word), s.gate m A.PWR_FUNC = .pass →
      (∃ u, exec (.pwrFuncWrite m v) s = .next u ∧ u.rd A.PWR_FUNC = BitVec.ofNat 32 (v.toNat % 256 &&& s.funcMask) ∧
        (s.isSet F.PWR_STATUS_STOPPING = true → u.pwr.funcs = s.pwr.funcs ∧ u.pwr.heldFunc = some (BitVec.ofNat 32 (v.toNat % 256 &&& s.funcMask))) ∧
        (s.isSet F.PWR_STATUS_STOPPING = false → ∀ i : Fin 8,
          let f := s.func i
          let b := bit (v.toNat % 256 &&& s.funcMask) i
          bit (u.get F.PWR_FUNC_STATUS_ON) i = (u.func i).on ∧ bit (u.get F.PWR_FUNC_STATUS_STOPPING) i = (u.func i).stopping ∧
          bit (u.get F.PWR_FUNC_STATUS_PENDING) i = (u.func i).latched.isSome ∧
          (f.stopping = true → u.func i = { f with latched := if b then some true else none }) ∧
          (f.stopping = false → f.starting = true → u.func i = { f with latched := if b then none else some false }) ∧
          (f.stopping = false → f.starting = false → f.on = b → u.func i = f) ∧
          (f.stopping = false → f.starting = false → f.on = false → b = true → u.func i = { f with on := true, starting := true }) ∧
          (f.stopping = false → f.starting = false → f.on = true → b = false → u.func i = { f with stopping := true })))) ∧
    (∀ i : Fin 8,
      (((s.func i).stopping = false ∧ (s.func i).starting = false) ∨ ((s.func i).stopping = true ∧ s.funcBusy i = true) → exec (.funcShutdownDone i) s = .next s) ∧
      ((s.func i).stopping = true → s.funcBusy i = false →
        ∃ u, exec (.funcShutdownDone i) s = .next u ∧
          u.func i = ⟨(s.func i).latched == some true, (s.func i).latched == some true, false, none⟩ ∧ bit (u.get F.PWR_FUNC_STATUS_STOPPING) i = false ∧
          (i.val < 3 → u.rstate i = 0) ∧ (3 ≤ i.val → i.val < 7 → u.get (F.ETH_STATUS_LINK (i.val - 3)) = 0)) ∧
      ((s.func i).stopping = false → (s.func i).starting = true →
        ∃ u, exec (.funcShutdownDone i) s = .next u ∧ u.func i = { s.func i with starting := false, stopping := (s.func i).latched == some false, latched := none }))

/-- R414, R415, R417, R418, R428, R434: the requests of PWR_CMD and their handshake. Where the spec leaves a point open it follows the model's choices of log 28, 29. -/
def Obligations.PowerHandshakes : Prop :=
  PowerRequestsRules ∧ PowerHandshakeRules

/-! ### Faults of supplies, clocks, clusters and lanes; the monitors (R426, R439 to R445, R470) -/

/-- R426, R442, R443: a phase fault is fenced and counted: masked by the rail's spare, else degraded; a rail left without phases, or one past its rating, holds the device in reset. A PLL that fails brings the fall-back; TCLK lost leaves the time bases to XO32K; XO80 lost takes the radios, the Traverse and DDR5 with it. -/
def SupplyAndClockFaultsRules : Prop :=
  ∀ (s : State),
    (∀ (r ph : Fin 6), (s.pwr.stage ≠ .up ∨ railPhases r ≤ ph.val ∨ s.pwr.badPhases.contains (r.val, ph.val) = true) → exec (.phaseFault r ph) s = .next s) ∧
    (∀ (r ph : Fin 6), s.pwr.stage = .up → ph.val < railPhases r → s.pwr.badPhases.contains (r.val, ph.val) = false →
      (s.railBad r + 1 < railPhases r ∨ s.railBad r = 0 →
        ∃ u, exec (.phaseFault r ph) s = .next u ∧ FaultShown s u 6 (if s.railBad r = 0 then 0 else 1) (s.phaseLoc r ph) ∧
          u.get F.PWR_PHASE_STATUS_RAIL = s.get F.PWR_PHASE_STATUS_RAIL ||| 2 ^ r.val ∧ u.rd A.PWR_PHASE_LOC = s.phaseLoc r ph ∧
          (u.rd A.PWR_PHASE_FAULT).toNat = min ((s.rd A.PWR_PHASE_FAULT).toNat + 1) 0xFFFFFFFF ∧ u.pwr = { s.pwr with badPhases := (r.val, ph.val) :: s.pwr.badPhases }) ∧
      (s.railBad r ≠ 0 → s.railBad r + 1 = railPhases r →
        ∃ u, exec (.phaseFault r ph) s = .next u ∧ u.pwr.stage = .railHeld ∧ u.rd A.GLB_FLT_LAST_LOC = s.phaseLoc r ph ∧ u.get F.GLB_FLT_LAST_INFO_CLASS = 6 ∧
          u.get F.GLB_FLT_LAST_INFO_OUTCOME = 2 ∧ u.get F.GLB_FLT_LAST_INFO_DONE = 0 ∧ u.sec.slots = [] ∧ u.mem.dram = [])) ∧
    (∀ r : Fin 6, (s.pwr.stage = .up → 0 < s.railBad r →
        ∃ u, exec (.railLeavesRegulation r) s = .next u ∧ u.pwr.stage = .railHeld ∧ u.pwr.regulators = true ∧ u.sec.slots = [] ∧ u.mem.dram = [] ∧
          (∀ off, keptAtReset off = false → off ≠ A.PWR_CLK_STATUS → u.rd off = resetWord off)) ∧
      (s.pwr.stage ≠ .up ∨ s.railBad r = 0 → exec (.railLeavesRegulation r) s = .next s)) ∧
    (∀ c, s.pwr.stage ≠ .up → exec (.clockFault c) s = .next s) ∧
    (s.pwr.stage = .up →
      (∃ u, exec (.clockFault .engPll) s = .next u ∧ FaultShown s u 11 1 (s.clkLoc 3) ∧ u.get F.GLB_FLT_LAST_INFO_INTERRUPT_US = 3 ∧ u.get F.PWR_CLK_STATUS_ENG_LOCK = 0 ∧
        u.get F.PWR_CLK_STATUS_FALLBACK = 1 ∧ u.eng = s.eng ∧ u.que = s.que) ∧
      (∃ u, exec (.clockFault .pktPll) s = .next u ∧ FaultShown s u 11 1 (s.clkLoc 4) ∧ u.get F.GLB_FLT_LAST_INFO_INTERRUPT_US = 3 ∧ u.get F.PWR_CLK_STATUS_PKT_LOCK = 0 ∧
        u.get F.PWR_CLK_STATUS_FALLBACK = 1 ∧ u.eng = s.eng ∧ u.que = s.que) ∧
      (∃ u, exec (.clockFault .tclkPll) s = .next u ∧ FaultShown s u 11 1 (s.clkLoc 6) ∧ (s.tim.carried = false → u.tim.tclkOn = false) ∧
        (s.tim.carried = false → u.tim.carried = false ∧ u.tim.tb = s.tim.tb) ∧
        (s.tim.carried = false → s.isSet F.PWR_CLK_STATUS_XO32K_OK = true → u.carryEdge.tim.carried = true)) ∧
      (∃ u, exec (.clockFault .xo80) s = .next u ∧ FaultShown s u 11 2 (s.clkLoc 2) ∧ u.get F.PWR_CLK_STATUS_XO80_OK = 0 ∧ u.chn.xo80 = false ∧ u.chn.trvDown = true ∧
        u.get F.DRC_STATUS_LOST0 = 1 ∧ u.get F.DRC_STATUS_LOST1 = 1 ∧ (∀ n : Fin 3, u.rstate n = 0) ∧ (s.tim.carried = false → u.tim.tclkOn = false)))

/-- R439, R440: a fixed-logic cluster that fails its check stops its intake and is recorded; a second failure while it is being reset is the same one. A self-test passed masks it, with its interruption; one failed, or a second fault within a second, is permanent, with the effect and the outcome of R440's table.
A PCIe lane lost retrains the link on the good ones and disables the rings. Where the spec leaves a point open it follows the model's choices of log 26, 35. -/
def Obligations.ClusterFaults : Prop :=
  ∀ (s : State) (c : Cluster), s.shapeOk = true →
    let r := c.region.val + 2
    let here (e : Nat × Nat × Nat) : Bool := e.1 == r && e.2.1 == c.code.val
    (∀ unit : Fin 1024, (s.pwr.stage ≠ .up ∨ s.flt.resetting.any here = true) → exec (.clusterCheckFail c unit) s = .next s) ∧
    (∀ unit : Fin 1024, s.pwr.stage = .up → s.flt.resetting.any here = false →
      ∃ u, exec (.clusterCheckFail c unit) s = .next u ∧ u.flt = { s.flt with resetting := s.flt.resetting ++ [(r, c.code.val, unit.val)] } ∧
        u.get F.GLB_FLT_STATUS_PRESENT = 1 ∧ u.rd A.GLB_FLT_PRESENT_LOC = s.clusterLoc r c.code unit ∧ u.get F.GLB_FLT_STATUS_EVENT = 1 ∧
        u.get F.GLB_FLT_PRESENT_INFO_CLASS = (clusterClass r c.code unit).code ∧ (r = 3 → c.code.val < 3 → (u.ph c.code).rx = none)) ∧
    (∀ pass us, s.flt.resetting.find? here = none → exec (.clusterResetDone c pass us) s = .next s) ∧
    (∀ (pass : Bool) (us u0 : Nat), s.flt.resetting.find? here = some (r, c.code.val, u0) → s.isSet F.GLB_FLT_STATUS_PRESENT = true →
      s.rd A.GLB_FLT_PRESENT_LOC = s.clusterLoc r c.code u0 →
      let again := s.flt.recent.any (fun e => e.1 == r && e.2.1 == c.code.val && decide (s.tim.now < e.2.2 + 1000000000))
      ∃ u, exec (.clusterResetDone c pass us) s = .next u ∧ u.get F.GLB_FLT_STATUS_PRESENT = 0 ∧ u.get F.GLB_FLT_LAST_INFO_DONE = 1 ∧
        u.rd A.GLB_FLT_LAST_LOC = s.clusterLoc r c.code u0 ∧ u.get F.GLB_FLT_LAST_INFO_INTERRUPT_US = min us 65535 ∧
        u.flt.resetting = s.flt.resetting.filter (fun e => !here e) ∧
        (pass = true → again = false → u.get F.GLB_FLT_LAST_INFO_OUTCOME = 0 ∧ u.flt.permanent = s.flt.permanent ∧ u.chn = s.chn) ∧
        (pass = false ∨ again = true → u.flt.permanent.contains (r, c.code.val, u0) = true ∧
          (r = 2 → c.code.val = 8 → u.get F.GLB_FLT_LAST_INFO_OUTCOME = 2 ∧ (u.port (u0 % 4)).lost = true ∧ u.get (F.ETH_STATUS_LINK (u0 % 4)) = 0) ∧
          (r = 2 → c.code.val = 9 → u.get F.GLB_FLT_LAST_INFO_OUTCOME = (if u0 < 4 then 1 else 2) ∧ (4 ≤ u0 → u.hst.pcieUp = false) ∧
            ∀ k : Fin 33, u.get (F.HDM_RING_CTRL_EN k) = 0) ∧
          (r = 2 → c.code.val = 11 → s.pwr.funcs.length = 8 → u.get F.GLB_FLT_LAST_INFO_OUTCOME = 2 ∧ u.func 7 = .down) ∧
          (r = 3 → c.code.val < 3 → u.get F.GLB_FLT_LAST_INFO_OUTCOME = 2 ∧ (u.rad c.code).permanent = (s.rad c.code).permanent + 1 ∧
            (1 ≤ (s.rad c.code).permanent → (u.rad c.code).stopped = true ∧ u.rstate c.code = 0)) ∧
          (r = 3 → c.code.val = 3 → u.get F.GLB_FLT_LAST_INFO_OUTCOME = 2 ∧ u.chn.trvDown = true) ∧
          (r = 4 → c.code.val = 4 → u0 = 4 → u.get F.GLB_FLT_LAST_INFO_OUTCOME = 2 ∧ u.chn.trvDown = true ∧ ∀ n : Fin 3, u.rstate n = 0))) ∧
    (∀ lane : Fin 4,
      (s.pwr.stage ≠ .up ∨ s.hst.pcieUp = false ∨ s.dead 9 lane = true → exec (.pcieLaneFault lane) s = .next s) ∧
      (s.pwr.stage = .up → s.hst.pcieUp = true → s.dead 9 lane = false → s.ballsTaken = false →
        ∃ u, exec (.pcieLaneFault lane) s = .next u ∧ FaultShown s u 13 1 (s.clusterLoc 2 9 lane) ∧ u.dead 9 lane = true ∧ u.hst.pcieUp = true ∧
          ∀ k : Fin 33, u.get (F.HDM_RING_CTRL_EN k) = 0))

/-- R441, R470, R471: a die-link lane is fenced; a spare takes its traffic, and without one the link narrows, below 40 lanes at the cost of the highest chain. A conversion of the monitors shows the readings and the peak, sets LAPSE_ENV outside the recommended ranges and clears it with the margin, and changes nothing else. -/
def LanesAndMonitorsRules : Prop :=
  ∀ (s : State),
    (∀ (lane : Fin 48) (us : Fin 5),
      let spare := (List.range 48).find? (fun x => !(lane.val :: s.flt.fencedLanes).contains x && !(s.flt.trafficLanes.filter (· != lane.val)).contains x)
      (s.pwr.stage ≠ .up ∨ s.flt.fencedLanes.contains lane.val = true → exec (.dieLinkLaneFault lane us) s = .next s) ∧
      (s.pwr.stage = .up → s.flt.fencedLanes.contains lane.val = false →
        (s.flt.trafficLanes.contains lane.val = false →
          ∃ u, exec (.dieLinkLaneFault lane us) s = .next u ∧ FaultShown s u 7 0 (s.loc .ctl 5 lane) ∧ u.flt.fencedLanes = lane.val :: s.flt.fencedLanes ∧
            u.get F.GLB_FLT_DLK_SPARES = s.get F.GLB_FLT_DLK_SPARES - 1 ∧ u.get F.GLB_FLT_DLK_LANES = s.get F.GLB_FLT_DLK_LANES) ∧
        (∀ x, s.flt.trafficLanes.contains lane.val = true → spare = some x →
          ∃ u, exec (.dieLinkLaneFault lane us) s = .next u ∧ FaultShown s u 7 0 (s.loc .ctl 5 lane) ∧ u.get F.GLB_FLT_LAST_INFO_INTERRUPT_US = us.val ∧
            u.flt.trafficLanes = x :: s.flt.trafficLanes.filter (· != lane.val) ∧ u.get F.GLB_FLT_DLK_SPARES = s.get F.GLB_FLT_DLK_SPARES - 1 ∧
            u.get F.GLB_FLT_DLK_LANES = s.get F.GLB_FLT_DLK_LANES) ∧
        (s.flt.trafficLanes.contains lane.val = true → spare = none →
          ∃ u, exec (.dieLinkLaneFault lane us) s = .next u ∧ FaultShown s u 7 1 (s.loc .ctl 5 lane) ∧ u.get F.GLB_FLT_LAST_INFO_INTERRUPT_US = us.val ∧
            u.get F.GLB_FLT_DLK_LANES = s.get F.GLB_FLT_DLK_LANES - 1 ∧ u.get F.GLB_FLT_DLK_SPARES = s.get F.GLB_FLT_DLK_SPARES ∧
            (∀ c, s.get F.GLB_FLT_DLK_LANES - 1 < 40 → s.lastChain = some c → u.get (F.CHN_CHAIN_STATUS_STATE c) = 5 ∧ u.get (F.CHN_CHAIN_STATUS_FENCE_CAUSE c) = 8)))) ∧
    (∀ (vin vddio : BitVec 12) (vbat : BitVec 8) (t0 t1 : BitVec 10),
      let a := sint 10 t0.toNat
      let b := sint 10 t1.toNat
      (s.pwr.stage ≠ .up ∨ s.answers = false → exec (.monitorConversion vin vddio vbat t0 t1) s = .next s) ∧
      (s.pwr.stage = .up → s.answers = true →
        ∃ u, exec (.monitorConversion vin vddio vbat t0 t1) s = .next u ∧
          u.get F.PWR_MON_SUPPLY_VIN = vin.toNat ∧ u.get F.PWR_MON_SUPPLY_VDDIO = vddio.toNat ∧ u.get F.PWR_MON_SUPPLY_VBAT = vbat.toNat ∧
          u.get F.PWR_MON_TEMP_TJ_D0 = t0.toNat ∧ u.get F.PWR_MON_TEMP_TJ_D1 = t1.toNat ∧
          sint 10 (u.get F.PWR_MON_PEAK_TJ_MAX) = max (sint 10 (s.get F.PWR_MON_PEAK_TJ_MAX)) (max a b) ∧
          (sint 10 (s.get F.PWR_MON_PEAK_TJ_MAX) < max a b → u.get F.PWR_MON_PEAK_DIE = b2n (decide (a < b))) ∧
          ((vin.toNat < 1350 ∨ 2750 < vin.toNat ∨ a < -80 ∨ 220 < a ∨ b < -80 ∨ 220 < b) → u.get F.GLB_FLT_STATUS_LAPSE_ENV = 1) ∧
          (1360 ≤ vin.toNat → vin.toNat ≤ 2740 → -76 ≤ a → a ≤ 216 → -76 ≤ b → b ≤ 216 → u.get F.GLB_FLT_STATUS_LAPSE_ENV = 0) ∧
          (∀ off, off ∉ [A.PWR_MON_SUPPLY, A.PWR_MON_TEMP, A.PWR_MON_PEAK, A.GLB_FLT_STATUS] → u.rd off = s.rd off)))

/-- R426, R441, R442, R443, R470, R471: faults of supplies, clocks and die-link lanes; the monitors. Where the spec leaves a point open it follows the model's choices of log 32, 34, 35. -/
def Obligations.SupplyClockLaneFaults : Prop :=
  SupplyAndClockFaultsRules ∧ LanesAndMonitorsRules

/-! ### The test port and the stylus (R472 to R481) -/

/-- R472, R473, R475, R481: EXTEST, CLAMP and HIGHZ need an open session, and take every ball from its function: the links and the endpoint go down and the air falls silent; without one they act as BYPASS and are counted. SAMPLE, BYPASS, IDCODE and DBG_STATUS touch nothing of the device; IDCODE shifts out the identity,
DBG_STATUS the port's state. LOCK and TRST_N low end a session and clear the breakpoints. -/
def TestPortRules : Prop :=
  ∀ (s : State),
    (∀ e ∈ [(Instr.tapExtest, TapInstr.extest), (.tapClamp, .clamp), (.tapHighz, .highz)],
      (s.dbg.session = false → ∃ u, exec e.1 s = .next u ∧ u.dbg = { s.dbg with instr := .bypass, denied := min (s.dbg.denied + 1) 255 } ∧ u.regs = s.regs ∧ u.out = s.out ∧ u.grt = s.grt) ∧
      (s.dbg.session = true → s.ballsTaken = false →
        ∃ u, exec e.1 s = .next u ∧ u.dbg = { s.dbg with instr := e.2 } ∧ u.ballsTaken = true ∧ u.hst.pcieUp = false ∧
          (∀ p : Fin 4, u.get (F.ETH_STATUS_LINK p) = 0) ∧ (∀ n : Fin 3, (u.rad n).tx = none ∧ (u.ph n).rx = none) ∧ (∀ k : Fin 33, u.get (F.HDM_RING_CTRL_EN k) = 0) ∧
          u.mem = s.mem ∧ u.sec.slots = s.sec.slots)) ∧
    (s.ballsTaken = false →
      exec .tapSamplePreload s = .next { s with dbg := { s.dbg with instr := .sample } } ∧ exec .tapBypass s = .next { s with dbg := { s.dbg with instr := .bypass } } ∧
      exec .tapIdcode s = .next { s with dbg := { s.dbg with instr := .idcode }, out := .tdo (leBytes 4 (1 + Config.manufacturer % 2048 * 2 + 0x9640 * 2 ^ 12 + s.get F.GLB_ID_REVISION % 16 * 2 ^ 28)) :: s.out } ∧
      exec .tapDbgStatus s = .next { s with dbg := { s.dbg with instr := .dbgStatus }, out := .tdo (leBytes 4 s.dbg.status) :: s.out }) ∧
    (s.ballsTaken = true → ∃ u, exec .tapBypass s = .next u ∧ u.ballsTaken = false ∧ u.regs = s.regs ∧ u.eng = s.eng) ∧
    (s.dbg.session = true → s.dbg.halted = none →
      (∃ u, exec .tapLock s = .next u ∧ u.dbg = { s.dbg with instr := .lock, session := false, bps := Dbg.reset.bps } ∧ u.regs = s.regs ∧ u.eng = s.eng) ∧
      (∃ u, exec .trstNLow s = .next u ∧ u.dbg = { s.dbg with instr := .idcode, session := false, bps := Dbg.reset.bps } ∧ u.regs = s.regs ∧ u.eng = s.eng)) ∧
    (s.dbg.session = false →
      (∃ u, exec .tapLock s = .next u ∧ u.dbg = { s.dbg with instr := .lock } ∧ u.regs = s.regs) ∧
      (∃ u, exec .trstNLow s = .next u ∧ u.dbg = { s.dbg with instr := .idcode } ∧ u.regs = s.regs)) ∧
    (∀ e : Fin 14, s.shapeOk = true → s.dbg.session = true → s.dbg.halted = some e.val → s.eng.waiting = [] → s.eng.running = none →
      ∃ u, exec .tapLock s = .next u ∧ u.dbg.session = false ∧ u.dbg.halted = none ∧ u.dbg.shadow = [] ∧ u.dbg.bps = Dbg.reset.bps)

/-- R474: a challenge is issued with the next number and the random bytes of its draw; after 4 failures only zeros come out. A response uses its challenge up, and answers none that is used or older than 60 s. A verification that passes opens the session; one that fails, or answers no challenge, counts a failure. -/
def UnlockingRules : Prop :=
  ∀ (s : State),
    (4 ≤ s.dbg.fails → ∃ u, exec .unlockChal s = .next u ∧ u.dbg = { s.dbg with instr := .chal } ∧ u.out = .tdo (List.replicate 48 0#8) :: s.out ∧ u.fresh = s.fresh) ∧
    (s.dbg.fails < 4 →
      let c := [0x59#8, 0x44#8, 0x42#8, 0x47#8] ++ s.serialBytes ++ (List.range 32).map (Config.randomByte s.fresh) ++ leBytes 4 (s.dbg.issued + 1)
      ∃ u, exec .unlockChal s = .next u ∧ u.dbg = { s.dbg with instr := .chal, issued := s.dbg.issued + 1, chal := some ⟨c, s.tim.now, false⟩ } ∧ u.out = .tdo c :: s.out ∧
        u.fresh = s.fresh + 1) ∧
    (∀ resp, ∃ u, exec (.unlockResp resp) s = .next u ∧ u.dbg.verifying = s.dbg.verifying ++ [(resp, s.openChallenge)] ∧ u.dbg.session = s.dbg.session ∧
      u.dbg.chal = s.dbg.chal.map (fun x => { x with used := true }) ∧ u.openChallenge = []) ∧
    (∀ c, s.dbg.chal = some c → c.used = false → s.tim.now ≤ c.at_ + 60000000000 → s.openChallenge = c.bytes) ∧
    (∀ c, s.dbg.chal = some c → (c.used = true ∨ c.at_ + 60000000000 < s.tim.now) → s.openChallenge = []) ∧
    (s.dbg.verifying = [] → exec .unlockVerifyDone s = .next s) ∧
    (∀ r c l, s.dbg.verifying = (r, c) :: l →
      exec .unlockVerifyDone s = .next (
        if c ≠ [] ∧ Config.sha256 (slice r 1 32) = s.signerHash (leAt r 0 1) ∧ s.signerUsable (leAt r 0 1) = true ∧ Config.slhDsaVerify (slice r 1 32) c (slice r 33 7856) = true
        then { s with dbg := { s.dbg with verifying := l, session := true } }
        else { s with dbg := { s.dbg with verifying := l, fails := min (s.dbg.fails + 1) 4 } })) ∧
    (∀ r l, s.dbg.verifying = (r, []) :: l → exec .unlockVerifyDone s = .next { s with dbg := { s.dbg with verifying := l, fails := min (s.dbg.fails + 1) 4 } })

/-- R476, R477, R478: HALT_CTRL acts only in an open session. A halt is refused with its reason, or moves the role to a blank and leaves the engine as it stood at the cut. STEP and RUN retire shadow tokens on the halted engine alone, and a breakpoint shows its hit; STOP ends a RUN; RELEASE
clears the engine, which is a blank again. BREAK writes one breakpoint. -/
def StylusRules : Prop :=
  ∀ (s : State), s.shapeOk = true →
    (s.dbg.session = false → ∀ (e : BitVec 4) rets run runs (w : BitVec 137),
      ∀ c ∈ [Instr.stylusHalt e rets, .stylusStep run, .stylusRun runs, .stylusStop, .stylusRelease, .tapBreak w],
        ∃ u, exec c s = .next u ∧ u.dbg = { s.dbg with instr := .bypass, denied := min (s.dbg.denied + 1) 255 } ∧ u.regs = s.regs ∧ u.eng = s.eng ∧ u.out = s.out) ∧
    (s.dbg.session = true →
      (∀ (e : BitVec 4) rets, s.haltRefusal e.toNat ≠ 0 →
        ∃ u, exec (.stylusHalt e rets) s = .next u ∧ u.dbg = { s.dbg with instr := .haltCtrl, result := s.haltRefusal e.toNat } ∧ u.eng = s.eng ∧ u.regs = s.regs ∧
          u.out = .tdo (leBytes 4 s.dbg.haltWord) :: s.out) ∧
      (∀ e : Nat, (s.blanks.length < 2 → s.haltRefusal e = 1) ∧
        (2 ≤ s.blanks.length → (s.recutLive = true ∨ s.eng.running.isSome = true ∨ s.eng.waiting ≠ [] ∨ s.pwrState ≠ 0 ∨ s.dbg.halted.isSome = true) → s.haltRefusal e = 2) ∧
        (2 ≤ s.blanks.length → s.recutLive = false → s.eng.running = none → s.eng.waiting = [] → s.pwrState = 0 → s.dbg.halted = none →
          s.haltRefusal e = if e < 14 ∧ s.estate e = 2 then 0 else 3)) ∧
      (∀ (e : BitVec 4) rets w, s.haltRefusal e.toNat = 0 → 1 ≤ s.erole e.toNat → s.erole e.toNat ≤ 12 →
        preferred (s.rolePref (s.erole e.toNat)) s.blanks = some w →
        ∃ u, exec (.stylusHalt e rets) s = .next u ∧ u.dbg.halted = some e.toNat ∧ u.dbg.haltRole = s.erole e.toNat ∧ u.dbg.result = 0 ∧ u.dbg.shadow = [] ∧ u.dbg.capture = [] ∧
          u.estate e.toNat = 5 ∧ u.estate w = 2 ∧ u.erole w = s.erole e.toNat ∧ u.roleAt (s.erole e.toNat) = w ∧
          (u.engine w).sp = (u.role (s.erole e.toNat)).ledger ∧ u.inFlight (s.erole e.toNat) = []) ∧
      (∀ (e : Fin 14) t l (run : TokenRun), s.dbg.halted = some e.val → s.dbg.running = false → s.dbg.shadow = t :: l →
        ∃ u, exec (.stylusStep run) s = .next u ∧ u.dbg.shadow = l ∧ (u.engine e).sp = spApply (s.engine e).sp (run.writes.take 32) ∧ u.eng.roles = s.eng.roles ∧
          u.que = s.que ∧ u.path = s.path ∧ u.trv = s.trv ∧ u.regs = s.regs ∧ u.out = .tdo (leBytes 4 s.dbg.haltWord) :: s.out ∧
          (s.dbg.capture = [] → run.outputs.length ≤ 16 → u.dbg.capture = run.outputs) ∧
          ((indexed (s.dbg.bps.getD e [])).find? (fun b => b.2.hits t run) = none → u.dbg.hit = false) ∧
          (∀ b, (indexed (s.dbg.bps.getD e [])).find? (fun b => b.2.hits t run) = some b → u.dbg.hit = true ∧ u.dbg.hitBp = b.1 ∧ u.dbg.hitSeq = t.seq.getD 0 % 65536)) ∧
      (∀ run : TokenRun, (s.dbg.running = true ∨ s.dbg.halted = none ∨ s.dbg.shadow = []) →
        ∃ u, exec (.stylusStep run) s = .next u ∧ u.dbg = { s.dbg with instr := .haltCtrl } ∧ u.eng = s.eng ∧ u.regs = s.regs) ∧
      (∀ (e : Fin 14) t (run : TokenRun), s.dbg.halted = some e.val → s.dbg.shadow = [t] →
        ∃ u, exec (.stylusRun [run]) s = .next u ∧ u.dbg.shadow = [] ∧ u.dbg.running = false ∧ (u.engine e).sp = spApply (s.engine e).sp (run.writes.take 32) ∧
          u.eng.roles = s.eng.roles ∧ u.que = s.que ∧ u.path = s.path ∧ u.regs = s.regs ∧
          ((indexed (s.dbg.bps.getD e [])).find? (fun b => b.2.hits t run) = none → u.dbg.hit = false)) ∧
      (s.dbg.halted = none → ∀ runs, ∃ u, exec (.stylusRun runs) s = .next u ∧ u.dbg = { s.dbg with instr := .haltCtrl } ∧ u.eng = s.eng ∧ u.regs = s.regs) ∧
      (∃ u, exec .stylusStop s = .next u ∧ u.dbg = { s.dbg with instr := .haltCtrl, running := false } ∧ u.eng = s.eng ∧ u.regs = s.regs) ∧
      (s.dbg.halted = none → ∃ u, exec .stylusRelease s = .next u ∧ u.dbg = { s.dbg with instr := .haltCtrl } ∧ u.eng = s.eng ∧ u.regs = s.regs) ∧
      (∀ e : Fin 14, s.dbg.halted = some e.val → (∀ c, 5 ≤ c → c ≤ 8 → s.isSet (F.ENG_ROLE_AT_SHED (c - 1)) = false ∧ (s.role c).stopped = false) →
        ∃ u, exec .stylusRelease s = .next u ∧ u.dbg.halted = none ∧ u.dbg.shadow = [] ∧ u.dbg.running = false ∧ u.estate e = 1 ∧ (u.engine e).sp = [] ∧
          u.get F.PLT_STATUS_BLANKS = u.blanks.length % 8) ∧
      (∀ w : BitVec 137, ∃ u, exec (.tapBreak w) s = .next u ∧ u.eng = s.eng ∧ u.regs = s.regs ∧
        u.dbg = { s.dbg with instr := .breakReg, bps := modAt s.dbg.bps (bits w.toNat 0 4) (fun l => l.set (bits w.toNat 4 3)
          ⟨bits w.toNat 7 2, BitVec.ofNat 64 (bits w.toNat 9 64), BitVec.ofNat 64 (bits w.toNat 73 64)⟩) }))

/-- R479, R480: an access in an open session shifts out the result of the one before. At an address that its space does not have it ends with status 5; a write to an engine that is not halted, or to a register forbidden to the stylus, with 4; DRAM in freeze mode with 1. Else a read returns the word
and a write takes effect, in the scratchpads of the halted engine and in DRAM, with its second copy, nowhere else. -/
def StylusAccessRules : Prop :=
  ∀ (s : State) (w : BitVec 80) (collide : Bool) (o : DramRead), s.shapeOk = true →
    let op := bits w.toNat 0 2
    let space := bits w.toNat 2 2
    let e := bits w.toNat 4 4
    let addr := bits w.toNat 8 40
    let v := BitVec.ofNat 32 (bits w.toNat 48 32)
    let ends (status : Nat) : Prop := ∃ u, exec (.tapAccess w collide o) s = .next u ∧ u.dbg.accStatus = status ∧ u.mem = s.mem ∧ u.eng = s.eng ∧ u.regs = s.regs
    (s.dbg.session = false → ∃ u, exec (.tapAccess w collide o) s = .next u ∧ u.dbg = { s.dbg with instr := .bypass, denied := min (s.dbg.denied + 1) 255 } ∧ u.regs = s.regs ∧
      u.mem = s.mem ∧ u.eng = s.eng) ∧
    (s.dbg.session = true →
      (op = 0 ∨ op = 3 → ∃ u, exec (.tapAccess w collide o) s = .next u ∧ u.dbg = { s.dbg with instr := .access } ∧ u.regs = s.regs ∧ u.mem = s.mem ∧ u.eng = s.eng ∧
        u.out = .tdo (leBytes 10 (s.dbg.accStatus + s.dbg.accData.toNat * 2 ^ 48)) :: s.out) ∧
      ((op = 1 ∨ op = 2) →
        (addr % 4 ≠ 0 → ends 5) ∧
        (space = 0 → 16777216 ≤ addr → ends 5) ∧
        (space = 0 → addr % 4 = 0 → addr < 16777216 → forbiddenTo .stylus addr = true → ends 4) ∧
        (space = 0 → addr % 4 = 0 → addr < 16777216 → forbiddenTo .stylus addr = false → s.answers = false → ends 1) ∧
        (space = 0 → op = 1 → addr = A.GLB_ID → s.answers = true → s.latched .stylus addr = none →
          ∃ u, exec (.tapAccess w collide o) s = .next u ∧ u.dbg.accStatus = 0 ∧ u.dbg.accData = s.shown A.GLB_ID ∧ u.regs = s.regs ∧ u.mem = s.mem) ∧
        (space = 0 → op = 2 → addr = A.PLT_MBX_ARG → s.gate .stylus addr = .pass → s.isSet F.PLT_MBX_STATUS_BUSY = false →
          (collide = false ∨ s.dbg.halted.isSome = true → ∃ u, exec (.tapAccess w collide o) s = .next u ∧ u.dbg.accStatus = 0 ∧ u.rd addr = v) ∧
          (collide = true → s.dbg.halted = none → ∃ u, exec (.tapAccess w collide o) s = .next u ∧ u.dbg.accStatus = 2 ∧ u.regs = s.regs ∧
            u.dbg.collide = min (s.dbg.collide + 1) 255)) ∧
        (space = 1 → (14 ≤ e ∨ 1048576 ≤ addr) → ends 5) ∧
        (space = 1 → op = 1 → e < 14 → addr < 1048576 → addr % 4 = 0 →
          ∃ u, exec (.tapAccess w collide o) s = .next u ∧ u.dbg.accStatus = 0 ∧ u.eng = s.eng ∧ u.regs = s.regs ∧
            u.dbg.accData = BitVec.ofNat 32 ((spLine (s.engine e).sp (addr / 64)).toNat / 2 ^ (8 * (addr % 64)))) ∧
        (space = 1 → op = 2 → e < 14 → addr < 1048576 → s.dbg.halted ≠ some e → addr % 4 = 0 → ends 4) ∧
        (space = 1 → op = 2 → e < 14 → addr < 1048576 → s.dbg.halted = some e → addr % 4 = 0 →
          ∃ u, exec (.tapAccess w collide o) s = .next u ∧ u.dbg.accStatus = 0 ∧ u.regs = s.regs ∧ u.eng.roles = s.eng.roles ∧
            (spLine (u.engine e).sp (addr / 64)).extractLsb' (8 * (addr % 64)) 32 = v ∧ (∀ i, i ≠ addr / 64 → spLine (u.engine e).sp i = spLine (s.engine e).sp i)) ∧
        (space = 2 → s.get F.DRC_CONFIG_CAPACITY_MIB * 2 ^ 20 ≤ addr → ends 5) ∧
        (space = 2 → addr % 4 = 0 → addr < s.get F.DRC_CONFIG_CAPACITY_MIB * 2 ^ 20 →
          (s.isSet F.DRC_STATUS_FROZEN = true → ends 1) ∧
          (s.isSet F.DRC_STATUS_FROZEN = false → op = 2 →
            ∃ u, exec (.tapAccess w collide o) s = .next u ∧ u.dbg.accStatus = 0 ∧ u.dramRead addr 4 = leBytes 4 v.toNat ∧ u.regs = s.regs ∧
              (0x08000000 ≤ addr → ∀ a, (a < addr ∨ addr + 4 ≤ a) → u.dramByte a = s.dramByte a)) ∧
          (s.isSet F.DRC_STATUS_FROZEN = false → op = 1 → o = .clean →
            ∃ u, exec (.tapAccess w collide o) s = .next u ∧ u.dbg.accStatus = 0 ∧ u.dbg.accData = BitVec.ofNat 32 (leNat (s.dramRead addr 4)) ∧ u.mem.dram = s.mem.dram)) ∧
        (space = 3 → (1024 ≤ addr ∨ s.dbg.halted ≠ some e) → ends 5) ∧
        (space = 3 → op = 2 → addr < 1024 → addr % 4 = 0 → s.dbg.halted = some e → ends 4) ∧
        (space = 3 → op = 1 → addr < 1024 → addr % 4 = 0 → s.dbg.halted = some e →
          ∃ u, exec (.tapAccess w collide o) s = .next u ∧ u.dbg.accStatus = 0 ∧
            u.dbg.accData = BitVec.ofNat 32 (leAt (slice (s.dbg.capture.getD (addr / 64) []) 0 64) (addr % 64) 4))))

/-- R472, R473, R474, R475, R481: the test port and the unlocking of a session. Where the spec leaves a point open it follows the model's choices of log 98, 102, 108. -/
def Obligations.TestPortAndUnlocking : Prop :=
  TestPortRules ∧ UnlockingRules

/-- R476, R477, R478, R479, R480: the stylus: halting, stepping, breakpoints and accesses. Where the spec leaves a point open it follows the model's choices of log 99, 100, 101. -/
def Obligations.StylusSessions : Prop :=
  StylusRules ∧ StylusAccessRules

/-! ### Register accesses by any master (R6 to R14, R319, R328 to R332, R420, R446, R447) -/

/-- The offset of a register whose write only stores: the GLB_ block, the queue block's registers and the Ethernet block's registers beside ETH_CTRL. -/
def storesOnly (off : Nat) : Bool := decide (off < 0x10000) || decide (0x300000 ≤ off ∧ off < 0x380000) || decide (0x380100 ≤ off ∧ off < 0x3C0000)

/-- R7, R8: a write of a register that only stores sets each RW field to its bits of the word, clears each W1C bit written 1, and leaves every RO, RC and PL field and every other register; one with a value outside a field's range is discarded whole, and counted where the chapter names a counter. Where the spec leaves a point open it follows the model's choices of log 16. -/
def Obligations.RegisterFields : Prop :=
  ∀ (s : State) (m : Master) (off : Nat) (v : Word) (r : RegSpec), off % 4 = 0 → storesOnly off = true → s.gate m off = .pass → regAt off = some r →
    (r.legal v = true → crossLegal off v = true →
      ∃ u, exec (.registerWrite m off v ⟨none, 0⟩) s = .next u ∧
        (∀ f ∈ r.fields,
          (f.acc = .rw → getField (u.rd off) f.lo f.w = getField v f.lo f.w) ∧
          (f.acc = .w1c → getField (u.rd off) f.lo f.w = getField (s.rd off &&& ~~~v) f.lo f.w) ∧
          (f.acc = .ro ∨ f.acc = .rc ∨ f.acc = .pl → getField (u.rd off) f.lo f.w = getField (s.rd off) f.lo f.w)) ∧
        (∀ o, o ≠ off → u.rd o = s.rd o) ∧ { u with regs := s.regs } = s) ∧
    ((r.legal v = false ∨ crossLegal off v = false) → exec (.registerWrite m off v ⟨none, 0⟩) s = .next (if r.reject = 0 then s else s.bump r.reject))

/-- Reading the offset has no effect of its own beside R7 and R10: it is not a capture or transmit stamp queue, a check unit's result, the calendar's or the random number register. -/
def plainRead (off : Nat) : Bool :=
  (hit off 0x20404 0x20 16).isNone && (hit off 0x21000 0x20 7).isNone && (hit off 0xC0010 0x40 4).isNone && (hit off 0xC0014 0x40 4).isNone &&
    off != A.CAL_NOW0 && off != A.KEY_RNG && decide (off < 0x1000000)

/-- R7, R10, R330: a read answers the word that the register shows. A register of access type RC returns to its reset value in the same access; another master's read in the same cycle returns the same value, and another master's write keeps it from clearing. Reading the lowest word of a wide value latches the upper words
for that master, and a read of one of them returns the latched word. Where the spec leaves a point open it follows the model's choices of log 17. -/
def Obligations.RegisterReads : Prop :=
  ∀ (s : State) (m : Master) (off : Nat), off % 4 = 0 → plainRead off = true → s.gate m off = .pass → s.latched m off = none →
    (∀ r, regAt off = some r → r.isRc = false → upperWords off = [] → exec (.readClear m off none) s = .next (s.answer m off (s.shown off)) ∧
      exec (.latchingRead m off) s = .next (s.answer m off (s.shown off))) ∧
    (∀ r, regAt off = some r → r.isRc = true → upperWords off = [] →
      (∃ u, exec (.readClear m off none) s = .next u ∧ u.out = .readData m off (s.shown off) :: s.out ∧
        (∀ f ∈ r.fields, getField (u.rd off) f.lo f.w = getField (resetWord off) f.lo f.w) ∧ (∀ o, o ≠ off → u.rd o = s.rd o) ∧ { u with regs := s.regs, out := s.out } = s) ∧
      (∀ b, exec (.readClear m off (some (b, false))) s = .next (s.answer m off (s.shown off))) ∧
      (∀ b, s.gate b off = .pass → s.latched b off = none → decide (off < 0x10000) = true → off ≠ A.GLB_FLT_STATUS →
        ∃ u, exec (.readClear m off (some (b, true))) s = .next u ∧ u.out = .readData m off (s.shown off) :: .readData b off (s.shown off) :: s.out ∧
          (∀ f ∈ r.fields, getField (u.rd off) f.lo f.w = getField (resetWord off) f.lo f.w) ∧ (∀ o, o ≠ off → u.rd o = s.rd o))) ∧
    (upperWords off ≠ [] →
      ∃ u, exec (.latchingRead m off) s = .next u ∧ u.out = .readData m off (s.shown off) :: s.out ∧ (∀ o ∈ upperWords off, u.latched m o = some (s.shown o)) ∧
        (∀ b o, b ≠ m → u.latched b o = s.latched b o) ∧
        (∀ o ∈ upperWords off, plainRead o = true → o % 4 = 0 → u.gate m o = .pass → exec (.latchingRead m o) u = .next (u.answer m o (s.shown o))))

/-- A range that R331 reserves, beside the empty end of a block. -/
def reservedRange (off : Nat) : Bool :=
  decide (0x50000 ≤ off ∧ off < 0x80000) || decide (0xA0000 ≤ off ∧ off < 0xC0000) || decide (0xD0000 ≤ off ∧ off < 0x100000) || decide (0x428000 ≤ off ∧ off < 0x500000) ||
    decide (0x732000 ≤ off ∧ off < 0x800000) || decide (0x8C0000 ≤ off ∧ off < 0x900000) || decide (0xA00000 ≤ off ∧ off < 0x1000000)

/-- R319: a BAR2 read returns DRAM from its base, and a BAR2 write is counted; no other master reaches BAR2. BAR2 lies at offsets from 16 MiB on (the model's choice, log 15). -/
def Bar2AccessesRules : Prop :=
  ∀ (s : State) (off : Nat) (v : Word),
    off % 4 = 0 → 0x1000000 ≤ off → off < 0x5000000 → s.answers = true → s.asleep = false →
      exec (.registerWrite .pcie off v ⟨none, 0⟩) s = .next (s.bump A.HDM_BAR2_WRITE) ∧
      (∃ u, exec (.readClear .pcie off none) s = .next u ∧ u.out = .readData .pcie off (if s.isSet F.DRC_STATUS_TRAINED then
          BitVec.ofNat 32 (leNat (s.dramRead ((s.rd A.HDM_BAR2_BASE_LO).toNat + (s.rd A.HDM_BAR2_BASE_HI).toNat * 2 ^ 32 + (off - 0x1000000)) 4)) else 0#32) :: s.out ∧ u.mem = s.mem ∧ u.regs = s.regs) ∧
      exec (.registerWrite .secondary off v ⟨none, 0⟩) s = .next s ∧ exec (.registerWrite .stylus off v ⟨none, 0⟩) s = .next s

/-- R331, R332: a read in a reserved range returns 0 and a write there is discarded and counted, once the gate lets it through. -/
def UnmappedAccessesRules : Prop :=
  ∀ (s : State) (m : Master) (off : Nat) (v : Word),
    (off % 4 = 0 → reservedRange off = true → s.gate m off = .pass →
      exec (.unmappedAccess m off (some v)) s = .next (s.bump A.GLB_UNMAPPED_WRITE) ∧ exec (.registerWrite m off v ⟨none, 0⟩) s = .next (s.bump A.GLB_UNMAPPED_WRITE) ∧
      (s.latched m off = none → exec (.unmappedAccess m off none) s = .next (s.answer m off 0#32) ∧ exec (.readClear m off none) s = .next (s.answer m off 0#32) ∧
        exec (.latchingRead m off) s = .next (s.answer m off 0#32)))

/-- R14, R329, R420, R479: before service a write outside GLB_, PWR_ and PLT_ is discarded and counted, and a read there returns 0. In Sleep a PCIe access outside PWR_ is held. An access forbidden to its master, or to a device that does not answer, does nothing. -/
def AccessGateRules : Prop :=
  ∀ (s : State) (m : Master) (off : Nat) (v : Word), off % 4 = 0 → off < 0x1000000 →
    (s.answers = false → exec (.registerWrite m off v ⟨none, 0⟩) s = .next s ∧ exec (.readClear m off none) s = .next s) ∧
    (s.answers = true → s.asleep = true → m = .pcie → ¬(0x10000 ≤ off ∧ off < 0x20000) →
      exec (.registerWrite m off v ⟨none, 0⟩) s = .next { s with hst := { s.hst with held := s.hst.held ++ [(m, off, some v)] } } ∧
      exec (.readClear m off none) s = .next { s with hst := { s.hst with held := s.hst.held ++ [(m, off, none)] } }) ∧
    (s.answers = true → s.asleep = false → s.inService = false → 0x20000 ≤ off → ¬(0x30000 ≤ off ∧ off < 0x40000) →
      exec (.registerWrite m off v ⟨none, 0⟩) s = .next (s.bump A.PLT_STRUCT_REJECT) ∧ exec (.readClear m off none) s = .next (s.answer m off 0#32)) ∧
    (s.answers = true → s.asleep = false → s.inService = true → forbiddenTo m off = true → exec (.registerWrite m off v ⟨none, 0⟩) s = .next s ∧ exec (.readClear m off none) s = .next s) ∧
    (∀ o, forbiddenTo .secondary o = (decide (0x80000 ≤ o ∧ o < 0xA0000) || decide (0xC0000 ≤ o ∧ o < 0xD0000) || decide (0x30000 ≤ o ∧ o < 0x40000) || decide (0x3E0000 ≤ o ∧ o < 0x400000))) ∧
    (∀ o, forbiddenTo .pcie o = false)

/-- R330, R446, R447: of two masters that write one register in a cycle, the stylus with an engine halted comes first, then the PCIe host, then the secondary host, then the stylus without one. The write that stands acts alone; a host's that loses is recorded in GLB_HOST_COLLIDE and counted, the stylus's counted in its port. -/
def WriteCollisionsRules : Prop :=
  ∀ (s : State) (off : Nat) (v : Word), off % 4 = 0 → off < 0x500000 → s.gate .pcie off = .pass → s.gate .secondary off = .pass → s.gate .stylus off = .pass →
    exec (.registerWrite .pcie off v ⟨some .secondary, 0⟩) s = exec (.registerWrite .pcie off v ⟨none, 0⟩) s ∧
    exec (.registerWrite .secondary off v ⟨some .pcie, 0⟩) s = .next ((s.put F.GLB_HOST_COLLIDE_OFFSET off).bump A.GLB_HOST_COLLIDE_COUNT) ∧
    (s.dbg.halted.isSome = true →
      exec (.registerWrite .stylus off v ⟨some .pcie, 0⟩) s = exec (.registerWrite .stylus off v ⟨none, 0⟩) s ∧
      exec (.registerWrite .pcie off v ⟨some .stylus, 0⟩) s = .next ((s.put F.GLB_HOST_COLLIDE_OFFSET off).bump A.GLB_HOST_COLLIDE_COUNT)) ∧
    (s.dbg.halted = none →
      exec (.registerWrite .pcie off v ⟨some .stylus, 0⟩) s = exec (.registerWrite .pcie off v ⟨none, 0⟩) s ∧
      exec (.registerWrite .stylus off v ⟨some .secondary, 0⟩) s = .next { s with dbg := { s.dbg with collide := min (s.dbg.collide + 1) 255 } })

/-- R331: a command of its own for a register write is the write of its register with its word. Where the spec leaves a point open it follows the model's choices of log 16. -/
def Obligations.RowsAreWrites : Prop :=
  ∀ (s : State) (m : Master) (v : Word),
    ∀ e ∈ ([(.clockSwitch m v, A.PWR_CLK_CTRL, v), (.pwrFuncWrite m v, A.PWR_FUNC, v), (.pwrSleep m, A.PWR_CMD, 1#32), (.pwrAbort m, A.PWR_CMD, 5#32),
        (.mbxOpen m, A.PLT_MBX_CMD, 1#32), (.mbxBlock m, A.PLT_MBX_CMD, 2#32), (.mbxProof m, A.PLT_MBX_CMD, 3#32), (.mbxRecut m, A.PLT_MBX_CMD, 4#32),
        (.mbxCancel m, A.PLT_MBX_CMD, 5#32), (.mbxCopy m, A.PLT_MBX_CMD, 6#32), (.engReinstate m v, A.ENG_REINSTATE, v), (.recutPause m v, A.ENG_RECUT_CTRL, v),
        (.recutResume m v, A.ENG_RECUT_CTRL, v), (.recutAbandon m v, A.ENG_RECUT_CTRL, v), (.keyLoad m v, A.KEY_CMD, withOp v 3 1), (.keyClear m v, A.KEY_CMD, withOp v 3 2),
        (.keyRead m v, A.KEY_CMD, withOp v 3 3), (.keySetTx m v, A.KEY_CMD, withOp v 3 4), (.keyLink m v, A.KEY_CMD, withOp v 3 5), (.attGo m, A.KEY_ATT_CTRL, 1#32),
        (.chnChainReinstate m v, A.CHN_CHAIN_REINSTATE, v), (.chnRegSelect m v, A.CHN_REG_SELECT, v), (.fuseProgram m v, A.CHN_FUSE_CTRL, v), (.fuseLock m v, A.CHN_FUSE_CTRL, v),
        (.hopmapNextArm m v, A.TRV_HOPMAP_NEXT_EPOCH, v), (.routeAdd m v, A.RTE_CMD, withOp v 2 1), (.routeDelete m v, A.RTE_CMD, withOp v 2 2), (.routeLookUp m v, A.RTE_CMD, withOp v 2 3),
        (.flwRead m v, A.FLW_CMD, withOp v 3 1), (.flwInsert m v, A.FLW_CMD, withOp v 3 2), (.flwDelete m v, A.FLW_CMD, withOp v 3 3), (.flwFlush m v, A.FLW_CMD, withOp v 3 4),
        (.calSet m v, A.CAL_CTRL, v), (.dramThaw m v, A.DRC_CTRL, v)] : List (Instr × Nat × Word)),
      exec e.1 s = exec (.registerWrite m e.2.1 e.2.2 ⟨none, 0⟩) s

/-- R328, R329: the oldest request of the secondary host waits while the device does not answer; a bad one is dropped and counted. Else LAST_SEQ takes its sequence and its operations run, each as one access: shown for one operation. A read fills its value in with status 0 and a write takes effect; an operation on a forbidden block ends with
status 1, a write that loses to the PCIe host with 2, one at an unmapped offset with 3, an unknown code with 4, and the answer arrives in class 7 of its port. -/
def SecondaryRequestsRules : Prop :=
  ∀ (s : State) (cs : List Bool),
    (s.hst.secWait = [] ∨ s.answers = false ∨ s.asleep = true → exec (.secondaryRequest cs) s = .next s) ∧
    (∀ f ms l, s.hst.secWait = (f, ms) :: l → s.answers = true → s.asleep = false →
      let t : State := { s with hst := { s.hst with secWait := l } }
      let seq := leAt f 14 4
      ((s.isSet F.HDM_SEC_CTRL_REQUIRE_MACSEC = true ∧ ms = false) ∨ sint 32 (seq + 2 ^ 32 - (s.rd A.HDM_SEC_LAST_SEQ).toNat) ≤ 0 ∨ leAt f 18 1 = 0 ∨ 64 < leAt f 18 1 ∨
          f.length < 22 + 8 * leAt f 18 1 → exec (.secondaryRequest cs) s = .next (t.bump A.HDM_SEC_REJECT)) ∧
      ((s.isSet F.HDM_SEC_CTRL_REQUIRE_MACSEC = false ∨ ms = true) → 0 < sint 32 (seq + 2 ^ 32 - (s.rd A.HDM_SEC_LAST_SEQ).toNat) → leAt f 18 1 = 1 → 30 ≤ f.length →
        let off := leAt f 22 3
        let code := leAt f 25 1
        let t := t.wr A.HDM_SEC_LAST_SEQ (BitVec.ofNat 32 seq)
        let answered (u : State) (st x : Nat) : State :=
          u.arrive (32768 + 8 * s.hostSecondary + 7)
            { Pkt.fresh (slice f 6 6 ++ s.portMac s.hostSecondary ++ slice f 12 10 ++ (leBytes 4 (off + st * 2 ^ 24) ++ leBytes 4 x) ++ f.drop 30) s.hostSecondary with
              stage := .done (.eth s.hostSecondary) }
        (code = 1 → off = A.GLB_ID → s.latched .secondary off = none → exec (.secondaryRequest cs) s = .next (answered t 0 (s.shown A.GLB_ID).toNat)) ∧
        (code = 2 → off % 4 = 0 → s.gate .secondary off = .pass → (regAt off).isSome = true → cs.headD false = false →
          ∃ u, exec (.registerWrite .secondary off (BitVec.ofNat 32 (leAt f 26 4)) ⟨none, 0⟩) t = .next u ∧ exec (.secondaryRequest cs) s = .next (answered u 0 (leAt f 26 4))) ∧
        (code = 2 → off % 4 = 0 → s.gate .secondary off = .pass → (regAt off).isSome = true → cs.headD false = true → s.dbg.halted = none → off < 0x500000 →
          exec (.secondaryRequest cs) s = .next (answered ((t.put F.GLB_HOST_COLLIDE_OFFSET off).bump A.GLB_HOST_COLLIDE_COUNT) 2 (leAt f 26 4))) ∧
        (code = 1 → s.gate .secondary off = .pass → regAt off = none → exec (.secondaryRequest cs) s = .next (answered t 3 0)) ∧
        (code = 2 → s.gate .secondary off = .pass → regAt off = none → exec (.secondaryRequest cs) s = .next (answered (t.bump A.GLB_UNMAPPED_WRITE) 3 (leAt f 26 4))) ∧
        ((code = 1 ∨ code = 2) → secondaryForbidden off = true → exec (.secondaryRequest cs) s = .next (answered t 1 (leAt f 26 4))) ∧
        (code ≠ 1 → code ≠ 2 → exec (.secondaryRequest cs) s = .next (answered t 4 (leAt f 26 4)))))

/-- R14, R329, R331, R332, R420, R479: what reaches a register at all, and what reaches none. -/
def Obligations.GateAndUnmapped : Prop :=
  AccessGateRules ∧ UnmappedAccessesRules

/-- R319, R328, R329, R330, R446, R447: two masters at one register, and the secondary host. Where the spec leaves a point open it follows the model's choices of log 15, 21, 22. -/
def Obligations.CollisionsAndSecondary : Prop :=
  WriteCollisionsRules ∧ SecondaryRequestsRules ∧ Bar2AccessesRules
end

