-- ==== Sys2Proof/Laws/Fields.lean ====
section
/-! SUPPORT. The laws of register fields: what a field reads after it, or another field, has been written. -/

namespace Sys2Proof.Machine

theorem getField_testBit (x : Word) (lo w i : Nat) : (getField x lo w).testBit i = (decide (i < w) && x.getLsbD (i + lo)) := by
  simp [getField, bits, Nat.testBit_mod_two_pow, Nat.testBit_div_two_pow, BitVec.getLsbD]

theorem fieldWord_getLsbD (lo w v i : Nat) :
    (fieldWord lo w v).getLsbD i = (decide (i < 32) && decide (lo ≤ i) && decide (i - lo < w) && v.testBit (i - lo)) := by
  simp only [fieldWord, BitVec.getLsbD_ofNat, Nat.testBit_mul_two_pow, Nat.testBit_mod_two_pow]
  by_cases h1 : i < 32 <;> by_cases h2 : lo ≤ i <;> by_cases h3 : i - lo < w <;> simp [h1, h2, h3]

theorem fieldMask_getLsbD (lo w i : Nat) :
    (fieldMask lo w).getLsbD i = (decide (i < 32) && decide (lo ≤ i) && decide (i - lo < w)) := by
  rw [fieldMask, fieldWord_getLsbD, Nat.testBit_two_pow_sub_one]
  by_cases h3 : i - lo < w <;> simp [h3]

theorem setField_getLsbD (x : Word) (lo w v i : Nat) (hi : i < 32) :
    (setField x lo w v).getLsbD i = if lo ≤ i ∧ i - lo < w then v.testBit (i - lo) else x.getLsbD i := by
  simp only [setField, BitVec.getLsbD_or, BitVec.getLsbD_and, BitVec.getLsbD_not, fieldMask_getLsbD, fieldWord_getLsbD, hi]
  by_cases h2 : lo ≤ i <;> by_cases h3 : i - lo < w <;> simp [h2, h3]

/-- A field reads what was written to it. -/
theorem getField_setField_same (x : Word) (lo w v : Nat) (h : lo + w ≤ 32) : getField (setField x lo w v) lo w = v % 2 ^ w := by
  apply Nat.eq_of_testBit_eq
  intro i
  rw [getField_testBit, Nat.testBit_mod_two_pow]
  by_cases hi : i < w
  · have : i + lo < 32 := by omega
    rw [setField_getLsbD _ _ _ _ _ this]
    simp [hi]
  · simp [hi]

/-- A field that does not overlap the written one reads as before. -/
theorem getField_setField_ne (x : Word) (lo w v lo' w' : Nat) (h : lo' + w' ≤ 32) (hd : lo' + w' ≤ lo ∨ lo + w ≤ lo') :
    getField (setField x lo w v) lo' w' = getField x lo' w' := by
  apply Nat.eq_of_testBit_eq
  intro i
  rw [getField_testBit, getField_testBit]
  by_cases hi : i < w'
  · have h32 : i + lo' < 32 := by omega
    rw [setField_getLsbD _ _ _ _ _ h32]
    have : ¬(lo ≤ i + lo' ∧ i + lo' - lo < w) := by omega
    simp [this]
  · simp [hi]

/-- A field of a word that holds one field. -/
theorem getField_fieldWord_same (lo w v : Nat) (h : lo + w ≤ 32) : getField (fieldWord lo w v) lo w = v % 2 ^ w := by
  apply Nat.eq_of_testBit_eq
  intro i
  rw [getField_testBit, Nat.testBit_mod_two_pow, fieldWord_getLsbD]
  by_cases hi : i < w
  · have : i + lo < 32 := by omega
    simp [hi, this]
  · simp [hi]

/-- A number below its field's limit is unchanged by the cut to the field's width. -/
theorem getField_lt (x : Word) (lo w : Nat) : getField x lo w < 2 ^ w := Nat.mod_lt _ (Nat.two_pow_pos w)

end Sys2Proof.Machine
end

