-- ==== Sys2Proof/Laws/Store.lean ====
section
/-! SUPPORT. The laws of the stores: what a write leaves at its key and at every other key, and that it keeps the canonical form. -/

namespace Sys2Proof.Machine

section
variable {α : Type}

theorem kvGet_filter_ne (l : List (Nat × α)) (k j : Nat) :
    kvGet (l.filter (fun e => e.1 != k)) j = if j = k then none else kvGet l j := by
  induction l with
  | nil => simp [kvGet]
  | cons e t ih =>
    obtain ⟨a, x⟩ := e
    by_cases h : a = k
    · subst h
      simp only [bne_self_eq_false, Bool.false_eq_true, not_false_eq_true, List.filter_cons_of_neg, ih, kvGet]
      by_cases h2 : j = a
      · simp [h2]
      · simp [h2, Ne.symm h2]
    · have hb : (a != k) = true := by simp [h]
      simp only [List.filter_cons, hb, if_true, kvGet, ih]
      by_cases h2 : a = j
      · subst h2; simp [h]
      · simp [h2]

/-- What a write leaves: its value at its key, every other key as before. -/
theorem kvGet_kvPut (l : List (Nat × α)) (k j : Nat) (o : Option α) :
    kvGet (kvPut l k o) j = if j = k then o else kvGet l j := by
  induction l with
  | nil =>
    cases o with
    | none => simp [kvPut, kvGet]
    | some x =>
      by_cases h : j = k
      · simp [kvPut, kvGet, h]
      · simp [kvPut, kvGet, h, Ne.symm h]
  | cons e t ih =>
    obtain ⟨a, y⟩ := e
    simp only [kvPut]
    by_cases h1 : a < k
    · simp only [h1, if_true, kvGet, ih]
      by_cases h2 : a = j
      · have : j ≠ k := by omega
        simp [h2, this]
      · simp [h2]
    · simp only [h1, if_false]
      cases o with
      | none => simp only [kvGet_filter_ne]
      | some x =>
        simp only [kvGet, kvGet_filter_ne]
        by_cases h2 : j = k
        · simp [h2]
        · simp [h2, Ne.symm h2]

theorem kvRead_kvWrite [DecidableEq α] (d : Nat → α) (l : List (Nat × α)) (k j : Nat) (x : α) :
    kvRead d (kvWrite d l k x) j = if j = k then x else kvRead d l j := by
  simp only [kvRead, kvWrite, kvGet_kvPut]
  by_cases h : j = k
  · subst h
    by_cases hx : x = d j <;> simp [hx]
  · simp [h]

/-- The keys of a list that rises from above `a`. -/
theorem kvSorted_cons (a : Nat) (x : α) (t : List (Nat × α)) :
    kvSorted ((a, x) :: t) = true ↔ (∀ e ∈ t, a < e.1) ∧ kvSorted t = true := by
  induction t generalizing a x with
  | nil => simp [kvSorted]
  | cons e t ih =>
    obtain ⟨b, y⟩ := e
    rw [kvSorted, Bool.and_eq_true, decide_eq_true_eq]
    constructor
    · rintro ⟨h, hs⟩
      refine ⟨?_, hs⟩
      intro e he
      rcases List.mem_cons.mp he with rfl | he
      · exact h
      · exact Nat.lt_trans h (((ih b y).mp hs).1 e he)
    · rintro ⟨h, hs⟩
      exact ⟨h (b, y) (List.mem_cons_self), hs⟩

theorem kvSorted_filter (p : Nat × α → Bool) (l : List (Nat × α)) (h : kvSorted l = true) : kvSorted (l.filter p) = true := by
  induction l with
  | nil => simp [kvSorted]
  | cons e t ih =>
    obtain ⟨a, x⟩ := e
    have h' := (kvSorted_cons a x t).mp h
    by_cases hp : p (a, x) = true
    · rw [List.filter_cons_of_pos hp, kvSorted_cons]
      exact ⟨fun e he => h'.1 e ((List.mem_filter.mp he).1), ih h'.2⟩
    · rw [List.filter_cons_of_neg hp]
      exact ih h'.2

theorem kvPut_mem (l : List (Nat × α)) (k : Nat) (o : Option α) (e : Nat × α) (h : e ∈ kvPut l k o) :
    e ∈ l ∨ (e.1 = k ∧ o = some e.2) := by
  induction l with
  | nil =>
    cases o with
    | none => simp [kvPut] at h
    | some x => simp only [kvPut, List.mem_singleton] at h; subst h; simp
  | cons b t ih =>
    obtain ⟨a, y⟩ := b
    simp only [kvPut] at h
    by_cases h1 : a < k
    · simp only [h1, if_true, List.mem_cons] at h
      rcases h with rfl | h
      · exact .inl (List.mem_cons_self)
      · rcases ih h with h | h
        · exact .inl (List.mem_cons_of_mem _ h)
        · exact .inr h
    · simp only [h1, if_false] at h
      cases o with
      | none => exact .inl ((List.mem_filter.mp h).1)
      | some x =>
        simp only [List.mem_cons] at h
        rcases h with rfl | h
        · exact .inr ⟨rfl, rfl⟩
        · exact .inl ((List.mem_filter.mp h).1)

theorem kvSorted_kvPut (l : List (Nat × α)) (k : Nat) (o : Option α) (h : kvSorted l = true) : kvSorted (kvPut l k o) = true := by
  induction l with
  | nil => cases o <;> simp [kvPut, kvSorted]
  | cons b t ih =>
    obtain ⟨a, y⟩ := b
    have h' := (kvSorted_cons a y t).mp h
    simp only [kvPut]
    by_cases h1 : a < k
    · simp only [h1, if_true]
      rw [kvSorted_cons]
      refine ⟨fun e he => ?_, ih h'.2⟩
      rcases kvPut_mem t k o e he with he | he
      · exact h'.1 e he
      · omega
    · simp only [h1, if_false]
      have hf := kvSorted_filter (fun e => e.1 != k) _ h
      cases o with
      | none => exact hf
      | some x =>
        simp only
        rw [kvSorted_cons]
        refine ⟨fun e he => ?_, hf⟩
        have hne : e.1 ≠ k := by
          have := (List.mem_filter.mp he).2
          simpa using this
        have hge : a ≤ e.1 := by
          rcases List.mem_cons.mp (List.mem_filter.mp he).1 with rfl | he
          · exact Nat.le_refl _
          · exact Nat.le_of_lt (h'.1 e he)
        show k < e.1
        omega

theorem kvWf_kvWrite [DecidableEq α] (d : Nat → α) (l : List (Nat × α)) (k : Nat) (x : α) (h : kvWf d l = true) :
    kvWf d (kvWrite d l k x) = true := by
  simp only [kvWf, Bool.and_eq_true, List.all_eq_true, decide_eq_true_eq] at h ⊢
  refine ⟨kvSorted_kvPut l k _ h.1, fun e he => ?_⟩
  rcases kvPut_mem l k _ e he with he | ⟨hk, hx⟩
  · exact h.2 e he
  · by_cases hd : x = d k
    · simp [hd] at hx
    · simp only [hd, if_false, Option.some.injEq] at hx
      rw [← hx, hk]
      exact hd

theorem kvWf_filter [DecidableEq α] (d : Nat → α) (p : Nat × α → Bool) (l : List (Nat × α)) (h : kvWf d l = true) :
    kvWf d (l.filter p) = true := by
  simp only [kvWf, Bool.and_eq_true, List.all_eq_true, decide_eq_true_eq] at h ⊢
  exact ⟨kvSorted_filter p l h.1, fun e he => h.2 e ((List.mem_filter.mp he).1)⟩

theorem kvGet_filter (p : Nat → Bool) (l : List (Nat × α)) (j : Nat) :
    kvGet (l.filter (fun e => p e.1)) j = if p j then kvGet l j else none := by
  induction l with
  | nil => simp [kvGet]
  | cons e t ih =>
    obtain ⟨a, x⟩ := e
    by_cases hp : p a = true
    · rw [List.filter_cons_of_pos (by simpa using hp)]
      simp only [kvGet, ih]
      by_cases h : a = j
      · subst h; simp [hp]
      · simp [h]
    · rw [List.filter_cons_of_neg (by simpa using hp)]
      simp only [kvGet, ih]
      by_cases h : a = j
      · subst h; simp [hp]
      · simp [h]

theorem kvGet_none_of_lt (l : List (Nat × α)) (k : Nat) (h : ∀ e ∈ l, k < e.1) : kvGet l k = none := by
  induction l with
  | nil => rfl
  | cons e t ih =>
    obtain ⟨a, x⟩ := e
    have ha : k < a := h (a, x) (List.mem_cons_self)
    simp only [kvGet, Nat.ne_of_gt ha, if_false]
    exact ih fun e he => h e (List.mem_cons_of_mem _ he)

end

end Sys2Proof.Machine
end

