-- ==== Sys2Proof/Laws/State.lean ====
section
/-! SUPPORT. The small lemmas of State: what a register write leaves in every field of the state and in every register, and the same of a field write. -/

namespace Sys2Proof.Machine

@[simp] theorem State.wr_tim (s : State) (off : Nat) (v : Word) : (s.wr off v).tim = s.tim := rfl
@[simp] theorem State.wr_chn (s : State) (off : Nat) (v : Word) : (s.wr off v).chn = s.chn := rfl
@[simp] theorem State.wr_phy (s : State) (off : Nat) (v : Word) : (s.wr off v).phy = s.phy := rfl
@[simp] theorem State.wr_surveys (s : State) (off : Nat) (v : Word) : (s.wr off v).surveys = s.surveys := rfl
@[simp] theorem State.wr_grt (s : State) (off : Nat) (v : Word) : (s.wr off v).grt = s.grt := rfl
@[simp] theorem State.wr_trv (s : State) (off : Nat) (v : Word) : (s.wr off v).trv = s.trv := rfl
@[simp] theorem State.wr_hst (s : State) (off : Nat) (v : Word) : (s.wr off v).hst = s.hst := rfl
@[simp] theorem State.wr_pwr (s : State) (off : Nat) (v : Word) : (s.wr off v).pwr = s.pwr := rfl
@[simp] theorem State.wr_plt (s : State) (off : Nat) (v : Word) : (s.wr off v).plt = s.plt := rfl
@[simp] theorem State.wr_upd (s : State) (off : Nat) (v : Word) : (s.wr off v).upd = s.upd := rfl
@[simp] theorem State.wr_eng (s : State) (off : Nat) (v : Word) : (s.wr off v).eng = s.eng := rfl
@[simp] theorem State.wr_flt (s : State) (off : Nat) (v : Word) : (s.wr off v).flt = s.flt := rfl
@[simp] theorem State.wr_path (s : State) (off : Nat) (v : Word) : (s.wr off v).path = s.path := rfl
@[simp] theorem State.wr_que (s : State) (off : Nat) (v : Word) : (s.wr off v).que = s.que := rfl
@[simp] theorem State.wr_ports (s : State) (off : Nat) (v : Word) : (s.wr off v).ports = s.ports := rfl
@[simp] theorem State.wr_mem (s : State) (off : Nat) (v : Word) : (s.wr off v).mem = s.mem := rfl
@[simp] theorem State.wr_sec (s : State) (off : Nat) (v : Word) : (s.wr off v).sec = s.sec := rfl
@[simp] theorem State.wr_dbg (s : State) (off : Nat) (v : Word) : (s.wr off v).dbg = s.dbg := rfl
@[simp] theorem State.wr_rfuse (s : State) (off : Nat) (v : Word) : (s.wr off v).rfuse = s.rfuse := rfl
@[simp] theorem State.wr_out (s : State) (off : Nat) (v : Word) : (s.wr off v).out = s.out := rfl
@[simp] theorem State.wr_fresh (s : State) (off : Nat) (v : Word) : (s.wr off v).fresh = s.fresh := rfl
@[simp] theorem State.wr_pending (s : State) (off : Nat) (v : Word) : (s.wr off v).pending = s.pending := rfl

@[simp] theorem State.put_tim (s : State) (f : Fld) (v : Nat) : (s.put f v).tim = s.tim := rfl
@[simp] theorem State.put_chn (s : State) (f : Fld) (v : Nat) : (s.put f v).chn = s.chn := rfl
@[simp] theorem State.put_phy (s : State) (f : Fld) (v : Nat) : (s.put f v).phy = s.phy := rfl
@[simp] theorem State.put_surveys (s : State) (f : Fld) (v : Nat) : (s.put f v).surveys = s.surveys := rfl
@[simp] theorem State.put_grt (s : State) (f : Fld) (v : Nat) : (s.put f v).grt = s.grt := rfl
@[simp] theorem State.put_trv (s : State) (f : Fld) (v : Nat) : (s.put f v).trv = s.trv := rfl
@[simp] theorem State.put_hst (s : State) (f : Fld) (v : Nat) : (s.put f v).hst = s.hst := rfl
@[simp] theorem State.put_pwr (s : State) (f : Fld) (v : Nat) : (s.put f v).pwr = s.pwr := rfl
@[simp] theorem State.put_plt (s : State) (f : Fld) (v : Nat) : (s.put f v).plt = s.plt := rfl
@[simp] theorem State.put_upd (s : State) (f : Fld) (v : Nat) : (s.put f v).upd = s.upd := rfl
@[simp] theorem State.put_eng (s : State) (f : Fld) (v : Nat) : (s.put f v).eng = s.eng := rfl
@[simp] theorem State.put_flt (s : State) (f : Fld) (v : Nat) : (s.put f v).flt = s.flt := rfl
@[simp] theorem State.put_path (s : State) (f : Fld) (v : Nat) : (s.put f v).path = s.path := rfl
@[simp] theorem State.put_que (s : State) (f : Fld) (v : Nat) : (s.put f v).que = s.que := rfl
@[simp] theorem State.put_ports (s : State) (f : Fld) (v : Nat) : (s.put f v).ports = s.ports := rfl
@[simp] theorem State.put_mem (s : State) (f : Fld) (v : Nat) : (s.put f v).mem = s.mem := rfl
@[simp] theorem State.put_sec (s : State) (f : Fld) (v : Nat) : (s.put f v).sec = s.sec := rfl
@[simp] theorem State.put_dbg (s : State) (f : Fld) (v : Nat) : (s.put f v).dbg = s.dbg := rfl
@[simp] theorem State.put_rfuse (s : State) (f : Fld) (v : Nat) : (s.put f v).rfuse = s.rfuse := rfl
@[simp] theorem State.put_out (s : State) (f : Fld) (v : Nat) : (s.put f v).out = s.out := rfl
@[simp] theorem State.put_fresh (s : State) (f : Fld) (v : Nat) : (s.put f v).fresh = s.fresh := rfl
@[simp] theorem State.put_pending (s : State) (f : Fld) (v : Nat) : (s.put f v).pending = s.pending := rfl

@[simp] theorem State.count_tim (s : State) (off n : Nat) : (s.count off n).tim = s.tim := rfl
@[simp] theorem State.count_chn (s : State) (off n : Nat) : (s.count off n).chn = s.chn := rfl
@[simp] theorem State.count_phy (s : State) (off n : Nat) : (s.count off n).phy = s.phy := rfl
@[simp] theorem State.count_surveys (s : State) (off n : Nat) : (s.count off n).surveys = s.surveys := rfl
@[simp] theorem State.count_grt (s : State) (off n : Nat) : (s.count off n).grt = s.grt := rfl
@[simp] theorem State.count_trv (s : State) (off n : Nat) : (s.count off n).trv = s.trv := rfl
@[simp] theorem State.count_hst (s : State) (off n : Nat) : (s.count off n).hst = s.hst := rfl
@[simp] theorem State.count_pwr (s : State) (off n : Nat) : (s.count off n).pwr = s.pwr := rfl
@[simp] theorem State.count_plt (s : State) (off n : Nat) : (s.count off n).plt = s.plt := rfl
@[simp] theorem State.count_upd (s : State) (off n : Nat) : (s.count off n).upd = s.upd := rfl
@[simp] theorem State.count_eng (s : State) (off n : Nat) : (s.count off n).eng = s.eng := rfl
@[simp] theorem State.count_flt (s : State) (off n : Nat) : (s.count off n).flt = s.flt := rfl
@[simp] theorem State.count_path (s : State) (off n : Nat) : (s.count off n).path = s.path := rfl
@[simp] theorem State.count_que (s : State) (off n : Nat) : (s.count off n).que = s.que := rfl
@[simp] theorem State.count_ports (s : State) (off n : Nat) : (s.count off n).ports = s.ports := rfl
@[simp] theorem State.count_mem (s : State) (off n : Nat) : (s.count off n).mem = s.mem := rfl
@[simp] theorem State.count_sec (s : State) (off n : Nat) : (s.count off n).sec = s.sec := rfl
@[simp] theorem State.count_dbg (s : State) (off n : Nat) : (s.count off n).dbg = s.dbg := rfl
@[simp] theorem State.count_rfuse (s : State) (off n : Nat) : (s.count off n).rfuse = s.rfuse := rfl
@[simp] theorem State.count_out (s : State) (off n : Nat) : (s.count off n).out = s.out := rfl
@[simp] theorem State.count_fresh (s : State) (off n : Nat) : (s.count off n).fresh = s.fresh := rfl
@[simp] theorem State.count_pending (s : State) (off n : Nat) : (s.count off n).pending = s.pending := rfl

@[simp] theorem State.bump_tim (s : State) (off : Nat) : (s.bump off).tim = s.tim := rfl
@[simp] theorem State.bump_chn (s : State) (off : Nat) : (s.bump off).chn = s.chn := rfl
@[simp] theorem State.bump_phy (s : State) (off : Nat) : (s.bump off).phy = s.phy := rfl
@[simp] theorem State.bump_surveys (s : State) (off : Nat) : (s.bump off).surveys = s.surveys := rfl
@[simp] theorem State.bump_grt (s : State) (off : Nat) : (s.bump off).grt = s.grt := rfl
@[simp] theorem State.bump_trv (s : State) (off : Nat) : (s.bump off).trv = s.trv := rfl
@[simp] theorem State.bump_hst (s : State) (off : Nat) : (s.bump off).hst = s.hst := rfl
@[simp] theorem State.bump_pwr (s : State) (off : Nat) : (s.bump off).pwr = s.pwr := rfl
@[simp] theorem State.bump_plt (s : State) (off : Nat) : (s.bump off).plt = s.plt := rfl
@[simp] theorem State.bump_upd (s : State) (off : Nat) : (s.bump off).upd = s.upd := rfl
@[simp] theorem State.bump_eng (s : State) (off : Nat) : (s.bump off).eng = s.eng := rfl
@[simp] theorem State.bump_flt (s : State) (off : Nat) : (s.bump off).flt = s.flt := rfl
@[simp] theorem State.bump_path (s : State) (off : Nat) : (s.bump off).path = s.path := rfl
@[simp] theorem State.bump_que (s : State) (off : Nat) : (s.bump off).que = s.que := rfl
@[simp] theorem State.bump_ports (s : State) (off : Nat) : (s.bump off).ports = s.ports := rfl
@[simp] theorem State.bump_mem (s : State) (off : Nat) : (s.bump off).mem = s.mem := rfl
@[simp] theorem State.bump_sec (s : State) (off : Nat) : (s.bump off).sec = s.sec := rfl
@[simp] theorem State.bump_dbg (s : State) (off : Nat) : (s.bump off).dbg = s.dbg := rfl
@[simp] theorem State.bump_rfuse (s : State) (off : Nat) : (s.bump off).rfuse = s.rfuse := rfl
@[simp] theorem State.bump_out (s : State) (off : Nat) : (s.bump off).out = s.out := rfl
@[simp] theorem State.bump_fresh (s : State) (off : Nat) : (s.bump off).fresh = s.fresh := rfl
@[simp] theorem State.bump_pending (s : State) (off : Nat) : (s.bump off).pending = s.pending := rfl

/-- What a register write leaves in every register. -/
theorem State.rd_wr (s : State) (off a : Nat) (v : Word) : (s.wr off v).rd a = if a = off then v else s.rd a :=
  kvRead_kvWrite resetWord s.regs off a v

@[simp] theorem State.rd_wr_same (s : State) (off : Nat) (v : Word) : (s.wr off v).rd off = v := by simp [State.rd_wr]

@[simp] theorem State.rd_wr_ne (s : State) (off a : Nat) (v : Word) (h : a ≠ off) : (s.wr off v).rd a = s.rd a := by simp [State.rd_wr, h]

@[simp] theorem State.rd_put_ne (s : State) (f : Fld) (v a : Nat) (h : a ≠ f.off) : (s.put f v).rd a = s.rd a := by simp [State.put, h]

@[simp] theorem State.rd_put_same (s : State) (f : Fld) (v : Nat) : (s.put f v).rd f.off = setField (s.rd f.off) f.lo f.w v := by simp [State.put]

@[simp] theorem State.rd_count_ne (s : State) (off n a : Nat) (h : a ≠ off) : (s.count off n).rd a = s.rd a := by simp [State.count, h]

@[simp] theorem State.rd_bump_ne (s : State) (off a : Nat) (h : a ≠ off) : (s.bump off).rd a = s.rd a := by simp [State.bump, h]

/-- A counter advanced (R9): it saturates at all ones. -/
theorem State.rd_count_same (s : State) (off n : Nat) : ((s.count off n).rd off).toNat = min ((s.rd off).toNat + n) 0xFFFFFFFF := by
  simp only [State.count, State.rd_wr_same, BitVec.toNat_ofNat]
  exact Nat.mod_eq_of_lt (by omega)

theorem State.rd_bump_same (s : State) (off : Nat) : ((s.bump off).rd off).toNat = min ((s.rd off).toNat + 1) 0xFFFFFFFF :=
  State.rd_count_same s off 1

theorem State.get_put_same (s : State) (f : Fld) (v : Nat) (h : f.lo + f.w ≤ 32) : (s.put f v).get f = v % 2 ^ f.w := by
  simp only [State.get, State.rd_put_same]
  exact getField_setField_same _ _ _ _ h

theorem State.get_put_off (s : State) (f g : Fld) (v : Nat) (h : g.off ≠ f.off) : (s.put f v).get g = s.get g := by
  simp only [State.get, State.rd_put_ne _ _ _ _ h]

theorem State.get_put_apart (s : State) (f g : Fld) (v : Nat) (h : g.lo + g.w ≤ 32) (hd : g.lo + g.w ≤ f.lo ∨ f.lo + f.w ≤ g.lo) :
    (s.put f v).get g = s.get g := by
  by_cases ho : g.off = f.off
  · simp only [State.get, ho, State.rd_put_same]
    exact getField_setField_ne _ _ _ _ _ _ h hd
  · exact State.get_put_off s f g v ho

theorem State.get_wr_ne (s : State) (off : Nat) (v : Word) (g : Fld) (h : g.off ≠ off) : (s.wr off v).get g = s.get g := by
  simp only [State.get, State.rd_wr_ne _ _ _ _ h]

/-- A register write keeps the register file canonical. -/
theorem State.wr_regsWf (s : State) (off : Nat) (v : Word) (h : s.regsWf = true) : (s.wr off v).regsWf = true :=
  kvWf_kvWrite resetWord s.regs off v h

end Sys2Proof.Machine
end

