-- ==== Sys2Proof/Laws/Keeps.lean ====
section
/-! SUPPORT. What every operation of the block keeps, said once: the queue of waiting commands, the canonical form of the register file and of the
DRAM image, and the number of the units. One lemma per operation follows in the files Keeps1 to KeepsN. -/

namespace Sys2Proof.Machine

/-- `t` comes from `s` by operations of the block: the queue is as it was, the stores stay canonical, no unit is gained or lost. -/
structure Keeps (s t : State) : Prop where
  pending : t.pending = s.pending
  regs : s.regsWf = true → t.regsWf = true
  dram : s.dramOk = true → t.dramOk = true
  shape : s.shapeOk = true → t.shapeOk = true

@[simp] theorem indexed_length {α : Type} (l : List α) : (indexed l).length = l.length := by simp [indexed]

theorem Keeps.refl (s : State) : Keeps s s := ⟨rfl, id, id, id⟩

theorem Keeps.trans {s t u : State} (h : Keeps s t) (k : Keeps t u) : Keeps s u :=
  ⟨k.pending.trans h.pending, k.regs ∘ h.regs, k.dram ∘ h.dram, k.shape ∘ h.shape⟩

/-- A state that differs from a kept one in what no store, queue or count rests on. -/
theorem Keeps.upd {s0 s : State} (h : Keeps s0 s) {tim : Tim} {chn : Chn} {phy : List Phy} {surveys : List Survey} {grt : Grt} {trv : Trv} {hst : Hst}
    {pwr : Pwr} {plt : Plt} {upd : Upd} {eng : Eng} {flt : Flt} {path : Path} {que : Que} {ports : List Port} {mem : Mem} {sec : Sec} {dbg : Dbg}
    {rfuse : RegFuses} {out : List Out} {fresh : Nat}
    (k : mem.dram = s.mem.dram ∧ tim.tb.length = s.tim.tb.length ∧ tim.cap.length = s.tim.cap.length ∧ tim.txq.length = s.tim.txq.length ∧
      eng.engines.length = s.eng.engines.length ∧ eng.roles.length = s.eng.roles.length ∧ chn.chains.length = s.chn.chains.length ∧
      chn.radios.length = s.chn.radios.length ∧ ports.length = s.ports.length ∧ sec.checks.length = s.sec.checks.length ∧
      phy.length = s.phy.length ∧ grt.radios.length = s.grt.radios.length ∧ surveys.length = s.surveys.length) :
    Keeps s0 ⟨s.regs, tim, chn, phy, surveys, grt, trv, hst, pwr, plt, upd, eng, flt, path, que, ports, mem, sec, dbg, rfuse, out, fresh,
      s.pending⟩ := by
  obtain ⟨hm, h1, h2, h3, h4, h5, h6, h7, h8, h9, h10, h11, h12⟩ := k
  refine ⟨h.pending, h.regs, fun k => ?_, fun k => ?_⟩
  · have := h.dram k
    simpa only [State.dramOk, hm] using this
  · have := h.shape k
    simpa only [State.shapeOk, h1, h2, h3, h4, h5, h6, h7, h8, h9, h10, h11, h12] using this

theorem Keeps.wr {s0 s : State} (h : Keeps s0 s) (off : Nat) (v : Word) : Keeps s0 (s.wr off v) :=
  ⟨h.pending, fun k => s.wr_regsWf off v (h.regs k), h.dram, h.shape⟩

/-- A state whose register file has lost some entries. -/
theorem Keeps.filter {s0 s : State} (h : Keeps s0 s) (p : Nat × Word → Bool) : Keeps s0 { s with regs := s.regs.filter p } :=
  ⟨h.pending, fun k => kvWf_filter resetWord p s.regs (h.regs k), h.dram, h.shape⟩

theorem Keeps.dramPut {s0 s : State} (h : Keeps s0 s) (a : Nat) (b : Byte) : Keeps s0 (s.dramPut a b) :=
  ⟨h.pending, h.regs, fun k => kvWf_kvWrite dramDefault s.mem.dram a b (h.dram k), h.shape⟩

/-- A state on the way. -/
theorem Keeps.cut {s0 u : State} (t : State) (h : Keeps s0 t) (k : Keeps s0 t → Keeps s0 u) : Keeps s0 u := k h

theorem Keeps.ite {s0 a b : State} {c : Prop} [Decidable c] (ha : Keeps s0 a) (hb : Keeps s0 b) : Keeps s0 (if c then a else b) := by
  split <;> assumption

theorem Keeps.foldl {s0 s : State} {α : Type} {f : State → α → State} (h : Keeps s0 s) (l : List α)
    (hf : ∀ t x, Keeps s0 t → Keeps s0 (f t x)) : Keeps s0 (l.foldl f s) := by
  induction l generalizing s with
  | nil => exact h
  | cons x l ih => exact ih (hf s x h)

/-- The same of a fold over a pair whose second part is the state. -/
theorem Keeps.foldl_snd {s0 s : State} {α β : Type} {f : β × State → α → β × State} {b : β} (h : Keeps s0 s) (l : List α)
    (hf : ∀ a x, Keeps s0 a.2 → Keeps s0 (f a x).2) : Keeps s0 (l.foldl f (b, s)).2 := by
  suffices H : ∀ a : β × State, Keeps s0 a.2 → Keeps s0 (l.foldl f a).2 from H (b, s) h
  induction l with
  | nil => exact fun _ h => h
  | cons x l ih => exact fun a ha => ih _ (hf a x ha)

/-- The same of a fold over a pair whose first part is the state. -/
theorem Keeps.foldl_fst {s0 s : State} {α β : Type} {f : State × β → α → State × β} {b : β} (h : Keeps s0 s) (l : List α)
    (hf : ∀ a x, Keeps s0 a.1 → Keeps s0 (f a x).1) : Keeps s0 (l.foldl f (s, b)).1 := by
  suffices H : ∀ a : State × β, Keeps s0 a.1 → Keeps s0 (l.foldl f a).1 from H (s, b) h
  induction l with
  | nil => exact fun _ h => h
  | cons x l ih => exact fun a ha => ih _ (hf a x ha)

end Sys2Proof.Machine
end

