-- ==== Sys2Proof/Laws/Keeps1.lean ====
section
/-! SUPPORT. What the operations of Store, Ops, Keys, PowerOps, TimeBases keep. -/

namespace Sys2Proof.Machine

theorem State.put_keeps {s0 s : State} (h : Keeps s0 s) : ∀ x1 x2, Keeps s0 (State.put s x1 x2) := by
  intro x1 x2
  unfold State.put
  repeat' first
    | with_reducible assumption
    | with_reducible apply Keeps.wr
    | with_reducible apply Keeps.ite
    | with_reducible apply Keeps.foldl
    | intro _ _ _
    | intro _ _
    | split
    | (dsimp only)
    | ((with_reducible refine Keeps.upd ?_ ?_); rotate_left; focus (first | exact ⟨rfl, rfl, rfl, rfl, rfl, rfl, rfl, rfl, rfl, rfl, rfl, rfl, rfl⟩ | (simp +zetaDelta [modAt]; done)))

theorem State.count_keeps {s0 s : State} (h : Keeps s0 s) : ∀ x1 x2, Keeps s0 (State.count s x1 x2) := by
  intro x1 x2
  unfold State.count
  repeat' first
    | with_reducible assumption
    | with_reducible apply Keeps.wr
    | with_reducible apply Keeps.ite
    | with_reducible apply Keeps.foldl
    | intro _ _ _
    | intro _ _
    | split
    | (dsimp only)
    | ((with_reducible refine Keeps.upd ?_ ?_); rotate_left; focus (first | exact ⟨rfl, rfl, rfl, rfl, rfl, rfl, rfl, rfl, rfl, rfl, rfl, rfl, rfl⟩ | (simp +zetaDelta [modAt]; done)))

theorem State.bump_keeps {s0 s : State} (h : Keeps s0 s) : ∀ x1, Keeps s0 (State.bump s x1) := by
  intro x1
  unfold State.bump
  repeat' first
    | with_reducible assumption
    | with_reducible apply State.count_keeps
    | with_reducible apply Keeps.ite
    | with_reducible apply Keeps.foldl
    | intro _ _ _
    | intro _ _
    | split
    | (dsimp only)
    | ((with_reducible refine Keeps.upd ?_ ?_); rotate_left; focus (first | exact ⟨rfl, rfl, rfl, rfl, rfl, rfl, rfl, rfl, rfl, rfl, rfl, rfl, rfl⟩ | (simp +zetaDelta [modAt]; done)))

theorem State.bumpField_keeps {s0 s : State} (h : Keeps s0 s) : ∀ x1, Keeps s0 (State.bumpField s x1) := by
  intro x1
  unfold State.bumpField
  repeat' first
    | with_reducible assumption
    | with_reducible apply State.put_keeps
    | with_reducible apply Keeps.ite
    | with_reducible apply Keeps.foldl
    | intro _ _ _
    | intro _ _
    | split
    | (dsimp only)
    | ((with_reducible refine Keeps.upd ?_ ?_); rotate_left; focus (first | exact ⟨rfl, rfl, rfl, rfl, rfl, rfl, rfl, rfl, rfl, rfl, rfl, rfl, rfl⟩ | (simp +zetaDelta [modAt]; done)))

theorem State.putMax_keeps {s0 s : State} (h : Keeps s0 s) : ∀ x1 x2, Keeps s0 (State.putMax s x1 x2) := by
  intro x1 x2
  unfold State.putMax
  repeat' first
    | with_reducible assumption
    | with_reducible apply State.put_keeps
    | with_reducible apply Keeps.ite
    | with_reducible apply Keeps.foldl
    | intro _ _ _
    | intro _ _
    | split
    | (dsimp only)
    | ((with_reducible refine Keeps.upd ?_ ?_); rotate_left; focus (first | exact ⟨rfl, rfl, rfl, rfl, rfl, rfl, rfl, rfl, rfl, rfl, rfl, rfl, rfl⟩ | (simp +zetaDelta [modAt]; done)))

theorem State.freeB_keeps {s0 s : State} (h : Keeps s0 s) : Keeps s0 (State.freeB s).2 := by
  unfold State.freeB
  repeat' first
    | with_reducible assumption
    | with_reducible apply Keeps.ite
    | with_reducible apply Keeps.foldl
    | intro _ _ _
    | intro _ _
    | split
    | (dsimp only)
    | ((with_reducible refine Keeps.upd ?_ ?_); rotate_left; focus (first | exact ⟨rfl, rfl, rfl, rfl, rfl, rfl, rfl, rfl, rfl, rfl, rfl, rfl, rfl⟩ | (simp +zetaDelta [modAt]; done)))

theorem State.freeB_keeps_eq {s0 s : State} (h : Keeps s0 s) { t a0} (e : (State.freeB s) = (a0, t)) : Keeps s0 t := by
  have := State.freeB_keeps h 
  rw [e] at this
  exact this

theorem State.freeW_keeps {s0 s : State} (h : Keeps s0 s) : Keeps s0 (State.freeW s).2 := by
  unfold State.freeW
  repeat' first
    | with_reducible assumption
    | with_reducible apply Keeps.ite
    | with_reducible apply Keeps.foldl
    | intro _ _ _
    | intro _ _
    | split
    | (dsimp only)
    | ((with_reducible refine Keeps.upd ?_ ?_); rotate_left; focus (first | exact ⟨rfl, rfl, rfl, rfl, rfl, rfl, rfl, rfl, rfl, rfl, rfl, rfl, rfl⟩ | (simp +zetaDelta [modAt]; done)))

theorem State.freeW_keeps_eq {s0 s : State} (h : Keeps s0 s) { t a0} (e : (State.freeW s) = (a0, t)) : Keeps s0 t := by
  have := State.freeW_keeps h 
  rw [e] at this
  exact this

theorem State.freeN_keeps {s0 s : State} (h : Keeps s0 s) : Keeps s0 (State.freeN s).2 := by
  unfold State.freeN
  repeat' first
    | with_reducible assumption
    | with_reducible apply Keeps.ite
    | with_reducible apply Keeps.foldl
    | intro _ _ _
    | intro _ _
    | split
    | (dsimp only)
    | ((with_reducible refine Keeps.upd ?_ ?_); rotate_left; focus (first | exact ⟨rfl, rfl, rfl, rfl, rfl, rfl, rfl, rfl, rfl, rfl, rfl, rfl, rfl⟩ | (simp +zetaDelta [modAt]; done)))

theorem State.freeN_keeps_eq {s0 s : State} (h : Keeps s0 s) { t a0} (e : (State.freeN s) = (a0, t)) : Keeps s0 t := by
  have := State.freeN_keeps h 
  rw [e] at this
  exact this

theorem State.freeInt_keeps {s0 s : State} (h : Keeps s0 s) : Keeps s0 (State.freeInt s).2 := by
  unfold State.freeInt
  repeat' first
    | with_reducible assumption
    | with_reducible apply Keeps.ite
    | with_reducible apply Keeps.foldl
    | intro _ _ _
    | intro _ _
    | split
    | (dsimp only)
    | ((with_reducible refine Keeps.upd ?_ ?_); rotate_left; focus (first | exact ⟨rfl, rfl, rfl, rfl, rfl, rfl, rfl, rfl, rfl, rfl, rfl, rfl, rfl⟩ | (simp +zetaDelta [modAt]; done)))

theorem State.freeInt_keeps_eq {s0 s : State} (h : Keeps s0 s) { t a0} (e : (State.freeInt s) = (a0, t)) : Keeps s0 t := by
  have := State.freeInt_keeps h 
  rw [e] at this
  exact this

theorem State.noteRise_keeps {s0 s : State} (h : Keeps s0 s) : ∀ x1 x2, Keeps s0 (State.noteRise s x1 x2) := by
  intro x1 x2
  unfold State.noteRise
  repeat' first
    | with_reducible assumption
    | with_reducible apply State.put_keeps
    | with_reducible apply State.bump_keeps
    | with_reducible apply Keeps.ite
    | with_reducible apply Keeps.foldl
    | intro _ _ _
    | intro _ _
    | split
    | (dsimp only)
    | ((with_reducible refine Keeps.upd ?_ ?_); rotate_left; focus (first | exact ⟨rfl, rfl, rfl, rfl, rfl, rfl, rfl, rfl, rfl, rfl, rfl, rfl, rfl⟩ | (simp +zetaDelta [modAt]; done)))

theorem State.raise_keeps {s0 s : State} (h : Keeps s0 s) : ∀ x1, Keeps s0 (State.raise s x1) := by
  intro x1
  unfold State.raise
  repeat' first
    | with_reducible assumption
    | with_reducible apply State.noteRise_keeps
    | with_reducible apply State.put_keeps
    | with_reducible apply Keeps.ite
    | with_reducible apply Keeps.foldl
    | intro _ _ _
    | intro _ _
    | split
    | (dsimp only)
    | ((with_reducible refine Keeps.upd ?_ ?_); rotate_left; focus (first | exact ⟨rfl, rfl, rfl, rfl, rfl, rfl, rfl, rfl, rfl, rfl, rfl, rfl, rfl⟩ | (simp +zetaDelta [modAt]; done)))

theorem State.fltShift_keeps {s0 s : State} (h : Keeps s0 s) : ∀ x1 x2, Keeps s0 (State.fltShift s x1 x2) := by
  intro x1 x2
  unfold State.fltShift
  repeat' first
    | with_reducible assumption
    | with_reducible apply Keeps.wr
    | with_reducible apply State.put_keeps
    | with_reducible apply Keeps.ite
    | with_reducible apply Keeps.foldl
    | intro _ _ _
    | intro _ _
    | split
    | (dsimp only)
    | ((with_reducible refine Keeps.upd ?_ ?_); rotate_left; focus (first | exact ⟨rfl, rfl, rfl, rfl, rfl, rfl, rfl, rfl, rfl, rfl, rfl, rfl, rfl⟩ | (simp +zetaDelta [modAt]; done)))

theorem State.faultRecord_keeps {s0 s : State} (h : Keeps s0 s) : ∀ x1 x2 x3 x4 x5, Keeps s0 (State.faultRecord s x1 x2 x3 x4 x5) := by
  intro x1 x2 x3 x4 x5
  unfold State.faultRecord
  repeat' first
    | with_reducible assumption
    | with_reducible apply State.bump_keeps
    | with_reducible apply State.fltShift_keeps
    | with_reducible apply Keeps.wr
    | with_reducible apply State.put_keeps
    | with_reducible apply State.raise_keeps
    | with_reducible apply Keeps.ite
    | with_reducible apply Keeps.foldl
    | intro _ _ _
    | intro _ _
    | split
    | (dsimp only)
    | ((with_reducible refine Keeps.upd ?_ ?_); rotate_left; focus (first | exact ⟨rfl, rfl, rfl, rfl, rfl, rfl, rfl, rfl, rfl, rfl, rfl, rfl, rfl⟩ | (simp +zetaDelta [modAt]; done)))

theorem State.faultDone_keeps {s0 s : State} (h : Keeps s0 s) : ∀ x1, Keeps s0 (State.faultDone s x1) := by
  intro x1
  unfold State.faultDone
  repeat' first
    | with_reducible assumption
    | with_reducible apply State.fltShift_keeps
    | with_reducible apply State.put_keeps
    | with_reducible apply Keeps.ite
    | with_reducible apply Keeps.foldl
    | intro _ _ _
    | intro _ _
    | split
    | (dsimp only)
    | ((with_reducible refine Keeps.upd ?_ ?_); rotate_left; focus (first | exact ⟨rfl, rfl, rfl, rfl, rfl, rfl, rfl, rfl, rfl, rfl, rfl, rfl, rfl⟩ | (simp +zetaDelta [modAt]; done)))

theorem State.faultUpdate_keeps {s0 s : State} (h : Keeps s0 s) : ∀ x1 x2 x3, Keeps s0 (State.faultUpdate s x1 x2 x3) := by
  intro x1 x2 x3
  unfold State.faultUpdate
  repeat' first
    | with_reducible assumption
    | with_reducible apply State.put_keeps
    | with_reducible apply Keeps.ite
    | with_reducible apply Keeps.foldl
    | intro _ _ _
    | intro _ _
    | split
    | (dsimp only)
    | ((with_reducible refine Keeps.upd ?_ ?_); rotate_left; focus (first | exact ⟨rfl, rfl, rfl, rfl, rfl, rfl, rfl, rfl, rfl, rfl, rfl, rfl, rfl⟩ | (simp +zetaDelta [modAt]; done)))

theorem State.faultNow_keeps {s0 s : State} (h : Keeps s0 s) : ∀ x1 x2 x3 x4 x5, Keeps s0 (State.faultNow s x1 x2 x3 x4 x5) := by
  intro x1 x2 x3 x4 x5
  unfold State.faultNow
  repeat' first
    | with_reducible assumption
    | with_reducible apply State.faultDone_keeps
    | with_reducible apply State.faultRecord_keeps
    | with_reducible apply Keeps.ite
    | with_reducible apply Keeps.foldl
    | intro _ _ _
    | intro _ _
    | split
    | (dsimp only)
    | ((with_reducible refine Keeps.upd ?_ ?_); rotate_left; focus (first | exact ⟨rfl, rfl, rfl, rfl, rfl, rfl, rfl, rfl, rfl, rfl, rfl, rfl, rfl⟩ | (simp +zetaDelta [modAt]; done)))

theorem State.answer_keeps {s0 s : State} (h : Keeps s0 s) : ∀ x1 x2 x3, Keeps s0 (State.answer s x1 x2 x3) := by
  intro x1 x2 x3
  unfold State.answer
  repeat' first
    | with_reducible assumption
    | with_reducible apply Keeps.ite
    | with_reducible apply Keeps.foldl
    | intro _ _ _
    | intro _ _
    | split
    | (dsimp only)
    | ((with_reducible refine Keeps.upd ?_ ?_); rotate_left; focus (first | exact ⟨rfl, rfl, rfl, rfl, rfl, rfl, rfl, rfl, rfl, rfl, rfl, rfl, rfl⟩ | (simp +zetaDelta [modAt]; done)))

theorem State.latch_keeps {s0 s : State} (h : Keeps s0 s) : ∀ x1 x2, Keeps s0 (State.latch s x1 x2) := by
  intro x1 x2
  unfold State.latch
  repeat' first
    | with_reducible assumption
    | with_reducible apply Keeps.ite
    | with_reducible apply Keeps.foldl
    | intro _ _ _
    | intro _ _
    | split
    | (dsimp only)
    | ((with_reducible refine Keeps.upd ?_ ?_); rotate_left; focus (first | exact ⟨rfl, rfl, rfl, rfl, rfl, rfl, rfl, rfl, rfl, rfl, rfl, rfl, rfl⟩ | (simp +zetaDelta [modAt]; done)))

theorem State.hostWrite_keeps {s0 s : State} (h : Keeps s0 s) {x4 : State → State} (h4 : ∀ t, Keeps s0 t → Keeps s0 (x4 t)) : ∀ x1 x2 x3, Keeps s0 (State.hostWrite s x1 x2 x3 x4) := by
  intro x1 x2 x3
  unfold State.hostWrite
  repeat' first
    | with_reducible assumption
    | with_reducible apply State.bump_keeps
    | with_reducible apply h4
    | with_reducible apply Keeps.ite
    | with_reducible apply Keeps.foldl
    | intro _ _ _
    | intro _ _
    | split
    | (dsimp only)
    | ((with_reducible refine Keeps.upd ?_ ?_); rotate_left; focus (first | exact ⟨rfl, rfl, rfl, rfl, rfl, rfl, rfl, rfl, rfl, rfl, rfl, rfl, rfl⟩ | (simp +zetaDelta [modAt]; done)))

theorem State.hostRead_keeps {s0 s : State} (h : Keeps s0 s) {x3 : State → State} (h3 : ∀ t, Keeps s0 t → Keeps s0 (x3 t)) : ∀ x1 x2, Keeps s0 (State.hostRead s x1 x2 x3) := by
  intro x1 x2
  unfold State.hostRead
  repeat' first
    | with_reducible assumption
    | with_reducible apply State.answer_keeps
    | with_reducible apply h3
    | with_reducible apply Keeps.ite
    | with_reducible apply Keeps.foldl
    | intro _ _ _
    | intro _ _
    | split
    | (dsimp only)
    | ((with_reducible refine Keeps.upd ?_ ?_); rotate_left; focus (first | exact ⟨rfl, rfl, rfl, rfl, rfl, rfl, rfl, rfl, rfl, rfl, rfl, rfl, rfl⟩ | (simp +zetaDelta [modAt]; done)))

theorem State.tableWrite_keeps {s0 s : State} (h : Keeps s0 s) : ∀ x1 x2, Keeps s0 (State.tableWrite s x1 x2) := by
  intro x1 x2
  unfold State.tableWrite
  repeat' first
    | with_reducible assumption
    | with_reducible apply State.bump_keeps
    | with_reducible apply Keeps.wr
    | with_reducible apply Keeps.ite
    | with_reducible apply Keeps.foldl
    | intro _ _ _
    | intro _ _
    | split
    | (dsimp only)
    | ((with_reducible refine Keeps.upd ?_ ?_); rotate_left; focus (first | exact ⟨rfl, rfl, rfl, rfl, rfl, rfl, rfl, rfl, rfl, rfl, rfl, rfl, rfl⟩ | (simp +zetaDelta [modAt]; done)))

theorem State.setSlot_keeps {s0 s : State} (h : Keeps s0 s) : ∀ x1 x2 x3, Keeps s0 (State.setSlot s x1 x2 x3) := by
  intro x1 x2 x3
  unfold State.setSlot
  repeat' first
    | with_reducible assumption
    | with_reducible apply Keeps.ite
    | with_reducible apply Keeps.foldl
    | intro _ _ _
    | intro _ _
    | split
    | (dsimp only)
    | ((with_reducible refine Keeps.upd ?_ ?_); rotate_left; focus (first | exact ⟨rfl, rfl, rfl, rfl, rfl, rfl, rfl, rfl, rfl, rfl, rfl, rfl, rfl⟩ | (simp +zetaDelta [modAt]; done)))

theorem State.keyFlag_keeps {s0 s : State} (h : Keeps s0 s) : ∀ x1 x2 x3, Keeps s0 (State.keyFlag s x1 x2 x3) := by
  intro x1 x2 x3
  unfold State.keyFlag
  repeat' first
    | with_reducible assumption
    | with_reducible apply State.put_keeps
    | with_reducible apply State.raise_keeps
    | with_reducible apply Keeps.ite
    | with_reducible apply Keeps.foldl
    | intro _ _ _
    | intro _ _
    | split
    | (dsimp only)
    | ((with_reducible refine Keeps.upd ?_ ?_); rotate_left; focus (first | exact ⟨rfl, rfl, rfl, rfl, rfl, rfl, rfl, rfl, rfl, rfl, rfl, rfl, rfl⟩ | (simp +zetaDelta [modAt]; done)))

theorem State.takePn_keeps {s0 s : State} (h : Keeps s0 s) : ∀ x1 x2, Keeps s0 (State.takePn s x1 x2).2 := by
  intro x1 x2
  unfold State.takePn
  repeat' first
    | with_reducible assumption
    | with_reducible apply State.keyFlag_keeps
    | with_reducible apply State.setSlot_keeps
    | with_reducible apply Keeps.ite
    | with_reducible apply Keeps.foldl
    | intro _ _ _
    | intro _ _
    | split
    | (dsimp only)
    | ((with_reducible refine Keeps.upd ?_ ?_); rotate_left; focus (first | exact ⟨rfl, rfl, rfl, rfl, rfl, rfl, rfl, rfl, rfl, rfl, rfl, rfl, rfl⟩ | (simp +zetaDelta [modAt]; done)))

theorem State.takePn_keeps_eq {s0 s : State} (h : Keeps s0 s) {x1 x2 t a0} (e : (State.takePn s x1 x2) = (a0, t)) : Keeps s0 t := by
  have := State.takePn_keeps h x1 x2
  rw [e] at this
  exact this

theorem State.pnAssigned_keeps {s0 s : State} (h : Keeps s0 s) : ∀ x1 x2, Keeps s0 (State.pnAssigned s x1 x2) := by
  intro x1 x2
  unfold State.pnAssigned
  repeat' first
    | with_reducible assumption
    | with_reducible apply State.takePn_keeps
    | with_reducible apply State.bump_keeps
    | with_reducible refine State.takePn_keeps_eq ?_ (by with_reducible assumption)
    | with_reducible apply Keeps.ite
    | with_reducible apply Keeps.foldl
    | intro _ _ _
    | intro _ _
    | split
    | (dsimp only)
    | ((with_reducible refine Keeps.upd ?_ ?_); rotate_left; focus (first | exact ⟨rfl, rfl, rfl, rfl, rfl, rfl, rfl, rfl, rfl, rfl, rfl, rfl, rfl⟩ | (simp +zetaDelta [modAt]; done)))

theorem State.slotFault_keeps {s0 s : State} (h : Keeps s0 s) : ∀ x1 x2, Keeps s0 (State.slotFault s x1 x2) := by
  intro x1 x2
  unfold State.slotFault
  repeat' first
    | with_reducible assumption
    | with_reducible apply State.keyFlag_keeps
    | with_reducible apply State.setSlot_keeps
    | with_reducible apply Keeps.ite
    | with_reducible apply Keeps.foldl
    | intro _ _ _
    | intro _ _
    | split
    | (dsimp only)
    | ((with_reducible refine Keeps.upd ?_ ?_); rotate_left; focus (first | exact ⟨rfl, rfl, rfl, rfl, rfl, rfl, rfl, rfl, rfl, rfl, rfl, rfl, rfl⟩ | (simp +zetaDelta [modAt]; done)))

theorem State.clearStage_keeps {s0 s : State} (h : Keeps s0 s) : Keeps s0 (State.clearStage s) := by
  unfold State.clearStage
  repeat' first
    | with_reducible assumption
    | with_reducible apply Keeps.wr
    | with_reducible apply Keeps.ite
    | with_reducible apply Keeps.foldl
    | intro _ _ _
    | intro _ _
    | split
    | (dsimp only)
    | ((with_reducible refine Keeps.upd ?_ ?_); rotate_left; focus (first | exact ⟨rfl, rfl, rfl, rfl, rfl, rfl, rfl, rfl, rfl, rfl, rfl, rfl, rfl⟩ | (simp +zetaDelta [modAt]; done)))

theorem State.abandonRetries_keeps {s0 s : State} (h : Keeps s0 s) : ∀ x1 x2, Keeps s0 (State.abandonRetries s x1 x2) := by
  intro x1 x2
  unfold State.abandonRetries
  repeat' first
    | with_reducible assumption
    | with_reducible apply State.count_keeps
    | with_reducible apply Keeps.ite
    | with_reducible apply Keeps.foldl
    | intro _ _ _
    | intro _ _
    | split
    | (dsimp only)
    | ((with_reducible refine Keeps.upd ?_ ?_); rotate_left; focus (first | exact ⟨rfl, rfl, rfl, rfl, rfl, rfl, rfl, rfl, rfl, rfl, rfl, rfl, rfl⟩ | (simp +zetaDelta [modAt]; done)))

theorem State.setTx_keeps {s0 s : State} (h : Keeps s0 s) : ∀ x1, Keeps s0 (State.setTx s x1) := by
  intro x1
  unfold State.setTx
  repeat' first
    | with_reducible assumption
    | with_reducible apply Keeps.ite
    | with_reducible apply Keeps.foldl
    | intro _ _ _
    | intro _ _
    | split
    | (dsimp only)
    | ((with_reducible refine Keeps.upd ?_ ?_); rotate_left; focus (first | exact ⟨rfl, rfl, rfl, rfl, rfl, rfl, rfl, rfl, rfl, rfl, rfl, rfl, rfl⟩ | (simp +zetaDelta [modAt]; done)))

theorem State.keyLoaded_keeps {s0 s : State} (h : Keeps s0 s) : ∀ x1 x2 x3 x4, Keeps s0 (State.keyLoaded s x1 x2 x3 x4) := by
  intro x1 x2 x3 x4
  unfold State.keyLoaded
  repeat' first
    | with_reducible assumption
    | with_reducible apply State.setSlot_keeps
    | with_reducible apply State.abandonRetries_keeps
    | with_reducible apply Keeps.ite
    | with_reducible apply Keeps.foldl
    | intro _ _ _
    | intro _ _
    | split
    | (dsimp only)
    | ((with_reducible refine Keeps.upd ?_ ?_); rotate_left; focus (first | exact ⟨rfl, rfl, rfl, rfl, rfl, rfl, rfl, rfl, rfl, rfl, rfl, rfl, rfl⟩ | (simp +zetaDelta [modAt]; done)))

theorem State.keyShown_keeps {s0 s : State} (h : Keeps s0 s) : ∀ x1 x2, Keeps s0 (State.keyShown s x1 x2) := by
  intro x1 x2
  unfold State.keyShown
  repeat' first
    | with_reducible assumption
    | with_reducible apply Keeps.wr
    | with_reducible apply Keeps.ite
    | with_reducible apply Keeps.foldl
    | intro _ _ _
    | intro _ _
    | split
    | (dsimp only)
    | ((with_reducible refine Keeps.upd ?_ ?_); rotate_left; focus (first | exact ⟨rfl, rfl, rfl, rfl, rfl, rfl, rfl, rfl, rfl, rfl, rfl, rfl, rfl⟩ | (simp +zetaDelta [modAt]; done)))

theorem State.keyCmdWrite_keeps {s0 s : State} (h : Keeps s0 s) : ∀ x1, Keeps s0 (State.keyCmdWrite s x1) := by
  intro x1
  unfold State.keyCmdWrite
  repeat' first
    | with_reducible assumption
    | with_reducible apply State.bump_keeps
    | with_reducible apply State.keyLoaded_keeps
    | with_reducible apply State.setSlot_keeps
    | with_reducible apply State.abandonRetries_keeps
    | with_reducible apply State.keyShown_keeps
    | with_reducible apply State.setTx_keeps
    | with_reducible apply Keeps.wr
    | with_reducible apply State.clearStage_keeps
    | with_reducible apply Keeps.ite
    | with_reducible apply Keeps.foldl
    | intro _ _ _
    | intro _ _
    | split
    | (dsimp only)
    | ((with_reducible refine Keeps.upd ?_ ?_); rotate_left; focus (first | exact ⟨rfl, rfl, rfl, rfl, rfl, rfl, rfl, rfl, rfl, rfl, rfl, rfl, rfl⟩ | (simp +zetaDelta [modAt]; done)))

theorem State.zeroise_keeps {s0 s : State} (h : Keeps s0 s) : Keeps s0 (State.zeroise s) := by
  unfold State.zeroise
  repeat' first
    | with_reducible assumption
    | with_reducible apply Keeps.wr
    | with_reducible apply State.clearStage_keeps
    | with_reducible apply Keeps.ite
    | with_reducible apply Keeps.foldl
    | intro _ _ _
    | intro _ _
    | split
    | (dsimp only)
    | ((with_reducible refine Keeps.upd ?_ ?_); rotate_left; focus (first | exact ⟨rfl, rfl, rfl, rfl, rfl, rfl, rfl, rfl, rfl, rfl, rfl, rfl, rfl⟩ | (simp +zetaDelta [modAt]; done)))

theorem State.sealFree_keeps {s0 s : State} (h : Keeps s0 s) : Keeps s0 (State.sealFree s) := by
  unfold State.sealFree
  repeat' first
    | with_reducible assumption
    | with_reducible apply Keeps.wr
    | with_reducible apply State.put_keeps
    | with_reducible apply Keeps.ite
    | with_reducible apply Keeps.foldl
    | intro _ _ _
    | intro _ _
    | split
    | (dsimp only)
    | ((with_reducible refine Keeps.upd ?_ ?_); rotate_left; focus (first | exact ⟨rfl, rfl, rfl, rfl, rfl, rfl, rfl, rfl, rfl, rfl, rfl, rfl, rfl⟩ | (simp +zetaDelta [modAt]; done)))

theorem State.sealEnd_keeps {s0 s : State} (h : Keeps s0 s) : ∀ x1, Keeps s0 (State.sealEnd s x1) := by
  intro x1
  unfold State.sealEnd
  repeat' first
    | with_reducible assumption
    | with_reducible apply State.raise_keeps
    | with_reducible apply State.put_keeps
    | with_reducible apply State.sealFree_keeps
    | with_reducible apply Keeps.ite
    | with_reducible apply Keeps.foldl
    | intro _ _ _
    | intro _ _
    | split
    | (dsimp only)
    | ((with_reducible refine Keeps.upd ?_ ?_); rotate_left; focus (first | exact ⟨rfl, rfl, rfl, rfl, rfl, rfl, rfl, rfl, rfl, rfl, rfl, rfl, rfl⟩ | (simp +zetaDelta [modAt]; done)))

theorem State.lastWake_keeps {s0 s : State} (h : Keeps s0 s) : ∀ x1 x2, Keeps s0 (State.lastWake s x1 x2) := by
  intro x1 x2
  unfold State.lastWake
  repeat' first
    | with_reducible assumption
    | with_reducible apply Keeps.wr
    | with_reducible apply Keeps.ite
    | with_reducible apply Keeps.foldl
    | intro _ _ _
    | intro _ _
    | split
    | (dsimp only)
    | ((with_reducible refine Keeps.upd ?_ ?_); rotate_left; focus (first | exact ⟨rfl, rfl, rfl, rfl, rfl, rfl, rfl, rfl, rfl, rfl, rfl, rfl, rfl⟩ | (simp +zetaDelta [modAt]; done)))

theorem State.funcMod_keeps {s0 s : State} (h : Keeps s0 s) : ∀ x1 x2, Keeps s0 (State.funcMod s x1 x2) := by
  intro x1 x2
  unfold State.funcMod
  repeat' first
    | with_reducible assumption
    | with_reducible apply Keeps.ite
    | with_reducible apply Keeps.foldl
    | intro _ _ _
    | intro _ _
    | split
    | (dsimp only)
    | ((with_reducible refine Keeps.upd ?_ ?_); rotate_left; focus (first | exact ⟨rfl, rfl, rfl, rfl, rfl, rfl, rfl, rfl, rfl, rfl, rfl, rfl, rfl⟩ | (simp +zetaDelta [modAt]; done)))

theorem State.funcShow_keeps {s0 s : State} (h : Keeps s0 s) : Keeps s0 (State.funcShow s) := by
  unfold State.funcShow
  repeat' first
    | with_reducible assumption
    | with_reducible apply Keeps.wr
    | with_reducible apply Keeps.ite
    | with_reducible apply Keeps.foldl
    | intro _ _ _
    | intro _ _
    | split
    | (dsimp only)
    | ((with_reducible refine Keeps.upd ?_ ?_); rotate_left; focus (first | exact ⟨rfl, rfl, rfl, rfl, rfl, rfl, rfl, rfl, rfl, rfl, rfl, rfl, rfl⟩ | (simp +zetaDelta [modAt]; done)))

theorem State.funcApply_keeps {s0 s : State} (h : Keeps s0 s) : ∀ x1, Keeps s0 (State.funcApply s x1) := by
  intro x1
  unfold State.funcApply
  repeat' first
    | with_reducible assumption
    | with_reducible apply State.funcShow_keeps
    | with_reducible apply Keeps.ite
    | with_reducible apply Keeps.foldl
    | intro _ _ _
    | intro _ _
    | split
    | (dsimp only)
    | ((with_reducible refine Keeps.upd ?_ ?_); rotate_left; focus (first | exact ⟨rfl, rfl, rfl, rfl, rfl, rfl, rfl, rfl, rfl, rfl, rfl, rfl, rfl⟩ | (simp +zetaDelta [modAt]; done)))

theorem State.funcWrite_keeps {s0 s : State} (h : Keeps s0 s) : ∀ x1, Keeps s0 (State.funcWrite s x1) := by
  intro x1
  unfold State.funcWrite
  repeat' first
    | with_reducible assumption
    | with_reducible apply Keeps.wr
    | with_reducible apply State.funcApply_keeps
    | with_reducible apply Keeps.ite
    | with_reducible apply Keeps.foldl
    | intro _ _ _
    | intro _ _
    | split
    | (dsimp only)
    | ((with_reducible refine Keeps.upd ?_ ?_); rotate_left; focus (first | exact ⟨rfl, rfl, rfl, rfl, rfl, rfl, rfl, rfl, rfl, rfl, rfl, rfl, rfl⟩ | (simp +zetaDelta [modAt]; done)))

theorem State.heldFuncApply_keeps {s0 s : State} (h : Keeps s0 s) : Keeps s0 (State.heldFuncApply s) := by
  unfold State.heldFuncApply
  repeat' first
    | with_reducible assumption
    | with_reducible apply State.funcApply_keeps
    | with_reducible apply Keeps.ite
    | with_reducible apply Keeps.foldl
    | intro _ _ _
    | intro _ _
    | split
    | (dsimp only)
    | ((with_reducible refine Keeps.upd ?_ ?_); rotate_left; focus (first | exact ⟨rfl, rfl, rfl, rfl, rfl, rfl, rfl, rfl, rfl, rfl, rfl, rfl, rfl⟩ | (simp +zetaDelta [modAt]; done)))

theorem State.pwrRelease_keeps {s0 s : State} (h : Keeps s0 s) : ∀ x1 x2 x3, Keeps s0 (State.pwrRelease s x1 x2 x3) := by
  intro x1 x2 x3
  unfold State.pwrRelease
  repeat' first
    | with_reducible assumption
    | with_reducible apply Keeps.wr
    | with_reducible apply State.heldFuncApply_keeps
    | with_reducible apply Keeps.ite
    | with_reducible apply Keeps.foldl
    | intro _ _ _
    | intro _ _
    | split
    | (dsimp only)
    | ((with_reducible refine Keeps.upd ?_ ?_); rotate_left; focus (first | exact ⟨rfl, rfl, rfl, rfl, rfl, rfl, rfl, rfl, rfl, rfl, rfl, rfl, rfl⟩ | (simp +zetaDelta [modAt]; done)))

theorem State.pwrTakeover_keeps {s0 s : State} (h : Keeps s0 s) : Keeps s0 (State.pwrTakeover s) := by
  unfold State.pwrTakeover
  repeat' first
    | with_reducible assumption
    | with_reducible apply State.pwrRelease_keeps
    | with_reducible apply Keeps.ite
    | with_reducible apply Keeps.foldl
    | intro _ _ _
    | intro _ _
    | split
    | (dsimp only)
    | ((with_reducible refine Keeps.upd ?_ ?_); rotate_left; focus (first | exact ⟨rfl, rfl, rfl, rfl, rfl, rfl, rfl, rfl, rfl, rfl, rfl, rfl, rfl⟩ | (simp +zetaDelta [modAt]; done)))

theorem State.edgeWake_keeps {s0 s : State} (h : Keeps s0 s) : ∀ x1, Keeps s0 (State.edgeWake s x1) := by
  intro x1
  unfold State.edgeWake
  repeat' first
    | with_reducible assumption
    | with_reducible apply State.pwrRelease_keeps
    | with_reducible apply State.lastWake_keeps
    | with_reducible apply State.bump_keeps
    | with_reducible apply Keeps.ite
    | with_reducible apply Keeps.foldl
    | intro _ _ _
    | intro _ _
    | split
    | (dsimp only)
    | ((with_reducible refine Keeps.upd ?_ ?_); rotate_left; focus (first | exact ⟨rfl, rfl, rfl, rfl, rfl, rfl, rfl, rfl, rfl, rfl, rfl, rfl, rfl⟩ | (simp +zetaDelta [modAt]; done)))

theorem State.tinWake_keeps {s0 s : State} (h : Keeps s0 s) : ∀ x1, Keeps s0 (State.tinWake s x1) := by
  intro x1
  unfold State.tinWake
  repeat' first
    | with_reducible assumption
    | with_reducible apply State.edgeWake_keeps
    | with_reducible apply Keeps.ite
    | with_reducible apply Keeps.foldl
    | intro _ _ _
    | intro _ _
    | split
    | (dsimp only)
    | ((with_reducible refine Keeps.upd ?_ ?_); rotate_left; focus (first | exact ⟨rfl, rfl, rfl, rfl, rfl, rfl, rfl, rfl, rfl, rfl, rfl, rfl, rfl⟩ | (simp +zetaDelta [modAt]; done)))

theorem State.cmpWake_keeps {s0 s : State} (h : Keeps s0 s) : ∀ x1, Keeps s0 (State.cmpWake s x1) := by
  intro x1
  unfold State.cmpWake
  repeat' first
    | with_reducible assumption
    | with_reducible apply State.edgeWake_keeps
    | with_reducible apply Keeps.ite
    | with_reducible apply Keeps.foldl
    | intro _ _ _
    | intro _ _
    | split
    | (dsimp only)
    | ((with_reducible refine Keeps.upd ?_ ?_); rotate_left; focus (first | exact ⟨rfl, rfl, rfl, rfl, rfl, rfl, rfl, rfl, rfl, rfl, rfl, rfl, rfl⟩ | (simp +zetaDelta [modAt]; done)))

theorem State.tbMod_keeps {s0 s : State} (h : Keeps s0 s) : ∀ x1 x2, Keeps s0 (State.tbMod s x1 x2) := by
  intro x1 x2
  unfold State.tbMod
  repeat' first
    | with_reducible assumption
    | with_reducible apply Keeps.ite
    | with_reducible apply Keeps.foldl
    | intro _ _ _
    | intro _ _
    | split
    | (dsimp only)
    | ((with_reducible refine Keeps.upd ?_ ?_); rotate_left; focus (first | exact ⟨rfl, rfl, rfl, rfl, rfl, rfl, rfl, rfl, rfl, rfl, rfl, rfl, rfl⟩ | (simp +zetaDelta [modAt]; done)))

@[simp] theorem State.tickAll_length (s : State) (dt : Nat) : (s.tickAll dt).length = s.tim.tb.length := by simp [State.tickAll]

theorem State.tickBases_keeps {s0 s : State} (h : Keeps s0 s) : ∀ x1, Keeps s0 (State.tickBases s x1) := by
  intro x1
  unfold State.tickBases
  extract_lets t1 t jumped u1 u
  have k : Keeps s0 u := by
    refine Keeps.upd h ?_
    simp +zetaDelta
  refine Keeps.ite ?_ k
  refine Keeps.upd k ?_
  simp

theorem State.capture_keeps {s0 s : State} (h : Keeps s0 s) : ∀ x1 x2 x3, Keeps s0 (State.capture s x1 x2 x3) := by
  intro x1 x2 x3
  unfold State.capture
  repeat' first
    | with_reducible assumption
    | with_reducible apply State.put_keeps
    | with_reducible apply State.raise_keeps
    | with_reducible apply State.bump_keeps
    | with_reducible apply Keeps.ite
    | with_reducible apply Keeps.foldl
    | intro _ _ _
    | intro _ _
    | split
    | (dsimp only)
    | ((with_reducible refine Keeps.upd ?_ ?_); rotate_left; focus (first | exact ⟨rfl, rfl, rfl, rfl, rfl, rfl, rfl, rfl, rfl, rfl, rfl, rfl, rfl⟩ | (simp +zetaDelta [modAt]; done)))

theorem State.captureAll_keeps {s0 s : State} (h : Keeps s0 s) : ∀ x1 x2 x3, Keeps s0 (State.captureAll s x1 x2 x3) := by
  intro x1 x2 x3
  unfold State.captureAll
  repeat' first
    | with_reducible assumption
    | with_reducible apply State.capture_keeps
    | with_reducible apply Keeps.ite
    | with_reducible apply Keeps.foldl
    | intro _ _ _
    | intro _ _
    | split
    | (dsimp only)
    | ((with_reducible refine Keeps.upd ?_ ?_); rotate_left; focus (first | exact ⟨rfl, rfl, rfl, rfl, rfl, rfl, rfl, rfl, rfl, rfl, rfl, rfl, rfl⟩ | (simp +zetaDelta [modAt]; done)))

theorem State.calAlarmCheck_keeps {s0 s : State} (h : Keeps s0 s) : Keeps s0 (State.calAlarmCheck s) := by
  unfold State.calAlarmCheck
  repeat' first
    | with_reducible assumption
    | with_reducible apply State.raise_keeps
    | with_reducible apply Keeps.ite
    | with_reducible apply Keeps.foldl
    | intro _ _ _
    | intro _ _
    | split
    | (dsimp only)
    | ((with_reducible refine Keeps.upd ?_ ?_); rotate_left; focus (first | exact ⟨rfl, rfl, rfl, rfl, rfl, rfl, rfl, rfl, rfl, rfl, rfl, rfl, rfl⟩ | (simp +zetaDelta [modAt]; done)))

theorem State.calSetApply_keeps {s0 s : State} (h : Keeps s0 s) : Keeps s0 (State.calSetApply s) := by
  unfold State.calSetApply
  repeat' first
    | with_reducible assumption
    | with_reducible apply State.put_keeps
    | with_reducible apply Keeps.ite
    | with_reducible apply Keeps.foldl
    | intro _ _ _
    | intro _ _
    | split
    | (dsimp only)
    | ((with_reducible refine Keeps.upd ?_ ?_); rotate_left; focus (first | exact ⟨rfl, rfl, rfl, rfl, rfl, rfl, rfl, rfl, rfl, rfl, rfl, rfl, rfl⟩ | (simp +zetaDelta [modAt]; done)))

theorem State.leapDone_keeps {s0 s : State} (h : Keeps s0 s) : ∀ x1, Keeps s0 (State.leapDone s x1) := by
  intro x1
  unfold State.leapDone
  repeat' first
    | with_reducible assumption
    | with_reducible apply State.put_keeps
    | with_reducible apply Keeps.ite
    | with_reducible apply Keeps.foldl
    | intro _ _ _
    | intro _ _
    | split
    | (dsimp only)
    | ((with_reducible refine Keeps.upd ?_ ?_); rotate_left; focus (first | exact ⟨rfl, rfl, rfl, rfl, rfl, rfl, rfl, rfl, rfl, rfl, rfl, rfl, rfl⟩ | (simp +zetaDelta [modAt]; done)))

theorem State.calWrap_keeps {s0 s : State} (h : Keeps s0 s) : Keeps s0 (State.calWrap s) := by
  unfold State.calWrap
  repeat' first
    | with_reducible assumption
    | with_reducible apply State.leapDone_keeps
    | with_reducible apply Keeps.ite
    | with_reducible apply Keeps.foldl
    | intro _ _ _
    | intro _ _
    | split
    | (dsimp only)
    | ((with_reducible refine Keeps.upd ?_ ?_); rotate_left; focus (first | exact ⟨rfl, rfl, rfl, rfl, rfl, rfl, rfl, rfl, rfl, rfl, rfl, rfl, rfl⟩ | (simp +zetaDelta [modAt]; done)))

theorem State.tclkHalt_keeps {s0 s : State} (h : Keeps s0 s) : Keeps s0 (State.tclkHalt s) := by
  unfold State.tclkHalt
  repeat' first
    | with_reducible assumption
    | with_reducible apply Keeps.ite
    | with_reducible apply Keeps.foldl
    | intro _ _ _
    | intro _ _
    | split
    | (dsimp only)
    | ((with_reducible refine Keeps.upd ?_ ?_); rotate_left; focus (first | exact ⟨rfl, rfl, rfl, rfl, rfl, rfl, rfl, rfl, rfl, rfl, rfl, rfl, rfl⟩ | (simp +zetaDelta [modAt]; done)))

theorem State.carryEdge_keeps {s0 s : State} (h : Keeps s0 s) : Keeps s0 (State.carryEdge s) := by
  unfold State.carryEdge
  repeat' first
    | with_reducible assumption
    | with_reducible apply State.tickBases_keeps
    | with_reducible apply Keeps.ite
    | with_reducible apply Keeps.foldl
    | intro _ _ _
    | intro _ _
    | split
    | (dsimp only)
    | ((with_reducible refine Keeps.upd ?_ ?_); rotate_left; focus (first | exact ⟨rfl, rfl, rfl, rfl, rfl, rfl, rfl, rfl, rfl, rfl, rfl, rfl, rfl⟩ | (simp +zetaDelta [modAt]; done)))

theorem State.calTick_keeps {s0 s : State} (h : Keeps s0 s) : Keeps s0 (State.calTick s) := by
  unfold State.calTick
  repeat' first
    | with_reducible assumption
    | with_reducible apply State.captureAll_keeps
    | with_reducible apply State.calWrap_keeps
    | with_reducible apply Keeps.ite
    | with_reducible apply Keeps.foldl
    | intro _ _ _
    | intro _ _
    | split
    | (dsimp only)
    | ((with_reducible refine Keeps.upd ?_ ?_); rotate_left; focus (first | exact ⟨rfl, rfl, rfl, rfl, rfl, rfl, rfl, rfl, rfl, rfl, rfl, rfl, rfl⟩ | (simp +zetaDelta [modAt]; done)))

theorem State.xoEdge_keeps {s0 s : State} (h : Keeps s0 s) : Keeps s0 (State.xoEdge s) := by
  unfold State.xoEdge
  repeat' first
    | with_reducible assumption
    | with_reducible apply State.calAlarmCheck_keeps
    | with_reducible apply State.calSetApply_keeps
    | with_reducible apply State.calTick_keeps
    | with_reducible apply State.carryEdge_keeps
    | with_reducible apply Keeps.ite
    | with_reducible apply Keeps.foldl
    | intro _ _ _
    | intro _ _
    | split
    | (dsimp only)
    | ((with_reducible refine Keeps.upd ?_ ?_); rotate_left; focus (first | exact ⟨rfl, rfl, rfl, rfl, rfl, rfl, rfl, rfl, rfl, rfl, rfl, rfl, rfl⟩ | (simp +zetaDelta [modAt]; done)))

theorem State.nextEdge_keeps {s0 s : State} (h : Keeps s0 s) : Keeps s0 (State.nextEdge s) := by
  unfold State.nextEdge
  repeat' first
    | with_reducible assumption
    | with_reducible apply State.xoEdge_keeps
    | with_reducible apply Keeps.ite
    | with_reducible apply Keeps.foldl
    | intro _ _ _
    | intro _ _
    | split
    | (dsimp only)
    | ((with_reducible refine Keeps.upd ?_ ?_); rotate_left; focus (first | exact ⟨rfl, rfl, rfl, rfl, rfl, rfl, rfl, rfl, rfl, rfl, rfl, rfl, rfl⟩ | (simp +zetaDelta [modAt]; done)))

theorem State.tclkResume_keeps {s0 s : State} (h : Keeps s0 s) : Keeps s0 (State.tclkResume s) := by
  unfold State.tclkResume
  repeat' first
    | with_reducible assumption
    | with_reducible apply State.nextEdge_keeps
    | with_reducible apply Keeps.ite
    | with_reducible apply Keeps.foldl
    | intro _ _ _
    | intro _ _
    | split
    | (dsimp only)
    | ((with_reducible refine Keeps.upd ?_ ?_); rotate_left; focus (first | exact ⟨rfl, rfl, rfl, rfl, rfl, rfl, rfl, rfl, rfl, rfl, rfl, rfl, rfl⟩ | (simp +zetaDelta [modAt]; done)))

theorem State.txStamp_keeps {s0 s : State} (h : Keeps s0 s) : ∀ x1 x2 x3 x4, Keeps s0 (State.txStamp s x1 x2 x3 x4) := by
  intro x1 x2 x3 x4
  unfold State.txStamp
  repeat' first
    | with_reducible assumption
    | with_reducible apply State.put_keeps
    | with_reducible apply State.raise_keeps
    | with_reducible apply State.bump_keeps
    | with_reducible apply Keeps.ite
    | with_reducible apply Keeps.foldl
    | intro _ _ _
    | intro _ _
    | split
    | (dsimp only)
    | ((with_reducible refine Keeps.upd ?_ ?_); rotate_left; focus (first | exact ⟨rfl, rfl, rfl, rfl, rfl, rfl, rfl, rfl, rfl, rfl, rfl, rfl, rfl⟩ | (simp +zetaDelta [modAt]; done)))

theorem State.stampAsk_keeps {s0 s : State} (h : Keeps s0 s) : ∀ x1 x2 x3, Keeps s0 (State.stampAsk s x1 x2 x3) := by
  intro x1 x2 x3
  unfold State.stampAsk
  repeat' first
    | with_reducible assumption
    | with_reducible apply Keeps.ite
    | with_reducible apply Keeps.foldl
    | intro _ _ _
    | intro _ _
    | split
    | (dsimp only)
    | ((with_reducible refine Keeps.upd ?_ ?_); rotate_left; focus (first | exact ⟨rfl, rfl, rfl, rfl, rfl, rfl, rfl, rfl, rfl, rfl, rfl, rfl, rfl⟩ | (simp +zetaDelta [modAt]; done)))

theorem State.drivePin_keeps {s0 s : State} (h : Keeps s0 s) : ∀ x1 x2, Keeps s0 (State.drivePin s x1 x2) := by
  intro x1 x2
  unfold State.drivePin
  repeat' first
    | with_reducible assumption
    | with_reducible apply State.captureAll_keeps
    | with_reducible apply Keeps.ite
    | with_reducible apply Keeps.foldl
    | intro _ _ _
    | intro _ _
    | split
    | (dsimp only)
    | ((with_reducible refine Keeps.upd ?_ ?_); rotate_left; focus (first | exact ⟨rfl, rfl, rfl, rfl, rfl, rfl, rfl, rfl, rfl, rfl, rfl, rfl, rfl⟩ | (simp +zetaDelta [modAt]; done)))

theorem State.pulseTick_keeps {s0 s : State} (h : Keeps s0 s) : Keeps s0 (State.pulseTick s) := by
  unfold State.pulseTick
  repeat' first
    | with_reducible assumption
    | with_reducible apply State.drivePin_keeps
    | with_reducible apply Keeps.ite
    | with_reducible apply Keeps.foldl
    | intro _ _ _
    | intro _ _
    | split
    | (dsimp only)
    | ((with_reducible refine Keeps.upd ?_ ?_); rotate_left; focus (first | exact ⟨rfl, rfl, rfl, rfl, rfl, rfl, rfl, rfl, rfl, rfl, rfl, rfl, rfl⟩ | (simp +zetaDelta [modAt]; done)))

theorem State.idleTick_keeps {s0 s : State} (h : Keeps s0 s) : Keeps s0 (State.idleTick s) := by
  unfold State.idleTick
  repeat' first
    | with_reducible assumption
    | with_reducible apply State.pulseTick_keeps
    | with_reducible apply State.tickBases_keeps
    | with_reducible apply State.xoEdge_keeps
    | with_reducible apply Keeps.ite
    | with_reducible apply Keeps.foldl
    | intro _ _ _
    | intro _ _
    | split
    | (dsimp only)
    | ((with_reducible refine Keeps.upd ?_ ?_); rotate_left; focus (first | exact ⟨rfl, rfl, rfl, rfl, rfl, rfl, rfl, rfl, rfl, rfl, rfl, rfl, rfl⟩ | (simp +zetaDelta [modAt]; done)))

end Sys2Proof.Machine
end

