-- ==== Sys2Proof/Laws/Keeps2.lean ====
section
/-! SUPPORT. What the operations of TimeRows, Graticule, Links, Chains, ChainRows keep. -/

namespace Sys2Proof.Machine

theorem State.tbCommit_keeps {s0 s : State} (h : Keeps s0 s) {x3 : State → State} (h3 : ∀ t, Keeps s0 t → Keeps s0 (x3 t)) : ∀ x1 x2, Keeps s0 (State.tbCommit s x1 x2 x3) := by
  intro x1 x2
  unfold State.tbCommit
  repeat' first
    | with_reducible assumption
    | with_reducible apply State.bump_keeps
    | with_reducible apply h3
    | with_reducible apply Keeps.ite
    | with_reducible apply Keeps.foldl
    | intro _ _ _
    | intro _ _
    | split
    | (dsimp only)
    | ((with_reducible refine Keeps.upd ?_ ?_); rotate_left; focus (first | exact ⟨rfl, rfl, rfl, rfl, rfl, rfl, rfl, rfl, rfl, rfl, rfl, rfl, rfl⟩ | (simp +zetaDelta [modAt]; done)))

theorem State.ptpHeld_keeps {s0 s : State} (h : Keeps s0 s) : ∀ x1, Keeps s0 (State.ptpHeld s x1) := by
  intro x1
  unfold State.ptpHeld
  repeat' first
    | with_reducible assumption
    | with_reducible apply Keeps.ite
    | with_reducible apply Keeps.foldl
    | intro _ _ _
    | intro _ _
    | split
    | (dsimp only)
    | ((with_reducible refine Keeps.upd ?_ ?_); rotate_left; focus (first | exact ⟨rfl, rfl, rfl, rfl, rfl, rfl, rfl, rfl, rfl, rfl, rfl, rfl, rfl⟩ | (simp +zetaDelta [modAt]; done)))

theorem State.tbCtrlWrite_keeps {s0 s : State} (h : Keeps s0 s) : ∀ x1 x2, Keeps s0 (State.tbCtrlWrite s x1 x2) := by
  intro x1 x2
  unfold State.tbCtrlWrite
  repeat' first
    | with_reducible assumption
    | with_reducible apply State.bump_keeps
    | with_reducible apply State.put_keeps
    | with_reducible apply State.ptpHeld_keeps
    | with_reducible apply State.tbMod_keeps
    | with_reducible apply Keeps.ite
    | with_reducible apply Keeps.foldl
    | intro _ _ _
    | intro _ _
    | split
    | (dsimp only)
    | ((with_reducible refine Keeps.upd ?_ ?_); rotate_left; focus (first | exact ⟨rfl, rfl, rfl, rfl, rfl, rfl, rfl, rfl, rfl, rfl, rfl, rfl, rfl⟩ | (simp +zetaDelta [modAt]; done)))

theorem State.tbStepWrite_keeps {s0 s : State} (h : Keeps s0 s) : ∀ x1 x2, Keeps s0 (State.tbStepWrite s x1 x2) := by
  intro x1 x2
  unfold State.tbStepWrite
  repeat' first
    | with_reducible assumption
    | with_reducible apply State.tbCommit_keeps
    | with_reducible apply State.tbMod_keeps
    | with_reducible apply Keeps.ite
    | with_reducible apply Keeps.foldl
    | intro _ _ _
    | intro _ _
    | split
    | (dsimp only)
    | ((with_reducible refine Keeps.upd ?_ ?_); rotate_left; focus (first | exact ⟨rfl, rfl, rfl, rfl, rfl, rfl, rfl, rfl, rfl, rfl, rfl, rfl, rfl⟩ | (simp +zetaDelta [modAt]; done)))

theorem State.tbSlewWrite_keeps {s0 s : State} (h : Keeps s0 s) : ∀ x1 x2, Keeps s0 (State.tbSlewWrite s x1 x2) := by
  intro x1 x2
  unfold State.tbSlewWrite
  repeat' first
    | with_reducible assumption
    | with_reducible apply State.tbCommit_keeps
    | with_reducible apply State.tbMod_keeps
    | with_reducible apply State.ptpHeld_keeps
    | with_reducible apply Keeps.ite
    | with_reducible apply Keeps.foldl
    | intro _ _ _
    | intro _ _
    | split
    | (dsimp only)
    | ((with_reducible refine Keeps.upd ?_ ?_); rotate_left; focus (first | exact ⟨rfl, rfl, rfl, rfl, rfl, rfl, rfl, rfl, rfl, rfl, rfl, rfl, rfl⟩ | (simp +zetaDelta [modAt]; done)))

theorem State.tbRateWrite_keeps {s0 s : State} (h : Keeps s0 s) : ∀ x1 x2, Keeps s0 (State.tbRateWrite s x1 x2) := by
  intro x1 x2
  unfold State.tbRateWrite
  repeat' first
    | with_reducible assumption
    | with_reducible apply State.tbCommit_keeps
    | with_reducible apply State.tbMod_keeps
    | with_reducible apply State.put_keeps
    | with_reducible apply State.ptpHeld_keeps
    | with_reducible apply Keeps.ite
    | with_reducible apply Keeps.foldl
    | intro _ _ _
    | intro _ _
    | split
    | (dsimp only)
    | ((with_reducible refine Keeps.upd ?_ ?_); rotate_left; focus (first | exact ⟨rfl, rfl, rfl, rfl, rfl, rfl, rfl, rfl, rfl, rfl, rfl, rfl, rfl⟩ | (simp +zetaDelta [modAt]; done)))

theorem State.steer_keeps {s0 s : State} (h : Keeps s0 s) : ∀ x1, Keeps s0 (State.steer s x1) := by
  intro x1
  unfold State.steer
  repeat' first
    | with_reducible assumption
    | with_reducible apply Keeps.ite
    | with_reducible apply Keeps.foldl
    | intro _ _ _
    | intro _ _
    | split
    | (dsimp only)
    | ((with_reducible refine Keeps.upd ?_ ?_); rotate_left; focus (first | exact ⟨rfl, rfl, rfl, rfl, rfl, rfl, rfl, rfl, rfl, rfl, rfl, rfl, rfl⟩ | (simp +zetaDelta [modAt]; done)))

theorem State.servoApply_keeps {s0 s : State} (h : Keeps s0 s) : ∀ x1 x2, Keeps s0 (State.servoApply s x1 x2) := by
  intro x1 x2
  unfold State.servoApply
  repeat' first
    | with_reducible assumption
    | with_reducible apply State.freeInt_keeps
    | with_reducible apply State.steer_keeps
    | with_reducible apply Keeps.wr
    | with_reducible refine State.freeInt_keeps_eq ?_ (by with_reducible assumption)
    | with_reducible apply Keeps.ite
    | with_reducible apply Keeps.foldl
    | intro _ _ _
    | intro _ _
    | split
    | (dsimp only)
    | ((with_reducible refine Keeps.upd ?_ ?_); rotate_left; focus (first | exact ⟨rfl, rfl, rfl, rfl, rfl, rfl, rfl, rfl, rfl, rfl, rfl, rfl, rfl⟩ | (simp +zetaDelta [modAt]; done)))

theorem State.capCtrlWrite_keeps {s0 s : State} (h : Keeps s0 s) : ∀ x1 x2, Keeps s0 (State.capCtrlWrite s x1 x2) := by
  intro x1 x2
  unfold State.capCtrlWrite
  repeat' first
    | with_reducible assumption
    | with_reducible apply State.bump_keeps
    | with_reducible apply Keeps.wr
    | with_reducible apply State.capture_keeps
    | with_reducible apply Keeps.ite
    | with_reducible apply Keeps.foldl
    | intro _ _ _
    | intro _ _
    | split
    | (dsimp only)
    | ((with_reducible refine Keeps.upd ?_ ?_); rotate_left; focus (first | exact ⟨rfl, rfl, rfl, rfl, rfl, rfl, rfl, rfl, rfl, rfl, rfl, rfl, rfl⟩ | (simp +zetaDelta [modAt]; done)))

theorem State.capRead_keeps {s0 s : State} (h : Keeps s0 s) : ∀ x1 x2, Keeps s0 (State.capRead s x1 x2) := by
  intro x1 x2
  unfold State.capRead
  repeat' first
    | with_reducible assumption
    | with_reducible apply State.answer_keeps
    | with_reducible apply State.put_keeps
    | with_reducible apply State.latch_keeps
    | with_reducible apply Keeps.ite
    | with_reducible apply Keeps.foldl
    | intro _ _ _
    | intro _ _
    | split
    | (dsimp only)
    | ((with_reducible refine Keeps.upd ?_ ?_); rotate_left; focus (first | exact ⟨rfl, rfl, rfl, rfl, rfl, rfl, rfl, rfl, rfl, rfl, rfl, rfl, rfl⟩ | (simp +zetaDelta [modAt]; done)))

theorem State.cmpArmCheck_keeps {s0 s : State} (h : Keeps s0 s) : ∀ x1, Keeps s0 (State.cmpArmCheck s x1) := by
  intro x1
  unfold State.cmpArmCheck
  repeat' first
    | with_reducible assumption
    | with_reducible apply Keeps.ite
    | with_reducible apply Keeps.foldl
    | intro _ _ _
    | intro _ _
    | split
    | (dsimp only)
    | ((with_reducible refine Keeps.upd ?_ ?_); rotate_left; focus (first | exact ⟨rfl, rfl, rfl, rfl, rfl, rfl, rfl, rfl, rfl, rfl, rfl, rfl, rfl⟩ | (simp +zetaDelta [modAt]; done)))

theorem State.cmpTargetWrite_keeps {s0 s : State} (h : Keeps s0 s) : ∀ x1 x2, Keeps s0 (State.cmpTargetWrite s x1 x2) := by
  intro x1 x2
  unfold State.cmpTargetWrite
  repeat' first
    | with_reducible assumption
    | with_reducible apply State.bump_keeps
    | with_reducible apply State.put_keeps
    | with_reducible apply State.cmpArmCheck_keeps
    | with_reducible apply Keeps.ite
    | with_reducible apply Keeps.foldl
    | intro _ _ _
    | intro _ _
    | split
    | (dsimp only)
    | ((with_reducible refine Keeps.upd ?_ ?_); rotate_left; focus (first | exact ⟨rfl, rfl, rfl, rfl, rfl, rfl, rfl, rfl, rfl, rfl, rfl, rfl, rfl⟩ | (simp +zetaDelta [modAt]; done)))

theorem State.cmpConflicts_keeps {s0 s : State} (h : Keeps s0 s) : Keeps s0 (State.cmpConflicts s) := by
  unfold State.cmpConflicts
  repeat' first
    | with_reducible assumption
    | with_reducible apply State.raise_keeps
    | with_reducible apply Keeps.ite
    | with_reducible apply Keeps.foldl
    | intro _ _ _
    | intro _ _
    | split
    | (dsimp only)
    | ((with_reducible refine Keeps.upd ?_ ?_); rotate_left; focus (first | exact ⟨rfl, rfl, rfl, rfl, rfl, rfl, rfl, rfl, rfl, rfl, rfl, rfl, rfl⟩ | (simp +zetaDelta [modAt]; done)))

theorem State.cmpCtrlWrite_keeps {s0 s : State} (h : Keeps s0 s) : ∀ x1 x2, Keeps s0 (State.cmpCtrlWrite s x1 x2) := by
  intro x1 x2
  unfold State.cmpCtrlWrite
  repeat' first
    | with_reducible assumption
    | with_reducible apply State.bump_keeps
    | with_reducible apply State.cmpConflicts_keeps
    | with_reducible apply State.cmpArmCheck_keeps
    | with_reducible apply State.put_keeps
    | with_reducible apply Keeps.wr
    | with_reducible apply Keeps.ite
    | with_reducible apply Keeps.foldl
    | intro _ _ _
    | intro _ _
    | split
    | (dsimp only)
    | ((with_reducible refine Keeps.upd ?_ ?_); rotate_left; focus (first | exact ⟨rfl, rfl, rfl, rfl, rfl, rfl, rfl, rfl, rfl, rfl, rfl, rfl, rfl⟩ | (simp +zetaDelta [modAt]; done)))

theorem State.drivePps_keeps {s0 s : State} (h : Keeps s0 s) : ∀ x1, Keeps s0 (State.drivePps s x1) := by
  intro x1
  unfold State.drivePps
  repeat' first
    | with_reducible assumption
    | with_reducible apply State.captureAll_keeps
    | with_reducible apply Keeps.ite
    | with_reducible apply Keeps.foldl
    | intro _ _ _
    | intro _ _
    | split
    | (dsimp only)
    | ((with_reducible refine Keeps.upd ?_ ?_); rotate_left; focus (first | exact ⟨rfl, rfl, rfl, rfl, rfl, rfl, rfl, rfl, rfl, rfl, rfl, rfl, rfl⟩ | (simp +zetaDelta [modAt]; done)))

theorem State.ppsCtrlWrite_keeps {s0 s : State} (h : Keeps s0 s) : ∀ x1, Keeps s0 (State.ppsCtrlWrite s x1) := by
  intro x1
  unfold State.ppsCtrlWrite
  repeat' first
    | with_reducible assumption
    | with_reducible apply State.tableWrite_keeps
    | with_reducible apply State.drivePps_keeps
    | with_reducible apply Keeps.ite
    | with_reducible apply Keeps.foldl
    | intro _ _ _
    | intro _ _
    | split
    | (dsimp only)
    | ((with_reducible refine Keeps.upd ?_ ?_); rotate_left; focus (first | exact ⟨rfl, rfl, rfl, rfl, rfl, rfl, rfl, rfl, rfl, rfl, rfl, rfl, rfl⟩ | (simp +zetaDelta [modAt]; done)))

theorem State.stampPoint_keeps {s0 s : State} (h : Keeps s0 s) : ∀ x1 x2 x3 x4, Keeps s0 (State.stampPoint s x1 x2 x3 x4) := by
  intro x1 x2 x3 x4
  unfold State.stampPoint
  repeat' first
    | with_reducible assumption
    | with_reducible apply State.txStamp_keeps
    | with_reducible apply Keeps.ite
    | with_reducible apply Keeps.foldl
    | intro _ _ _
    | intro _ _
    | split
    | (dsimp only)
    | ((with_reducible refine Keeps.upd ?_ ?_); rotate_left; focus (first | exact ⟨rfl, rfl, rfl, rfl, rfl, rfl, rfl, rfl, rfl, rfl, rfl, rfl, rfl⟩ | (simp +zetaDelta [modAt]; done)))

theorem State.txqRead_keeps {s0 s : State} (h : Keeps s0 s) : ∀ x1 x2, Keeps s0 (State.txqRead s x1 x2) := by
  intro x1 x2
  unfold State.txqRead
  repeat' first
    | with_reducible assumption
    | with_reducible apply State.answer_keeps
    | with_reducible apply State.put_keeps
    | with_reducible apply State.latch_keeps
    | with_reducible apply Keeps.ite
    | with_reducible apply Keeps.foldl
    | intro _ _ _
    | intro _ _
    | split
    | (dsimp only)
    | ((with_reducible refine Keeps.upd ?_ ?_); rotate_left; focus (first | exact ⟨rfl, rfl, rfl, rfl, rfl, rfl, rfl, rfl, rfl, rfl, rfl, rfl, rfl⟩ | (simp +zetaDelta [modAt]; done)))

theorem State.calNowRead_keeps {s0 s : State} (h : Keeps s0 s) : ∀ x1, Keeps s0 (State.calNowRead s x1) := by
  intro x1
  unfold State.calNowRead
  repeat' first
    | with_reducible assumption
    | with_reducible apply State.answer_keeps
    | with_reducible apply State.latch_keeps
    | with_reducible apply Keeps.ite
    | with_reducible apply Keeps.foldl
    | intro _ _ _
    | intro _ _
    | split
    | (dsimp only)
    | ((with_reducible refine Keeps.upd ?_ ?_); rotate_left; focus (first | exact ⟨rfl, rfl, rfl, rfl, rfl, rfl, rfl, rfl, rfl, rfl, rfl, rfl, rfl⟩ | (simp +zetaDelta [modAt]; done)))

theorem State.calCtrlWrite_keeps {s0 s : State} (h : Keeps s0 s) : ∀ x1, Keeps s0 (State.calCtrlWrite s x1) := by
  intro x1
  unfold State.calCtrlWrite
  repeat' first
    | with_reducible assumption
    | with_reducible apply State.bump_keeps
    | with_reducible apply State.put_keeps
    | with_reducible apply Keeps.ite
    | with_reducible apply Keeps.foldl
    | intro _ _ _
    | intro _ _
    | split
    | (dsimp only)
    | ((with_reducible refine Keeps.upd ?_ ?_); rotate_left; focus (first | exact ⟨rfl, rfl, rfl, rfl, rfl, rfl, rfl, rfl, rfl, rfl, rfl, rfl, rfl⟩ | (simp +zetaDelta [modAt]; done)))

theorem State.calStop_keeps {s0 s : State} (h : Keeps s0 s) : Keeps s0 (State.calStop s) := by
  unfold State.calStop
  repeat' first
    | with_reducible assumption
    | with_reducible apply Keeps.wr
    | with_reducible apply Keeps.ite
    | with_reducible apply Keeps.foldl
    | intro _ _ _
    | intro _ _
    | split
    | (dsimp only)
    | ((with_reducible refine Keeps.upd ?_ ?_); rotate_left; focus (first | exact ⟨rfl, rfl, rfl, rfl, rfl, rfl, rfl, rfl, rfl, rfl, rfl, rfl, rfl⟩ | (simp +zetaDelta [modAt]; done)))

theorem State.grMod_keeps {s0 s : State} (h : Keeps s0 s) : ∀ x1 x2, Keeps s0 (State.grMod s x1 x2) := by
  intro x1 x2
  unfold State.grMod
  repeat' first
    | with_reducible assumption
    | with_reducible apply Keeps.ite
    | with_reducible apply Keeps.foldl
    | intro _ _ _
    | intro _ _
    | split
    | (dsimp only)
    | ((with_reducible refine Keeps.upd ?_ ?_); rotate_left; focus (first | exact ⟨rfl, rfl, rfl, rfl, rfl, rfl, rfl, rfl, rfl, rfl, rfl, rfl, rfl⟩ | (simp +zetaDelta [modAt]; done)))

theorem State.reloadTables_keeps {s0 s : State} (h : Keeps s0 s) : ∀ x1, Keeps s0 (State.reloadTables s x1) := by
  intro x1
  unfold State.reloadTables
  repeat' first
    | with_reducible assumption
    | with_reducible apply State.grMod_keeps
    | with_reducible apply State.put_keeps
    | with_reducible apply State.raise_keeps
    | with_reducible apply Keeps.ite
    | with_reducible apply Keeps.foldl
    | intro _ _ _
    | intro _ _
    | split
    | (dsimp only)
    | ((with_reducible refine Keeps.upd ?_ ?_); rotate_left; focus (first | exact ⟨rfl, rfl, rfl, rfl, rfl, rfl, rfl, rfl, rfl, rfl, rfl, rfl, rfl⟩ | (simp +zetaDelta [modAt]; done)))

theorem State.submitGrant_keeps {s0 s : State} (h : Keeps s0 s) : ∀ x1 x2, Keeps s0 (State.submitGrant s x1 x2) := by
  intro x1 x2
  unfold State.submitGrant
  repeat' first
    | with_reducible assumption
    | with_reducible apply State.bump_keeps
    | with_reducible apply State.grMod_keeps
    | with_reducible apply State.put_keeps
    | with_reducible apply Keeps.ite
    | with_reducible apply Keeps.foldl
    | intro _ _ _
    | intro _ _
    | split
    | (dsimp only)
    | ((with_reducible refine Keeps.upd ?_ ?_); rotate_left; focus (first | exact ⟨rfl, rfl, rfl, rfl, rfl, rfl, rfl, rfl, rfl, rfl, rfl, rfl, rfl⟩ | (simp +zetaDelta [modAt]; done)))

theorem State.applyGrant_keeps {s0 s : State} (h : Keeps s0 s) : ∀ x1 x2, Keeps s0 (State.applyGrant s x1 x2) := by
  intro x1 x2
  unfold State.applyGrant
  repeat' first
    | with_reducible assumption
    | with_reducible apply State.grMod_keeps
    | with_reducible apply State.bump_keeps
    | with_reducible apply Keeps.ite
    | with_reducible apply Keeps.foldl
    | intro _ _ _
    | intro _ _
    | split
    | (dsimp only)
    | ((with_reducible refine Keeps.upd ?_ ?_); rotate_left; focus (first | exact ⟨rfl, rfl, rfl, rfl, rfl, rfl, rfl, rfl, rfl, rfl, rfl, rfl, rfl⟩ | (simp +zetaDelta [modAt]; done)))

theorem State.applyGrants_keeps {s0 s : State} (h : Keeps s0 s) : ∀ x1 x2, Keeps s0 (State.applyGrants s x1 x2) := by
  intro x1 x2
  unfold State.applyGrants
  repeat' first
    | with_reducible assumption
    | with_reducible apply State.grMod_keeps
    | with_reducible apply State.applyGrant_keeps
    | with_reducible apply State.put_keeps
    | with_reducible apply Keeps.ite
    | with_reducible apply Keeps.foldl
    | intro _ _ _
    | intro _ _
    | split
    | (dsimp only)
    | ((with_reducible refine Keeps.upd ?_ ?_); rotate_left; focus (first | exact ⟨rfl, rfl, rfl, rfl, rfl, rfl, rfl, rfl, rfl, rfl, rfl, rfl, rfl⟩ | (simp +zetaDelta [modAt]; done)))

theorem State.shadowWrite_keeps {s0 s : State} (h : Keeps s0 s) : ∀ x1 x2 x3, Keeps s0 (State.shadowWrite s x1 x2 x3) := by
  intro x1 x2 x3
  unfold State.shadowWrite
  repeat' first
    | with_reducible assumption
    | with_reducible apply State.bump_keeps
    | with_reducible apply State.grMod_keeps
    | with_reducible apply Keeps.ite
    | with_reducible apply Keeps.foldl
    | intro _ _ _
    | intro _ _
    | split
    | (dsimp only)
    | ((with_reducible refine Keeps.upd ?_ ?_); rotate_left; focus (first | exact ⟨rfl, rfl, rfl, rfl, rfl, rfl, rfl, rfl, rfl, rfl, rfl, rfl, rfl⟩ | (simp +zetaDelta [modAt]; done)))

theorem State.grtCommit_keeps {s0 s : State} (h : Keeps s0 s) : ∀ x1, Keeps s0 (State.grtCommit s x1) := by
  intro x1
  unfold State.grtCommit
  repeat' first
    | with_reducible assumption
    | with_reducible apply State.put_keeps
    | with_reducible apply State.grMod_keeps
    | with_reducible apply Keeps.ite
    | with_reducible apply Keeps.foldl
    | intro _ _ _
    | intro _ _
    | split
    | (dsimp only)
    | ((with_reducible refine Keeps.upd ?_ ?_); rotate_left; focus (first | exact ⟨rfl, rfl, rfl, rfl, rfl, rfl, rfl, rfl, rfl, rfl, rfl, rfl, rfl⟩ | (simp +zetaDelta [modAt]; done)))

theorem State.mergeCommit_keeps {s0 s : State} (h : Keeps s0 s) : ∀ x1, Keeps s0 (State.mergeCommit s x1) := by
  intro x1
  unfold State.mergeCommit
  repeat' first
    | with_reducible assumption
    | with_reducible apply State.count_keeps
    | with_reducible apply State.grMod_keeps
    | with_reducible apply State.put_keeps
    | with_reducible apply State.raise_keeps
    | with_reducible apply Keeps.ite
    | with_reducible apply Keeps.foldl
    | intro _ _ _
    | intro _ _
    | split
    | (dsimp only)
    | ((with_reducible refine Keeps.upd ?_ ?_); rotate_left; focus (first | exact ⟨rfl, rfl, rfl, rfl, rfl, rfl, rfl, rfl, rfl, rfl, rfl, rfl, rfl⟩ | (simp +zetaDelta [modAt]; done)))

theorem State.takeBackNow_keeps {s0 s : State} (h : Keeps s0 s) : ∀ x1, Keeps s0 (State.takeBackNow s x1) := by
  intro x1
  unfold State.takeBackNow
  repeat' first
    | with_reducible assumption
    | with_reducible apply State.grMod_keeps
    | with_reducible apply State.put_keeps
    | with_reducible apply Keeps.ite
    | with_reducible apply Keeps.foldl
    | intro _ _ _
    | intro _ _
    | split
    | (dsimp only)
    | ((with_reducible refine Keeps.upd ?_ ?_); rotate_left; focus (first | exact ⟨rfl, rfl, rfl, rfl, rfl, rfl, rfl, rfl, rfl, rfl, rfl, rfl, rfl⟩ | (simp +zetaDelta [modAt]; done)))

theorem State.grtCtrlWrite_keeps {s0 s : State} (h : Keeps s0 s) : ∀ x1 x2 x3, Keeps s0 (State.grtCtrlWrite s x1 x2 x3) := by
  intro x1 x2 x3
  unfold State.grtCtrlWrite
  repeat' first
    | with_reducible assumption
    | with_reducible apply Keeps.wr
    | with_reducible apply State.bump_keeps
    | with_reducible apply State.put_keeps
    | with_reducible apply State.grMod_keeps
    | with_reducible apply Keeps.ite
    | with_reducible apply Keeps.foldl
    | intro _ _ _
    | intro _ _
    | split
    | (dsimp only)
    | ((with_reducible refine Keeps.upd ?_ ?_); rotate_left; focus (first | exact ⟨rfl, rfl, rfl, rfl, rfl, rfl, rfl, rfl, rfl, rfl, rfl, rfl, rfl⟩ | (simp +zetaDelta [modAt]; done)))

theorem State.radMod_keeps {s0 s : State} (h : Keeps s0 s) : ∀ x1 x2, Keeps s0 (State.radMod s x1 x2) := by
  intro x1 x2
  unfold State.radMod
  repeat' first
    | with_reducible assumption
    | with_reducible apply Keeps.ite
    | with_reducible apply Keeps.foldl
    | intro _ _ _
    | intro _ _
    | split
    | (dsimp only)
    | ((with_reducible refine Keeps.upd ?_ ?_); rotate_left; focus (first | exact ⟨rfl, rfl, rfl, rfl, rfl, rfl, rfl, rfl, rfl, rfl, rfl, rfl, rfl⟩ | (simp +zetaDelta [modAt]; done)))

theorem State.phMod_keeps {s0 s : State} (h : Keeps s0 s) : ∀ x1 x2, Keeps s0 (State.phMod s x1 x2) := by
  intro x1 x2
  unfold State.phMod
  repeat' first
    | with_reducible assumption
    | with_reducible apply Keeps.ite
    | with_reducible apply Keeps.foldl
    | intro _ _ _
    | intro _ _
    | split
    | (dsimp only)
    | ((with_reducible refine Keeps.upd ?_ ?_); rotate_left; focus (first | exact ⟨rfl, rfl, rfl, rfl, rfl, rfl, rfl, rfl, rfl, rfl, rfl, rfl, rfl⟩ | (simp +zetaDelta [modAt]; done)))

theorem State.linkMod_keeps {s0 s : State} (h : Keeps s0 s) : ∀ x1 x2 x3, Keeps s0 (State.linkMod s x1 x2 x3) := by
  intro x1 x2 x3
  unfold State.linkMod
  repeat' first
    | with_reducible assumption
    | with_reducible apply State.phMod_keeps
    | with_reducible apply Keeps.ite
    | with_reducible apply Keeps.foldl
    | intro _ _ _
    | intro _ _
    | split
    | (dsimp only)
    | ((with_reducible refine Keeps.upd ?_ ?_); rotate_left; focus (first | exact ⟨rfl, rfl, rfl, rfl, rfl, rfl, rfl, rfl, rfl, rfl, rfl, rfl, rfl⟩ | (simp +zetaDelta [modAt]; done)))

theorem State.linkStale_keeps {s0 s : State} (h : Keeps s0 s) : ∀ x1 x2, Keeps s0 (State.linkStale s x1 x2) := by
  intro x1 x2
  unfold State.linkStale
  repeat' first
    | with_reducible assumption
    | with_reducible apply State.put_keeps
    | with_reducible apply State.linkMod_keeps
    | with_reducible apply Keeps.ite
    | with_reducible apply Keeps.foldl
    | intro _ _ _
    | intro _ _
    | split
    | (dsimp only)
    | ((with_reducible refine Keeps.upd ?_ ?_); rotate_left; focus (first | exact ⟨rfl, rfl, rfl, rfl, rfl, rfl, rfl, rfl, rfl, rfl, rfl, rfl, rfl⟩ | (simp +zetaDelta [modAt]; done)))

theorem State.mapsStale_keeps {s0 s : State} (h : Keeps s0 s) : ∀ x1, Keeps s0 (State.mapsStale s x1) := by
  intro x1
  unfold State.mapsStale
  repeat' first
    | with_reducible assumption
    | with_reducible apply State.linkStale_keeps
    | with_reducible apply Keeps.ite
    | with_reducible apply Keeps.foldl
    | intro _ _ _
    | intro _ _
    | split
    | (dsimp only)
    | ((with_reducible refine Keeps.upd ?_ ?_); rotate_left; focus (first | exact ⟨rfl, rfl, rfl, rfl, rfl, rfl, rfl, rfl, rfl, rfl, rfl, rfl, rfl⟩ | (simp +zetaDelta [modAt]; done)))

theorem State.chainMod_keeps {s0 s : State} (h : Keeps s0 s) : ∀ x1 x2, Keeps s0 (State.chainMod s x1 x2) := by
  intro x1 x2
  unfold State.chainMod
  repeat' first
    | with_reducible assumption
    | with_reducible apply Keeps.ite
    | with_reducible apply Keeps.foldl
    | intro _ _ _
    | intro _ _
    | split
    | (dsimp only)
    | ((with_reducible refine Keeps.upd ?_ ?_); rotate_left; focus (first | exact ⟨rfl, rfl, rfl, rfl, rfl, rfl, rfl, rfl, rfl, rfl, rfl, rfl, rfl⟩ | (simp +zetaDelta [modAt]; done)))

theorem State.lines_keeps {s0 s : State} (h : Keeps s0 s) : ∀ x1 x2 x3 x4, Keeps s0 (State.lines s x1 x2 x3 x4) := by
  intro x1 x2 x3 x4
  unfold State.lines
  repeat' first
    | with_reducible assumption
    | with_reducible apply State.chainMod_keeps
    | with_reducible apply Keeps.ite
    | with_reducible apply Keeps.foldl
    | intro _ _ _
    | intro _ _
    | split
    | (dsimp only)
    | ((with_reducible refine Keeps.upd ?_ ?_); rotate_left; focus (first | exact ⟨rfl, rfl, rfl, rfl, rfl, rfl, rfl, rfl, rfl, rfl, rfl, rfl, rfl⟩ | (simp +zetaDelta [modAt]; done)))

theorem State.setPowers_keeps {s0 s : State} (h : Keeps s0 s) : ∀ x1, Keeps s0 (State.setPowers s x1) := by
  intro x1
  unfold State.setPowers
  repeat' first
    | with_reducible assumption
    | with_reducible apply State.chainMod_keeps
    | with_reducible apply Keeps.ite
    | with_reducible apply Keeps.foldl
    | intro _ _ _
    | intro _ _
    | split
    | (dsimp only)
    | ((with_reducible refine Keeps.upd ?_ ?_); rotate_left; focus (first | exact ⟨rfl, rfl, rfl, rfl, rfl, rfl, rfl, rfl, rfl, rfl, rfl, rfl, rfl⟩ | (simp +zetaDelta [modAt]; done)))

theorem State.chainsFollow_keeps {s0 s : State} (h : Keeps s0 s) : ∀ x1, Keeps s0 (State.chainsFollow s x1) := by
  intro x1
  unfold State.chainsFollow
  repeat' first
    | with_reducible assumption
    | with_reducible apply State.lines_keeps
    | with_reducible apply State.put_keeps
    | with_reducible apply State.mapsStale_keeps
    | with_reducible apply Keeps.ite
    | with_reducible apply Keeps.foldl
    | intro _ _ _
    | intro _ _
    | split
    | (dsimp only)
    | ((with_reducible refine Keeps.upd ?_ ?_); rotate_left; focus (first | exact ⟨rfl, rfl, rfl, rfl, rfl, rfl, rfl, rfl, rfl, rfl, rfl, rfl, rfl⟩ | (simp +zetaDelta [modAt]; done)))

theorem State.synthLock_keeps {s0 s : State} (h : Keeps s0 s) : ∀ x1 x2, Keeps s0 (State.synthLock s x1 x2) := by
  intro x1 x2
  unfold State.synthLock
  repeat' first
    | with_reducible assumption
    | with_reducible apply State.put_keeps
    | with_reducible apply Keeps.ite
    | with_reducible apply Keeps.foldl
    | intro _ _ _
    | intro _ _
    | split
    | (dsimp only)
    | ((with_reducible refine Keeps.upd ?_ ?_); rotate_left; focus (first | exact ⟨rfl, rfl, rfl, rfl, rfl, rfl, rfl, rfl, rfl, rfl, rfl, rfl, rfl⟩ | (simp +zetaDelta [modAt]; done)))

theorem State.setRadio_keeps {s0 s : State} (h : Keeps s0 s) : ∀ x1 x2, Keeps s0 (State.setRadio s x1 x2) := by
  intro x1 x2
  unfold State.setRadio
  repeat' first
    | with_reducible assumption
    | with_reducible apply State.put_keeps
    | with_reducible apply State.radMod_keeps
    | with_reducible apply State.synthLock_keeps
    | with_reducible apply State.chainsFollow_keeps
    | with_reducible apply Keeps.ite
    | with_reducible apply Keeps.foldl
    | intro _ _ _
    | intro _ _
    | split
    | (dsimp only)
    | ((with_reducible refine Keeps.upd ?_ ?_); rotate_left; focus (first | exact ⟨rfl, rfl, rfl, rfl, rfl, rfl, rfl, rfl, rfl, rfl, rfl, rfl, rfl⟩ | (simp +zetaDelta [modAt]; done)))

theorem State.chainUnpowered_keeps {s0 s : State} (h : Keeps s0 s) : ∀ x1, Keeps s0 (State.chainUnpowered s x1) := by
  intro x1
  unfold State.chainUnpowered
  repeat' first
    | with_reducible assumption
    | with_reducible apply State.lines_keeps
    | with_reducible apply State.put_keeps
    | with_reducible apply Keeps.ite
    | with_reducible apply Keeps.foldl
    | intro _ _ _
    | intro _ _
    | split
    | (dsimp only)
    | ((with_reducible refine Keeps.upd ?_ ?_); rotate_left; focus (first | exact ⟨rfl, rfl, rfl, rfl, rfl, rfl, rfl, rfl, rfl, rfl, rfl, rfl, rfl⟩ | (simp +zetaDelta [modAt]; done)))

theorem State.rxAbort_keeps {s0 s : State} (h : Keeps s0 s) : ∀ x1, Keeps s0 (State.rxAbort s x1) := by
  intro x1
  unfold State.rxAbort
  repeat' first
    | with_reducible assumption
    | with_reducible apply State.bump_keeps
    | with_reducible apply State.phMod_keeps
    | with_reducible apply Keeps.ite
    | with_reducible apply Keeps.foldl
    | intro _ _ _
    | intro _ _
    | split
    | (dsimp only)
    | ((with_reducible refine Keeps.upd ?_ ?_); rotate_left; focus (first | exact ⟨rfl, rfl, rfl, rfl, rfl, rfl, rfl, rfl, rfl, rfl, rfl, rfl, rfl⟩ | (simp +zetaDelta [modAt]; done)))

theorem State.status_keeps {s0 s : State} (h : Keeps s0 s) : ∀ x1 x2 x3, Keeps s0 (State.status s x1 x2 x3) := by
  intro x1 x2 x3
  unfold State.status
  repeat' first
    | with_reducible assumption
    | with_reducible apply Keeps.ite
    | with_reducible apply Keeps.foldl
    | intro _ _ _
    | intro _ _
    | split
    | (dsimp only)
    | ((with_reducible refine Keeps.upd ?_ ?_); rotate_left; focus (first | exact ⟨rfl, rfl, rfl, rfl, rfl, rfl, rfl, rfl, rfl, rfl, rfl, rfl, rfl⟩ | (simp +zetaDelta [modAt]; done)))

theorem State.extRetry_keeps {s0 s : State} (h : Keeps s0 s) : Keeps s0 (State.extRetry s) := by
  unfold State.extRetry
  repeat' first
    | with_reducible assumption
    | with_reducible apply Keeps.ite
    | with_reducible apply Keeps.foldl
    | intro _ _ _
    | intro _ _
    | split
    | (dsimp only)
    | ((with_reducible refine Keeps.upd ?_ ?_); rotate_left; focus (first | exact ⟨rfl, rfl, rfl, rfl, rfl, rfl, rfl, rfl, rfl, rfl, rfl, rfl, rfl⟩ | (simp +zetaDelta [modAt]; done)))

theorem State.endTx_keeps {s0 s : State} (h : Keeps s0 s) : ∀ x1 x2, Keeps s0 (State.endTx s x1 x2) := by
  intro x1 x2
  unfold State.endTx
  repeat' first
    | with_reducible assumption
    | with_reducible apply State.radMod_keeps
    | with_reducible apply State.extRetry_keeps
    | with_reducible apply State.setRadio_keeps
    | with_reducible apply State.status_keeps
    | with_reducible apply Keeps.ite
    | with_reducible apply Keeps.foldl
    | intro _ _ _
    | intro _ _
    | split
    | (dsimp only)
    | ((with_reducible refine Keeps.upd ?_ ?_); rotate_left; focus (first | exact ⟨rfl, rfl, rfl, rfl, rfl, rfl, rfl, rfl, rfl, rfl, rfl, rfl, rfl⟩ | (simp +zetaDelta [modAt]; done)))

theorem State.coexCut_keeps {s0 s : State} (h : Keeps s0 s) : ∀ x1, Keeps s0 (State.coexCut s x1) := by
  intro x1
  unfold State.coexCut
  repeat' first
    | with_reducible assumption
    | with_reducible apply State.bump_keeps
    | with_reducible apply State.endTx_keeps
    | with_reducible apply Keeps.ite
    | with_reducible apply Keeps.foldl
    | intro _ _ _
    | intro _ _
    | split
    | (dsimp only)
    | ((with_reducible refine Keeps.upd ?_ ?_); rotate_left; focus (first | exact ⟨rfl, rfl, rfl, rfl, rfl, rfl, rfl, rfl, rfl, rfl, rfl, rfl, rfl⟩ | (simp +zetaDelta [modAt]; done)))

theorem State.devReady_keeps {s0 s : State} (h : Keeps s0 s) : ∀ x1 x2, Keeps s0 (State.devReady s x1 x2) := by
  intro x1 x2
  unfold State.devReady
  repeat' first
    | with_reducible assumption
    | with_reducible apply Keeps.ite
    | with_reducible apply Keeps.foldl
    | intro _ _ _
    | intro _ _
    | split
    | (dsimp only)
    | ((with_reducible refine Keeps.upd ?_ ?_); rotate_left; focus (first | exact ⟨rfl, rfl, rfl, rfl, rfl, rfl, rfl, rfl, rfl, rfl, rfl, rfl, rfl⟩ | (simp +zetaDelta [modAt]; done)))

theorem State.admitTx_keeps {s0 s : State} (h : Keeps s0 s) : ∀ x1 x2, Keeps s0 (State.admitTx s x1 x2) := by
  intro x1 x2
  unfold State.admitTx
  repeat' first
    | with_reducible assumption
    | with_reducible apply State.status_keeps
    | with_reducible apply State.bump_keeps
    | with_reducible apply State.put_keeps
    | with_reducible apply State.radMod_keeps
    | with_reducible apply State.devReady_keeps
    | with_reducible apply State.setRadio_keeps
    | with_reducible apply State.setPowers_keeps
    | with_reducible apply Keeps.ite
    | with_reducible apply Keeps.foldl
    | intro _ _ _
    | intro _ _
    | split
    | (dsimp only)
    | ((with_reducible refine Keeps.upd ?_ ?_); rotate_left; focus (first | exact ⟨rfl, rfl, rfl, rfl, rfl, rfl, rfl, rfl, rfl, rfl, rfl, rfl, rfl⟩ | (simp +zetaDelta [modAt]; done)))

theorem State.releaseHeld_keeps {s0 s : State} (h : Keeps s0 s) : ∀ x1, Keeps s0 (State.releaseHeld s x1) := by
  intro x1
  unfold State.releaseHeld
  repeat' first
    | with_reducible assumption
    | with_reducible apply State.admitTx_keeps
    | with_reducible apply State.put_keeps
    | with_reducible apply State.radMod_keeps
    | with_reducible apply Keeps.ite
    | with_reducible apply Keeps.foldl
    | intro _ _ _
    | intro _ _
    | split
    | (dsimp only)
    | ((with_reducible refine Keeps.upd ?_ ?_); rotate_left; focus (first | exact ⟨rfl, rfl, rfl, rfl, rfl, rfl, rfl, rfl, rfl, rfl, rfl, rfl, rfl⟩ | (simp +zetaDelta [modAt]; done)))

theorem State.releaseAll_keeps {s0 s : State} (h : Keeps s0 s) : Keeps s0 (State.releaseAll s) := by
  unfold State.releaseAll
  repeat' first
    | with_reducible assumption
    | with_reducible apply State.releaseHeld_keeps
    | with_reducible apply Keeps.ite
    | with_reducible apply Keeps.foldl
    | intro _ _ _
    | intro _ _
    | split
    | (dsimp only)
    | ((with_reducible refine Keeps.upd ?_ ?_); rotate_left; focus (first | exact ⟨rfl, rfl, rfl, rfl, rfl, rfl, rfl, rfl, rfl, rfl, rfl, rfl, rfl⟩ | (simp +zetaDelta [modAt]; done)))

theorem State.requestTx_keeps {s0 s : State} (h : Keeps s0 s) : ∀ x1 x2, Keeps s0 (State.requestTx s x1 x2) := by
  intro x1 x2
  unfold State.requestTx
  repeat' first
    | with_reducible assumption
    | with_reducible apply State.admitTx_keeps
    | with_reducible apply Keeps.ite
    | with_reducible apply Keeps.foldl
    | intro _ _ _
    | intro _ _
    | split
    | (dsimp only)
    | ((with_reducible refine Keeps.upd ?_ ?_); rotate_left; focus (first | exact ⟨rfl, rfl, rfl, rfl, rfl, rfl, rfl, rfl, rfl, rfl, rfl, rfl, rfl⟩ | (simp +zetaDelta [modAt]; done)))

theorem State.radioStop_keeps {s0 s : State} (h : Keeps s0 s) : ∀ x1, Keeps s0 (State.radioStop s x1) := by
  intro x1
  unfold State.radioStop
  repeat' first
    | with_reducible assumption
    | with_reducible apply State.rxAbort_keeps
    | with_reducible apply State.endTx_keeps
    | with_reducible apply State.setRadio_keeps
    | with_reducible apply State.radMod_keeps
    | with_reducible apply Keeps.ite
    | with_reducible apply Keeps.foldl
    | intro _ _ _
    | intro _ _
    | split
    | (dsimp only)
    | ((with_reducible refine Keeps.upd ?_ ?_); rotate_left; focus (first | exact ⟨rfl, rfl, rfl, rfl, rfl, rfl, rfl, rfl, rfl, rfl, rfl, rfl, rfl⟩ | (simp +zetaDelta [modAt]; done)))

theorem State.fenceChain_keeps {s0 s : State} (h : Keeps s0 s) : ∀ x1 x2, Keeps s0 (State.fenceChain s x1 x2) := by
  intro x1 x2
  unfold State.fenceChain
  repeat' first
    | with_reducible assumption
    | with_reducible apply State.put_keeps
    | with_reducible apply State.chainMod_keeps
    | with_reducible apply State.lines_keeps
    | with_reducible apply Keeps.wr
    | with_reducible apply State.grMod_keeps
    | with_reducible apply State.mapsStale_keeps
    | with_reducible apply State.radioStop_keeps
    | with_reducible apply Keeps.ite
    | with_reducible apply Keeps.foldl
    | intro _ _ _
    | intro _ _
    | split
    | (dsimp only)
    | ((with_reducible refine Keeps.upd ?_ ?_); rotate_left; focus (first | exact ⟨rfl, rfl, rfl, rfl, rfl, rfl, rfl, rfl, rfl, rfl, rfl, rfl, rfl⟩ | (simp +zetaDelta [modAt]; done)))

theorem State.cycleEnd_keeps {s0 s : State} (h : Keeps s0 s) : ∀ x1 x2, Keeps s0 (State.cycleEnd s x1 x2) := by
  intro x1 x2
  unfold State.cycleEnd
  repeat' first
    | with_reducible assumption
    | with_reducible apply State.radMod_keeps
    | with_reducible apply State.put_keeps
    | with_reducible apply Keeps.ite
    | with_reducible apply Keeps.foldl
    | intro _ _ _
    | intro _ _
    | split
    | (dsimp only)
    | ((with_reducible refine Keeps.upd ?_ ?_); rotate_left; focus (first | exact ⟨rfl, rfl, rfl, rfl, rfl, rfl, rfl, rfl, rfl, rfl, rfl, rfl, rfl⟩ | (simp +zetaDelta [modAt]; done)))

theorem State.tempTrack_keeps {s0 s : State} (h : Keeps s0 s) : ∀ x1, Keeps s0 (State.tempTrack s x1) := by
  intro x1
  unfold State.tempTrack
  repeat' first
    | with_reducible assumption
    | with_reducible apply State.put_keeps
    | with_reducible apply Keeps.ite
    | with_reducible apply Keeps.foldl
    | intro _ _ _
    | intro _ _
    | split
    | (dsimp only)
    | ((with_reducible refine Keeps.upd ?_ ?_); rotate_left; focus (first | exact ⟨rfl, rfl, rfl, rfl, rfl, rfl, rfl, rfl, rfl, rfl, rfl, rfl, rfl⟩ | (simp +zetaDelta [modAt]; done)))

theorem State.calTickRadio_keeps {s0 s : State} (h : Keeps s0 s) : ∀ x1, Keeps s0 (State.calTickRadio s x1) := by
  intro x1
  unfold State.calTickRadio
  repeat' first
    | with_reducible assumption
    | with_reducible apply State.radMod_keeps
    | with_reducible apply State.tempTrack_keeps
    | with_reducible apply State.cycleEnd_keeps
    | with_reducible apply Keeps.ite
    | with_reducible apply Keeps.foldl
    | intro _ _ _
    | intro _ _
    | split
    | (dsimp only)
    | ((with_reducible refine Keeps.upd ?_ ?_); rotate_left; focus (first | exact ⟨rfl, rfl, rfl, rfl, rfl, rfl, rfl, rfl, rfl, rfl, rfl, rfl, rfl⟩ | (simp +zetaDelta [modAt]; done)))

theorem State.takeResult_keeps {s0 s : State} (h : Keeps s0 s) : ∀ x1 x2 x3, Keeps s0 (State.takeResult s x1 x2 x3) := by
  intro x1 x2 x3
  unfold State.takeResult
  repeat' first
    | with_reducible assumption
    | with_reducible apply State.chainMod_keeps
    | with_reducible apply Keeps.ite
    | with_reducible apply Keeps.foldl
    | intro _ _ _
    | intro _ _
    | split
    | (dsimp only)
    | ((with_reducible refine Keeps.upd ?_ ?_); rotate_left; focus (first | exact ⟨rfl, rfl, rfl, rfl, rfl, rfl, rfl, rfl, rfl, rfl, rfl, rfl, rfl⟩ | (simp +zetaDelta [modAt]; done)))

theorem State.loadResults_keeps {s0 s : State} (h : Keeps s0 s) : ∀ x1 x2 x3, Keeps s0 (State.loadResults s x1 x2 x3) := by
  intro x1 x2 x3
  unfold State.loadResults
  repeat' first
    | with_reducible assumption
    | with_reducible apply State.takeResult_keeps
    | with_reducible apply State.put_keeps
    | with_reducible apply State.chainMod_keeps
    | with_reducible apply Keeps.ite
    | with_reducible apply Keeps.foldl
    | intro _ _ _
    | intro _ _
    | split
    | (dsimp only)
    | ((with_reducible refine Keeps.upd ?_ ?_); rotate_left; focus (first | exact ⟨rfl, rfl, rfl, rfl, rfl, rfl, rfl, rfl, rfl, rfl, rfl, rfl, rfl⟩ | (simp +zetaDelta [modAt]; done)))

theorem State.leaveStep_keeps {s0 s : State} (h : Keeps s0 s) : ∀ x1 x2, Keeps s0 (State.leaveStep s x1 x2) := by
  intro x1 x2
  unfold State.leaveStep
  repeat' first
    | with_reducible assumption
    | with_reducible apply State.put_keeps
    | with_reducible apply State.chainsFollow_keeps
    | with_reducible apply State.radMod_keeps
    | with_reducible apply Keeps.ite
    | with_reducible apply Keeps.foldl
    | intro _ _ _
    | intro _ _
    | split
    | (dsimp only)
    | ((with_reducible refine Keeps.upd ?_ ?_); rotate_left; focus (first | exact ⟨rfl, rfl, rfl, rfl, rfl, rfl, rfl, rfl, rfl, rfl, rfl, rfl, rfl⟩ | (simp +zetaDelta [modAt]; done)))

theorem State.radioRestart_keeps {s0 s : State} (h : Keeps s0 s) : ∀ x1, Keeps s0 (State.radioRestart s x1) := by
  intro x1
  unfold State.radioRestart
  repeat' first
    | with_reducible assumption
    | with_reducible apply State.rxAbort_keeps
    | with_reducible apply State.endTx_keeps
    | with_reducible apply State.radMod_keeps
    | with_reducible apply State.setRadio_keeps
    | with_reducible apply State.put_keeps
    | with_reducible apply State.reloadTables_keeps
    | with_reducible apply State.takeResult_keeps
    | with_reducible apply Keeps.ite
    | with_reducible apply Keeps.foldl
    | intro _ _ _
    | intro _ _
    | split
    | (dsimp only)
    | ((with_reducible refine Keeps.upd ?_ ?_); rotate_left; focus (first | exact ⟨rfl, rfl, rfl, rfl, rfl, rfl, rfl, rfl, rfl, rfl, rfl, rfl, rfl⟩ | (simp +zetaDelta [modAt]; done)))

theorem State.nbrClear_keeps {s0 s : State} (h : Keeps s0 s) : Keeps s0 (State.nbrClear s) := by
  exact Keeps.upd (h.filter _) ⟨rfl, rfl, rfl, rfl, rfl, rfl, rfl, rfl, rfl, rfl, rfl, rfl, rfl⟩

theorem State.roleLost_keeps {s0 s : State} (h : Keeps s0 s) : ∀ x1, Keeps s0 (State.roleLost s x1) := by
  intro x1
  unfold State.roleLost
  repeat' first
    | with_reducible assumption
    | with_reducible apply State.nbrClear_keeps
    | with_reducible apply State.grMod_keeps
    | with_reducible apply State.put_keeps
    | with_reducible apply State.linkMod_keeps
    | with_reducible apply Keeps.wr
    | with_reducible apply Keeps.ite
    | with_reducible apply Keeps.foldl
    | intro _ _ _
    | intro _ _
    | split
    | (dsimp only)
    | ((with_reducible refine Keeps.upd ?_ ?_); rotate_left; focus (first | exact ⟨rfl, rfl, rfl, rfl, rfl, rfl, rfl, rfl, rfl, rfl, rfl, rfl, rfl⟩ | (simp +zetaDelta [modAt]; done)))

theorem State.xo80Follow_keeps {s0 s : State} (h : Keeps s0 s) : Keeps s0 (State.xo80Follow s) := by
  unfold State.xo80Follow
  repeat' first
    | with_reducible assumption
    | with_reducible apply Keeps.ite
    | with_reducible apply Keeps.foldl
    | intro _ _ _
    | intro _ _
    | split
    | (dsimp only)
    | ((with_reducible refine Keeps.upd ?_ ?_); rotate_left; focus (first | exact ⟨rfl, rfl, rfl, rfl, rfl, rfl, rfl, rfl, rfl, rfl, rfl, rfl, rfl⟩ | (simp +zetaDelta [modAt]; done)))

theorem State.trvLoseLo_keeps {s0 s : State} (h : Keeps s0 s) : Keeps s0 (State.trvLoseLo s).2 := by
  unfold State.trvLoseLo
  repeat' first
    | with_reducible assumption
    | with_reducible apply State.bump_keeps
    | with_reducible apply Keeps.ite
    | with_reducible apply Keeps.foldl
    | intro _ _ _
    | intro _ _
    | split
    | (dsimp only)
    | ((with_reducible refine Keeps.upd ?_ ?_); rotate_left; focus (first | exact ⟨rfl, rfl, rfl, rfl, rfl, rfl, rfl, rfl, rfl, rfl, rfl, rfl, rfl⟩ | (simp +zetaDelta [modAt]; done)))

theorem State.trvLoseLo_keeps_eq {s0 s : State} (h : Keeps s0 s) { t a0} (e : (State.trvLoseLo s) = (a0, t)) : Keeps s0 t := by
  have := State.trvLoseLo_keeps h 
  rw [e] at this
  exact this

theorem State.setSubst_keeps {s0 s : State} (h : Keeps s0 s) : ∀ x1, Keeps s0 (State.setSubst s x1) := by
  intro x1
  unfold State.setSubst
  repeat' first
    | with_reducible assumption
    | with_reducible apply Keeps.ite
    | with_reducible apply Keeps.foldl
    | intro _ _ _
    | intro _ _
    | split
    | (dsimp only)
    | ((with_reducible refine Keeps.upd ?_ ?_); rotate_left; focus (first | exact ⟨rfl, rfl, rfl, rfl, rfl, rfl, rfl, rfl, rfl, rfl, rfl, rfl, rfl⟩ | (simp +zetaDelta [modAt]; done)))

theorem State.setTrvNext_keeps {s0 s : State} (h : Keeps s0 s) : ∀ x1, Keeps s0 (State.setTrvNext s x1) := by
  intro x1
  unfold State.setTrvNext
  repeat' first
    | with_reducible assumption
    | with_reducible apply Keeps.ite
    | with_reducible apply Keeps.foldl
    | intro _ _ _
    | intro _ _
    | split
    | (dsimp only)
    | ((with_reducible refine Keeps.upd ?_ ?_); rotate_left; focus (first | exact ⟨rfl, rfl, rfl, rfl, rfl, rfl, rfl, rfl, rfl, rfl, rfl, rfl, rfl⟩ | (simp +zetaDelta [modAt]; done)))

theorem State.synthFaultLo_keeps {s0 s : State} (h : Keeps s0 s) : ∀ x1 x2, Keeps s0 (State.synthFaultLo s x1 x2) := by
  intro x1 x2
  unfold State.synthFaultLo
  repeat' first
    | with_reducible assumption
    | with_reducible apply State.trvLoseLo_keeps
    | with_reducible apply State.faultRecord_keeps
    | with_reducible apply State.faultDone_keeps
    | with_reducible refine State.trvLoseLo_keeps_eq ?_ (by with_reducible assumption)
    | with_reducible apply Keeps.ite
    | with_reducible apply Keeps.foldl
    | intro _ _ _
    | intro _ _
    | split
    | (dsimp only)
    | ((with_reducible refine Keeps.upd ?_ ?_); rotate_left; focus (first | exact ⟨rfl, rfl, rfl, rfl, rfl, rfl, rfl, rfl, rfl, rfl, rfl, rfl, rfl⟩ | (simp +zetaDelta [modAt]; done)))

theorem State.synthFaultTrv_keeps {s0 s : State} (h : Keeps s0 s) : ∀ x1, Keeps s0 (State.synthFaultTrv s x1) := by
  intro x1
  unfold State.synthFaultTrv
  repeat' first
    | with_reducible assumption
    | with_reducible apply Keeps.wr
    | with_reducible apply State.synthFaultLo_keeps
    | with_reducible apply State.faultRecord_keeps
    | with_reducible apply Keeps.ite
    | with_reducible apply Keeps.foldl
    | intro _ _ _
    | intro _ _
    | split
    | (dsimp only)
    | ((with_reducible refine Keeps.upd ?_ ?_); rotate_left; focus (first | exact ⟨rfl, rfl, rfl, rfl, rfl, rfl, rfl, rfl, rfl, rfl, rfl, rfl, rfl⟩ | (simp +zetaDelta [modAt]; done)))

theorem State.synthFaultPool_keeps {s0 s : State} (h : Keeps s0 s) : ∀ x1 x2 x3, Keeps s0 (State.synthFaultPool s x1 x2 x3) := by
  intro x1 x2 x3
  unfold State.synthFaultPool
  repeat' first
    | with_reducible assumption
    | with_reducible apply State.faultDone_keeps
    | with_reducible apply State.faultRecord_keeps
    | with_reducible apply State.radioStop_keeps
    | with_reducible apply State.setSubst_keeps
    | with_reducible apply State.rxAbort_keeps
    | with_reducible apply State.endTx_keeps
    | with_reducible apply State.setRadio_keeps
    | with_reducible apply State.synthFaultLo_keeps
    | with_reducible apply State.setTrvNext_keeps
    | with_reducible apply Keeps.ite
    | with_reducible apply Keeps.foldl
    | intro _ _ _
    | intro _ _
    | split
    | (dsimp only)
    | ((with_reducible refine Keeps.upd ?_ ?_); rotate_left; focus (first | exact ⟨rfl, rfl, rfl, rfl, rfl, rfl, rfl, rfl, rfl, rfl, rfl, rfl, rfl⟩ | (simp +zetaDelta [modAt]; done)))

theorem State.synthFault_keeps {s0 s : State} (h : Keeps s0 s) : ∀ x1 x2, Keeps s0 (State.synthFault s x1 x2) := by
  intro x1 x2
  unfold State.synthFault
  repeat' first
    | with_reducible assumption
    | with_reducible apply State.synthFaultTrv_keeps
    | with_reducible apply State.put_keeps
    | with_reducible apply State.synthFaultPool_keeps
    | with_reducible apply Keeps.wr
    | with_reducible apply Keeps.ite
    | with_reducible apply Keeps.foldl
    | intro _ _ _
    | intro _ _
    | (extract_lets +onlyGivenNames a; refine Keeps.cut a ?_ ?_; simp only [a]; rotate_left; intro ha; clear_value a)
    | extract_lets +onlyGivenNames a
    | split
    | (dsimp only)
    | ((with_reducible refine Keeps.upd ?_ ?_); rotate_left; focus (first | exact ⟨rfl, rfl, rfl, rfl, rfl, rfl, rfl, rfl, rfl, rfl, rfl, rfl, rfl⟩ | (simp +zetaDelta [modAt]; done)))

theorem State.spareLocked_keeps {s0 s : State} (h : Keeps s0 s) : ∀ x1, Keeps s0 (State.spareLocked s x1) := by
  intro x1
  unfold State.spareLocked
  repeat' first
    | with_reducible assumption
    | with_reducible apply State.put_keeps
    | with_reducible apply State.radMod_keeps
    | with_reducible apply State.bump_keeps
    | with_reducible apply State.faultUpdate_keeps
    | with_reducible apply State.setRadio_keeps
    | with_reducible apply Keeps.ite
    | with_reducible apply Keeps.foldl
    | intro _ _ _
    | intro _ _
    | split
    | (dsimp only)
    | ((with_reducible refine Keeps.upd ?_ ?_); rotate_left; focus (first | exact ⟨rfl, rfl, rfl, rfl, rfl, rfl, rfl, rfl, rfl, rfl, rfl, rfl, rfl⟩ | (simp +zetaDelta [modAt]; done)))

theorem State.bandSearches_keeps {s0 s : State} (h : Keeps s0 s) : Keeps s0 (State.bandSearches s) := by
  unfold State.bandSearches
  repeat' first
    | with_reducible assumption
    | with_reducible apply Keeps.ite
    | with_reducible apply Keeps.foldl
    | intro _ _ _
    | intro _ _
    | split
    | (dsimp only)
    | ((with_reducible refine Keeps.upd ?_ ?_); rotate_left; focus (first | exact ⟨rfl, rfl, rfl, rfl, rfl, rfl, rfl, rfl, rfl, rfl, rfl, rfl, rfl⟩ | (simp +zetaDelta [modAt]; done)))

theorem State.synthTested_keeps {s0 s : State} (h : Keeps s0 s) : ∀ x1 x2, Keeps s0 (State.synthTested s x1 x2) := by
  intro x1 x2
  unfold State.synthTested
  repeat' first
    | with_reducible assumption
    | with_reducible apply State.faultDone_keeps
    | with_reducible apply State.put_keeps
    | with_reducible apply State.bandSearches_keeps
    | with_reducible apply Keeps.ite
    | with_reducible apply Keeps.foldl
    | intro _ _ _
    | intro _ _
    | split
    | (dsimp only)
    | ((with_reducible refine Keeps.upd ?_ ?_); rotate_left; focus (first | exact ⟨rfl, rfl, rfl, rfl, rfl, rfl, rfl, rfl, rfl, rfl, rfl, rfl, rfl⟩ | (simp +zetaDelta [modAt]; done)))

theorem State.chainFault_keeps {s0 s : State} (h : Keeps s0 s) : ∀ x1 x2, Keeps s0 (State.chainFault s x1 x2) := by
  intro x1 x2
  unfold State.chainFault
  repeat' first
    | with_reducible assumption
    | with_reducible apply State.fenceChain_keeps
    | with_reducible apply State.faultNow_keeps
    | with_reducible apply Keeps.ite
    | with_reducible apply Keeps.foldl
    | intro _ _ _
    | intro _ _
    | split
    | (dsimp only)
    | ((with_reducible refine Keeps.upd ?_ ?_); rotate_left; focus (first | exact ⟨rfl, rfl, rfl, rfl, rfl, rfl, rfl, rfl, rfl, rfl, rfl, rfl, rfl⟩ | (simp +zetaDelta [modAt]; done)))

theorem State.reinstateWrite_keeps {s0 s : State} (h : Keeps s0 s) : ∀ x1, Keeps s0 (State.reinstateWrite s x1) := by
  intro x1
  unfold State.reinstateWrite
  repeat' first
    | with_reducible assumption
    | with_reducible apply State.chainMod_keeps
    | with_reducible apply Keeps.ite
    | with_reducible apply Keeps.foldl
    | intro _ _ _
    | intro _ _
    | split
    | (dsimp only)
    | ((with_reducible refine Keeps.upd ?_ ?_); rotate_left; focus (first | exact ⟨rfl, rfl, rfl, rfl, rfl, rfl, rfl, rfl, rfl, rfl, rfl, rfl, rfl⟩ | (simp +zetaDelta [modAt]; done)))

theorem State.chainTested_keeps {s0 s : State} (h : Keeps s0 s) : ∀ x1 x2, Keeps s0 (State.chainTested s x1 x2) := by
  intro x1 x2
  unfold State.chainTested
  repeat' first
    | with_reducible assumption
    | with_reducible apply State.chainMod_keeps
    | with_reducible apply State.put_keeps
    | with_reducible apply Keeps.ite
    | with_reducible apply Keeps.foldl
    | intro _ _ _
    | intro _ _
    | split
    | (dsimp only)
    | ((with_reducible refine Keeps.upd ?_ ?_); rotate_left; focus (first | exact ⟨rfl, rfl, rfl, rfl, rfl, rfl, rfl, rfl, rfl, rfl, rfl, rfl, rfl⟩ | (simp +zetaDelta [modAt]; done)))

theorem State.radioOrder_keeps {s0 s : State} (h : Keeps s0 s) : ∀ x1 x2, Keeps s0 (State.radioOrder s x1 x2) := by
  intro x1 x2
  unfold State.radioOrder
  repeat' first
    | with_reducible assumption
    | with_reducible apply State.endTx_keeps
    | with_reducible apply State.setRadio_keeps
    | with_reducible apply State.xo80Follow_keeps
    | with_reducible apply State.releaseHeld_keeps
    | with_reducible apply State.synthLock_keeps
    | with_reducible apply State.rxAbort_keeps
    | with_reducible apply Keeps.ite
    | with_reducible apply Keeps.foldl
    | intro _ _ _
    | intro _ _
    | split
    | (dsimp only)
    | ((with_reducible refine Keeps.upd ?_ ?_); rotate_left; focus (first | exact ⟨rfl, rfl, rfl, rfl, rfl, rfl, rfl, rfl, rfl, rfl, rfl, rfl, rfl⟩ | (simp +zetaDelta [modAt]; done)))

theorem State.bandSearch_keeps {s0 s : State} (h : Keeps s0 s) : ∀ x1 x2, Keeps s0 (State.bandSearch s x1 x2) := by
  intro x1 x2
  unfold State.bandSearch
  repeat' first
    | with_reducible assumption
    | with_reducible apply Keeps.ite
    | with_reducible apply Keeps.foldl
    | intro _ _ _
    | intro _ _
    | split
    | (dsimp only)
    | ((with_reducible refine Keeps.upd ?_ ?_); rotate_left; focus (first | exact ⟨rfl, rfl, rfl, rfl, rfl, rfl, rfl, rfl, rfl, rfl, rfl, rfl, rfl⟩ | (simp +zetaDelta [modAt]; done)))

theorem State.channelChange_keeps {s0 s : State} (h : Keeps s0 s) : ∀ x1 x2, Keeps s0 (State.channelChange s x1 x2) := by
  intro x1 x2
  unfold State.channelChange
  repeat' first
    | with_reducible assumption
    | with_reducible apply State.bump_keeps
    | with_reducible apply State.setRadio_keeps
    | with_reducible apply State.rxAbort_keeps
    | with_reducible apply State.radMod_keeps
    | with_reducible apply State.bandSearch_keeps
    | with_reducible apply State.mapsStale_keeps
    | with_reducible apply State.phMod_keeps
    | with_reducible apply State.loadResults_keeps
    | with_reducible apply Keeps.ite
    | with_reducible apply Keeps.foldl
    | intro _ _ _
    | intro _ _
    | split
    | (dsimp only)
    | ((with_reducible refine Keeps.upd ?_ ?_); rotate_left; focus (first | exact ⟨rfl, rfl, rfl, rfl, rfl, rfl, rfl, rfl, rfl, rfl, rfl, rfl, rfl⟩ | (simp +zetaDelta [modAt]; done)))

theorem State.fineAdjust_keeps {s0 s : State} (h : Keeps s0 s) : ∀ x1 x2 x3, Keeps s0 (State.fineAdjust s x1 x2 x3) := by
  intro x1 x2 x3
  unfold State.fineAdjust
  repeat' first
    | with_reducible assumption
    | with_reducible apply State.radMod_keeps
    | with_reducible apply State.releaseHeld_keeps
    | with_reducible apply Keeps.ite
    | with_reducible apply Keeps.foldl
    | intro _ _ _
    | intro _ _
    | split
    | (dsimp only)
    | ((with_reducible refine Keeps.upd ?_ ?_); rotate_left; focus (first | exact ⟨rfl, rfl, rfl, rfl, rfl, rfl, rfl, rfl, rfl, rfl, rfl, rfl, rfl⟩ | (simp +zetaDelta [modAt]; done)))

theorem State.stepStart_keeps {s0 s : State} (h : Keeps s0 s) : ∀ x1 x2 x3 x4, Keeps s0 (State.stepStart s x1 x2 x3 x4) := by
  intro x1 x2 x3 x4
  unfold State.stepStart
  repeat' first
    | with_reducible assumption
    | with_reducible apply State.lines_keeps
    | with_reducible apply State.put_keeps
    | with_reducible apply State.radMod_keeps
    | with_reducible apply Keeps.ite
    | with_reducible apply Keeps.foldl
    | intro _ _ _
    | intro _ _
    | split
    | (dsimp only)
    | ((with_reducible refine Keeps.upd ?_ ?_); rotate_left; focus (first | exact ⟨rfl, rfl, rfl, rfl, rfl, rfl, rfl, rfl, rfl, rfl, rfl, rfl, rfl⟩ | (simp +zetaDelta [modAt]; done)))

theorem State.stepDone_keeps {s0 s : State} (h : Keeps s0 s) : ∀ x1 x2 x3, Keeps s0 (State.stepDone s x1 x2 x3) := by
  intro x1 x2 x3
  unfold State.stepDone
  repeat' first
    | with_reducible assumption
    | with_reducible apply State.radMod_keeps
    | with_reducible apply State.put_keeps
    | with_reducible apply Keeps.ite
    | with_reducible apply Keeps.foldl
    | intro _ _ _
    | intro _ _
    | split
    | (dsimp only)
    | ((with_reducible refine Keeps.upd ?_ ?_); rotate_left; focus (first | exact ⟨rfl, rfl, rfl, rfl, rfl, rfl, rfl, rfl, rfl, rfl, rfl, rfl, rfl⟩ | (simp +zetaDelta [modAt]; done)))

theorem State.fbrxFault_keeps {s0 s : State} (h : Keeps s0 s) : ∀ x1, Keeps s0 (State.fbrxFault s x1) := by
  intro x1
  unfold State.fbrxFault
  repeat' first
    | with_reducible assumption
    | with_reducible apply State.faultNow_keeps
    | with_reducible apply State.put_keeps
    | with_reducible apply Keeps.ite
    | with_reducible apply Keeps.foldl
    | intro _ _ _
    | intro _ _
    | split
    | (dsimp only)
    | ((with_reducible refine Keeps.upd ?_ ?_); rotate_left; focus (first | exact ⟨rfl, rfl, rfl, rfl, rfl, rfl, rfl, rfl, rfl, rfl, rfl, rfl, rfl⟩ | (simp +zetaDelta [modAt]; done)))

theorem State.stepEnd_keeps {s0 s : State} (h : Keeps s0 s) : ∀ x1 x2, Keeps s0 (State.stepEnd s x1 x2) := by
  intro x1 x2
  unfold State.stepEnd
  repeat' first
    | with_reducible assumption
    | with_reducible apply State.leaveStep_keeps
    | with_reducible apply State.stepDone_keeps
    | with_reducible apply State.fbrxFault_keeps
    | with_reducible apply State.takeResult_keeps
    | with_reducible apply State.releaseHeld_keeps
    | with_reducible apply Keeps.ite
    | with_reducible apply Keeps.foldl
    | intro _ _ _
    | intro _ _
    | split
    | (dsimp only)
    | ((with_reducible refine Keeps.upd ?_ ?_); rotate_left; focus (first | exact ⟨rfl, rfl, rfl, rfl, rfl, rfl, rfl, rfl, rfl, rfl, rfl, rfl, rfl⟩ | (simp +zetaDelta [modAt]; done)))

theorem State.calOverdue_keeps {s0 s : State} (h : Keeps s0 s) : ∀ x1, Keeps s0 (State.calOverdue s x1) := by
  intro x1
  unfold State.calOverdue
  repeat' first
    | with_reducible assumption
    | with_reducible apply State.put_keeps
    | with_reducible apply State.radMod_keeps
    | with_reducible apply Keeps.ite
    | with_reducible apply Keeps.foldl
    | intro _ _ _
    | intro _ _
    | split
    | (dsimp only)
    | ((with_reducible refine Keeps.upd ?_ ?_); rotate_left; focus (first | exact ⟨rfl, rfl, rfl, rfl, rfl, rfl, rfl, rfl, rfl, rfl, rfl, rfl, rfl⟩ | (simp +zetaDelta [modAt]; done)))

theorem State.dpdCapture_keeps {s0 s : State} (h : Keeps s0 s) : ∀ x1 x2 x3 x4 x5 x6, Keeps s0 (State.dpdCapture s x1 x2 x3 x4 x5 x6) := by
  intro x1 x2 x3 x4 x5 x6
  unfold State.dpdCapture
  repeat' first
    | with_reducible assumption
    | with_reducible apply State.chainMod_keeps
    | with_reducible apply State.bump_keeps
    | with_reducible apply Keeps.ite
    | with_reducible apply Keeps.foldl
    | intro _ _ _
    | intro _ _
    | split
    | (dsimp only)
    | ((with_reducible refine Keeps.upd ?_ ?_); rotate_left; focus (first | exact ⟨rfl, rfl, rfl, rfl, rfl, rfl, rfl, rfl, rfl, rfl, rfl, rfl, rfl⟩ | (simp +zetaDelta [modAt]; done)))

theorem State.dpdAdopt_keeps {s0 s : State} (h : Keeps s0 s) : ∀ x1 x2, Keeps s0 (State.dpdAdopt s x1 x2) := by
  intro x1 x2
  unfold State.dpdAdopt
  repeat' first
    | with_reducible assumption
    | with_reducible apply State.chainMod_keeps
    | with_reducible apply State.put_keeps
    | with_reducible apply Keeps.ite
    | with_reducible apply Keeps.foldl
    | intro _ _ _
    | intro _ _
    | split
    | (dsimp only)
    | ((with_reducible refine Keeps.upd ?_ ?_); rotate_left; focus (first | exact ⟨rfl, rfl, rfl, rfl, rfl, rfl, rfl, rfl, rfl, rfl, rfl, rfl, rfl⟩ | (simp +zetaDelta [modAt]; done)))

theorem State.regSelectWrite_keeps {s0 s : State} (h : Keeps s0 s) : ∀ x1, Keeps s0 (State.regSelectWrite s x1) := by
  intro x1
  unfold State.regSelectWrite
  repeat' first
    | with_reducible assumption
    | with_reducible apply State.put_keeps
    | with_reducible apply State.bump_keeps
    | with_reducible apply Keeps.ite
    | with_reducible apply Keeps.foldl
    | intro _ _ _
    | intro _ _
    | split
    | (dsimp only)
    | ((with_reducible refine Keeps.upd ?_ ?_); rotate_left; focus (first | exact ⟨rfl, rfl, rfl, rfl, rfl, rfl, rfl, rfl, rfl, rfl, rfl, rfl, rfl⟩ | (simp +zetaDelta [modAt]; done)))

theorem State.fuseCtrlWrite_keeps {s0 s : State} (h : Keeps s0 s) : ∀ x1, Keeps s0 (State.fuseCtrlWrite s x1) := by
  intro x1
  unfold State.fuseCtrlWrite
  repeat' first
    | with_reducible assumption
    | with_reducible apply State.bump_keeps
    | with_reducible apply State.raise_keeps
    | with_reducible apply State.put_keeps
    | with_reducible apply Keeps.ite
    | with_reducible apply Keeps.foldl
    | intro _ _ _
    | intro _ _
    | split
    | (dsimp only)
    | ((with_reducible refine Keeps.upd ?_ ?_); rotate_left; focus (first | exact ⟨rfl, rfl, rfl, rfl, rfl, rfl, rfl, rfl, rfl, rfl, rfl, rfl, rfl⟩ | (simp +zetaDelta [modAt]; done)))

theorem State.fuseDone_keeps {s0 s : State} (h : Keeps s0 s) : Keeps s0 (State.fuseDone s) := by
  unfold State.fuseDone
  repeat' first
    | with_reducible assumption
    | with_reducible apply State.put_keeps
    | with_reducible apply State.raise_keeps
    | with_reducible apply Keeps.ite
    | with_reducible apply Keeps.foldl
    | intro _ _ _
    | intro _ _
    | split
    | (dsimp only)
    | ((with_reducible refine Keeps.upd ?_ ?_); rotate_left; focus (first | exact ⟨rfl, rfl, rfl, rfl, rfl, rfl, rfl, rfl, rfl, rfl, rfl, rfl, rfl⟩ | (simp +zetaDelta [modAt]; done)))

theorem State.extHighRequest_keeps {s0 s : State} (h : Keeps s0 s) : Keeps s0 (State.extHighRequest s) := by
  unfold State.extHighRequest
  repeat' first
    | with_reducible assumption
    | with_reducible apply State.coexCut_keeps
    | with_reducible apply State.extRetry_keeps
    | with_reducible apply Keeps.ite
    | with_reducible apply Keeps.foldl
    | intro _ _ _
    | intro _ _
    | split
    | (dsimp only)
    | ((with_reducible refine Keeps.upd ?_ ?_); rotate_left; focus (first | exact ⟨rfl, rfl, rfl, rfl, rfl, rfl, rfl, rfl, rfl, rfl, rfl, rfl, rfl⟩ | (simp +zetaDelta [modAt]; done)))

theorem State.extRise_keeps {s0 s : State} (h : Keeps s0 s) : ∀ x1, Keeps s0 (State.extRise s x1) := by
  intro x1
  unfold State.extRise
  repeat' first
    | with_reducible assumption
    | with_reducible apply State.extHighRequest_keeps
    | with_reducible apply State.extRetry_keeps
    | with_reducible apply Keeps.ite
    | with_reducible apply Keeps.foldl
    | intro _ _ _
    | intro _ _
    | split
    | (dsimp only)
    | ((with_reducible refine Keeps.upd ?_ ?_); rotate_left; focus (first | exact ⟨rfl, rfl, rfl, rfl, rfl, rfl, rfl, rfl, rfl, rfl, rfl, rfl, rfl⟩ | (simp +zetaDelta [modAt]; done)))

theorem State.coexCtrlWrite_keeps {s0 s : State} (h : Keeps s0 s) : ∀ x1, Keeps s0 (State.coexCtrlWrite s x1) := by
  intro x1
  unfold State.coexCtrlWrite
  repeat' first
    | with_reducible assumption
    | with_reducible apply State.tableWrite_keeps
    | with_reducible apply State.extHighRequest_keeps
    | with_reducible apply State.extRetry_keeps
    | with_reducible apply State.releaseAll_keeps
    | with_reducible apply Keeps.ite
    | with_reducible apply Keeps.foldl
    | intro _ _ _
    | intro _ _
    | split
    | (dsimp only)
    | ((with_reducible refine Keeps.upd ?_ ?_); rotate_left; focus (first | exact ⟨rfl, rfl, rfl, rfl, rfl, rfl, rfl, rfl, rfl, rfl, rfl, rfl, rfl⟩ | (simp +zetaDelta [modAt]; done)))

theorem State.devTimeout_keeps {s0 s : State} (h : Keeps s0 s) : ∀ x1, Keeps s0 (State.devTimeout s x1) := by
  intro x1
  unfold State.devTimeout
  repeat' first
    | with_reducible assumption
    | with_reducible apply State.radMod_keeps
    | with_reducible apply State.put_keeps
    | with_reducible apply State.status_keeps
    | with_reducible apply State.bump_keeps
    | with_reducible apply Keeps.ite
    | with_reducible apply Keeps.foldl
    | intro _ _ _
    | intro _ _
    | split
    | (dsimp only)
    | ((with_reducible refine Keeps.upd ?_ ?_); rotate_left; focus (first | exact ⟨rfl, rfl, rfl, rfl, rfl, rfl, rfl, rfl, rfl, rfl, rfl, rfl, rfl⟩ | (simp +zetaDelta [modAt]; done)))

theorem State.cmpPin_keeps {s0 s : State} (h : Keeps s0 s) : ∀ x1 x2, Keeps s0 (State.cmpPin s x1 x2) := by
  intro x1 x2
  unfold State.cmpPin
  repeat' first
    | with_reducible assumption
    | with_reducible apply State.drivePin_keeps
    | with_reducible apply Keeps.ite
    | with_reducible apply Keeps.foldl
    | intro _ _ _
    | intro _ _
    | split
    | (dsimp only)
    | ((with_reducible refine Keeps.upd ?_ ?_); rotate_left; focus (first | exact ⟨rfl, rfl, rfl, rfl, rfl, rfl, rfl, rfl, rfl, rfl, rfl, rfl, rfl⟩ | (simp +zetaDelta [modAt]; done)))

theorem State.cmpOutput_keeps {s0 s : State} (h : Keeps s0 s) : ∀ x1, Keeps s0 (State.cmpOutput s x1) := by
  intro x1
  unfold State.cmpOutput
  repeat' first
    | with_reducible assumption
    | with_reducible apply State.raise_keeps
    | with_reducible apply State.cmpPin_keeps
    | with_reducible apply State.calTickRadio_keeps
    | with_reducible apply Keeps.ite
    | with_reducible apply Keeps.foldl
    | intro _ _ _
    | intro _ _
    | split
    | (dsimp only)
    | ((with_reducible refine Keeps.upd ?_ ?_); rotate_left; focus (first | exact ⟨rfl, rfl, rfl, rfl, rfl, rfl, rfl, rfl, rfl, rfl, rfl, rfl, rfl⟩ | (simp +zetaDelta [modAt]; done)))

theorem State.cmpFire_keeps {s0 s : State} (h : Keeps s0 s) : ∀ x1, Keeps s0 (State.cmpFire s x1) := by
  intro x1
  unfold State.cmpFire
  repeat' first
    | with_reducible assumption
    | with_reducible apply State.cmpOutput_keeps
    | with_reducible apply State.cmpWake_keeps
    | with_reducible apply State.raise_keeps
    | with_reducible apply State.put_keeps
    | with_reducible apply Keeps.ite
    | with_reducible apply Keeps.foldl
    | intro _ _ _
    | intro _ _
    | split
    | (dsimp only)
    | ((with_reducible refine Keeps.upd ?_ ?_); rotate_left; focus (first | exact ⟨rfl, rfl, rfl, rfl, rfl, rfl, rfl, rfl, rfl, rfl, rfl, rfl, rfl⟩ | (simp +zetaDelta [modAt]; done)))

end Sys2Proof.Machine
end

