-- ==== Sys2Proof/Laws/Keeps3.lean ====
section
/-! SUPPORT. What the operations of Holdover, Engines, Recut, Dram keep. -/

namespace Sys2Proof.Machine

theorem State.holdMod_keeps {s0 s : State} (h : Keeps s0 s) : ∀ x1, Keeps s0 (State.holdMod s x1) := by
  intro x1
  unfold State.holdMod
  repeat' first
    | with_reducible assumption
    | with_reducible apply Keeps.ite
    | with_reducible apply Keeps.foldl
    | intro _ _ _
    | intro _ _
    | split
    | (dsimp only)
    | ((with_reducible refine Keeps.upd ?_ ?_); rotate_left; focus (first | exact ⟨rfl, rfl, rfl, rfl, rfl, rfl, rfl, rfl, rfl, rfl, rfl, rfl, rfl⟩ | (simp +zetaDelta [modAt]; done)))

theorem State.runsFollow_keeps {s0 s : State} (h : Keeps s0 s) : Keeps s0 (State.runsFollow s) := by
  unfold State.runsFollow
  repeat' first
    | with_reducible assumption
    | with_reducible apply State.grMod_keeps
    | with_reducible apply Keeps.ite
    | with_reducible apply Keeps.foldl
    | intro _ _ _
    | intro _ _
    | split
    | (dsimp only)
    | ((with_reducible refine Keeps.upd ?_ ?_); rotate_left; focus (first | exact ⟨rfl, rfl, rfl, rfl, rfl, rfl, rfl, rfl, rfl, rfl, rfl, rfl, rfl⟩ | (simp +zetaDelta [modAt]; done)))

theorem State.stageTo_keeps {s0 s : State} (h : Keeps s0 s) : ∀ x1, Keeps s0 (State.stageTo s x1) := by
  intro x1
  unfold State.stageTo
  repeat' first
    | with_reducible assumption
    | with_reducible apply State.put_keeps
    | with_reducible apply State.runsFollow_keeps
    | with_reducible apply Keeps.ite
    | with_reducible apply Keeps.foldl
    | intro _ _ _
    | intro _ _
    | split
    | (dsimp only)
    | ((with_reducible refine Keeps.upd ?_ ?_); rotate_left; focus (first | exact ⟨rfl, rfl, rfl, rfl, rfl, rfl, rfl, rfl, rfl, rfl, rfl, rfl, rfl⟩ | (simp +zetaDelta [modAt]; done)))

theorem State.refTo_keeps {s0 s : State} (h : Keeps s0 s) : ∀ x1, Keeps s0 (State.refTo s x1) := by
  intro x1
  unfold State.refTo
  repeat' first
    | with_reducible assumption
    | with_reducible apply State.put_keeps
    | with_reducible apply State.holdMod_keeps
    | with_reducible apply Keeps.ite
    | with_reducible apply Keeps.foldl
    | intro _ _ _
    | intro _ _
    | split
    | (dsimp only)
    | ((with_reducible refine Keeps.upd ?_ ?_); rotate_left; focus (first | exact ⟨rfl, rfl, rfl, rfl, rfl, rfl, rfl, rfl, rfl, rfl, rfl, rfl, rfl⟩ | (simp +zetaDelta [modAt]; done)))

theorem State.refNext_keeps {s0 s : State} (h : Keeps s0 s) : Keeps s0 (State.refNext s) := by
  unfold State.refNext
  repeat' first
    | with_reducible assumption
    | with_reducible apply State.refTo_keeps
    | with_reducible apply Keeps.ite
    | with_reducible apply Keeps.foldl
    | intro _ _ _
    | intro _ _
    | split
    | (dsimp only)
    | ((with_reducible refine Keeps.upd ?_ ?_); rotate_left; focus (first | exact ⟨rfl, rfl, rfl, rfl, rfl, rfl, rfl, rfl, rfl, rfl, rfl, rfl, rfl⟩ | (simp +zetaDelta [modAt]; done)))

theorem State.enterHoldover_keeps {s0 s : State} (h : Keeps s0 s) : Keeps s0 (State.enterHoldover s) := by
  unfold State.enterHoldover
  repeat' first
    | with_reducible assumption
    | with_reducible apply State.holdMod_keeps
    | with_reducible apply State.bump_keeps
    | with_reducible apply State.put_keeps
    | with_reducible apply State.refNext_keeps
    | with_reducible apply State.stageTo_keeps
    | with_reducible apply Keeps.ite
    | with_reducible apply Keeps.foldl
    | intro _ _ _
    | intro _ _
    | split
    | (dsimp only)
    | ((with_reducible refine Keeps.upd ?_ ?_); rotate_left; focus (first | exact ⟨rfl, rfl, rfl, rfl, rfl, rfl, rfl, rfl, rfl, rfl, rfl, rfl, rfl⟩ | (simp +zetaDelta [modAt]; done)))

theorem State.enterDetached_keeps {s0 s : State} (h : Keeps s0 s) : Keeps s0 (State.enterDetached s) := by
  unfold State.enterDetached
  repeat' first
    | with_reducible assumption
    | with_reducible apply State.stageTo_keeps
    | with_reducible apply State.put_keeps
    | with_reducible apply Keeps.ite
    | with_reducible apply Keeps.foldl
    | intro _ _ _
    | intro _ _
    | split
    | (dsimp only)
    | ((with_reducible refine Keeps.upd ?_ ?_); rotate_left; focus (first | exact ⟨rfl, rfl, rfl, rfl, rfl, rfl, rfl, rfl, rfl, rfl, rfl, rfl, rfl⟩ | (simp +zetaDelta [modAt]; done)))

theorem State.stageCheck_keeps {s0 s : State} (h : Keeps s0 s) : Keeps s0 (State.stageCheck s) := by
  unfold State.stageCheck
  repeat' first
    | with_reducible assumption
    | with_reducible apply State.stageTo_keeps
    | with_reducible apply State.enterDetached_keeps
    | with_reducible apply Keeps.ite
    | with_reducible apply Keeps.foldl
    | intro _ _ _
    | intro _ _
    | split
    | (dsimp only)
    | ((with_reducible refine Keeps.upd ?_ ?_); rotate_left; focus (first | exact ⟨rfl, rfl, rfl, rfl, rfl, rfl, rfl, rfl, rfl, rfl, rfl, rfl, rfl⟩ | (simp +zetaDelta [modAt]; done)))

theorem State.guardRecompute_keeps {s0 s : State} (h : Keeps s0 s) : Keeps s0 (State.guardRecompute s) := by
  unfold State.guardRecompute
  repeat' first
    | with_reducible assumption
    | with_reducible apply State.stageCheck_keeps
    | with_reducible apply State.put_keeps
    | with_reducible apply Keeps.ite
    | with_reducible apply Keeps.foldl
    | intro _ _ _
    | intro _ _
    | split
    | (dsimp only)
    | ((with_reducible refine Keeps.upd ?_ ?_); rotate_left; focus (first | exact ⟨rfl, rfl, rfl, rfl, rfl, rfl, rfl, rfl, rfl, rfl, rfl, rfl, rfl⟩ | (simp +zetaDelta [modAt]; done)))

theorem State.periodEnd_keeps {s0 s : State} (h : Keeps s0 s) : Keeps s0 (State.periodEnd s) := by
  unfold State.periodEnd
  repeat' first
    | with_reducible assumption
    | with_reducible apply State.put_keeps
    | with_reducible apply State.holdMod_keeps
    | with_reducible apply State.enterHoldover_keeps
    | with_reducible apply State.refNext_keeps
    | with_reducible apply Keeps.ite
    | with_reducible apply Keeps.foldl
    | intro _ _ _
    | intro _ _
    | split
    | (dsimp only)
    | ((with_reducible refine Keeps.upd ?_ ?_); rotate_left; focus (first | exact ⟨rfl, rfl, rfl, rfl, rfl, rfl, rfl, rfl, rfl, rfl, rfl, rfl, rfl⟩ | (simp +zetaDelta [modAt]; done)))

theorem State.relockDue_keeps {s0 s : State} (h : Keeps s0 s) : Keeps s0 (State.relockDue s) := by
  unfold State.relockDue
  repeat' first
    | with_reducible assumption
    | with_reducible apply State.holdMod_keeps
    | with_reducible apply Keeps.ite
    | with_reducible apply Keeps.foldl
    | intro _ _ _
    | intro _ _
    | split
    | (dsimp only)
    | ((with_reducible refine Keeps.upd ?_ ?_); rotate_left; focus (first | exact ⟨rfl, rfl, rfl, rfl, rfl, rfl, rfl, rfl, rfl, rfl, rfl, rfl, rfl⟩ | (simp +zetaDelta [modAt]; done)))

theorem State.locked_keeps {s0 s : State} (h : Keeps s0 s) : Keeps s0 (State.locked s) := by
  unfold State.locked
  repeat' first
    | with_reducible assumption
    | with_reducible apply State.put_keeps
    | with_reducible apply State.stageTo_keeps
    | with_reducible apply State.holdMod_keeps
    | with_reducible apply Keeps.ite
    | with_reducible apply Keeps.foldl
    | intro _ _ _
    | intro _ _
    | split
    | (dsimp only)
    | ((with_reducible refine Keeps.upd ?_ ?_); rotate_left; focus (first | exact ⟨rfl, rfl, rfl, rfl, rfl, rfl, rfl, rfl, rfl, rfl, rfl, rfl, rfl⟩ | (simp +zetaDelta [modAt]; done)))

theorem State.relock_keeps {s0 s : State} (h : Keeps s0 s) : Keeps s0 (State.relock s) := by
  unfold State.relock
  repeat' first
    | with_reducible assumption
    | with_reducible apply State.locked_keeps
    | with_reducible apply Keeps.ite
    | with_reducible apply Keeps.foldl
    | intro _ _ _
    | intro _ _
    | split
    | (dsimp only)
    | ((with_reducible refine Keeps.upd ?_ ?_); rotate_left; focus (first | exact ⟨rfl, rfl, rfl, rfl, rfl, rfl, rfl, rfl, rfl, rfl, rfl, rfl, rfl⟩ | (simp +zetaDelta [modAt]; done)))

theorem State.rootFollow_keeps {s0 s : State} (h : Keeps s0 s) : Keeps s0 (State.rootFollow s) := by
  unfold State.rootFollow
  repeat' first
    | with_reducible assumption
    | with_reducible apply State.locked_keeps
    | with_reducible apply State.holdMod_keeps
    | with_reducible apply Keeps.ite
    | with_reducible apply Keeps.foldl
    | intro _ _ _
    | intro _ _
    | split
    | (dsimp only)
    | ((with_reducible refine Keeps.upd ?_ ?_); rotate_left; focus (first | exact ⟨rfl, rfl, rfl, rfl, rfl, rfl, rfl, rfl, rfl, rfl, rfl, rfl, rfl⟩ | (simp +zetaDelta [modAt]; done)))

theorem State.engMod_keeps {s0 s : State} (h : Keeps s0 s) : ∀ x1 x2, Keeps s0 (State.engMod s x1 x2) := by
  intro x1 x2
  unfold State.engMod
  repeat' first
    | with_reducible assumption
    | with_reducible apply Keeps.ite
    | with_reducible apply Keeps.foldl
    | intro _ _ _
    | intro _ _
    | split
    | (dsimp only)
    | ((with_reducible refine Keeps.upd ?_ ?_); rotate_left; focus (first | exact ⟨rfl, rfl, rfl, rfl, rfl, rfl, rfl, rfl, rfl, rfl, rfl, rfl, rfl⟩ | (simp +zetaDelta [modAt]; done)))

theorem State.roleMod_keeps {s0 s : State} (h : Keeps s0 s) : ∀ x1 x2, Keeps s0 (State.roleMod s x1 x2) := by
  intro x1 x2
  unfold State.roleMod
  repeat' first
    | with_reducible assumption
    | with_reducible apply Keeps.ite
    | with_reducible apply Keeps.foldl
    | intro _ _ _
    | intro _ _
    | split
    | (dsimp only)
    | ((with_reducible refine Keeps.upd ?_ ?_); rotate_left; focus (first | exact ⟨rfl, rfl, rfl, rfl, rfl, rfl, rfl, rfl, rfl, rfl, rfl, rfl, rfl⟩ | (simp +zetaDelta [modAt]; done)))

theorem State.engSync_keeps {s0 s : State} (h : Keeps s0 s) : Keeps s0 (State.engSync s) := by
  unfold State.engSync
  repeat' first
    | with_reducible assumption
    | with_reducible apply State.put_keeps
    | with_reducible apply Keeps.ite
    | with_reducible apply Keeps.foldl
    | intro _ _ _
    | intro _ _
    | split
    | (dsimp only)
    | ((with_reducible refine Keeps.upd ?_ ?_); rotate_left; focus (first | exact ⟨rfl, rfl, rfl, rfl, rfl, rfl, rfl, rfl, rfl, rfl, rfl, rfl, rfl⟩ | (simp +zetaDelta [modAt]; done)))

theorem State.setEngine_keeps {s0 s : State} (h : Keeps s0 s) : ∀ x1 x2 x3 x4, Keeps s0 (State.setEngine s x1 x2 x3 x4) := by
  intro x1 x2 x3 x4
  unfold State.setEngine
  repeat' first
    | with_reducible assumption
    | with_reducible apply State.put_keeps
    | with_reducible apply State.engSync_keeps
    | with_reducible apply Keeps.ite
    | with_reducible apply Keeps.foldl
    | intro _ _ _
    | intro _ _
    | split
    | (dsimp only)
    | ((with_reducible refine Keeps.upd ?_ ?_); rotate_left; focus (first | exact ⟨rfl, rfl, rfl, rfl, rfl, rfl, rfl, rfl, rfl, rfl, rfl, rfl, rfl⟩ | (simp +zetaDelta [modAt]; done)))

theorem State.peak_keeps {s0 s : State} (h : Keeps s0 s) : ∀ x1, Keeps s0 (State.peak s x1) := by
  intro x1
  unfold State.peak
  repeat' first
    | with_reducible assumption
    | with_reducible apply State.putMax_keeps
    | with_reducible apply Keeps.ite
    | with_reducible apply Keeps.foldl
    | intro _ _ _
    | intro _ _
    | split
    | (dsimp only)
    | ((with_reducible refine Keeps.upd ?_ ?_); rotate_left; focus (first | exact ⟨rfl, rfl, rfl, rfl, rfl, rfl, rfl, rfl, rfl, rfl, rfl, rfl, rfl⟩ | (simp +zetaDelta [modAt]; done)))

theorem State.stallOn_keeps {s0 s : State} (h : Keeps s0 s) : ∀ x1, Keeps s0 (State.stallOn s x1) := by
  intro x1
  unfold State.stallOn
  repeat' first
    | with_reducible assumption
    | with_reducible apply State.bump_keeps
    | with_reducible apply State.roleMod_keeps
    | with_reducible apply Keeps.ite
    | with_reducible apply Keeps.foldl
    | intro _ _ _
    | intro _ _
    | split
    | (dsimp only)
    | ((with_reducible refine Keeps.upd ?_ ?_); rotate_left; focus (first | exact ⟨rfl, rfl, rfl, rfl, rfl, rfl, rfl, rfl, rfl, rfl, rfl, rfl, rfl⟩ | (simp +zetaDelta [modAt]; done)))

theorem State.stallTime_keeps {s0 s : State} (h : Keeps s0 s) : ∀ x1 x2, Keeps s0 (State.stallTime s x1 x2) := by
  intro x1 x2
  unfold State.stallTime
  repeat' first
    | with_reducible assumption
    | with_reducible apply State.count_keeps
    | with_reducible apply State.roleMod_keeps
    | with_reducible apply Keeps.ite
    | with_reducible apply Keeps.foldl
    | intro _ _ _
    | intro _ _
    | split
    | (dsimp only)
    | ((with_reducible refine Keeps.upd ?_ ?_); rotate_left; focus (first | exact ⟨rfl, rfl, rfl, rfl, rfl, rfl, rfl, rfl, rfl, rfl, rfl, rfl, rfl⟩ | (simp +zetaDelta [modAt]; done)))

theorem State.offer_keeps {s0 s : State} (h : Keeps s0 s) : ∀ x1 x2, Keeps s0 (State.offer s x1 x2) := by
  intro x1 x2
  unfold State.offer
  repeat' first
    | with_reducible assumption
    | with_reducible apply State.peak_keeps
    | with_reducible apply State.roleMod_keeps
    | with_reducible apply State.stallOn_keeps
    | with_reducible apply State.bump_keeps
    | with_reducible apply Keeps.ite
    | with_reducible apply Keeps.foldl
    | intro _ _ _
    | intro _ _
    | split
    | (dsimp only)
    | ((with_reducible refine Keeps.upd ?_ ?_); rotate_left; focus (first | exact ⟨rfl, rfl, rfl, rfl, rfl, rfl, rfl, rfl, rfl, rfl, rfl, rfl, rfl⟩ | (simp +zetaDelta [modAt]; done)))

theorem State.shadowCopy_keeps {s0 s : State} (h : Keeps s0 s) : ∀ x1 x2, Keeps s0 (State.shadowCopy s x1 x2) := by
  intro x1 x2
  unfold State.shadowCopy
  repeat' first
    | with_reducible assumption
    | with_reducible apply Keeps.ite
    | with_reducible apply Keeps.foldl
    | intro _ _ _
    | intro _ _
    | split
    | (dsimp only)
    | ((with_reducible refine Keeps.upd ?_ ?_); rotate_left; focus (first | exact ⟨rfl, rfl, rfl, rfl, rfl, rfl, rfl, rfl, rfl, rfl, rfl, rfl, rfl⟩ | (simp +zetaDelta [modAt]; done)))

theorem State.issue_keeps {s0 s : State} (h : Keeps s0 s) : ∀ x1, Keeps s0 (State.issue s x1) := by
  intro x1
  unfold State.issue
  repeat' first
    | with_reducible assumption
    | with_reducible apply State.roleMod_keeps
    | with_reducible apply State.shadowCopy_keeps
    | with_reducible apply Keeps.ite
    | with_reducible apply Keeps.foldl
    | intro _ _ _
    | intro _ _
    | split
    | (dsimp only)
    | ((with_reducible refine Keeps.upd ?_ ?_); rotate_left; focus (first | exact ⟨rfl, rfl, rfl, rfl, rfl, rfl, rfl, rfl, rfl, rfl, rfl, rfl, rfl⟩ | (simp +zetaDelta [modAt]; done)))

theorem State.commit_keeps {s0 s : State} (h : Keeps s0 s) : ∀ x1 x2 x3 x4, Keeps s0 (State.commit s x1 x2 x3 x4) := by
  intro x1 x2 x3 x4
  unfold State.commit
  repeat' first
    | with_reducible assumption
    | with_reducible apply State.engMod_keeps
    | with_reducible apply State.roleMod_keeps
    | with_reducible apply Keeps.ite
    | with_reducible apply Keeps.foldl
    | intro _ _ _
    | intro _ _
    | split
    | (dsimp only)
    | ((with_reducible refine Keeps.upd ?_ ?_); rotate_left; focus (first | exact ⟨rfl, rfl, rfl, rfl, rfl, rfl, rfl, rfl, rfl, rfl, rfl, rfl, rfl⟩ | (simp +zetaDelta [modAt]; done)))

theorem State.uncommit_keeps {s0 s : State} (h : Keeps s0 s) : ∀ x1, Keeps s0 (State.uncommit s x1) := by
  intro x1
  unfold State.uncommit
  repeat' first
    | with_reducible assumption
    | with_reducible apply State.roleMod_keeps
    | with_reducible apply Keeps.ite
    | with_reducible apply Keeps.foldl
    | intro _ _ _
    | intro _ _
    | split
    | (dsimp only)
    | ((with_reducible refine Keeps.upd ?_ ?_); rotate_left; focus (first | exact ⟨rfl, rfl, rfl, rfl, rfl, rfl, rfl, rfl, rfl, rfl, rfl, rfl, rfl⟩ | (simp +zetaDelta [modAt]; done)))

theorem State.putEntryRole_keeps {s0 s : State} (h : Keeps s0 s) : ∀ x1 x2 x3, Keeps s0 (State.putEntryRole s x1 x2 x3) := by
  intro x1 x2 x3
  unfold State.putEntryRole
  repeat' first
    | with_reducible assumption
    | with_reducible apply Keeps.wr
    | with_reducible apply Keeps.ite
    | with_reducible apply Keeps.foldl
    | intro _ _ _
    | intro _ _
    | split
    | (dsimp only)
    | ((with_reducible refine Keeps.upd ?_ ?_); rotate_left; focus (first | exact ⟨rfl, rfl, rfl, rfl, rfl, rfl, rfl, rfl, rfl, rfl, rfl, rfl, rfl⟩ | (simp +zetaDelta [modAt]; done)))

theorem State.rewriteEntries_keeps {s0 s : State} (h : Keeps s0 s) : ∀ x1 x2, Keeps s0 (State.rewriteEntries s x1 x2).2 := by
  intro x1 x2
  refine Keeps.foldl_snd h _ fun a k ha => ?_
  split
  · exact State.putEntryRole_keeps ha _ _ _
  · exact ha

theorem State.rewriteEntries_keeps_eq {s0 s t : State} {x1 x2 a} (h : Keeps s0 s) (e : State.rewriteEntries s x1 x2 = (a, t)) : Keeps s0 t := by
  have := State.rewriteEntries_keeps h x1 x2
  rw [e] at this
  exact this

theorem State.shed_keeps {s0 s : State} (h : Keeps s0 s) : ∀ x1 x2, Keeps s0 (State.shed s x1 x2) := by
  intro x1 x2
  unfold State.shed
  repeat' first
    | with_reducible assumption
    | with_reducible apply State.uncommit_keeps
    | with_reducible apply State.rewriteEntries_keeps
    | with_reducible apply State.roleMod_keeps
    | with_reducible apply State.peak_keeps
    | with_reducible apply State.put_keeps
    | with_reducible refine State.rewriteEntries_keeps_eq ?_ (by with_reducible assumption)
    | with_reducible apply Keeps.ite
    | with_reducible apply Keeps.foldl
    | intro _ _ _
    | intro _ _
    | split
    | (dsimp only)
    | ((with_reducible refine Keeps.upd ?_ ?_); rotate_left; focus (first | exact ⟨rfl, rfl, rfl, rfl, rfl, rfl, rfl, rfl, rfl, rfl, rfl, rfl, rfl⟩ | (simp +zetaDelta [modAt]; done)))

theorem State.stopRole_keeps {s0 s : State} (h : Keeps s0 s) : ∀ x1, Keeps s0 (State.stopRole s x1) := by
  intro x1
  unfold State.stopRole
  repeat' first
    | with_reducible assumption
    | with_reducible apply State.roleMod_keeps
    | with_reducible apply State.uncommit_keeps
    | with_reducible apply State.put_keeps
    | with_reducible apply Keeps.ite
    | with_reducible apply Keeps.foldl
    | intro _ _ _
    | intro _ _
    | split
    | (dsimp only)
    | ((with_reducible refine Keeps.upd ?_ ?_); rotate_left; focus (first | exact ⟨rfl, rfl, rfl, rfl, rfl, rfl, rfl, rfl, rfl, rfl, rfl, rfl, rfl⟩ | (simp +zetaDelta [modAt]; done)))

theorem State.takeHalted_keeps {s0 s : State} (h : Keeps s0 s) : Keeps s0 (State.takeHalted s) := by
  unfold State.takeHalted
  repeat' first
    | with_reducible assumption
    | with_reducible apply Keeps.ite
    | with_reducible apply Keeps.foldl
    | intro _ _ _
    | intro _ _
    | split
    | (dsimp only)
    | ((with_reducible refine Keeps.upd ?_ ?_); rotate_left; focus (first | exact ⟨rfl, rfl, rfl, rfl, rfl, rfl, rfl, rfl, rfl, rfl, rfl, rfl, rfl⟩ | (simp +zetaDelta [modAt]; done)))

theorem State.letGo_keeps {s0 s : State} (h : Keeps s0 s) : ∀ x1, Keeps s0 (State.letGo s x1) := by
  intro x1
  unfold State.letGo
  repeat' first
    | with_reducible assumption
    | with_reducible apply State.put_keeps
    | with_reducible apply Keeps.ite
    | with_reducible apply Keeps.foldl
    | intro _ _ _
    | intro _ _
    | split
    | (dsimp only)
    | ((with_reducible refine Keeps.upd ?_ ?_); rotate_left; focus (first | exact ⟨rfl, rfl, rfl, rfl, rfl, rfl, rfl, rfl, rfl, rfl, rfl, rfl, rfl⟩ | (simp +zetaDelta [modAt]; done)))

theorem State.engDone_keeps {s0 s : State} (h : Keeps s0 s) : ∀ x1, Keeps s0 (State.engDone s x1) := by
  intro x1
  unfold State.engDone
  repeat' first
    | with_reducible assumption
    | with_reducible apply State.faultDone_keeps
    | with_reducible apply Keeps.ite
    | with_reducible apply Keeps.foldl
    | intro _ _ _
    | intro _ _
    | split
    | (dsimp only)
    | ((with_reducible refine Keeps.upd ?_ ?_); rotate_left; focus (first | exact ⟨rfl, rfl, rfl, rfl, rfl, rfl, rfl, rfl, rfl, rfl, rfl, rfl, rfl⟩ | (simp +zetaDelta [modAt]; done)))

theorem State.beginMove_keeps {s0 s : State} (h : Keeps s0 s) : ∀ x1, Keeps s0 (State.beginMove s x1) := by
  intro x1
  unfold State.beginMove
  repeat' first
    | with_reducible assumption
    | with_reducible apply State.setEngine_keeps
    | with_reducible apply State.put_keeps
    | with_reducible apply State.takeHalted_keeps
    | with_reducible apply State.letGo_keeps
    | with_reducible apply State.shed_keeps
    | with_reducible apply State.engDone_keeps
    | with_reducible apply State.faultUpdate_keeps
    | with_reducible apply State.stopRole_keeps
    | with_reducible apply Keeps.ite
    | with_reducible apply Keeps.foldl
    | intro _ _ _
    | intro _ _
    | split
    | (dsimp only)
    | ((with_reducible refine Keeps.upd ?_ ?_); rotate_left; focus (first | exact ⟨rfl, rfl, rfl, rfl, rfl, rfl, rfl, rfl, rfl, rfl, rfl, rfl, rfl⟩ | (simp +zetaDelta [modAt]; done)))

theorem State.nextMoveTk_keeps {s0 s : State} (h : Keeps s0 s) : ∀ x1, Keeps s0 (State.nextMoveTk s x1) := by
  intro x1
  induction x1 generalizing s with
  | zero => exact h
  | succ k ih =>
    unfold State.nextMoveTk
    split
    · refine ih (State.beginMove_keeps ?_ _)
      refine Keeps.upd h ?_
      exact ⟨rfl, rfl, rfl, rfl, rfl, rfl, rfl, rfl, rfl, rfl, rfl, rfl, rfl⟩
    · exact h

theorem State.requestMove_keeps {s0 s : State} (h : Keeps s0 s) : ∀ x1, Keeps s0 (State.requestMove s x1) := by
  intro x1
  unfold State.requestMove
  repeat' first
    | with_reducible assumption
    | with_reducible apply State.pwrTakeover_keeps
    | with_reducible apply State.put_keeps
    | with_reducible apply State.nextMoveTk_keeps
    | with_reducible apply Keeps.ite
    | with_reducible apply Keeps.foldl
    | intro _ _ _
    | intro _ _
    | split
    | (dsimp only)
    | ((with_reducible refine Keeps.upd ?_ ?_); rotate_left; focus (first | exact ⟨rfl, rfl, rfl, rfl, rfl, rfl, rfl, rfl, rfl, rfl, rfl, rfl, rfl⟩ | (simp +zetaDelta [modAt]; done)))

theorem State.blankFree_keeps {s0 s : State} (h : Keeps s0 s) : Keeps s0 (State.blankFree s) := by
  unfold State.blankFree
  repeat' first
    | with_reducible assumption
    | with_reducible apply State.requestMove_keeps
    | with_reducible apply Keeps.ite
    | with_reducible apply Keeps.foldl
    | intro _ _ _
    | intro _ _
    | split
    | (dsimp only)
    | ((with_reducible refine Keeps.upd ?_ ?_); rotate_left; focus (first | exact ⟨rfl, rfl, rfl, rfl, rfl, rfl, rfl, rfl, rfl, rfl, rfl, rfl, rfl⟩ | (simp +zetaDelta [modAt]; done)))

theorem State.cancelMove_keeps {s0 s : State} (h : Keeps s0 s) : Keeps s0 (State.cancelMove s) := by
  unfold State.cancelMove
  repeat' first
    | with_reducible assumption
    | with_reducible apply State.put_keeps
    | with_reducible apply State.setEngine_keeps
    | with_reducible apply State.engSync_keeps
    | with_reducible apply Keeps.ite
    | with_reducible apply Keeps.foldl
    | intro _ _ _
    | intro _ _
    | split
    | (dsimp only)
    | ((with_reducible refine Keeps.upd ?_ ?_); rotate_left; focus (first | exact ⟨rfl, rfl, rfl, rfl, rfl, rfl, rfl, rfl, rfl, rfl, rfl, rfl, rfl⟩ | (simp +zetaDelta [modAt]; done)))

theorem State.pauseRecut_keeps {s0 s : State} (h : Keeps s0 s) : ∀ x1, Keeps s0 (State.pauseRecut s x1) := by
  intro x1
  unfold State.pauseRecut
  repeat' first
    | with_reducible assumption
    | with_reducible apply State.engSync_keeps
    | with_reducible apply State.put_keeps
    | with_reducible apply Keeps.ite
    | with_reducible apply Keeps.foldl
    | intro _ _ _
    | intro _ _
    | split
    | (dsimp only)
    | ((with_reducible refine Keeps.upd ?_ ?_); rotate_left; focus (first | exact ⟨rfl, rfl, rfl, rfl, rfl, rfl, rfl, rfl, rfl, rfl, rfl, rfl, rfl⟩ | (simp +zetaDelta [modAt]; done)))

theorem State.fenceEngine_keeps {s0 s : State} (h : Keeps s0 s) : ∀ x1 x2 x3, Keeps s0 (State.fenceEngine s x1 x2 x3) := by
  intro x1 x2 x3
  unfold State.fenceEngine
  repeat' first
    | with_reducible assumption
    | with_reducible apply Keeps.wr
    | with_reducible apply State.setEngine_keeps
    | with_reducible apply State.put_keeps
    | with_reducible apply State.engMod_keeps
    | with_reducible apply State.faultRecord_keeps
    | with_reducible apply Keeps.ite
    | with_reducible apply Keeps.foldl
    | intro _ _ _
    | intro _ _
    | split
    | (dsimp only)
    | ((with_reducible refine Keeps.upd ?_ ?_); rotate_left; focus (first | exact ⟨rfl, rfl, rfl, rfl, rfl, rfl, rfl, rfl, rfl, rfl, rfl, rfl, rfl⟩ | (simp +zetaDelta [modAt]; done)))

theorem State.targetLost_keeps {s0 s : State} (h : Keeps s0 s) : ∀ x1, Keeps s0 (State.targetLost s x1) := by
  intro x1
  unfold State.targetLost
  repeat' first
    | with_reducible assumption
    | with_reducible apply State.nextMoveTk_keeps
    | with_reducible apply Keeps.ite
    | with_reducible apply Keeps.foldl
    | intro _ _ _
    | intro _ _
    | split
    | (dsimp only)
    | ((with_reducible refine Keeps.upd ?_ ?_); rotate_left; focus (first | exact ⟨rfl, rfl, rfl, rfl, rfl, rfl, rfl, rfl, rfl, rfl, rfl, rfl, rfl⟩ | (simp +zetaDelta [modAt]; done)))

theorem State.engineFault_keeps {s0 s : State} (h : Keeps s0 s) : ∀ x1 x2 x3, Keeps s0 (State.engineFault s x1 x2 x3) := by
  intro x1 x2 x3
  unfold State.engineFault
  repeat' first
    | with_reducible assumption
    | with_reducible apply State.engMod_keeps
    | with_reducible apply State.fenceEngine_keeps
    | with_reducible apply State.uncommit_keeps
    | with_reducible apply State.requestMove_keeps
    | with_reducible apply State.pauseRecut_keeps
    | with_reducible apply State.cancelMove_keeps
    | with_reducible apply State.targetLost_keeps
    | with_reducible apply Keeps.ite
    | with_reducible apply Keeps.foldl
    | intro _ _ _
    | intro _ _
    | split
    | (dsimp only)
    | ((with_reducible refine Keeps.upd ?_ ?_); rotate_left; focus (first | exact ⟨rfl, rfl, rfl, rfl, rfl, rfl, rfl, rfl, rfl, rfl, rfl, rfl, rfl⟩ | (simp +zetaDelta [modAt]; done)))

theorem State.takeLegend_keeps {s0 s : State} (h : Keeps s0 s) : ∀ x1 x2, Keeps s0 (State.takeLegend s x1 x2) := by
  intro x1 x2
  unfold State.takeLegend
  repeat' first
    | with_reducible assumption
    | with_reducible apply Keeps.ite
    | with_reducible apply Keeps.foldl
    | intro _ _ _
    | intro _ _
    | split
    | (dsimp only)
    | ((with_reducible refine Keeps.upd ?_ ?_); rotate_left; focus (first | exact ⟨rfl, rfl, rfl, rfl, rfl, rfl, rfl, rfl, rfl, rfl, rfl, rfl, rfl⟩ | (simp +zetaDelta [modAt]; done)))

theorem State.restartRadios_keeps {s0 s : State} (h : Keeps s0 s) : ∀ x1, Keeps s0 (State.restartRadios s x1) := by
  intro x1
  unfold State.restartRadios
  repeat' first
    | with_reducible assumption
    | with_reducible apply State.radMod_keeps
    | with_reducible apply Keeps.ite
    | with_reducible apply Keeps.foldl
    | intro _ _ _
    | intro _ _
    | split
    | (dsimp only)
    | ((with_reducible refine Keeps.upd ?_ ?_); rotate_left; focus (first | exact ⟨rfl, rfl, rfl, rfl, rfl, rfl, rfl, rfl, rfl, rfl, rfl, rfl, rfl⟩ | (simp +zetaDelta [modAt]; done)))

theorem State.funcSet_keeps {s0 s : State} (h : Keeps s0 s) : ∀ x1 x2, Keeps s0 (State.funcSet s x1 x2) := by
  intro x1 x2
  unfold State.funcSet
  repeat' first
    | with_reducible assumption
    | with_reducible apply Keeps.wr
    | with_reducible apply State.funcShow_keeps
    | with_reducible apply State.funcMod_keeps
    | with_reducible apply Keeps.ite
    | with_reducible apply Keeps.foldl
    | intro _ _ _
    | intro _ _
    | split
    | (dsimp only)
    | ((with_reducible refine Keeps.upd ?_ ?_); rotate_left; focus (first | exact ⟨rfl, rfl, rfl, rfl, rfl, rfl, rfl, rfl, rfl, rfl, rfl, rfl, rfl⟩ | (simp +zetaDelta [modAt]; done)))

theorem State.funcsEnabled_keeps {s0 s : State} (h : Keeps s0 s) : ∀ x1 x2 x3, Keeps s0 (State.funcsEnabled s x1 x2 x3) := by
  intro x1 x2 x3
  unfold State.funcsEnabled
  repeat' first
    | with_reducible assumption
    | with_reducible apply State.funcSet_keeps
    | with_reducible apply Keeps.ite
    | with_reducible apply Keeps.foldl
    | intro _ _ _
    | intro _ _
    | split
    | (dsimp only)
    | ((with_reducible refine Keeps.upd ?_ ?_); rotate_left; focus (first | exact ⟨rfl, rfl, rfl, rfl, rfl, rfl, rfl, rfl, rfl, rfl, rfl, rfl, rfl⟩ | (simp +zetaDelta [modAt]; done)))

theorem State.profileFromLegend_keeps {s0 s : State} (h : Keeps s0 s) : Keeps s0 (State.profileFromLegend s) := by
  unfold State.profileFromLegend
  repeat' first
    | with_reducible assumption
    | with_reducible apply State.put_keeps
    | with_reducible apply Keeps.ite
    | with_reducible apply Keeps.foldl
    | intro _ _ _
    | intro _ _
    | split
    | (dsimp only)
    | ((with_reducible refine Keeps.upd ?_ ?_); rotate_left; focus (first | exact ⟨rfl, rfl, rfl, rfl, rfl, rfl, rfl, rfl, rfl, rfl, rfl, rfl, rfl⟩ | (simp +zetaDelta [modAt]; done)))

theorem State.applyFields_keeps {s0 s : State} (h : Keeps s0 s) : ∀ x1, Keeps s0 (State.applyFields s x1) := by
  intro x1
  unfold State.applyFields
  repeat' first
    | with_reducible assumption
    | with_reducible apply State.takeLegend_keeps
    | with_reducible apply State.restartRadios_keeps
    | with_reducible apply State.funcsEnabled_keeps
    | with_reducible apply State.profileFromLegend_keeps
    | with_reducible apply State.put_keeps
    | with_reducible apply State.funcSet_keeps
    | with_reducible apply Keeps.ite
    | with_reducible apply Keeps.foldl
    | intro _ _ _
    | intro _ _
    | split
    | (dsimp only)
    | ((with_reducible refine Keeps.upd ?_ ?_); rotate_left; focus (first | exact ⟨rfl, rfl, rfl, rfl, rfl, rfl, rfl, rfl, rfl, rfl, rfl, rfl, rfl⟩ | (simp +zetaDelta [modAt]; done)))

theorem State.showPlate_keeps {s0 s : State} (h : Keeps s0 s) : ∀ x1 x2, Keeps s0 (State.showPlate s x1 x2) := by
  intro x1 x2
  unfold State.showPlate
  repeat' first
    | with_reducible assumption
    | with_reducible apply State.put_keeps
    | with_reducible apply Keeps.ite
    | with_reducible apply Keeps.foldl
    | intro _ _ _
    | intro _ _
    | split
    | (dsimp only)
    | ((with_reducible refine Keeps.upd ?_ ?_); rotate_left; focus (first | exact ⟨rfl, rfl, rfl, rfl, rfl, rfl, rfl, rfl, rfl, rfl, rfl, rfl, rfl⟩ | (simp +zetaDelta [modAt]; done)))

theorem State.recutMod_keeps {s0 s : State} (h : Keeps s0 s) : ∀ x1, Keeps s0 (State.recutMod s x1) := by
  intro x1
  unfold State.recutMod
  repeat' first
    | with_reducible assumption
    | with_reducible apply Keeps.ite
    | with_reducible apply Keeps.foldl
    | intro _ _ _
    | intro _ _
    | split
    | (dsimp only)
    | ((with_reducible refine Keeps.upd ?_ ?_); rotate_left; focus (first | exact ⟨rfl, rfl, rfl, rfl, rfl, rfl, rfl, rfl, rfl, rfl, rfl, rfl, rfl⟩ | (simp +zetaDelta [modAt]; done)))

theorem State.recutNext_keeps {s0 s : State} (h : Keeps s0 s) : Keeps s0 (State.recutNext s) := by
  unfold State.recutNext
  repeat' first
    | with_reducible assumption
    | with_reducible apply State.pauseRecut_keeps
    | with_reducible apply State.put_keeps
    | with_reducible apply State.engSync_keeps
    | with_reducible apply State.recutMod_keeps
    | with_reducible apply Keeps.ite
    | with_reducible apply Keeps.foldl
    | intro _ _ _
    | intro _ _
    | split
    | (dsimp only)
    | ((with_reducible refine Keeps.upd ?_ ?_); rotate_left; focus (first | exact ⟨rfl, rfl, rfl, rfl, rfl, rfl, rfl, rfl, rfl, rfl, rfl, rfl, rfl⟩ | (simp +zetaDelta [modAt]; done)))

theorem State.roleMoved_keeps {s0 s : State} (h : Keeps s0 s) : Keeps s0 (State.roleMoved s) := by
  unfold State.roleMoved
  repeat' first
    | with_reducible assumption
    | with_reducible apply State.put_keeps
    | with_reducible apply State.recutMod_keeps
    | with_reducible apply State.applyFields_keeps
    | with_reducible apply State.showPlate_keeps
    | with_reducible apply Keeps.ite
    | with_reducible apply Keeps.foldl
    | intro _ _ _
    | intro _ _
    | split
    | (dsimp only)
    | ((with_reducible refine Keeps.upd ?_ ?_); rotate_left; focus (first | exact ⟨rfl, rfl, rfl, rfl, rfl, rfl, rfl, rfl, rfl, rfl, rfl, rfl, rfl⟩ | (simp +zetaDelta [modAt]; done)))

theorem State.recutStep2_keeps {s0 s : State} (h : Keeps s0 s) : Keeps s0 (State.recutStep2 s) := by
  unfold State.recutStep2
  repeat' first
    | with_reducible assumption
    | with_reducible apply State.pauseRecut_keeps
    | with_reducible apply State.cancelMove_keeps
    | with_reducible apply State.recutMod_keeps
    | with_reducible apply State.setEngine_keeps
    | with_reducible apply Keeps.ite
    | with_reducible apply Keeps.foldl
    | intro _ _ _
    | intro _ _
    | split
    | (dsimp only)
    | ((with_reducible refine Keeps.upd ?_ ?_); rotate_left; focus (first | exact ⟨rfl, rfl, rfl, rfl, rfl, rfl, rfl, rfl, rfl, rfl, rfl, rfl, rfl⟩ | (simp +zetaDelta [modAt]; done)))

theorem State.recutStart_keeps {s0 s : State} (h : Keeps s0 s) : Keeps s0 (State.recutStart s).2 := by
  unfold State.recutStart
  repeat' first
    | with_reducible assumption
    | with_reducible apply State.put_keeps
    | with_reducible apply Keeps.wr
    | with_reducible apply State.recutNext_keeps
    | with_reducible apply Keeps.ite
    | with_reducible apply Keeps.foldl
    | intro _ _ _
    | intro _ _
    | split
    | (dsimp only)
    | ((with_reducible refine Keeps.upd ?_ ?_); rotate_left; focus (first | exact ⟨rfl, rfl, rfl, rfl, rfl, rfl, rfl, rfl, rfl, rfl, rfl, rfl, rfl⟩ | (simp +zetaDelta [modAt]; done)))

theorem State.recutStart_keeps_eq {s0 s : State} (h : Keeps s0 s) { t a0} (e : (State.recutStart s) = (a0, t)) : Keeps s0 t := by
  have := State.recutStart_keeps h 
  rw [e] at this
  exact this

theorem State.abandonRecut_keeps {s0 s : State} (h : Keeps s0 s) : Keeps s0 (State.abandonRecut s) := by
  unfold State.abandonRecut
  repeat' first
    | with_reducible assumption
    | with_reducible apply State.engSync_keeps
    | with_reducible apply State.put_keeps
    | with_reducible apply Keeps.ite
    | with_reducible apply Keeps.foldl
    | intro _ _ _
    | intro _ _
    | split
    | (dsimp only)
    | ((with_reducible refine Keeps.upd ?_ ?_); rotate_left; focus (first | exact ⟨rfl, rfl, rfl, rfl, rfl, rfl, rfl, rfl, rfl, rfl, rfl, rfl, rfl⟩ | (simp +zetaDelta [modAt]; done)))

theorem State.moveRead_keeps {s0 s : State} (h : Keeps s0 s) : Keeps s0 (State.moveRead s) := by
  unfold State.moveRead
  repeat' first
    | with_reducible assumption
    | with_reducible apply State.pauseRecut_keeps
    | with_reducible apply State.cancelMove_keeps
    | with_reducible apply State.recutMod_keeps
    | with_reducible apply State.recutNext_keeps
    | with_reducible apply State.roleMoved_keeps
    | with_reducible apply State.recutStep2_keeps
    | with_reducible apply Keeps.ite
    | with_reducible apply Keeps.foldl
    | intro _ _ _
    | intro _ _
    | split
    | (dsimp only)
    | ((with_reducible refine Keeps.upd ?_ ?_); rotate_left; focus (first | exact ⟨rfl, rfl, rfl, rfl, rfl, rfl, rfl, rfl, rfl, rfl, rfl, rfl, rfl⟩ | (simp +zetaDelta [modAt]; done)))

theorem State.retireAll_keeps {s0 s : State} (h : Keeps s0 s) : ∀ x1 x2 x3, Keeps s0 (State.retireAll s x1 x2 x3) := by
  intro x1 x2 x3
  unfold State.retireAll
  repeat' first
    | with_reducible assumption
    | with_reducible apply State.commit_keeps
    | with_reducible apply Keeps.ite
    | with_reducible apply Keeps.foldl
    | intro _ _ _
    | intro _ _
    | split
    | (dsimp only)
    | ((with_reducible refine Keeps.upd ?_ ?_); rotate_left; focus (first | exact ⟨rfl, rfl, rfl, rfl, rfl, rfl, rfl, rfl, rfl, rfl, rfl, rfl, rfl⟩ | (simp +zetaDelta [modAt]; done)))

theorem State.cut_keeps {s0 s : State} (h : Keeps s0 s) : ∀ x1, Keeps s0 (State.cut s x1) := by
  intro x1
  unfold State.cut
  repeat' first
    | with_reducible assumption
    | with_reducible apply State.retireAll_keeps
    | with_reducible apply State.roleMoved_keeps
    | with_reducible apply State.engMod_keeps
    | with_reducible apply State.setEngine_keeps
    | with_reducible apply State.put_keeps
    | with_reducible apply State.recutMod_keeps
    | with_reducible apply State.abandonRecut_keeps
    | with_reducible apply State.pauseRecut_keeps
    | with_reducible apply Keeps.ite
    | with_reducible apply Keeps.foldl
    | intro _ _ _
    | intro _ _
    | split
    | (dsimp only)
    | ((with_reducible refine Keeps.upd ?_ ?_); rotate_left; focus (first | exact ⟨rfl, rfl, rfl, rfl, rfl, rfl, rfl, rfl, rfl, rfl, rfl, rfl, rfl⟩ | (simp +zetaDelta [modAt]; done)))

theorem State.clearDone_keeps {s0 s : State} (h : Keeps s0 s) : Keeps s0 (State.clearDone s) := by
  unfold State.clearDone
  repeat' first
    | with_reducible assumption
    | with_reducible apply State.recutMod_keeps
    | with_reducible apply State.engSync_keeps
    | with_reducible apply State.recutNext_keeps
    | with_reducible apply State.blankFree_keeps
    | with_reducible apply State.setEngine_keeps
    | with_reducible apply State.engMod_keeps
    | with_reducible apply Keeps.ite
    | with_reducible apply Keeps.foldl
    | intro _ _ _
    | intro _ _
    | split
    | (dsimp only)
    | ((with_reducible refine Keeps.upd ?_ ?_); rotate_left; focus (first | exact ⟨rfl, rfl, rfl, rfl, rfl, rfl, rfl, rfl, rfl, rfl, rfl, rfl, rfl⟩ | (simp +zetaDelta [modAt]; done)))

theorem State.recutPauseCmd_keeps {s0 s : State} (h : Keeps s0 s) : Keeps s0 (State.recutPauseCmd s) := by
  unfold State.recutPauseCmd
  repeat' first
    | with_reducible assumption
    | with_reducible apply State.pauseRecut_keeps
    | with_reducible apply State.recutMod_keeps
    | with_reducible apply Keeps.ite
    | with_reducible apply Keeps.foldl
    | intro _ _ _
    | intro _ _
    | split
    | (dsimp only)
    | ((with_reducible refine Keeps.upd ?_ ?_); rotate_left; focus (first | exact ⟨rfl, rfl, rfl, rfl, rfl, rfl, rfl, rfl, rfl, rfl, rfl, rfl, rfl⟩ | (simp +zetaDelta [modAt]; done)))

theorem State.recutResumeCmd_keeps {s0 s : State} (h : Keeps s0 s) : Keeps s0 (State.recutResumeCmd s) := by
  unfold State.recutResumeCmd
  repeat' first
    | with_reducible assumption
    | with_reducible apply State.put_keeps
    | with_reducible apply State.recutStep2_keeps
    | with_reducible apply State.recutNext_keeps
    | with_reducible apply Keeps.ite
    | with_reducible apply Keeps.foldl
    | intro _ _ _
    | intro _ _
    | split
    | (dsimp only)
    | ((with_reducible refine Keeps.upd ?_ ?_); rotate_left; focus (first | exact ⟨rfl, rfl, rfl, rfl, rfl, rfl, rfl, rfl, rfl, rfl, rfl, rfl, rfl⟩ | (simp +zetaDelta [modAt]; done)))

theorem State.recutAbandonCmd_keeps {s0 s : State} (h : Keeps s0 s) : Keeps s0 (State.recutAbandonCmd s) := by
  unfold State.recutAbandonCmd
  repeat' first
    | with_reducible assumption
    | with_reducible apply State.recutMod_keeps
    | with_reducible apply State.abandonRecut_keeps
    | with_reducible apply State.cancelMove_keeps
    | with_reducible apply Keeps.ite
    | with_reducible apply Keeps.foldl
    | intro _ _ _
    | intro _ _
    | split
    | (dsimp only)
    | ((with_reducible refine Keeps.upd ?_ ?_); rotate_left; focus (first | exact ⟨rfl, rfl, rfl, rfl, rfl, rfl, rfl, rfl, rfl, rfl, rfl, rfl, rfl⟩ | (simp +zetaDelta [modAt]; done)))

theorem State.recutCtrlWrite_keeps {s0 s : State} (h : Keeps s0 s) : ∀ x1, Keeps s0 (State.recutCtrlWrite s x1) := by
  intro x1
  unfold State.recutCtrlWrite
  repeat' first
    | with_reducible assumption
    | with_reducible apply State.put_keeps
    | with_reducible apply State.recutAbandonCmd_keeps
    | with_reducible apply State.recutResumeCmd_keeps
    | with_reducible apply State.recutPauseCmd_keeps
    | with_reducible apply Keeps.ite
    | with_reducible apply Keeps.foldl
    | intro _ _ _
    | intro _ _
    | split
    | (dsimp only)
    | ((with_reducible refine Keeps.upd ?_ ?_); rotate_left; focus (first | exact ⟨rfl, rfl, rfl, rfl, rfl, rfl, rfl, rfl, rfl, rfl, rfl, rfl, rfl⟩ | (simp +zetaDelta [modAt]; done)))

theorem State.dramWrite_keeps {s0 s : State} (h : Keeps s0 s) : ∀ a bs, Keeps s0 (s.dramWrite a bs) := by
  intro a bs
  induction bs generalizing s a with
  | nil => exact h
  | cons b bs ih => exact ih (h.dramPut a b) (a + 1)

theorem State.lineWrite_keeps {s0 s : State} (h : Keeps s0 s) : ∀ x1 x2, Keeps s0 (State.lineWrite s x1 x2) := by
  intro x1 x2
  unfold State.lineWrite
  repeat' first
    | with_reducible assumption
    | with_reducible apply State.dramWrite_keeps
    | with_reducible apply Keeps.ite
    | with_reducible apply Keeps.foldl
    | intro _ _ _
    | intro _ _
    | split
    | (dsimp only)
    | ((with_reducible refine Keeps.upd ?_ ?_); rotate_left; focus (first | exact ⟨rfl, rfl, rfl, rfl, rfl, rfl, rfl, rfl, rfl, rfl, rfl, rfl, rfl⟩ | (simp +zetaDelta [modAt]; done)))

theorem State.dramWord_keeps {s0 s : State} (h : Keeps s0 s) : ∀ x1, Keeps s0 (State.dramWord s x1).2 := by
  intro x1
  unfold State.dramWord
  repeat' first
    | with_reducible assumption
    | with_reducible apply State.freeW_keeps
    | with_reducible refine State.freeW_keeps_eq ?_ (by with_reducible assumption)
    | with_reducible apply Keeps.ite
    | with_reducible apply Keeps.foldl
    | intro _ _ _
    | intro _ _
    | split
    | (dsimp only)
    | ((with_reducible refine Keeps.upd ?_ ?_); rotate_left; focus (first | exact ⟨rfl, rfl, rfl, rfl, rfl, rfl, rfl, rfl, rfl, rfl, rfl, rfl, rfl⟩ | (simp +zetaDelta [modAt]; done)))

theorem State.dramWord_keeps_eq {s0 s : State} (h : Keeps s0 s) {x1 t a0} (e : (State.dramWord s x1) = (a0, t)) : Keeps s0 t := by
  have := State.dramWord_keeps h x1
  rw [e] at this
  exact this

theorem State.flowWrite_keeps {s0 s : State} (h : Keeps s0 s) : ∀ x1 x2, Keeps s0 (State.flowWrite s x1 x2) := by
  intro x1 x2
  unfold State.flowWrite
  repeat' first
    | with_reducible assumption
    | with_reducible apply State.dramWrite_keeps
    | with_reducible apply Keeps.ite
    | with_reducible apply Keeps.foldl
    | intro _ _ _
    | intro _ _
    | split
    | (dsimp only)
    | ((with_reducible refine Keeps.upd ?_ ?_); rotate_left; focus (first | exact ⟨rfl, rfl, rfl, rfl, rfl, rfl, rfl, rfl, rfl, rfl, rfl, rfl, rfl⟩ | (simp +zetaDelta [modAt]; done)))

end Sys2Proof.Machine
end

