-- ==== Sys2Proof/Laws/Keeps4.lean ====
section
/-! SUPPORT. What the operations of Packets, Flows, PacketRows, Queues keep. -/

namespace Sys2Proof.Machine

theorem State.pktMod_keeps {s0 s : State} (h : Keeps s0 s) : ∀ x1 x2, Keeps s0 (State.pktMod s x1 x2) := by
  intro x1 x2
  unfold State.pktMod
  repeat' first
    | with_reducible assumption
    | with_reducible apply Keeps.ite
    | with_reducible apply Keeps.foldl
    | intro _ _ _
    | intro _ _
    | split
    | (dsimp only)
    | ((with_reducible refine Keeps.upd ?_ ?_); rotate_left; focus (first | exact ⟨rfl, rfl, rfl, rfl, rfl, rfl, rfl, rfl, rfl, rfl, rfl, rfl, rfl⟩ | (simp +zetaDelta [modAt]; done)))

theorem State.toStage_keeps {s0 s : State} (h : Keeps s0 s) : ∀ x1 x2, Keeps s0 (State.toStage s x1 x2) := by
  intro x1 x2
  unfold State.toStage
  repeat' first
    | with_reducible assumption
    | with_reducible apply State.pktMod_keeps
    | with_reducible apply Keeps.ite
    | with_reducible apply Keeps.foldl
    | intro _ _ _
    | intro _ _
    | split
    | (dsimp only)
    | ((with_reducible refine Keeps.upd ?_ ?_); rotate_left; focus (first | exact ⟨rfl, rfl, rfl, rfl, rfl, rfl, rfl, rfl, rfl, rfl, rfl, rfl, rfl⟩ | (simp +zetaDelta [modAt]; done)))

theorem State.pktDrop_keeps {s0 s : State} (h : Keeps s0 s) : ∀ x1, Keeps s0 (State.pktDrop s x1) := by
  intro x1
  unfold State.pktDrop
  repeat' first
    | with_reducible assumption
    | with_reducible apply Keeps.ite
    | with_reducible apply Keeps.foldl
    | intro _ _ _
    | intro _ _
    | split
    | (dsimp only)
    | ((with_reducible refine Keeps.upd ?_ ?_); rotate_left; focus (first | exact ⟨rfl, rfl, rfl, rfl, rfl, rfl, rfl, rfl, rfl, rfl, rfl, rfl, rfl⟩ | (simp +zetaDelta [modAt]; done)))

theorem State.pktHost_keeps {s0 s : State} (h : Keeps s0 s) : ∀ x1 x2 x3 x4, Keeps s0 (State.pktHost s x1 x2 x3 x4) := by
  intro x1 x2 x3 x4
  unfold State.pktHost
  repeat' first
    | with_reducible assumption
    | with_reducible apply State.pktMod_keeps
    | with_reducible apply Keeps.ite
    | with_reducible apply Keeps.foldl
    | intro _ _ _
    | intro _ _
    | split
    | (dsimp only)
    | ((with_reducible refine Keeps.upd ?_ ?_); rotate_left; focus (first | exact ⟨rfl, rfl, rfl, rfl, rfl, rfl, rfl, rfl, rfl, rfl, rfl, rfl, rfl⟩ | (simp +zetaDelta [modAt]; done)))

theorem State.mirror_keeps {s0 s : State} (h : Keeps s0 s) : ∀ x1 x2, Keeps s0 (State.mirror s x1 x2) := by
  intro x1 x2
  unfold State.mirror
  repeat' first
    | with_reducible assumption
    | with_reducible apply Keeps.ite
    | with_reducible apply Keeps.foldl
    | intro _ _ _
    | intro _ _
    | split
    | (dsimp only)
    | ((with_reducible refine Keeps.upd ?_ ?_); rotate_left; focus (first | exact ⟨rfl, rfl, rfl, rfl, rfl, rfl, rfl, rfl, rfl, rfl, rfl, rfl, rfl⟩ | (simp +zetaDelta [modAt]; done)))

theorem State.forwardPlain_keeps {s0 s : State} (h : Keeps s0 s) : ∀ x1 x2, Keeps s0 (State.forwardPlain s x1 x2) := by
  intro x1 x2
  unfold State.forwardPlain
  repeat' first
    | with_reducible assumption
    | with_reducible apply State.pktDrop_keeps
    | with_reducible apply State.bump_keeps
    | with_reducible apply State.pktHost_keeps
    | with_reducible apply State.pktMod_keeps
    | with_reducible apply State.toStage_keeps
    | with_reducible apply Keeps.ite
    | with_reducible apply Keeps.foldl
    | intro _ _ _
    | intro _ _
    | split
    | (dsimp only)
    | ((with_reducible refine Keeps.upd ?_ ?_); rotate_left; focus (first | exact ⟨rfl, rfl, rfl, rfl, rfl, rfl, rfl, rfl, rfl, rfl, rfl, rfl, rfl⟩ | (simp +zetaDelta [modAt]; done)))

theorem State.defaultAction_keeps {s0 s : State} (h : Keeps s0 s) : ∀ x1 x2 x3 x4, Keeps s0 (State.defaultAction s x1 x2 x3 x4) := by
  intro x1 x2 x3 x4
  unfold State.defaultAction
  repeat' first
    | with_reducible assumption
    | with_reducible apply State.pktHost_keeps
    | with_reducible apply State.pktDrop_keeps
    | with_reducible apply State.forwardPlain_keeps
    | with_reducible apply State.mirror_keeps
    | with_reducible apply Keeps.ite
    | with_reducible apply Keeps.foldl
    | intro _ _ _
    | intro _ _
    | split
    | (dsimp only)
    | ((with_reducible refine Keeps.upd ?_ ?_); rotate_left; focus (first | exact ⟨rfl, rfl, rfl, rfl, rfl, rfl, rfl, rfl, rfl, rfl, rfl, rfl, rfl⟩ | (simp +zetaDelta [modAt]; done)))

theorem State.noMatch_keeps {s0 s : State} (h : Keeps s0 s) : ∀ x1 x2, Keeps s0 (State.noMatch s x1 x2) := by
  intro x1 x2
  unfold State.noMatch
  repeat' first
    | with_reducible assumption
    | with_reducible apply State.defaultAction_keeps
    | with_reducible apply State.bump_keeps
    | with_reducible apply Keeps.ite
    | with_reducible apply Keeps.foldl
    | intro _ _ _
    | intro _ _
    | split
    | (dsimp only)
    | ((with_reducible refine Keeps.upd ?_ ?_); rotate_left; focus (first | exact ⟨rfl, rfl, rfl, rfl, rfl, rfl, rfl, rfl, rfl, rfl, rfl, rfl, rfl⟩ | (simp +zetaDelta [modAt]; done)))

theorem State.parseFailed_keeps {s0 s : State} (h : Keeps s0 s) : ∀ x1 x2, Keeps s0 (State.parseFailed s x1 x2) := by
  intro x1 x2
  unfold State.parseFailed
  repeat' first
    | with_reducible assumption
    | with_reducible apply State.bump_keeps
    | with_reducible apply State.defaultAction_keeps
    | with_reducible apply Keeps.ite
    | with_reducible apply Keeps.foldl
    | intro _ _ _
    | intro _ _
    | split
    | (dsimp only)
    | ((with_reducible refine Keeps.upd ?_ ?_); rotate_left; focus (first | exact ⟨rfl, rfl, rfl, rfl, rfl, rfl, rfl, rfl, rfl, rfl, rfl, rfl, rfl⟩ | (simp +zetaDelta [modAt]; done)))

theorem State.afterToken_keeps {s0 s : State} (h : Keeps s0 s) {x2 : State → State} (h2 : ∀ t, Keeps s0 t → Keeps s0 (x2 t)) : ∀ x1, Keeps s0 (State.afterToken s x1 x2) := by
  intro x1
  unfold State.afterToken
  repeat' first
    | with_reducible assumption
    | with_reducible apply h2
    | with_reducible apply Keeps.ite
    | with_reducible apply Keeps.foldl
    | intro _ _ _
    | intro _ _
    | split
    | (dsimp only)
    | ((with_reducible refine Keeps.upd ?_ ?_); rotate_left; focus (first | exact ⟨rfl, rfl, rfl, rfl, rfl, rfl, rfl, rfl, rfl, rfl, rfl, rfl, rfl⟩ | (simp +zetaDelta [modAt]; done)))

theorem State.onResult_keeps {s0 s : State} (h : Keeps s0 s) {x3 : State → State} (h3 : ∀ t, Keeps s0 t → Keeps s0 (x3 t)) : ∀ x1 x2, Keeps s0 (State.onResult s x1 x2 x3) := by
  intro x1 x2
  unfold State.onResult
  repeat' first
    | with_reducible assumption
    | with_reducible apply State.pktMod_keeps
    | with_reducible apply State.pktDrop_keeps
    | with_reducible apply State.offer_keeps
    | with_reducible apply h3
    | with_reducible apply Keeps.ite
    | with_reducible apply Keeps.foldl
    | intro _ _ _
    | intro _ _
    | split
    | (dsimp only)
    | ((with_reducible refine Keeps.upd ?_ ?_); rotate_left; focus (first | exact ⟨rfl, rfl, rfl, rfl, rfl, rfl, rfl, rfl, rfl, rfl, rfl, rfl, rfl⟩ | (simp +zetaDelta [modAt]; done)))

theorem State.admitPkt_keeps {s0 s : State} (h : Keeps s0 s) : ∀ {x1 t}, State.admitPkt s x1 = some t → Keeps s0 t := by
  intro x1 t ho
  unfold State.admitPkt at ho
  dsimp only at ho
  split at ho
  · cases ho
    refine State.parseFailed_keeps ?_ _ _
    exact Keeps.upd h ⟨rfl, rfl, rfl, rfl, rfl, rfl, rfl, rfl, rfl, rfl, rfl, rfl, rfl⟩
  · split at ho
    · cases ho
    · cases ho
      exact State.offer_keeps h _ _
    · cases ho
      refine State.offer_keeps ?_ _ _
      exact Keeps.upd h ⟨rfl, rfl, rfl, rfl, rfl, rfl, rfl, rfl, rfl, rfl, rfl, rfl, rfl⟩

theorem State.parseNext_keeps {s0 s : State} (h : Keeps s0 s) : ∀ x1, Keeps s0 (State.parseNext s x1) := by
  intro x1
  unfold State.parseNext
  split
  · exact h
  · refine Keeps.ite h ?_
    dsimp only
    split
    · rename_i hp
      refine State.admitPkt_keeps ?_ hp
      exact Keeps.upd h ⟨rfl, rfl, rfl, rfl, rfl, rfl, rfl, rfl, rfl, rfl, rfl, rfl, rfl⟩
    · exact State.bump_keeps h _

theorem State.toEgress_keeps {s0 s : State} (h : Keeps s0 s) : ∀ x1 x2, Keeps s0 (State.toEgress s x1 x2) := by
  intro x1 x2
  unfold State.toEgress
  repeat' first
    | with_reducible assumption
    | with_reducible apply State.pktMod_keeps
    | with_reducible apply Keeps.ite
    | with_reducible apply Keeps.foldl
    | intro _ _ _
    | intro _ _
    | split
    | (dsimp only)
    | ((with_reducible refine Keeps.upd ?_ ?_); rotate_left; focus (first | exact ⟨rfl, rfl, rfl, rfl, rfl, rfl, rfl, rfl, rfl, rfl, rfl, rfl, rfl⟩ | (simp +zetaDelta [modAt]; done)))

theorem State.verdict_keeps {s0 s : State} (h : Keeps s0 s) : ∀ x1 x2 x3 x4 x5, Keeps s0 (State.verdict s x1 x2 x3 x4 x5) := by
  intro x1 x2 x3 x4 x5
  unfold State.verdict
  repeat' first
    | with_reducible assumption
    | with_reducible apply State.freeN_keeps
    | with_reducible apply State.pktDrop_keeps
    | with_reducible apply State.pktMod_keeps
    | with_reducible apply State.mirror_keeps
    | with_reducible apply State.pktHost_keeps
    | with_reducible apply State.toStage_keeps
    | with_reducible apply State.toEgress_keeps
    | with_reducible apply State.bump_keeps
    | with_reducible refine State.freeN_keeps_eq ?_ (by with_reducible assumption)
    | with_reducible apply Keeps.ite
    | with_reducible apply Keeps.foldl
    | intro _ _ _
    | intro _ _
    | split
    | (dsimp only)
    | ((with_reducible refine Keeps.upd ?_ ?_); rotate_left; focus (first | exact ⟨rfl, rfl, rfl, rfl, rfl, rfl, rfl, rfl, rfl, rfl, rfl, rfl, rfl⟩ | (simp +zetaDelta [modAt]; done)))

theorem State.classified_keeps {s0 s : State} (h : Keeps s0 s) : ∀ x1, Keeps s0 (State.classified s x1) := by
  intro x1
  unfold State.classified
  repeat' first
    | with_reducible assumption
    | with_reducible apply State.toStage_keeps
    | with_reducible apply State.noMatch_keeps
    | with_reducible apply State.bump_keeps
    | with_reducible apply State.verdict_keeps
    | with_reducible apply Keeps.ite
    | with_reducible apply Keeps.foldl
    | intro _ _ _
    | intro _ _
    | split
    | (dsimp only)
    | ((with_reducible refine Keeps.upd ?_ ?_); rotate_left; focus (first | exact ⟨rfl, rfl, rfl, rfl, rfl, rfl, rfl, rfl, rfl, rfl, rfl, rfl, rfl⟩ | (simp +zetaDelta [modAt]; done)))

theorem State.rewritten_keeps {s0 s : State} (h : Keeps s0 s) : ∀ x1, Keeps s0 (State.rewritten s x1) := by
  intro x1
  unfold State.rewritten
  repeat' first
    | with_reducible assumption
    | with_reducible apply State.pktDrop_keeps
    | with_reducible apply State.bump_keeps
    | with_reducible apply State.pktHost_keeps
    | with_reducible apply State.pktMod_keeps
    | with_reducible apply Keeps.ite
    | with_reducible apply Keeps.foldl
    | intro _ _ _
    | intro _ _
    | split
    | (dsimp only)
    | ((with_reducible refine Keeps.upd ?_ ?_); rotate_left; focus (first | exact ⟨rfl, rfl, rfl, rfl, rfl, rfl, rfl, rfl, rfl, rfl, rfl, rfl, rfl⟩ | (simp +zetaDelta [modAt]; done)))

theorem State.recirculated_keeps {s0 s : State} (h : Keeps s0 s) : ∀ x1, Keeps s0 (State.recirculated s x1) := by
  intro x1
  unfold State.recirculated
  repeat' first
    | with_reducible assumption
    | with_reducible apply State.pktDrop_keeps
    | with_reducible apply State.bump_keeps
    | with_reducible refine State.admitPkt_keeps ?_ (by with_reducible assumption)
    | with_reducible apply Keeps.ite
    | with_reducible apply Keeps.foldl
    | intro _ _ _
    | intro _ _
    | split
    | (dsimp only)
    | ((with_reducible refine Keeps.upd ?_ ?_); rotate_left; focus (first | exact ⟨rfl, rfl, rfl, rfl, rfl, rfl, rfl, rfl, rfl, rfl, rfl, rfl, rfl⟩ | (simp +zetaDelta [modAt]; done)))

theorem State.released_keeps {s0 s : State} (h : Keeps s0 s) : ∀ x1, Keeps s0 (State.released s x1) := by
  intro x1
  unfold State.released
  repeat' first
    | with_reducible assumption
    | with_reducible apply State.pktDrop_keeps
    | with_reducible apply Keeps.ite
    | with_reducible apply Keeps.foldl
    | intro _ _ _
    | intro _ _
    | split
    | (dsimp only)
    | ((with_reducible refine Keeps.upd ?_ ?_); rotate_left; focus (first | exact ⟨rfl, rfl, rfl, rfl, rfl, rfl, rfl, rfl, rfl, rfl, rfl, rfl, rfl⟩ | (simp +zetaDelta [modAt]; done)))

theorem State.setRoutes_keeps {s0 s : State} (h : Keeps s0 s) : ∀ x1 x2, Keeps s0 (State.setRoutes s x1 x2) := by
  intro x1 x2
  unfold State.setRoutes
  repeat' first
    | with_reducible assumption
    | with_reducible apply State.put_keeps
    | with_reducible apply Keeps.ite
    | with_reducible apply Keeps.foldl
    | intro _ _ _
    | intro _ _
    | split
    | (dsimp only)
    | ((with_reducible refine Keeps.upd ?_ ?_); rotate_left; focus (first | exact ⟨rfl, rfl, rfl, rfl, rfl, rfl, rfl, rfl, rfl, rfl, rfl, rfl, rfl⟩ | (simp +zetaDelta [modAt]; done)))

theorem State.addRoute_keeps {s0 s : State} (h : Keeps s0 s) : ∀ x1 x2 x3 x4, Keeps s0 (State.addRoute s x1 x2 x3 x4).2 := by
  intro x1 x2 x3 x4
  unfold State.addRoute
  repeat' first
    | with_reducible assumption
    | with_reducible apply State.setRoutes_keeps
    | with_reducible apply Keeps.ite
    | with_reducible apply Keeps.foldl
    | intro _ _ _
    | intro _ _
    | split
    | (dsimp only)
    | ((with_reducible refine Keeps.upd ?_ ?_); rotate_left; focus (first | exact ⟨rfl, rfl, rfl, rfl, rfl, rfl, rfl, rfl, rfl, rfl, rfl, rfl, rfl⟩ | (simp +zetaDelta [modAt]; done)))

theorem State.addRoute_keeps_eq {s0 s : State} (h : Keeps s0 s) {x1 x2 x3 x4 t a0} (e : (State.addRoute s x1 x2 x3 x4) = (a0, t)) : Keeps s0 t := by
  have := State.addRoute_keeps h x1 x2 x3 x4
  rw [e] at this
  exact this

theorem State.rteCmdWrite_keeps {s0 s : State} (h : Keeps s0 s) : ∀ x1, Keeps s0 (State.rteCmdWrite s x1) := by
  intro x1
  unfold State.rteCmdWrite
  repeat' first
    | with_reducible assumption
    | with_reducible apply State.bump_keeps
    | with_reducible apply State.addRoute_keeps
    | with_reducible apply State.setRoutes_keeps
    | with_reducible apply State.put_keeps
    | with_reducible refine State.addRoute_keeps_eq ?_ (by with_reducible assumption)
    | with_reducible apply Keeps.ite
    | with_reducible apply Keeps.foldl
    | intro _ _ _
    | intro _ _
    | split
    | (dsimp only)
    | ((with_reducible refine Keeps.upd ?_ ?_); rotate_left; focus (first | exact ⟨rfl, rfl, rfl, rfl, rfl, rfl, rfl, rfl, rfl, rfl, rfl, rfl, rfl⟩ | (simp +zetaDelta [modAt]; done)))

theorem State.rteDone_keeps {s0 s : State} (h : Keeps s0 s) : Keeps s0 (State.rteDone s) := by
  unfold State.rteDone
  repeat' first
    | with_reducible assumption
    | with_reducible apply Keeps.wr
    | with_reducible apply Keeps.ite
    | with_reducible apply Keeps.foldl
    | intro _ _ _
    | intro _ _
    | split
    | (dsimp only)
    | ((with_reducible refine Keeps.upd ?_ ?_); rotate_left; focus (first | exact ⟨rfl, rfl, rfl, rfl, rfl, rfl, rfl, rfl, rfl, rfl, rfl, rfl, rfl⟩ | (simp +zetaDelta [modAt]; done)))

theorem State.cachePut_keeps {s0 s : State} (h : Keeps s0 s) : ∀ x1 x2, Keeps s0 (State.cachePut s x1 x2) := by
  intro x1 x2
  unfold State.cachePut
  repeat' first
    | with_reducible assumption
    | with_reducible apply Keeps.ite
    | with_reducible apply Keeps.foldl
    | intro _ _ _
    | intro _ _
    | split
    | (dsimp only)
    | ((with_reducible refine Keeps.upd ?_ ?_); rotate_left; focus (first | exact ⟨rfl, rfl, rfl, rfl, rfl, rfl, rfl, rfl, rfl, rfl, rfl, rfl, rfl⟩ | (simp +zetaDelta [modAt]; done)))

theorem State.useEntry_keeps {s0 s : State} (h : Keeps s0 s) : ∀ x1 x2 x3, Keeps s0 (State.useEntry s x1 x2 x3) := by
  intro x1 x2 x3
  unfold State.useEntry
  repeat' first
    | with_reducible assumption
    | with_reducible apply State.pktMod_keeps
    | with_reducible apply State.toEgress_keeps
    | with_reducible apply Keeps.ite
    | with_reducible apply Keeps.foldl
    | intro _ _ _
    | intro _ _
    | split
    | (dsimp only)
    | ((with_reducible refine Keeps.upd ?_ ?_); rotate_left; focus (first | exact ⟨rfl, rfl, rfl, rfl, rfl, rfl, rfl, rfl, rfl, rfl, rfl, rfl, rfl⟩ | (simp +zetaDelta [modAt]; done)))

theorem State.cacheFill_keeps {s0 s : State} (h : Keeps s0 s) : ∀ x1 x2, Keeps s0 (State.cacheFill s x1 x2) := by
  intro x1 x2
  unfold State.cacheFill
  repeat' first
    | with_reducible assumption
    | with_reducible apply State.cachePut_keeps
    | with_reducible apply Keeps.ite
    | with_reducible apply Keeps.foldl
    | intro _ _ _
    | intro _ _
    | split
    | (dsimp only)
    | ((with_reducible refine Keeps.upd ?_ ?_); rotate_left; focus (first | exact ⟨rfl, rfl, rfl, rfl, rfl, rfl, rfl, rfl, rfl, rfl, rfl, rfl, rfl⟩ | (simp +zetaDelta [modAt]; done)))

theorem State.lookup_keeps {s0 s : State} (h : Keeps s0 s) : ∀ {x1 x2 t}, State.lookup s x1 x2 = some t → Keeps s0 t := by
  intro x1 x2 t ho
  unfold State.lookup at ho
  dsimp only at ho
  split at ho
  · cases ho
    exact State.useEntry_keeps (State.cachePut_keeps (State.bump_keeps h _) _ _) _ _ _
  · split at ho
    · cases ho
    · split at ho
      · cases ho
      · cases ho
        exact State.useEntry_keeps (State.cacheFill_keeps (State.bump_keeps h _) _ _) _ _ _

theorem State.flowLooked_keeps {s0 s : State} (h : Keeps s0 s) : ∀ x1, Keeps s0 (State.flowLooked s x1) := by
  intro x1
  unfold State.flowLooked
  split
  · exact h
  · refine Keeps.ite h (Keeps.ite (Keeps.ite (State.pktHost_keeps h _ _ _ _) (State.toStage_keeps h _ _)) ?_)
    split
    · exact State.toStage_keeps h _ _
    · split
      · exact State.toStage_keeps h _ _
      · rename_i key _ _ _
        cases ho : s.lookup x1 key with
        | none => exact State.toStage_keeps (State.bump_keeps h _) _ _
        | some t => exact State.lookup_keeps h ho

theorem State.routed_keeps {s0 s : State} (h : Keeps s0 s) : ∀ x1, Keeps s0 (State.routed s x1) := by
  intro x1
  unfold State.routed
  repeat' first
    | with_reducible assumption
    | with_reducible apply State.noMatch_keeps
    | with_reducible apply State.bump_keeps
    | with_reducible apply State.pktMod_keeps
    | with_reducible apply State.toEgress_keeps
    | with_reducible apply Keeps.ite
    | with_reducible apply Keeps.foldl
    | intro _ _ _
    | intro _ _
    | split
    | (dsimp only)
    | ((with_reducible refine Keeps.upd ?_ ?_); rotate_left; focus (first | exact ⟨rfl, rfl, rfl, rfl, rfl, rfl, rfl, rfl, rfl, rfl, rfl, rfl, rfl⟩ | (simp +zetaDelta [modAt]; done)))

theorem State.flowFull_keeps {s0 s : State} (h : Keeps s0 s) : ∀ x1 x2, Keeps s0 (State.flowFull s x1 x2) := by
  intro x1 x2
  unfold State.flowFull
  repeat' first
    | with_reducible assumption
    | with_reducible apply State.bump_keeps
    | with_reducible apply State.pktHost_keeps
    | with_reducible apply State.toEgress_keeps
    | with_reducible apply Keeps.ite
    | with_reducible apply Keeps.foldl
    | intro _ _ _
    | intro _ _
    | split
    | (dsimp only)
    | ((with_reducible refine Keeps.upd ?_ ?_); rotate_left; focus (first | exact ⟨rfl, rfl, rfl, rfl, rfl, rfl, rfl, rfl, rfl, rfl, rfl, rfl, rfl⟩ | (simp +zetaDelta [modAt]; done)))

theorem State.createBegin_keeps {s0 s : State} (h : Keeps s0 s) : ∀ x1, Keeps s0 (State.createBegin s x1) := by
  intro x1
  unfold State.createBegin
  repeat' first
    | with_reducible assumption
    | with_reducible apply State.toStage_keeps
    | with_reducible apply State.pktHost_keeps
    | with_reducible apply State.bump_keeps
    | with_reducible apply State.flowFull_keeps
    | with_reducible apply State.freeW_keeps
    | with_reducible refine State.lookup_keeps ?_ (by with_reducible assumption)
    | with_reducible refine State.freeW_keeps_eq ?_ (by with_reducible assumption)
    | with_reducible apply Keeps.ite
    | with_reducible apply Keeps.foldl
    | intro _ _ _
    | intro _ _
    | split
    | (dsimp only)
    | ((with_reducible refine Keeps.upd ?_ ?_); rotate_left; focus (first | exact ⟨rfl, rfl, rfl, rfl, rfl, rfl, rfl, rfl, rfl, rfl, rfl, rfl, rfl⟩ | (simp +zetaDelta [modAt]; done)))

theorem State.createServe_keeps {s0 s : State} (h : Keeps s0 s) : ∀ x1 x2 x3, Keeps s0 (State.createServe s x1 x2 x3) := by
  intro x1 x2 x3
  unfold State.createServe
  repeat' first
    | with_reducible assumption
    | with_reducible apply State.useEntry_keeps
    | with_reducible apply Keeps.ite
    | with_reducible apply Keeps.foldl
    | intro _ _ _
    | intro _ _
    | split
    | (dsimp only)
    | ((with_reducible refine Keeps.upd ?_ ?_); rotate_left; focus (first | exact ⟨rfl, rfl, rfl, rfl, rfl, rfl, rfl, rfl, rfl, rfl, rfl, rfl, rfl⟩ | (simp +zetaDelta [modAt]; done)))

theorem State.createDone_keeps {s0 s : State} (h : Keeps s0 s) : ∀ x1, Keeps s0 (State.createDone s x1) := by
  intro x1
  unfold State.createDone
  repeat' first
    | with_reducible assumption
    | with_reducible apply State.cachePut_keeps
    | with_reducible apply State.createServe_keeps
    | with_reducible apply State.bump_keeps
    | with_reducible apply State.flowWrite_keeps
    | with_reducible apply State.count_keeps
    | with_reducible apply Keeps.ite
    | with_reducible apply Keeps.foldl
    | intro _ _ _
    | intro _ _
    | split
    | (dsimp only)
    | ((with_reducible refine Keeps.upd ?_ ?_); rotate_left; focus (first | exact ⟨rfl, rfl, rfl, rfl, rfl, rfl, rfl, rfl, rfl, rfl, rfl, rfl, rfl⟩ | (simp +zetaDelta [modAt]; done)))

theorem State.setTcpState_keeps {s0 s : State} (h : Keeps s0 s) : ∀ x1 x2, Keeps s0 (State.setTcpState s x1 x2) := by
  intro x1 x2
  unfold State.setTcpState
  repeat' first
    | with_reducible assumption
    | with_reducible apply State.dramWrite_keeps
    | with_reducible apply Keeps.ite
    | with_reducible apply Keeps.foldl
    | intro _ _ _
    | intro _ _
    | split
    | (dsimp only)
    | ((with_reducible refine Keeps.upd ?_ ?_); rotate_left; focus (first | exact ⟨rfl, rfl, rfl, rfl, rfl, rfl, rfl, rfl, rfl, rfl, rfl, rfl, rfl⟩ | (simp +zetaDelta [modAt]; done)))

theorem State.touchNext_keeps {s0 s : State} (h : Keeps s0 s) : Keeps s0 (State.touchNext s) := by
  unfold State.touchNext
  repeat' first
    | with_reducible assumption
    | with_reducible apply State.dramWrite_keeps
    | with_reducible apply State.setTcpState_keeps
    | with_reducible apply Keeps.ite
    | with_reducible apply Keeps.foldl
    | intro _ _ _
    | intro _ _
    | split
    | (dsimp only)
    | ((with_reducible refine Keeps.upd ?_ ?_); rotate_left; focus (first | exact ⟨rfl, rfl, rfl, rfl, rfl, rfl, rfl, rfl, rfl, rfl, rfl, rfl, rfl⟩ | (simp +zetaDelta [modAt]; done)))

theorem State.cacheDrop_keeps {s0 s : State} (h : Keeps s0 s) : ∀ x1, Keeps s0 (State.cacheDrop s x1) := by
  intro x1
  unfold State.cacheDrop
  repeat' first
    | with_reducible assumption
    | with_reducible apply Keeps.ite
    | with_reducible apply Keeps.foldl
    | intro _ _ _
    | intro _ _
    | split
    | (dsimp only)
    | ((with_reducible refine Keeps.upd ?_ ?_); rotate_left; focus (first | exact ⟨rfl, rfl, rfl, rfl, rfl, rfl, rfl, rfl, rfl, rfl, rfl, rfl, rfl⟩ | (simp +zetaDelta [modAt]; done)))

theorem State.entryDrop_keeps {s0 s : State} (h : Keeps s0 s) : ∀ x1, Keeps s0 (State.entryDrop s x1) := by
  intro x1
  unfold State.entryDrop
  repeat' first
    | with_reducible assumption
    | with_reducible apply State.cacheDrop_keeps
    | with_reducible apply State.dramWrite_keeps
    | with_reducible apply Keeps.wr
    | with_reducible apply Keeps.ite
    | with_reducible apply Keeps.foldl
    | intro _ _ _
    | intro _ _
    | split
    | (dsimp only)
    | ((with_reducible refine Keeps.upd ?_ ?_); rotate_left; focus (first | exact ⟨rfl, rfl, rfl, rfl, rfl, rfl, rfl, rfl, rfl, rfl, rfl, rfl, rfl⟩ | (simp +zetaDelta [modAt]; done)))

theorem State.removeFlow_keeps {s0 s : State} (h : Keeps s0 s) : ∀ x1, Keeps s0 (State.removeFlow s x1) := by
  intro x1
  unfold State.removeFlow
  repeat' first
    | with_reducible assumption
    | with_reducible apply State.entryDrop_keeps
    | with_reducible apply State.bump_keeps
    | with_reducible apply Keeps.ite
    | with_reducible apply Keeps.foldl
    | intro _ _ _
    | intro _ _
    | split
    | (dsimp only)
    | ((with_reducible refine Keeps.upd ?_ ?_); rotate_left; focus (first | exact ⟨rfl, rfl, rfl, rfl, rfl, rfl, rfl, rfl, rfl, rfl, rfl, rfl, rfl⟩ | (simp +zetaDelta [modAt]; done)))

theorem State.sweepTable_keeps {s0 s : State} (h : Keeps s0 s) : ∀ x1, Keeps s0 (State.sweepTable s x1) := by
  intro x1
  unfold State.sweepTable
  repeat' first
    | with_reducible assumption
    | with_reducible apply State.removeFlow_keeps
    | with_reducible apply Keeps.ite
    | with_reducible apply Keeps.foldl
    | intro _ _ _
    | intro _ _
    | split
    | (dsimp only)
    | ((with_reducible refine Keeps.upd ?_ ?_); rotate_left; focus (first | exact ⟨rfl, rfl, rfl, rfl, rfl, rfl, rfl, rfl, rfl, rfl, rfl, rfl, rfl⟩ | (simp +zetaDelta [modAt]; done)))

theorem State.sweepCache_keeps {s0 s : State} (h : Keeps s0 s) : ∀ x1, Keeps s0 (State.sweepCache s x1) := by
  intro x1
  unfold State.sweepCache
  repeat' first
    | with_reducible assumption
    | with_reducible apply State.count_keeps
    | with_reducible apply Keeps.ite
    | with_reducible apply Keeps.foldl
    | intro _ _ _
    | intro _ _
    | split
    | (dsimp only)
    | ((with_reducible refine Keeps.upd ?_ ?_); rotate_left; focus (first | exact ⟨rfl, rfl, rfl, rfl, rfl, rfl, rfl, rfl, rfl, rfl, rfl, rfl, rfl⟩ | (simp +zetaDelta [modAt]; done)))

theorem State.swept_keeps {s0 s : State} (h : Keeps s0 s) : Keeps s0 (State.swept s) := by
  unfold State.swept
  repeat' first
    | with_reducible assumption
    | with_reducible apply State.sweepCache_keeps
    | with_reducible apply State.sweepTable_keeps
    | with_reducible apply Keeps.wr
    | with_reducible apply State.put_keeps
    | with_reducible apply Keeps.ite
    | with_reducible apply Keeps.foldl
    | intro _ _ _
    | intro _ _
    | split
    | (dsimp only)
    | ((with_reducible refine Keeps.upd ?_ ?_); rotate_left; focus (first | exact ⟨rfl, rfl, rfl, rfl, rfl, rfl, rfl, rfl, rfl, rfl, rfl, rfl, rfl⟩ | (simp +zetaDelta [modAt]; done)))

theorem State.flwResult_keeps {s0 s : State} (h : Keeps s0 s) : ∀ x1 x2, Keeps s0 (State.flwResult s x1 x2) := by
  intro x1 x2
  unfold State.flwResult
  repeat' first
    | with_reducible assumption
    | with_reducible apply Keeps.wr
    | with_reducible apply Keeps.ite
    | with_reducible apply Keeps.foldl
    | intro _ _ _
    | intro _ _
    | split
    | (dsimp only)
    | ((with_reducible refine Keeps.upd ?_ ?_); rotate_left; focus (first | exact ⟨rfl, rfl, rfl, rfl, rfl, rfl, rfl, rfl, rfl, rfl, rfl, rfl, rfl⟩ | (simp +zetaDelta [modAt]; done)))

theorem State.flwData_keeps {s0 s : State} (h : Keeps s0 s) : ∀ x1 x2, Keeps s0 (State.flwData s x1 x2) := by
  intro x1 x2
  unfold State.flwData
  repeat' first
    | with_reducible assumption
    | with_reducible apply Keeps.wr
    | with_reducible apply Keeps.ite
    | with_reducible apply Keeps.foldl
    | intro _ _ _
    | intro _ _
    | split
    | (dsimp only)
    | ((with_reducible refine Keeps.upd ?_ ?_); rotate_left; focus (first | exact ⟨rfl, rfl, rfl, rfl, rfl, rfl, rfl, rfl, rfl, rfl, rfl, rfl, rfl⟩ | (simp +zetaDelta [modAt]; done)))

theorem State.flwInsert_keeps {s0 s : State} (h : Keeps s0 s) : Keeps s0 (State.flwInsert s) := by
  unfold State.flwInsert
  repeat' first
    | with_reducible assumption
    | with_reducible apply State.flwResult_keeps
    | with_reducible apply State.flowWrite_keeps
    | with_reducible apply State.count_keeps
    | with_reducible apply Keeps.ite
    | with_reducible apply Keeps.foldl
    | intro _ _ _
    | intro _ _
    | split
    | (dsimp only)
    | ((with_reducible refine Keeps.upd ?_ ?_); rotate_left; focus (first | exact ⟨rfl, rfl, rfl, rfl, rfl, rfl, rfl, rfl, rfl, rfl, rfl, rfl, rfl⟩ | (simp +zetaDelta [modAt]; done)))

theorem State.flwCmdWrite_keeps {s0 s : State} (h : Keeps s0 s) : ∀ x1, Keeps s0 (State.flwCmdWrite s x1) := by
  intro x1
  unfold State.flwCmdWrite
  repeat' first
    | with_reducible assumption
    | with_reducible apply State.bump_keeps
    | with_reducible apply State.flwResult_keeps
    | with_reducible apply State.flwData_keeps
    | with_reducible apply State.flwInsert_keeps
    | with_reducible apply State.cacheDrop_keeps
    | with_reducible apply State.removeFlow_keeps
    | with_reducible apply State.put_keeps
    | with_reducible apply Keeps.ite
    | with_reducible apply Keeps.foldl
    | intro _ _ _
    | intro _ _
    | split
    | (dsimp only)
    | ((with_reducible refine Keeps.upd ?_ ?_); rotate_left; focus (first | exact ⟨rfl, rfl, rfl, rfl, rfl, rfl, rfl, rfl, rfl, rfl, rfl, rfl, rfl⟩ | (simp +zetaDelta [modAt]; done)))

theorem State.fieldsWrite_keeps {s0 s : State} (h : Keeps s0 s) : ∀ x1 x2, Keeps s0 (State.fieldsWrite s x1 x2) := by
  intro x1 x2
  unfold State.fieldsWrite
  repeat' first
    | with_reducible assumption
    | with_reducible apply Keeps.wr
    | with_reducible apply Keeps.ite
    | with_reducible apply Keeps.foldl
    | intro _ _ _
    | intro _ _
    | split
    | (dsimp only)
    | ((with_reducible refine Keeps.upd ?_ ?_); rotate_left; focus (first | exact ⟨rfl, rfl, rfl, rfl, rfl, rfl, rfl, rfl, rfl, rfl, rfl, rfl, rfl⟩ | (simp +zetaDelta [modAt]; done)))

theorem State.setStaging_keeps {s0 s : State} (h : Keeps s0 s) : ∀ x1 x2 x3, Keeps s0 (State.setStaging s x1 x2 x3) := by
  intro x1 x2 x3
  unfold State.setStaging
  repeat' first
    | with_reducible assumption
    | with_reducible apply Keeps.ite
    | with_reducible apply Keeps.foldl
    | intro _ _ _
    | intro _ _
    | split
    | (dsimp only)
    | ((with_reducible refine Keeps.upd ?_ ?_); rotate_left; focus (first | exact ⟨rfl, rfl, rfl, rfl, rfl, rfl, rfl, rfl, rfl, rfl, rfl, rfl, rfl⟩ | (simp +zetaDelta [modAt]; done)))

theorem State.stageWrite_keeps {s0 s : State} (h : Keeps s0 s) : ∀ x1 x2 x3 x4 x5, Keeps s0 (State.stageWrite s x1 x2 x3 x4 x5) := by
  intro x1 x2 x3 x4 x5
  unfold State.stageWrite
  repeat' first
    | with_reducible assumption
    | with_reducible apply State.setStaging_keeps
    | with_reducible apply State.count_keeps
    | with_reducible apply Keeps.ite
    | with_reducible apply Keeps.foldl
    | intro _ _ _
    | intro _ _
    | split
    | (dsimp only)
    | ((with_reducible refine Keeps.upd ?_ ?_); rotate_left; focus (first | exact ⟨rfl, rfl, rfl, rfl, rfl, rfl, rfl, rfl, rfl, rfl, rfl, rfl, rfl⟩ | (simp +zetaDelta [modAt]; done)))

theorem State.commitStaged_keeps {s0 s : State} (h : Keeps s0 s) : ∀ x1 x2 x3, Keeps s0 (State.commitStaged s x1 x2 x3) := by
  intro x1 x2 x3
  unfold State.commitStaged
  repeat' first
    | with_reducible assumption
    | with_reducible apply State.fieldsWrite_keeps
    | with_reducible apply State.setStaging_keeps
    | with_reducible apply Keeps.ite
    | with_reducible apply Keeps.foldl
    | intro _ _ _
    | intro _ _
    | split
    | (dsimp only)
    | ((with_reducible refine Keeps.upd ?_ ?_); rotate_left; focus (first | exact ⟨rfl, rfl, rfl, rfl, rfl, rfl, rfl, rfl, rfl, rfl, rfl, rfl, rfl⟩ | (simp +zetaDelta [modAt]; done)))

theorem State.ruleStage_keeps {s0 s : State} (h : Keeps s0 s) : ∀ x1 x2 x3 x4, Keeps s0 (State.ruleStage s x1 x2 x3 x4) := by
  intro x1 x2 x3 x4
  unfold State.ruleStage
  repeat' first
    | with_reducible assumption
    | with_reducible apply State.bump_keeps
    | with_reducible apply State.stageWrite_keeps
    | with_reducible apply Keeps.ite
    | with_reducible apply Keeps.foldl
    | intro _ _ _
    | intro _ _
    | split
    | (dsimp only)
    | ((with_reducible refine Keeps.upd ?_ ?_); rotate_left; focus (first | exact ⟨rfl, rfl, rfl, rfl, rfl, rfl, rfl, rfl, rfl, rfl, rfl, rfl, rfl⟩ | (simp +zetaDelta [modAt]; done)))

theorem State.ruleCommitWrite_keeps {s0 s : State} (h : Keeps s0 s) : ∀ x1 x2 x3, Keeps s0 (State.ruleCommitWrite s x1 x2 x3) := by
  intro x1 x2 x3
  unfold State.ruleCommitWrite
  repeat' first
    | with_reducible assumption
    | with_reducible apply State.bump_keeps
    | with_reducible apply State.fieldsWrite_keeps
    | with_reducible apply State.commitStaged_keeps
    | with_reducible apply Keeps.wr
    | with_reducible apply Keeps.ite
    | with_reducible apply Keeps.foldl
    | intro _ _ _
    | intro _ _
    | split
    | (dsimp only)
    | ((with_reducible refine Keeps.upd ?_ ?_); rotate_left; focus (first | exact ⟨rfl, rfl, rfl, rfl, rfl, rfl, rfl, rfl, rfl, rfl, rfl, rfl, rfl⟩ | (simp +zetaDelta [modAt]; done)))

theorem State.nhStage_keeps {s0 s : State} (h : Keeps s0 s) : ∀ x1 x2 x3 x4, Keeps s0 (State.nhStage s x1 x2 x3 x4) := by
  intro x1 x2 x3 x4
  unfold State.nhStage
  repeat' first
    | with_reducible assumption
    | with_reducible apply State.stageWrite_keeps
    | with_reducible apply Keeps.ite
    | with_reducible apply Keeps.foldl
    | intro _ _ _
    | intro _ _
    | split
    | (dsimp only)
    | ((with_reducible refine Keeps.upd ?_ ?_); rotate_left; focus (first | exact ⟨rfl, rfl, rfl, rfl, rfl, rfl, rfl, rfl, rfl, rfl, rfl, rfl, rfl⟩ | (simp +zetaDelta [modAt]; done)))

theorem State.groupWord_keeps {s0 s : State} (h : Keeps s0 s) : ∀ x1, Keeps s0 (State.groupWord s x1) := by
  intro x1
  unfold State.groupWord
  repeat' first
    | with_reducible assumption
    | with_reducible apply Keeps.wr
    | with_reducible apply Keeps.ite
    | with_reducible apply Keeps.foldl
    | intro _ _ _
    | intro _ _
    | split
    | (dsimp only)
    | ((with_reducible refine Keeps.upd ?_ ?_); rotate_left; focus (first | exact ⟨rfl, rfl, rfl, rfl, rfl, rfl, rfl, rfl, rfl, rfl, rfl, rfl, rfl⟩ | (simp +zetaDelta [modAt]; done)))

theorem State.nhCommit_keeps {s0 s : State} (h : Keeps s0 s) : ∀ x1 x2 x3, Keeps s0 (State.nhCommit s x1 x2 x3) := by
  intro x1 x2 x3
  unfold State.nhCommit
  repeat' first
    | with_reducible assumption
    | with_reducible apply State.fieldsWrite_keeps
    | with_reducible apply State.commitStaged_keeps
    | with_reducible apply State.bump_keeps
    | with_reducible apply State.setStaging_keeps
    | with_reducible apply State.groupWord_keeps
    | with_reducible apply Keeps.ite
    | with_reducible apply Keeps.foldl
    | intro _ _ _
    | intro _ _
    | split
    | (dsimp only)
    | ((with_reducible refine Keeps.upd ?_ ?_); rotate_left; focus (first | exact ⟨rfl, rfl, rfl, rfl, rfl, rfl, rfl, rfl, rfl, rfl, rfl, rfl, rfl⟩ | (simp +zetaDelta [modAt]; done)))

theorem State.rangeWrite_keeps {s0 s : State} (h : Keeps s0 s) : ∀ x1 x2, Keeps s0 (State.rangeWrite s x1 x2) := by
  intro x1 x2
  unfold State.rangeWrite
  repeat' first
    | with_reducible assumption
    | with_reducible apply State.fieldsWrite_keeps
    | with_reducible apply State.bump_keeps
    | with_reducible apply Keeps.ite
    | with_reducible apply Keeps.foldl
    | intro _ _ _
    | intro _ _
    | split
    | (dsimp only)
    | ((with_reducible refine Keeps.upd ?_ ?_); rotate_left; focus (first | exact ⟨rfl, rfl, rfl, rfl, rfl, rfl, rfl, rfl, rfl, rfl, rfl, rfl, rfl⟩ | (simp +zetaDelta [modAt]; done)))

theorem State.profileSet_keeps {s0 s : State} (h : Keeps s0 s) : ∀ x1 x2 x3 x4, Keeps s0 (State.profileSet s x1 x2 x3 x4) := by
  intro x1 x2 x3 x4
  unfold State.profileSet
  repeat' first
    | with_reducible assumption
    | with_reducible apply State.fieldsWrite_keeps
    | with_reducible apply State.bump_keeps
    | with_reducible apply Keeps.ite
    | with_reducible apply Keeps.foldl
    | intro _ _ _
    | intro _ _
    | split
    | (dsimp only)
    | ((with_reducible refine Keeps.upd ?_ ?_); rotate_left; focus (first | exact ⟨rfl, rfl, rfl, rfl, rfl, rfl, rfl, rfl, rfl, rfl, rfl, rfl, rfl⟩ | (simp +zetaDelta [modAt]; done)))

theorem State.setQue_keeps {s0 s : State} (h : Keeps s0 s) : ∀ x1 x2, Keeps s0 (State.setQue s x1 x2) := by
  intro x1 x2
  unfold State.setQue
  repeat' first
    | with_reducible assumption
    | with_reducible apply Keeps.wr
    | with_reducible apply Keeps.ite
    | with_reducible apply Keeps.foldl
    | intro _ _ _
    | intro _ _
    | split
    | (dsimp only)
    | ((with_reducible refine Keeps.upd ?_ ?_); rotate_left; focus (first | exact ⟨rfl, rfl, rfl, rfl, rfl, rfl, rfl, rfl, rfl, rfl, rfl, rfl, rfl⟩ | (simp +zetaDelta [modAt]; done)))

theorem State.arrive_keeps {s0 s : State} (h : Keeps s0 s) : ∀ x1 x2, Keeps s0 (State.arrive s x1 x2) := by
  intro x1 x2
  unfold State.arrive
  repeat' first
    | with_reducible assumption
    | with_reducible apply State.bump_keeps
    | with_reducible apply State.setQue_keeps
    | with_reducible apply Keeps.ite
    | with_reducible apply Keeps.foldl
    | intro _ _ _
    | intro _ _
    | split
    | (dsimp only)
    | ((with_reducible refine Keeps.upd ?_ ?_); rotate_left; focus (first | exact ⟨rfl, rfl, rfl, rfl, rfl, rfl, rfl, rfl, rfl, rfl, rfl, rfl, rfl⟩ | (simp +zetaDelta [modAt]; done)))

theorem State.enqueueNext_keeps {s0 s : State} (h : Keeps s0 s) : Keeps s0 (State.enqueueNext s) := by
  unfold State.enqueueNext
  repeat' first
    | with_reducible assumption
    | with_reducible apply State.bump_keeps
    | with_reducible apply State.arrive_keeps
    | with_reducible apply Keeps.ite
    | with_reducible apply Keeps.foldl
    | intro _ _ _
    | intro _ _
    | split
    | (dsimp only)
    | ((with_reducible refine Keeps.upd ?_ ?_); rotate_left; focus (first | exact ⟨rfl, rfl, rfl, rfl, rfl, rfl, rfl, rfl, rfl, rfl, rfl, rfl, rfl⟩ | (simp +zetaDelta [modAt]; done)))

theorem State.spillBack_keeps {s0 s : State} (h : Keeps s0 s) : ∀ x1 x2, Keeps s0 (State.spillBack s x1 x2) := by
  intro x1 x2
  induction x2 generalizing s with
  | zero => exact h
  | succ k ih =>
    unfold State.spillBack
    dsimp only
    split
    · exact h
    · exact Keeps.ite (ih (State.setQue_keeps h _ _)) h

theorem State.setF_keeps {s0 s : State} (h : Keeps s0 s) : ∀ x1 x2 x3, Keeps s0 (State.setF s x1 x2 x3) := by
  intro x1 x2 x3
  unfold State.setF
  repeat' first
    | with_reducible assumption
    | with_reducible apply Keeps.ite
    | with_reducible apply Keeps.foldl
    | intro _ _ _
    | intro _ _
    | split
    | (dsimp only)
    | ((with_reducible refine Keeps.upd ?_ ?_); rotate_left; focus (first | exact ⟨rfl, rfl, rfl, rfl, rfl, rfl, rfl, rfl, rfl, rfl, rfl, rfl, rfl⟩ | (simp +zetaDelta [modAt]; done)))

theorem State.wfqCharge_keeps {s0 s : State} (h : Keeps s0 s) : ∀ x1 x2 x3 x4, Keeps s0 (State.wfqCharge s x1 x2 x3 x4) := by
  intro x1 x2 x3 x4
  unfold State.wfqCharge
  repeat' first
    | with_reducible assumption
    | with_reducible apply State.setF_keeps
    | with_reducible apply Keeps.ite
    | with_reducible apply Keeps.foldl
    | intro _ _ _
    | intro _ _
    | split
    | (dsimp only)
    | ((with_reducible refine Keeps.upd ?_ ?_); rotate_left; focus (first | exact ⟨rfl, rfl, rfl, rfl, rfl, rfl, rfl, rfl, rfl, rfl, rfl, rfl, rfl⟩ | (simp +zetaDelta [modAt]; done)))

theorem State.setShaper_keeps {s0 s : State} (h : Keeps s0 s) : ∀ x1 x2, Keeps s0 (State.setShaper s x1 x2) := by
  intro x1 x2
  unfold State.setShaper
  repeat' first
    | with_reducible assumption
    | with_reducible apply Keeps.ite
    | with_reducible apply Keeps.foldl
    | intro _ _ _
    | intro _ _
    | split
    | (dsimp only)
    | ((with_reducible refine Keeps.upd ?_ ?_); rotate_left; focus (first | exact ⟨rfl, rfl, rfl, rfl, rfl, rfl, rfl, rfl, rfl, rfl, rfl, rfl, rfl⟩ | (simp +zetaDelta [modAt]; done)))

theorem State.shaperCharge_keeps {s0 s : State} (h : Keeps s0 s) : ∀ x1 x2, Keeps s0 (State.shaperCharge s x1 x2) := by
  intro x1 x2
  unfold State.shaperCharge
  repeat' first
    | with_reducible assumption
    | with_reducible apply State.setShaper_keeps
    | with_reducible apply Keeps.ite
    | with_reducible apply Keeps.foldl
    | intro _ _ _
    | intro _ _
    | split
    | (dsimp only)
    | ((with_reducible refine Keeps.upd ?_ ?_); rotate_left; focus (first | exact ⟨rfl, rfl, rfl, rfl, rfl, rfl, rfl, rfl, rfl, rfl, rfl, rfl, rfl⟩ | (simp +zetaDelta [modAt]; done)))

theorem State.shaperWrite_keeps {s0 s : State} (h : Keeps s0 s) : ∀ x1 x2, Keeps s0 (State.shaperWrite s x1 x2) := by
  intro x1 x2
  unfold State.shaperWrite
  repeat' first
    | with_reducible assumption
    | with_reducible apply State.bump_keeps
    | with_reducible apply Keeps.wr
    | with_reducible apply State.setShaper_keeps
    | with_reducible apply Keeps.ite
    | with_reducible apply Keeps.foldl
    | intro _ _ _
    | intro _ _
    | split
    | (dsimp only)
    | ((with_reducible refine Keeps.upd ?_ ?_); rotate_left; focus (first | exact ⟨rfl, rfl, rfl, rfl, rfl, rfl, rfl, rfl, rfl, rfl, rfl, rfl, rfl⟩ | (simp +zetaDelta [modAt]; done)))

theorem State.setPolicer_keeps {s0 s : State} (h : Keeps s0 s) : ∀ x1 x2, Keeps s0 (State.setPolicer s x1 x2) := by
  intro x1 x2
  unfold State.setPolicer
  repeat' first
    | with_reducible assumption
    | with_reducible apply Keeps.ite
    | with_reducible apply Keeps.foldl
    | intro _ _ _
    | intro _ _
    | split
    | (dsimp only)
    | ((with_reducible refine Keeps.upd ?_ ?_); rotate_left; focus (first | exact ⟨rfl, rfl, rfl, rfl, rfl, rfl, rfl, rfl, rfl, rfl, rfl, rfl, rfl⟩ | (simp +zetaDelta [modAt]; done)))

theorem State.policerWrite_keeps {s0 s : State} (h : Keeps s0 s) : ∀ x1 x2, Keeps s0 (State.policerWrite s x1 x2) := by
  intro x1 x2
  unfold State.policerWrite
  repeat' first
    | with_reducible assumption
    | with_reducible apply State.bump_keeps
    | with_reducible apply Keeps.wr
    | with_reducible apply State.setPolicer_keeps
    | with_reducible apply Keeps.ite
    | with_reducible apply Keeps.foldl
    | intro _ _ _
    | intro _ _
    | split
    | (dsimp only)
    | ((with_reducible refine Keeps.upd ?_ ?_); rotate_left; focus (first | exact ⟨rfl, rfl, rfl, rfl, rfl, rfl, rfl, rfl, rfl, rfl, rfl, rfl, rfl⟩ | (simp +zetaDelta [modAt]; done)))

theorem State.meter_keeps {s0 s : State} (h : Keeps s0 s) : ∀ x1 x2, Keeps s0 (State.meter s x1 x2).2 := by
  intro x1 x2
  unfold State.meter
  repeat' first
    | with_reducible assumption
    | with_reducible apply State.bump_keeps
    | with_reducible apply State.setPolicer_keeps
    | with_reducible apply Keeps.ite
    | with_reducible apply Keeps.foldl
    | intro _ _ _
    | intro _ _
    | split
    | (dsimp only)
    | ((with_reducible refine Keeps.upd ?_ ?_); rotate_left; focus (first | exact ⟨rfl, rfl, rfl, rfl, rfl, rfl, rfl, rfl, rfl, rfl, rfl, rfl, rfl⟩ | (simp +zetaDelta [modAt]; done)))

theorem State.meter_keeps_eq {s0 s : State} (h : Keeps s0 s) {x1 x2 t a0} (e : (State.meter s x1 x2) = (a0, t)) : Keeps s0 t := by
  have := State.meter_keeps h x1 x2
  rw [e] at this
  exact this

theorem State.meterPkt_keeps {s0 s : State} (h : Keeps s0 s) : ∀ x1, Keeps s0 (State.meterPkt s x1) := by
  intro x1
  unfold State.meterPkt
  repeat' first
    | with_reducible assumption
    | with_reducible apply State.meter_keeps
    | with_reducible apply State.verdict_keeps
    | with_reducible apply State.pktDrop_keeps
    | with_reducible refine State.meter_keeps_eq ?_ (by with_reducible assumption)
    | with_reducible apply Keeps.ite
    | with_reducible apply Keeps.foldl
    | intro _ _ _
    | intro _ _
    | split
    | (dsimp only)
    | ((with_reducible refine Keeps.upd ?_ ?_); rotate_left; focus (first | exact ⟨rfl, rfl, rfl, rfl, rfl, rfl, rfl, rfl, rfl, rfl, rfl, rfl, rfl⟩ | (simp +zetaDelta [modAt]; done)))

theorem State.recordWrite_keeps {s0 s : State} (h : Keeps s0 s) : ∀ x1 x2 x3, Keeps s0 (State.recordWrite s x1 x2 x3) := by
  intro x1 x2 x3
  unfold State.recordWrite
  repeat' first
    | with_reducible assumption
    | with_reducible apply State.bump_keeps
    | with_reducible apply Keeps.wr
    | with_reducible apply Keeps.ite
    | with_reducible apply Keeps.foldl
    | intro _ _ _
    | intro _ _
    | split
    | (dsimp only)
    | ((with_reducible refine Keeps.upd ?_ ?_); rotate_left; focus (first | exact ⟨rfl, rfl, rfl, rfl, rfl, rfl, rfl, rfl, rfl, rfl, rfl, rfl, rfl⟩ | (simp +zetaDelta [modAt]; done)))

theorem State.flatRefused_keeps {s0 s : State} (h : Keeps s0 s) : ∀ x1 x2 x3 x4, Keeps s0 (State.flatRefused s x1 x2 x3 x4) := by
  intro x1 x2 x3 x4
  unfold State.flatRefused
  repeat' first
    | with_reducible assumption
    | with_reducible apply State.bump_keeps
    | with_reducible apply Keeps.ite
    | with_reducible apply Keeps.foldl
    | intro _ _ _
    | intro _ _
    | split
    | (dsimp only)
    | ((with_reducible refine Keeps.upd ?_ ?_); rotate_left; focus (first | exact ⟨rfl, rfl, rfl, rfl, rfl, rfl, rfl, rfl, rfl, rfl, rfl, rfl, rfl⟩ | (simp +zetaDelta [modAt]; done)))

theorem State.flatServe_keeps {s0 s : State} (h : Keeps s0 s) : ∀ x1 x2 x3 x4 x5, Keeps s0 (State.flatServe s x1 x2 x3 x4 x5) := by
  intro x1 x2 x3 x4 x5
  unfold State.flatServe
  repeat' first
    | with_reducible assumption
    | with_reducible apply State.wfqCharge_keeps
    | with_reducible apply State.shaperCharge_keeps
    | with_reducible apply State.setQue_keeps
    | with_reducible apply Keeps.ite
    | with_reducible apply Keeps.foldl
    | intro _ _ _
    | intro _ _
    | split
    | (dsimp only)
    | ((with_reducible refine Keeps.upd ?_ ?_); rotate_left; focus (first | exact ⟨rfl, rfl, rfl, rfl, rfl, rfl, rfl, rfl, rfl, rfl, rfl, rfl, rfl⟩ | (simp +zetaDelta [modAt]; done)))

theorem State.toAir_keeps {s0 s : State} (h : Keeps s0 s) : ∀ x1 x2 x3, Keeps s0 (State.toAir s x1 x2 x3) := by
  intro x1 x2 x3
  unfold State.toAir
  repeat' first
    | with_reducible assumption
    | with_reducible apply Keeps.ite
    | with_reducible apply Keeps.foldl
    | intro _ _ _
    | intro _ _
    | split
    | (dsimp only)
    | ((with_reducible refine Keeps.upd ?_ ?_); rotate_left; focus (first | exact ⟨rfl, rfl, rfl, rfl, rfl, rfl, rfl, rfl, rfl, rfl, rfl, rfl, rfl⟩ | (simp +zetaDelta [modAt]; done)))

theorem State.drawServe_keeps {s0 s : State} (h : Keeps s0 s) : ∀ x1 x2 x3, Keeps s0 (State.drawServe s x1 x2 x3) := by
  intro x1 x2 x3
  unfold State.drawServe
  repeat' first
    | with_reducible assumption
    | with_reducible apply State.wfqCharge_keeps
    | with_reducible apply State.shaperCharge_keeps
    | with_reducible apply State.setQue_keeps
    | with_reducible apply State.toAir_keeps
    | with_reducible apply State.count_keeps
    | with_reducible apply Keeps.ite
    | with_reducible apply Keeps.foldl
    | intro _ _ _
    | intro _ _
    | split
    | (dsimp only)
    | ((with_reducible refine Keeps.upd ?_ ?_); rotate_left; focus (first | exact ⟨rfl, rfl, rfl, rfl, rfl, rfl, rfl, rfl, rfl, rfl, rfl, rfl, rfl⟩ | (simp +zetaDelta [modAt]; done)))

theorem State.groupDone_keeps {s0 s : State} (h : Keeps s0 s) : ∀ x1 x2, Keeps s0 (State.groupDone s x1 x2) := by
  intro x1 x2
  unfold State.groupDone
  repeat' first
    | with_reducible assumption
    | with_reducible apply Keeps.ite
    | with_reducible apply Keeps.foldl
    | intro _ _ _
    | intro _ _
    | split
    | (dsimp only)
    | ((with_reducible refine Keeps.upd ?_ ?_); rotate_left; focus (first | exact ⟨rfl, rfl, rfl, rfl, rfl, rfl, rfl, rfl, rfl, rfl, rfl, rfl, rfl⟩ | (simp +zetaDelta [modAt]; done)))

theorem State.drawGroup_keeps {s0 s : State} (h : Keeps s0 s) : ∀ x1 x2 x3, Keeps s0 (State.drawGroup s x1 x2 x3) := by
  intro x1 x2 x3
  unfold State.drawGroup
  repeat' first
    | with_reducible assumption
    | with_reducible apply State.setQue_keeps
    | with_reducible apply State.shaperCharge_keeps
    | with_reducible apply State.toAir_keeps
    | with_reducible apply State.count_keeps
    | with_reducible apply State.groupDone_keeps
    | with_reducible apply Keeps.ite
    | with_reducible apply Keeps.foldl
    | intro _ _ _
    | intro _ _
    | split
    | (dsimp only)
    | ((with_reducible refine Keeps.upd ?_ ?_); rotate_left; focus (first | exact ⟨rfl, rfl, rfl, rfl, rfl, rfl, rfl, rfl, rfl, rfl, rfl, rfl, rfl⟩ | (simp +zetaDelta [modAt]; done)))

end Sys2Proof.Machine
end

