-- ==== Sys2Proof/Laws/Keeps5.lean ====
section
/-! SUPPORT. What the operations of Air, EngineRows, Ports, Rings, Security, Checks keep. -/

namespace Sys2Proof.Machine

theorem State.chainsReassign_keeps {s0 s : State} (h : Keeps s0 s) : ∀ x1, Keeps s0 (State.chainsReassign s x1) := by
  intro x1
  unfold State.chainsReassign
  repeat' first
    | with_reducible assumption
    | with_reducible apply State.chainUnpowered_keeps
    | with_reducible apply State.put_keeps
    | with_reducible apply Keeps.ite
    | with_reducible apply Keeps.foldl
    | intro _ _ _
    | intro _ _
    | split
    | (dsimp only)
    | ((with_reducible refine Keeps.upd ?_ ?_); rotate_left; focus (first | exact ⟨rfl, rfl, rfl, rfl, rfl, rfl, rfl, rfl, rfl, rfl, rfl, rfl, rfl⟩ | (simp +zetaDelta [modAt]; done)))

theorem State.synthReassign_keeps {s0 s : State} (h : Keeps s0 s) : ∀ x1, Keeps s0 (State.synthReassign s x1) := by
  intro x1
  unfold State.synthReassign
  repeat' first
    | with_reducible assumption
    | with_reducible apply State.put_keeps
    | with_reducible apply Keeps.ite
    | with_reducible apply Keeps.foldl
    | intro _ _ _
    | intro _ _
    | split
    | (dsimp only)
    | ((with_reducible refine Keeps.upd ?_ ?_); rotate_left; focus (first | exact ⟨rfl, rfl, rfl, rfl, rfl, rfl, rfl, rfl, rfl, rfl, rfl, rfl, rfl⟩ | (simp +zetaDelta [modAt]; done)))

theorem State.boundaryRestart_keeps {s0 s : State} (h : Keeps s0 s) : ∀ x1, Keeps s0 (State.boundaryRestart s x1) := by
  intro x1
  unfold State.boundaryRestart
  repeat' first
    | with_reducible assumption
    | with_reducible apply State.radioRestart_keeps
    | with_reducible apply State.synthReassign_keeps
    | with_reducible apply State.chainsReassign_keeps
    | with_reducible apply State.funcSet_keeps
    | with_reducible apply State.xo80Follow_keeps
    | with_reducible apply State.chainsFollow_keeps
    | with_reducible apply Keeps.ite
    | with_reducible apply Keeps.foldl
    | intro _ _ _
    | intro _ _
    | split
    | (dsimp only)
    | ((with_reducible refine Keeps.upd ?_ ?_); rotate_left; focus (first | exact ⟨rfl, rfl, rfl, rfl, rfl, rfl, rfl, rfl, rfl, rfl, rfl, rfl, rfl⟩ | (simp +zetaDelta [modAt]; done)))

theorem State.boundaryLegend_keeps {s0 s : State} (h : Keeps s0 s) : ∀ x1, Keeps s0 (State.boundaryLegend s x1) := by
  intro x1
  unfold State.boundaryLegend
  repeat' first
    | with_reducible assumption
    | with_reducible apply State.takeLegend_keeps
    | with_reducible apply Keeps.ite
    | with_reducible apply Keeps.foldl
    | intro _ _ _
    | intro _ _
    | split
    | (dsimp only)
    | ((with_reducible refine Keeps.upd ?_ ?_); rotate_left; focus (first | exact ⟨rfl, rfl, rfl, rfl, rfl, rfl, rfl, rfl, rfl, rfl, rfl, rfl, rfl⟩ | (simp +zetaDelta [modAt]; done)))

theorem State.chainsRejoin_keeps {s0 s : State} (h : Keeps s0 s) : ∀ x1, Keeps s0 (State.chainsRejoin s x1) := by
  intro x1
  unfold State.chainsRejoin
  repeat' first
    | with_reducible assumption
    | with_reducible apply State.chainMod_keeps
    | with_reducible apply State.put_keeps
    | with_reducible apply State.grMod_keeps
    | with_reducible apply State.chainsFollow_keeps
    | with_reducible apply Keeps.ite
    | with_reducible apply Keeps.foldl
    | intro _ _ _
    | intro _ _
    | split
    | (dsimp only)
    | ((with_reducible refine Keeps.upd ?_ ?_); rotate_left; focus (first | exact ⟨rfl, rfl, rfl, rfl, rfl, rfl, rfl, rfl, rfl, rfl, rfl, rfl, rfl⟩ | (simp +zetaDelta [modAt]; done)))

theorem State.boundaryTables_keeps {s0 s : State} (h : Keeps s0 s) : ∀ x1 x2, Keeps s0 (State.boundaryTables s x1 x2) := by
  intro x1 x2
  unfold State.boundaryTables
  repeat' first
    | with_reducible assumption
    | with_reducible apply State.takeBackNow_keeps
    | with_reducible apply State.applyGrants_keeps
    | with_reducible apply State.mergeCommit_keeps
    | with_reducible apply Keeps.ite
    | with_reducible apply Keeps.foldl
    | intro _ _ _
    | intro _ _
    | split
    | (dsimp only)
    | ((with_reducible refine Keeps.upd ?_ ?_); rotate_left; focus (first | exact ⟨rfl, rfl, rfl, rfl, rfl, rfl, rfl, rfl, rfl, rfl, rfl, rfl, rfl⟩ | (simp +zetaDelta [modAt]; done)))

theorem State.superframe_keeps {s0 s : State} (h : Keeps s0 s) : ∀ x1 x2, Keeps s0 (State.superframe s x1 x2) := by
  intro x1 x2
  unfold State.superframe
  repeat' first
    | with_reducible assumption
    | with_reducible apply State.relock_keeps
    | with_reducible apply State.boundaryTables_keeps
    | with_reducible apply State.grMod_keeps
    | with_reducible apply State.chainsRejoin_keeps
    | with_reducible apply State.boundaryRestart_keeps
    | with_reducible apply State.boundaryLegend_keeps
    | with_reducible apply State.captureAll_keeps
    | with_reducible apply Keeps.ite
    | with_reducible apply Keeps.foldl
    | intro _ _ _
    | intro _ _
    | split
    | (dsimp only)
    | ((with_reducible refine Keeps.upd ?_ ?_); rotate_left; focus (first | exact ⟨rfl, rfl, rfl, rfl, rfl, rfl, rfl, rfl, rfl, rfl, rfl, rfl, rfl⟩ | (simp +zetaDelta [modAt]; done)))

theorem State.slotEdge_keeps {s0 s : State} (h : Keeps s0 s) : ∀ x1, Keeps s0 (State.slotEdge s x1) := by
  intro x1
  unfold State.slotEdge
  repeat' first
    | with_reducible assumption
    | with_reducible apply State.superframe_keeps
    | with_reducible apply State.captureAll_keeps
    | with_reducible apply State.grMod_keeps
    | with_reducible apply State.radMod_keeps
    | with_reducible apply State.extRetry_keeps
    | with_reducible apply Keeps.ite
    | with_reducible apply Keeps.foldl
    | intro _ _ _
    | intro _ _
    | split
    | (dsimp only)
    | ((with_reducible refine Keeps.upd ?_ ?_); rotate_left; focus (first | exact ⟨rfl, rfl, rfl, rfl, rfl, rfl, rfl, rfl, rfl, rfl, rfl, rfl, rfl⟩ | (simp +zetaDelta [modAt]; done)))

theorem State.charge_keeps {s0 s : State} (h : Keeps s0 s) : ∀ x1 x2, Keeps s0 (State.charge s x1 x2) := by
  intro x1 x2
  unfold State.charge
  repeat' first
    | with_reducible assumption
    | with_reducible apply State.radMod_keeps
    | with_reducible apply Keeps.ite
    | with_reducible apply Keeps.foldl
    | intro _ _ _
    | intro _ _
    | split
    | (dsimp only)
    | ((with_reducible refine Keeps.upd ?_ ?_); rotate_left; focus (first | exact ⟨rfl, rfl, rfl, rfl, rfl, rfl, rfl, rfl, rfl, rfl, rfl, rfl, rfl⟩ | (simp +zetaDelta [modAt]; done)))

theorem State.frameStart_keeps {s0 s : State} (h : Keeps s0 s) : ∀ {x1 x2 x3 x4 x5 x6 t}, State.frameStart s x1 x2 x3 x4 x5 x6 = some t → Keeps s0 t := by
  intro x1 x2 x3 x4 x5 x6 t ho
  unfold State.frameStart at ho
  split at ho
  · cases ho
  · split at ho
    · cases ho
      exact State.radMod_keeps (State.setPowers_keeps (State.charge_keeps h _ _) _) _ _
    · cases ho

theorem State.dtimNext_keeps {s0 s : State} (h : Keeps s0 s) : ∀ x1 x2, Keeps s0 (State.dtimNext s x1 x2) := by
  intro x1 x2
  unfold State.dtimNext
  repeat' first
    | with_reducible assumption
    | with_reducible apply State.grMod_keeps
    | with_reducible apply Keeps.ite
    | with_reducible apply Keeps.foldl
    | intro _ _ _
    | intro _ _
    | split
    | (dsimp only)
    | ((with_reducible refine Keeps.upd ?_ ?_); rotate_left; focus (first | exact ⟨rfl, rfl, rfl, rfl, rfl, rfl, rfl, rfl, rfl, rfl, rfl, rfl, rfl⟩ | (simp +zetaDelta [modAt]; done)))

theorem State.beaconPn_keeps {s0 s : State} (h : Keeps s0 s) : ∀ x1 x2, Keeps s0 (State.beaconPn s x1 x2) := by
  intro x1 x2
  unfold State.beaconPn
  repeat' first
    | with_reducible assumption
    | with_reducible apply State.pnAssigned_keeps
    | with_reducible apply Keeps.ite
    | with_reducible apply Keeps.foldl
    | intro _ _ _
    | intro _ _
    | split
    | (dsimp only)
    | ((with_reducible refine Keeps.upd ?_ ?_); rotate_left; focus (first | exact ⟨rfl, rfl, rfl, rfl, rfl, rfl, rfl, rfl, rfl, rfl, rfl, rfl, rfl⟩ | (simp +zetaDelta [modAt]; done)))

theorem State.beaconOne_keeps {s0 s : State} (h : Keeps s0 s) : ∀ x1 x2 x3 x4, Keeps s0 (State.beaconOne s x1 x2 x3 x4).2 := by
  intro x1 x2 x3 x4
  unfold State.beaconOne
  repeat' first
    | with_reducible assumption
    | with_reducible apply State.dtimNext_keeps
    | with_reducible apply State.grMod_keeps
    | with_reducible apply State.bump_keeps
    | with_reducible apply State.beaconPn_keeps
    | with_reducible refine State.frameStart_keeps ?_ (by with_reducible assumption)
    | with_reducible apply Keeps.ite
    | with_reducible apply Keeps.foldl
    | intro _ _ _
    | intro _ _
    | split
    | (dsimp only)
    | ((with_reducible refine Keeps.upd ?_ ?_); rotate_left; focus (first | exact ⟨rfl, rfl, rfl, rfl, rfl, rfl, rfl, rfl, rfl, rfl, rfl, rfl, rfl⟩ | (simp +zetaDelta [modAt]; done)))

theorem State.beaconOne_keeps_eq {s0 s : State} (h : Keeps s0 s) {x1 x2 x3 x4 t a0} (e : (State.beaconOne s x1 x2 x3 x4) = (a0, t)) : Keeps s0 t := by
  have := State.beaconOne_keeps h x1 x2 x3 x4
  rw [e] at this
  exact this

theorem State.beaconRun_keeps {s0 s : State} (h : Keeps s0 s) : ∀ x1 x2, Keeps s0 (State.beaconRun s x1 x2) := by
  intro x1 x2
  unfold State.beaconRun
  refine Keeps.ite h ?_
  exact Keeps.foldl_snd h _ fun a e ha => State.beaconOne_keeps ha _ _ _ _

theorem State.mpduSent_keeps {s0 s : State} (h : Keeps s0 s) : ∀ x1 x2, Keeps s0 (State.mpduSent s x1 x2) := by
  intro x1 x2
  unfold State.mpduSent
  repeat' first
    | with_reducible assumption
    | with_reducible apply State.stampAsk_keeps
    | with_reducible apply Keeps.ite
    | with_reducible apply Keeps.foldl
    | intro _ _ _
    | intro _ _
    | split
    | (dsimp only)
    | ((with_reducible refine Keeps.upd ?_ ?_); rotate_left; focus (first | exact ⟨rfl, rfl, rfl, rfl, rfl, rfl, rfl, rfl, rfl, rfl, rfl, rfl, rfl⟩ | (simp +zetaDelta [modAt]; done)))

theorem State.mgmtOut_keeps {s0 s : State} (h : Keeps s0 s) : ∀ x1 x2 x3 x4, Keeps s0 (State.mgmtOut s x1 x2 x3 x4) := by
  intro x1 x2 x3 x4
  unfold State.mgmtOut
  repeat' first
    | with_reducible assumption
    | with_reducible apply State.freeN_keeps
    | with_reducible refine State.freeN_keeps_eq ?_ (by with_reducible assumption)
    | with_reducible apply Keeps.ite
    | with_reducible apply Keeps.foldl
    | intro _ _ _
    | intro _ _
    | split
    | (dsimp only)
    | ((with_reducible refine Keeps.upd ?_ ?_); rotate_left; focus (first | exact ⟨rfl, rfl, rfl, rfl, rfl, rfl, rfl, rfl, rfl, rfl, rfl, rfl, rfl⟩ | (simp +zetaDelta [modAt]; done)))

theorem State.txRefused_keeps {s0 s : State} (h : Keeps s0 s) : ∀ x1 x2 x3, Keeps s0 (State.txRefused s x1 x2 x3) := by
  intro x1 x2 x3
  unfold State.txRefused
  repeat' first
    | with_reducible assumption
    | with_reducible apply State.bump_keeps
    | with_reducible apply Keeps.ite
    | with_reducible apply Keeps.foldl
    | intro _ _ _
    | intro _ _
    | split
    | (dsimp only)
    | ((with_reducible refine Keeps.upd ?_ ?_); rotate_left; focus (first | exact ⟨rfl, rfl, rfl, rfl, rfl, rfl, rfl, rfl, rfl, rfl, rfl, rfl, rfl⟩ | (simp +zetaDelta [modAt]; done)))

theorem State.mpduKeyed_keeps {s0 s : State} (h : Keeps s0 s) : ∀ x1 x2, Keeps s0 (State.mpduKeyed s x1 x2).2 := by
  intro x1 x2
  unfold State.mpduKeyed
  repeat' first
    | with_reducible assumption
    | with_reducible apply State.mgmtOut_keeps
    | with_reducible apply State.txRefused_keeps
    | with_reducible apply State.takePn_keeps
    | with_reducible refine State.takePn_keeps_eq ?_ (by with_reducible assumption)
    | with_reducible apply Keeps.ite
    | with_reducible apply Keeps.foldl
    | intro _ _ _
    | intro _ _
    | split
    | (dsimp only)
    | ((with_reducible refine Keeps.upd ?_ ?_); rotate_left; focus (first | exact ⟨rfl, rfl, rfl, rfl, rfl, rfl, rfl, rfl, rfl, rfl, rfl, rfl, rfl⟩ | (simp +zetaDelta [modAt]; done)))

theorem State.mpduKeyed_keeps_eq {s0 s : State} (h : Keeps s0 s) {x1 x2 t a0} (e : (State.mpduKeyed s x1 x2) = (a0, t)) : Keeps s0 t := by
  have := State.mpduKeyed_keeps h x1 x2
  rw [e] at this
  exact this

theorem State.keyed_keeps {s0 : State} (x0 : Nat) (x1 : List Mpdu) : ∀ {s : State}, Keeps s0 s → Keeps s0 (State.keyed x0 x1 s).2 := by
  induction x1 with
  | nil => exact fun h => h
  | cons m l ih => exact fun h => ih (State.mpduKeyed_keeps h _ _)

theorem State.keyed_keeps_eq {s0 s : State} (h : Keeps s0 s) {x0 : Nat} {x1 a0 : List Mpdu} {t : State} (e : State.keyed x0 x1 s = (a0, t)) : Keeps s0 t := by
  have := State.keyed_keeps x0 x1 h
  rw [e] at this
  exact this

theorem State.usersKeyed_keeps {s0 : State} (x0 : Nat) (x1 : List PpduUser) : ∀ {s : State}, Keeps s0 s → Keeps s0 (State.usersKeyed x0 x1 s).2 := by
  induction x1 with
  | nil => exact fun h => h
  | cons u l ih => exact fun h => ih (State.keyed_keeps _ _ h)

theorem State.usersKeyed_keeps_eq {s0 s : State} (h : Keeps s0 s) {x0 : Nat} {x1 a0 : List PpduUser} {t : State} (e : State.usersKeyed x0 x1 s = (a0, t)) : Keeps s0 t := by
  have := State.usersKeyed_keeps x0 x1 h
  rw [e] at this
  exact this

theorem State.retryCharge_keeps {s0 s : State} (h : Keeps s0 s) : ∀ x1 x2 x3, Keeps s0 (State.retryCharge s x1 x2 x3) := by
  intro x1 x2 x3
  unfold State.retryCharge
  repeat' first
    | with_reducible assumption
    | with_reducible apply State.wfqCharge_keeps
    | with_reducible apply State.shaperCharge_keeps
    | with_reducible apply Keeps.ite
    | with_reducible apply Keeps.foldl
    | intro _ _ _
    | intro _ _
    | split
    | (dsimp only)
    | ((with_reducible refine Keeps.upd ?_ ?_); rotate_left; focus (first | exact ⟨rfl, rfl, rfl, rfl, rfl, rfl, rfl, rfl, rfl, rfl, rfl, rfl, rfl⟩ | (simp +zetaDelta [modAt]; done)))

theorem State.staUsing_keeps {s0 s : State} (h : Keeps s0 s) : ∀ x1 x2 x3, Keeps s0 (State.staUsing s x1 x2 x3) := by
  intro x1 x2 x3
  unfold State.staUsing
  repeat' first
    | with_reducible assumption
    | with_reducible apply State.put_keeps
    | with_reducible apply Keeps.ite
    | with_reducible apply Keeps.foldl
    | intro _ _ _
    | intro _ _
    | split
    | (dsimp only)
    | ((with_reducible refine Keeps.upd ?_ ?_); rotate_left; focus (first | exact ⟨rfl, rfl, rfl, rfl, rfl, rfl, rfl, rfl, rfl, rfl, rfl, rfl, rfl⟩ | (simp +zetaDelta [modAt]; done)))

theorem State.ppduSent_keeps {s0 s : State} (h : Keeps s0 s) : ∀ x1 x2, Keeps s0 (State.ppduSent s x1 x2) := by
  intro x1 x2
  unfold State.ppduSent
  repeat' first
    | with_reducible assumption
    | with_reducible apply State.usersKeyed_keeps
    | with_reducible apply State.staUsing_keeps
    | with_reducible apply State.mpduSent_keeps
    | with_reducible apply State.retryCharge_keeps
    | with_reducible refine State.usersKeyed_keeps_eq ?_ (by with_reducible assumption)
    | with_reducible apply Keeps.ite
    | with_reducible apply Keeps.foldl
    | intro _ _ _
    | intro _ _
    | split
    | (dsimp only)
    | ((with_reducible refine Keeps.upd ?_ ?_); rotate_left; focus (first | exact ⟨rfl, rfl, rfl, rfl, rfl, rfl, rfl, rfl, rfl, rfl, rfl, rfl, rfl⟩ | (simp +zetaDelta [modAt]; done)))

theorem State.exchange_keeps {s0 s : State} (h : Keeps s0 s) : ∀ {x1 x2 x3 x4 x5 t}, State.exchange s x1 x2 x3 x4 x5 = some t → Keeps s0 t := by
  intro x1 x2 x3 x4 x5 t ho
  unfold State.exchange at ho
  split at ho
  · cases ho
  · exact State.frameStart_keeps h ho

theorem State.dlsExchange_keeps {s0 s : State} (h : Keeps s0 s) : ∀ x1 x2 x3 x4 x5, Keeps s0 (State.dlsExchange s x1 x2 x3 x4 x5) := by
  intro x1 x2 x3 x4 x5
  unfold State.dlsExchange
  repeat' first
    | with_reducible assumption
    | with_reducible apply State.grMod_keeps
    | with_reducible apply State.ppduSent_keeps
    | with_reducible refine State.exchange_keeps ?_ (by with_reducible assumption)
    | with_reducible apply Keeps.ite
    | with_reducible apply Keeps.foldl
    | intro _ _ _
    | intro _ _
    | split
    | (dsimp only)
    | ((with_reducible refine Keeps.upd ?_ ?_); rotate_left; focus (first | exact ⟨rfl, rfl, rfl, rfl, rfl, rfl, rfl, rfl, rfl, rfl, rfl, rfl, rfl⟩ | (simp +zetaDelta [modAt]; done)))

theorem State.contend_keeps {s0 s : State} (h : Keeps s0 s) : ∀ x1 x2 x3 x4, Keeps s0 (State.contend s x1 x2 x3 x4) := by
  intro x1 x2 x3 x4
  unfold State.contend
  repeat' first
    | with_reducible assumption
    | with_reducible apply State.ppduSent_keeps
    | with_reducible refine State.exchange_keeps ?_ (by with_reducible assumption)
    | with_reducible apply Keeps.ite
    | with_reducible apply Keeps.foldl
    | intro _ _ _
    | intro _ _
    | split
    | (dsimp only)
    | ((with_reducible refine Keeps.upd ?_ ?_); rotate_left; focus (first | exact ⟨rfl, rfl, rfl, rfl, rfl, rfl, rfl, rfl, rfl, rfl, rfl, rfl, rfl⟩ | (simp +zetaDelta [modAt]; done)))

theorem State.ulReport_keeps {s0 s : State} (h : Keeps s0 s) : ∀ x1 x2, Keeps s0 (State.ulReport s x1 x2) := by
  intro x1 x2
  unfold State.ulReport
  repeat' first
    | with_reducible assumption
    | with_reducible apply State.put_keeps
    | with_reducible apply Keeps.ite
    | with_reducible apply Keeps.foldl
    | intro _ _ _
    | intro _ _
    | split
    | (dsimp only)
    | ((with_reducible refine Keeps.upd ?_ ?_); rotate_left; focus (first | exact ⟨rfl, rfl, rfl, rfl, rfl, rfl, rfl, rfl, rfl, rfl, rfl, rfl, rfl⟩ | (simp +zetaDelta [modAt]; done)))

theorem State.ulMiss_keeps {s0 s : State} (h : Keeps s0 s) : ∀ x1 x2, Keeps s0 (State.ulMiss s x1 x2) := by
  intro x1 x2
  unfold State.ulMiss
  repeat' first
    | with_reducible assumption
    | with_reducible apply State.grMod_keeps
    | with_reducible apply State.bump_keeps
    | with_reducible apply State.put_keeps
    | with_reducible apply Keeps.ite
    | with_reducible apply Keeps.foldl
    | intro _ _ _
    | intro _ _
    | split
    | (dsimp only)
    | ((with_reducible refine Keeps.upd ?_ ?_); rotate_left; focus (first | exact ⟨rfl, rfl, rfl, rfl, rfl, rfl, rfl, rfl, rfl, rfl, rfl, rfl, rfl⟩ | (simp +zetaDelta [modAt]; done)))

theorem State.ultAnswers_keeps {s0 s : State} (h : Keeps s0 s) : ∀ x1 x2 x3, Keeps s0 (State.ultAnswers s x1 x2 x3) := by
  intro x1 x2 x3
  unfold State.ultAnswers
  repeat' first
    | with_reducible assumption
    | with_reducible apply State.grMod_keeps
    | with_reducible apply State.ulReport_keeps
    | with_reducible apply State.ulMiss_keeps
    | with_reducible apply Keeps.ite
    | with_reducible apply Keeps.foldl
    | intro _ _ _
    | intro _ _
    | split
    | (dsimp only)
    | ((with_reducible refine Keeps.upd ?_ ?_); rotate_left; focus (first | exact ⟨rfl, rfl, rfl, rfl, rfl, rfl, rfl, rfl, rfl, rfl, rfl, rfl, rfl⟩ | (simp +zetaDelta [modAt]; done)))

theorem State.ultRound_keeps {s0 s : State} (h : Keeps s0 s) : ∀ x1 x2 x3, Keeps s0 (State.ultRound s x1 x2 x3) := by
  intro x1 x2 x3
  unfold State.ultRound
  repeat' first
    | with_reducible assumption
    | with_reducible apply State.count_keeps
    | with_reducible apply State.ultAnswers_keeps
    | with_reducible apply State.grMod_keeps
    | with_reducible refine State.frameStart_keeps ?_ (by with_reducible assumption)
    | with_reducible apply Keeps.ite
    | with_reducible apply Keeps.foldl
    | intro _ _ _
    | intro _ _
    | split
    | (dsimp only)
    | ((with_reducible refine Keeps.upd ?_ ?_); rotate_left; focus (first | exact ⟨rfl, rfl, rfl, rfl, rfl, rfl, rfl, rfl, rfl, rfl, rfl, rfl, rfl⟩ | (simp +zetaDelta [modAt]; done)))

theorem State.restEnter_keeps {s0 s : State} (h : Keeps s0 s) : ∀ x1 x2, Keeps s0 (State.restEnter s x1 x2) := by
  intro x1 x2
  unfold State.restEnter
  repeat' first
    | with_reducible assumption
    | with_reducible apply State.grMod_keeps
    | with_reducible apply State.setRadio_keeps
    | with_reducible apply State.rxAbort_keeps
    | with_reducible apply State.synthLock_keeps
    | with_reducible apply State.xo80Follow_keeps
    | with_reducible apply Keeps.ite
    | with_reducible apply Keeps.foldl
    | intro _ _ _
    | intro _ _
    | split
    | (dsimp only)
    | ((with_reducible refine Keeps.upd ?_ ?_); rotate_left; focus (first | exact ⟨rfl, rfl, rfl, rfl, rfl, rfl, rfl, rfl, rfl, rfl, rfl, rfl, rfl⟩ | (simp +zetaDelta [modAt]; done)))

theorem State.restLeave_keeps {s0 s : State} (h : Keeps s0 s) : ∀ x1, Keeps s0 (State.restLeave s x1) := by
  intro x1
  unfold State.restLeave
  repeat' first
    | with_reducible assumption
    | with_reducible apply State.grMod_keeps
    | with_reducible apply State.xo80Follow_keeps
    | with_reducible apply State.setRadio_keeps
    | with_reducible apply State.synthLock_keeps
    | with_reducible apply Keeps.ite
    | with_reducible apply Keeps.foldl
    | intro _ _ _
    | intro _ _
    | split
    | (dsimp only)
    | ((with_reducible refine Keeps.upd ?_ ?_); rotate_left; focus (first | exact ⟨rfl, rfl, rfl, rfl, rfl, rfl, rfl, rfl, rfl, rfl, rfl, rfl, rfl⟩ | (simp +zetaDelta [modAt]; done)))

theorem State.ctsToSelf_keeps {s0 s : State} (h : Keeps s0 s) : ∀ x1 x2 x3, Keeps s0 (State.ctsToSelf s x1 x2 x3) := by
  intro x1 x2 x3
  unfold State.ctsToSelf
  repeat' first
    | with_reducible assumption
    | with_reducible apply State.bump_keeps
    | with_reducible apply State.grMod_keeps
    | with_reducible refine State.frameStart_keeps ?_ (by with_reducible assumption)
    | with_reducible apply Keeps.ite
    | with_reducible apply Keeps.foldl
    | intro _ _ _
    | intro _ _
    | split
    | (dsimp only)
    | ((with_reducible refine Keeps.upd ?_ ?_); rotate_left; focus (first | exact ⟨rfl, rfl, rfl, rfl, rfl, rfl, rfl, rfl, rfl, rfl, rfl, rfl, rfl⟩ | (simp +zetaDelta [modAt]; done)))

theorem State.requeue_keeps {s0 s : State} (h : Keeps s0 s) : ∀ x1 x2, Keeps s0 (State.requeue s x1 x2) := by
  intro x1 x2
  unfold State.requeue
  repeat' first
    | with_reducible assumption
    | with_reducible apply State.setQue_keeps
    | with_reducible apply State.count_keeps
    | with_reducible apply Keeps.ite
    | with_reducible apply Keeps.foldl
    | intro _ _ _
    | intro _ _
    | split
    | (dsimp only)
    | ((with_reducible refine Keeps.upd ?_ ?_); rotate_left; focus (first | exact ⟨rfl, rfl, rfl, rfl, rfl, rfl, rfl, rfl, rfl, rfl, rfl, rfl, rfl⟩ | (simp +zetaDelta [modAt]; done)))

theorem State.beaconsLate_keeps {s0 s : State} (h : Keeps s0 s) : ∀ x1 x2, Keeps s0 (State.beaconsLate s x1 x2) := by
  intro x1 x2
  unfold State.beaconsLate
  repeat' first
    | with_reducible assumption
    | with_reducible apply State.bump_keeps
    | with_reducible apply State.dtimNext_keeps
    | with_reducible apply State.grMod_keeps
    | with_reducible apply Keeps.ite
    | with_reducible apply Keeps.foldl
    | intro _ _ _
    | intro _ _
    | split
    | (dsimp only)
    | ((with_reducible refine Keeps.upd ?_ ?_); rotate_left; focus (first | exact ⟨rfl, rfl, rfl, rfl, rfl, rfl, rfl, rfl, rfl, rfl, rfl, rfl, rfl⟩ | (simp +zetaDelta [modAt]; done)))

theorem State.runEnds_keeps {s0 s : State} (h : Keeps s0 s) : ∀ x1, Keeps s0 (State.runEnds s x1) := by
  intro x1
  unfold State.runEnds
  repeat' first
    | with_reducible assumption
    | with_reducible apply State.radMod_keeps
    | with_reducible apply State.put_keeps
    | with_reducible apply State.status_keeps
    | with_reducible apply State.bump_keeps
    | with_reducible apply State.beaconsLate_keeps
    | with_reducible apply State.count_keeps
    | with_reducible apply Keeps.ite
    | with_reducible apply Keeps.foldl
    | intro _ _ _
    | intro _ _
    | split
    | (dsimp only)
    | ((with_reducible refine Keeps.upd ?_ ?_); rotate_left; focus (first | exact ⟨rfl, rfl, rfl, rfl, rfl, rfl, rfl, rfl, rfl, rfl, rfl, rfl, rfl⟩ | (simp +zetaDelta [modAt]; done)))

theorem State.jumped_keeps {s0 t : State} (h : Keeps s0 t) : ∀ s : State, Keeps s0 (State.jumped s t) := by
  intro s
  unfold State.jumped
  exact Keeps.ite (State.runEnds_keeps (State.runEnds_keeps (State.runEnds_keeps h _) _) _) h

theorem State.lateFrame_keeps {s0 s : State} (h : Keeps s0 s) : ∀ x1 x2 x3, Keeps s0 (State.lateFrame s x1 x2 x3) := by
  intro x1 x2 x3
  unfold State.lateFrame
  repeat' first
    | with_reducible assumption
    | with_reducible apply State.requeue_keeps
    | with_reducible apply State.beaconsLate_keeps
    | with_reducible apply State.bump_keeps
    | with_reducible apply Keeps.ite
    | with_reducible apply Keeps.foldl
    | intro _ _ _
    | intro _ _
    | split
    | (dsimp only)
    | ((with_reducible refine Keeps.upd ?_ ?_); rotate_left; focus (first | exact ⟨rfl, rfl, rfl, rfl, rfl, rfl, rfl, rfl, rfl, rfl, rfl, rfl, rfl⟩ | (simp +zetaDelta [modAt]; done)))

theorem State.stationWrite_keeps {s0 s : State} (h : Keeps s0 s) : ∀ x1 x2, Keeps s0 (State.stationWrite s x1 x2) := by
  intro x1 x2
  unfold State.stationWrite
  repeat' first
    | with_reducible assumption
    | with_reducible apply State.bump_keeps
    | with_reducible apply Keeps.wr
    | with_reducible apply State.put_keeps
    | with_reducible apply Keeps.ite
    | with_reducible apply Keeps.foldl
    | intro _ _ _
    | intro _ _
    | split
    | (dsimp only)
    | ((with_reducible refine Keeps.upd ?_ ?_); rotate_left; focus (first | exact ⟨rfl, rfl, rfl, rfl, rfl, rfl, rfl, rfl, rfl, rfl, rfl, rfl, rfl⟩ | (simp +zetaDelta [modAt]; done)))

theorem State.emlsrClaim_keeps {s0 s : State} (h : Keeps s0 s) : ∀ x1 x2 x3 x4, Keeps s0 (State.emlsrClaim s x1 x2 x3 x4) := by
  intro x1 x2 x3 x4
  unfold State.emlsrClaim
  repeat' first
    | with_reducible assumption
    | with_reducible refine State.frameStart_keeps ?_ (by with_reducible assumption)
    | with_reducible apply Keeps.ite
    | with_reducible apply Keeps.foldl
    | intro _ _ _
    | intro _ _
    | split
    | (dsimp only)
    | ((with_reducible refine Keeps.upd ?_ ?_); rotate_left; focus (first | exact ⟨rfl, rfl, rfl, rfl, rfl, rfl, rfl, rfl, rfl, rfl, rfl, rfl, rfl⟩ | (simp +zetaDelta [modAt]; done)))

theorem State.wakeEngine_keeps {s0 s : State} (h : Keeps s0 s) : ∀ x1, Keeps s0 (State.wakeEngine s x1) := by
  intro x1
  unfold State.wakeEngine
  repeat' first
    | with_reducible assumption
    | with_reducible apply State.issue_keeps
    | with_reducible apply State.put_keeps
    | with_reducible apply Keeps.ite
    | with_reducible apply Keeps.foldl
    | intro _ _ _
    | intro _ _
    | split
    | (dsimp only)
    | ((with_reducible refine Keeps.upd ?_ ?_); rotate_left; focus (first | exact ⟨rfl, rfl, rfl, rfl, rfl, rfl, rfl, rfl, rfl, rfl, rfl, rfl, rfl⟩ | (simp +zetaDelta [modAt]; done)))

theorem State.stopClock_keeps {s0 s : State} (h : Keeps s0 s) : ∀ x1, Keeps s0 (State.stopClock s x1) := by
  intro x1
  unfold State.stopClock
  repeat' first
    | with_reducible assumption
    | with_reducible apply State.put_keeps
    | with_reducible apply Keeps.ite
    | with_reducible apply Keeps.foldl
    | intro _ _ _
    | intro _ _
    | split
    | (dsimp only)
    | ((with_reducible refine Keeps.upd ?_ ?_); rotate_left; focus (first | exact ⟨rfl, rfl, rfl, rfl, rfl, rfl, rfl, rfl, rfl, rfl, rfl, rfl, rfl⟩ | (simp +zetaDelta [modAt]; done)))

theorem State.memCe_keeps {s0 s : State} (h : Keeps s0 s) : ∀ x1 x2, Keeps s0 (State.memCe s x1 x2) := by
  intro x1 x2
  unfold State.memCe
  repeat' first
    | with_reducible assumption
    | with_reducible apply Keeps.wr
    | with_reducible apply State.bump_keeps
    | with_reducible apply Keeps.ite
    | with_reducible apply Keeps.foldl
    | intro _ _ _
    | intro _ _
    | split
    | (dsimp only)
    | ((with_reducible refine Keeps.upd ?_ ?_); rotate_left; focus (first | exact ⟨rfl, rfl, rfl, rfl, rfl, rfl, rfl, rfl, rfl, rfl, rfl, rfl, rfl⟩ | (simp +zetaDelta [modAt]; done)))

theorem State.memUe_keeps {s0 s : State} (h : Keeps s0 s) : ∀ x1 x2 x3 x4, Keeps s0 (State.memUe s x1 x2 x3 x4) := by
  intro x1 x2 x3 x4
  unfold State.memUe
  repeat' first
    | with_reducible assumption
    | with_reducible apply Keeps.wr
    | with_reducible apply State.bump_keeps
    | with_reducible apply Keeps.ite
    | with_reducible apply Keeps.foldl
    | intro _ _ _
    | intro _ _
    | split
    | (dsimp only)
    | ((with_reducible refine Keeps.upd ?_ ?_); rotate_left; focus (first | exact ⟨rfl, rfl, rfl, rfl, rfl, rfl, rfl, rfl, rfl, rfl, rfl, rfl, rfl⟩ | (simp +zetaDelta [modAt]; done)))

theorem State.compareLine_keeps {s0 s : State} (h : Keeps s0 s) : ∀ x1 x2 x3 x4, Keeps s0 (State.compareLine s x1 x2 x3 x4) := by
  intro x1 x2 x3 x4
  unfold State.compareLine
  repeat' first
    | with_reducible assumption
    | with_reducible apply State.memCe_keeps
    | with_reducible apply State.roleMod_keeps
    | with_reducible apply State.engineFault_keeps
    | with_reducible apply State.engMod_keeps
    | with_reducible apply State.memUe_keeps
    | with_reducible apply State.faultNow_keeps
    | with_reducible apply Keeps.ite
    | with_reducible apply Keeps.foldl
    | intro _ _ _
    | intro _ _
    | split
    | (dsimp only)
    | ((with_reducible refine Keeps.upd ?_ ?_); rotate_left; focus (first | exact ⟨rfl, rfl, rfl, rfl, rfl, rfl, rfl, rfl, rfl, rfl, rfl, rfl, rfl⟩ | (simp +zetaDelta [modAt]; done)))

theorem State.checkFail_keeps {s0 s : State} (h : Keeps s0 s) : ∀ x1 x2, Keeps s0 (State.checkFail s x1 x2) := by
  intro x1 x2
  unfold State.checkFail
  repeat' first
    | with_reducible assumption
    | with_reducible apply State.engineFault_keeps
    | with_reducible apply State.memUe_keeps
    | with_reducible apply Keeps.ite
    | with_reducible apply Keeps.foldl
    | intro _ _ _
    | intro _ _
    | split
    | (dsimp only)
    | ((with_reducible refine Keeps.upd ?_ ?_); rotate_left; focus (first | exact ⟨rfl, rfl, rfl, rfl, rfl, rfl, rfl, rfl, rfl, rfl, rfl, rfl, rfl⟩ | (simp +zetaDelta [modAt]; done)))

theorem State.cutOver_keeps {s0 s : State} (h : Keeps s0 s) : Keeps s0 (State.cutOver s) := by
  unfold State.cutOver
  repeat' first
    | with_reducible assumption
    | with_reducible apply State.roleMod_keeps
    | with_reducible apply State.engMod_keeps
    | with_reducible apply State.roleLost_keeps
    | with_reducible apply State.recutMod_keeps
    | with_reducible apply State.roleMoved_keeps
    | with_reducible apply State.setEngine_keeps
    | with_reducible apply State.put_keeps
    | with_reducible apply State.putEntryRole_keeps
    | with_reducible apply State.letGo_keeps
    | with_reducible apply Keeps.wr
    | with_reducible apply State.bump_keeps
    | with_reducible apply State.faultUpdate_keeps
    | with_reducible apply State.engDone_keeps
    | with_reducible apply State.engSync_keeps
    | with_reducible apply State.nextMoveTk_keeps
    | with_reducible apply State.recutNext_keeps
    | with_reducible apply Keeps.ite
    | with_reducible apply Keeps.foldl
    | intro _ _ _
    | intro _ _
    | split
    | (dsimp only)
    | ((with_reducible refine Keeps.upd ?_ ?_); rotate_left; focus (first | exact ⟨rfl, rfl, rfl, rfl, rfl, rfl, rfl, rfl, rfl, rfl, rfl, rfl, rfl⟩ | (simp +zetaDelta [modAt]; done)))

theorem State.engReinstateWrite_keeps {s0 s : State} (h : Keeps s0 s) : ∀ x1, Keeps s0 (State.engReinstateWrite s x1) := by
  intro x1
  unfold State.engReinstateWrite
  repeat' first
    | with_reducible assumption
    | with_reducible apply State.engMod_keeps
    | with_reducible apply Keeps.ite
    | with_reducible apply Keeps.foldl
    | intro _ _ _
    | intro _ _
    | split
    | (dsimp only)
    | ((with_reducible refine Keeps.upd ?_ ?_); rotate_left; focus (first | exact ⟨rfl, rfl, rfl, rfl, rfl, rfl, rfl, rfl, rfl, rfl, rfl, rfl, rfl⟩ | (simp +zetaDelta [modAt]; done)))

theorem State.engineTested_keeps {s0 s : State} (h : Keeps s0 s) : ∀ x1 x2, Keeps s0 (State.engineTested s x1 x2) := by
  intro x1 x2
  unfold State.engineTested
  repeat' first
    | with_reducible assumption
    | with_reducible apply State.setEngine_keeps
    | with_reducible apply State.put_keeps
    | with_reducible apply Keeps.wr
    | with_reducible apply State.engMod_keeps
    | with_reducible apply State.engDone_keeps
    | with_reducible apply State.blankFree_keeps
    | with_reducible apply Keeps.ite
    | with_reducible apply Keeps.foldl
    | intro _ _ _
    | intro _ _
    | split
    | (dsimp only)
    | ((with_reducible refine Keeps.upd ?_ ?_); rotate_left; focus (first | exact ⟨rfl, rfl, rfl, rfl, rfl, rfl, rfl, rfl, rfl, rfl, rfl, rfl, rfl⟩ | (simp +zetaDelta [modAt]; done)))

theorem State.portMod_keeps {s0 s : State} (h : Keeps s0 s) : ∀ x1 x2, Keeps s0 (State.portMod s x1 x2) := by
  intro x1 x2
  unfold State.portMod
  repeat' first
    | with_reducible assumption
    | with_reducible apply Keeps.ite
    | with_reducible apply Keeps.foldl
    | intro _ _ _
    | intro _ _
    | split
    | (dsimp only)
    | ((with_reducible refine Keeps.upd ?_ ?_); rotate_left; focus (first | exact ⟨rfl, rfl, rfl, rfl, rfl, rfl, rfl, rfl, rfl, rfl, rfl, rfl, rfl⟩ | (simp +zetaDelta [modAt]; done)))

theorem State.count64_keeps {s0 s : State} (h : Keeps s0 s) : ∀ x1 x2 x3, Keeps s0 (State.count64 s x1 x2 x3) := by
  intro x1 x2 x3
  unfold State.count64
  repeat' first
    | with_reducible assumption
    | with_reducible apply Keeps.wr
    | with_reducible apply Keeps.ite
    | with_reducible apply Keeps.foldl
    | intro _ _ _
    | intro _ _
    | split
    | (dsimp only)
    | ((with_reducible refine Keeps.upd ?_ ?_); rotate_left; focus (first | exact ⟨rfl, rfl, rfl, rfl, rfl, rfl, rfl, rfl, rfl, rfl, rfl, rfl, rfl⟩ | (simp +zetaDelta [modAt]; done)))

theorem State.ethSendRaw_keeps {s0 s : State} (h : Keeps s0 s) : ∀ x1 x2, Keeps s0 (State.ethSendRaw s x1 x2) := by
  intro x1 x2
  unfold State.ethSendRaw
  repeat' first
    | with_reducible assumption
    | with_reducible apply State.count64_keeps
    | with_reducible apply State.bump_keeps
    | with_reducible apply Keeps.ite
    | with_reducible apply Keeps.foldl
    | intro _ _ _
    | intro _ _
    | split
    | (dsimp only)
    | ((with_reducible refine Keeps.upd ?_ ?_); rotate_left; focus (first | exact ⟨rfl, rfl, rfl, rfl, rfl, rfl, rfl, rfl, rfl, rfl, rfl, rfl, rfl⟩ | (simp +zetaDelta [modAt]; done)))

theorem State.ethSend_keeps {s0 s : State} (h : Keeps s0 s) : ∀ x1 x2 x3, Keeps s0 (State.ethSend s x1 x2 x3) := by
  intro x1 x2 x3
  unfold State.ethSend
  repeat' first
    | with_reducible assumption
    | with_reducible apply State.takePn_keeps
    | with_reducible apply State.stampAsk_keeps
    | with_reducible apply State.ethSendRaw_keeps
    | with_reducible refine State.takePn_keeps_eq ?_ (by with_reducible assumption)
    | with_reducible apply Keeps.ite
    | with_reducible apply Keeps.foldl
    | intro _ _ _
    | intro _ _
    | split
    | (dsimp only)
    | ((with_reducible refine Keeps.upd ?_ ?_); rotate_left; focus (first | exact ⟨rfl, rfl, rfl, rfl, rfl, rfl, rfl, rfl, rfl, rfl, rfl, rfl, rfl⟩ | (simp +zetaDelta [modAt]; done)))

theorem State.pauseClass_keeps {s0 s : State} (h : Keeps s0 s) : ∀ x1 x2 x3, Keeps s0 (State.pauseClass s x1 x2 x3) := by
  intro x1 x2 x3
  unfold State.pauseClass
  repeat' first
    | with_reducible assumption
    | with_reducible apply State.portMod_keeps
    | with_reducible apply Keeps.ite
    | with_reducible apply Keeps.foldl
    | intro _ _ _
    | intro _ _
    | split
    | (dsimp only)
    | ((with_reducible refine Keeps.upd ?_ ?_); rotate_left; focus (first | exact ⟨rfl, rfl, rfl, rfl, rfl, rfl, rfl, rfl, rfl, rfl, rfl, rfl, rfl⟩ | (simp +zetaDelta [modAt]; done)))

theorem State.pauseFrame_keeps {s0 s : State} (h : Keeps s0 s) : ∀ x1 x2, Keeps s0 (State.pauseFrame s x1 x2) := by
  intro x1 x2
  unfold State.pauseFrame
  repeat' first
    | with_reducible assumption
    | with_reducible apply State.pauseClass_keeps
    | with_reducible apply Keeps.ite
    | with_reducible apply Keeps.foldl
    | intro _ _ _
    | intro _ _
    | split
    | (dsimp only)
    | ((with_reducible refine Keeps.upd ?_ ?_); rotate_left; focus (first | exact ⟨rfl, rfl, rfl, rfl, rfl, rfl, rfl, rfl, rfl, rfl, rfl, rfl, rfl⟩ | (simp +zetaDelta [modAt]; done)))

theorem State.sendPfc_keeps {s0 s : State} (h : Keeps s0 s) : ∀ x1 x2, Keeps s0 (State.sendPfc s x1 x2) := by
  intro x1 x2
  unfold State.sendPfc
  repeat' first
    | with_reducible assumption
    | with_reducible apply State.portMod_keeps
    | with_reducible apply State.bump_keeps
    | with_reducible apply State.ethSendRaw_keeps
    | with_reducible apply Keeps.ite
    | with_reducible apply Keeps.foldl
    | intro _ _ _
    | intro _ _
    | split
    | (dsimp only)
    | ((with_reducible refine Keeps.upd ?_ ?_); rotate_left; focus (first | exact ⟨rfl, rfl, rfl, rfl, rfl, rfl, rfl, rfl, rfl, rfl, rfl, rfl, rfl⟩ | (simp +zetaDelta [modAt]; done)))

theorem State.pfcAbove_keeps {s0 s : State} (h : Keeps s0 s) : ∀ x1, Keeps s0 (State.pfcAbove s x1) := by
  intro x1
  unfold State.pfcAbove
  repeat' first
    | with_reducible assumption
    | with_reducible apply State.sendPfc_keeps
    | with_reducible apply State.portMod_keeps
    | with_reducible apply Keeps.ite
    | with_reducible apply Keeps.foldl
    | intro _ _ _
    | intro _ _
    | split
    | (dsimp only)
    | ((with_reducible refine Keeps.upd ?_ ?_); rotate_left; focus (first | exact ⟨rfl, rfl, rfl, rfl, rfl, rfl, rfl, rfl, rfl, rfl, rfl, rfl, rfl⟩ | (simp +zetaDelta [modAt]; done)))

theorem State.pfcAgain_keeps {s0 s : State} (h : Keeps s0 s) : ∀ x1, Keeps s0 (State.pfcAgain s x1) := by
  intro x1
  unfold State.pfcAgain
  repeat' first
    | with_reducible assumption
    | with_reducible apply State.sendPfc_keeps
    | with_reducible apply Keeps.ite
    | with_reducible apply Keeps.foldl
    | intro _ _ _
    | intro _ _
    | split
    | (dsimp only)
    | ((with_reducible refine Keeps.upd ?_ ?_); rotate_left; focus (first | exact ⟨rfl, rfl, rfl, rfl, rfl, rfl, rfl, rfl, rfl, rfl, rfl, rfl, rfl⟩ | (simp +zetaDelta [modAt]; done)))

theorem State.pfcBelow_keeps {s0 s : State} (h : Keeps s0 s) : ∀ x1, Keeps s0 (State.pfcBelow s x1) := by
  intro x1
  unfold State.pfcBelow
  repeat' first
    | with_reducible assumption
    | with_reducible apply State.sendPfc_keeps
    | with_reducible apply State.portMod_keeps
    | with_reducible apply Keeps.ite
    | with_reducible apply Keeps.foldl
    | intro _ _ _
    | intro _ _
    | split
    | (dsimp only)
    | ((with_reducible refine Keeps.upd ?_ ?_); rotate_left; focus (first | exact ⟨rfl, rfl, rfl, rfl, rfl, rfl, rfl, rfl, rfl, rfl, rfl, rfl, rfl⟩ | (simp +zetaDelta [modAt]; done)))

theorem State.rxCount_keeps {s0 s : State} (h : Keeps s0 s) : ∀ x1 x2 x3, Keeps s0 (State.rxCount s x1 x2 x3) := by
  intro x1 x2 x3
  unfold State.rxCount
  repeat' first
    | with_reducible assumption
    | with_reducible apply State.count64_keeps
    | with_reducible apply State.bump_keeps
    | with_reducible apply Keeps.ite
    | with_reducible apply Keeps.foldl
    | intro _ _ _
    | intro _ _
    | split
    | (dsimp only)
    | ((with_reducible refine Keeps.upd ?_ ?_); rotate_left; focus (first | exact ⟨rfl, rfl, rfl, rfl, rfl, rfl, rfl, rfl, rfl, rfl, rfl, rfl, rfl⟩ | (simp +zetaDelta [modAt]; done)))

theorem State.macsecReceive_keeps {s0 s t : State} {p : Nat} {f g : List Byte} {b : Bool} (h : Keeps s0 s)
    (e : s.macsecReceive p f = .pass g b t) : Keeps s0 t := by
  unfold State.macsecReceive at e
  dsimp only at e
  repeat' (split at e)
  all_goals first
    | exact MsRx.noConfusion e
    | (simp only [MsRx.pass.injEq] at e
       obtain ⟨-, -, rfl⟩ := e
       first | exact h | exact State.setSlot_keeps h _ _ _)

theorem State.ethReceive_keeps {s0 s : State} (h : Keeps s0 s) : ∀ x1 x2 x3, Keeps s0 (State.ethReceive s x1 x2 x3) := by
  intro x1 x2 x3
  unfold State.ethReceive
  refine Keeps.ite h (Keeps.ite (State.bump_keeps h _) (Keeps.ite (State.bump_keeps h _) (Keeps.ite (State.bump_keeps h _) ?_)))
  refine Keeps.ite (State.bump_keeps h _) (Keeps.ite (Keeps.ite ?_ (State.bump_keeps h _)) ?_)
  · exact State.pauseFrame_keeps (State.bump_keeps (State.rxCount_keeps h _ _ _) _) _ _
  · split
    · exact State.bump_keeps h _
    · rename_i hp
      have k := State.macsecReceive_keeps h hp
      refine Keeps.ite (State.bump_keeps k _) ?_
      have k2 := State.rxCount_keeps k x1 (by assumption) x2.length
      refine Keeps.ite (Keeps.upd k2 ⟨rfl, rfl, rfl, rfl, rfl, rfl, rfl, rfl, rfl, rfl, rfl, rfl, rfl⟩) (Keeps.ite (State.bump_keeps k2 _) ?_)
      exact Keeps.upd k2 ⟨rfl, rfl, rfl, rfl, rfl, rfl, rfl, rfl, rfl, rfl, rfl, rfl, rfl⟩

theorem State.linkSet_keeps {s0 s : State} (h : Keeps s0 s) : ∀ x1 x2 x3, Keeps s0 (State.linkSet s x1 x2 x3) := by
  intro x1 x2 x3
  unfold State.linkSet
  repeat' first
    | with_reducible assumption
    | with_reducible apply State.put_keeps
    | with_reducible apply State.portMod_keeps
    | with_reducible apply State.bump_keeps
    | with_reducible apply Keeps.ite
    | with_reducible apply Keeps.foldl
    | intro _ _ _
    | intro _ _
    | split
    | (dsimp only)
    | ((with_reducible refine Keeps.upd ?_ ?_); rotate_left; focus (first | exact ⟨rfl, rfl, rfl, rfl, rfl, rfl, rfl, rfl, rfl, rfl, rfl, rfl, rfl⟩ | (simp +zetaDelta [modAt]; done)))

theorem State.ethCtrl_keeps {s0 s : State} (h : Keeps s0 s) : ∀ x1 x2, Keeps s0 (State.ethCtrl s x1 x2) := by
  intro x1 x2
  unfold State.ethCtrl
  repeat' first
    | with_reducible assumption
    | with_reducible apply Keeps.wr
    | with_reducible apply State.put_keeps
    | with_reducible apply State.portMod_keeps
    | with_reducible apply Keeps.ite
    | with_reducible apply Keeps.foldl
    | intro _ _ _
    | intro _ _
    | split
    | (dsimp only)
    | ((with_reducible refine Keeps.upd ?_ ?_); rotate_left; focus (first | exact ⟨rfl, rfl, rfl, rfl, rfl, rfl, rfl, rfl, rfl, rfl, rfl, rfl, rfl⟩ | (simp +zetaDelta [modAt]; done)))

theorem State.ringMod_keeps {s0 s : State} (h : Keeps s0 s) : ∀ x1 x2, Keeps s0 (State.ringMod s x1 x2) := by
  intro x1 x2
  unfold State.ringMod
  repeat' first
    | with_reducible assumption
    | with_reducible apply Keeps.ite
    | with_reducible apply Keeps.foldl
    | intro _ _ _
    | intro _ _
    | split
    | (dsimp only)
    | ((with_reducible refine Keeps.upd ?_ ?_); rotate_left; focus (first | exact ⟨rfl, rfl, rfl, rfl, rfl, rfl, rfl, rfl, rfl, rfl, rfl, rfl, rfl⟩ | (simp +zetaDelta [modAt]; done)))

theorem State.ringStop_keeps {s0 s : State} (h : Keeps s0 s) : ∀ x1, Keeps s0 (State.ringStop s x1) := by
  intro x1
  unfold State.ringStop
  repeat' first
    | with_reducible assumption
    | with_reducible apply State.put_keeps
    | with_reducible apply State.ringMod_keeps
    | with_reducible apply Keeps.ite
    | with_reducible apply Keeps.foldl
    | intro _ _ _
    | intro _ _
    | split
    | (dsimp only)
    | ((with_reducible refine Keeps.upd ?_ ?_); rotate_left; focus (first | exact ⟨rfl, rfl, rfl, rfl, rfl, rfl, rfl, rfl, rfl, rfl, rfl, rfl, rfl⟩ | (simp +zetaDelta [modAt]; done)))

theorem State.ringSettle_keeps {s0 s : State} (h : Keeps s0 s) : ∀ x1, Keeps s0 (State.ringSettle s x1) := by
  intro x1
  unfold State.ringSettle
  repeat' first
    | with_reducible assumption
    | with_reducible apply State.put_keeps
    | with_reducible apply State.ringMod_keeps
    | with_reducible apply Keeps.ite
    | with_reducible apply Keeps.foldl
    | intro _ _ _
    | intro _ _
    | split
    | (dsimp only)
    | ((with_reducible refine Keeps.upd ?_ ?_); rotate_left; focus (first | exact ⟨rfl, rfl, rfl, rfl, rfl, rfl, rfl, rfl, rfl, rfl, rfl, rfl, rfl⟩ | (simp +zetaDelta [modAt]; done)))

theorem State.ringCtrlWrite_keeps {s0 s : State} (h : Keeps s0 s) : ∀ x1 x2, Keeps s0 (State.ringCtrlWrite s x1 x2) := by
  intro x1 x2
  unfold State.ringCtrlWrite
  repeat' first
    | with_reducible assumption
    | with_reducible apply State.bump_keeps
    | with_reducible apply State.put_keeps
    | with_reducible apply State.ringMod_keeps
    | with_reducible apply Keeps.wr
    | with_reducible apply State.ringStop_keeps
    | with_reducible apply Keeps.ite
    | with_reducible apply Keeps.foldl
    | intro _ _ _
    | intro _ _
    | split
    | (dsimp only)
    | ((with_reducible refine Keeps.upd ?_ ?_); rotate_left; focus (first | exact ⟨rfl, rfl, rfl, rfl, rfl, rfl, rfl, rfl, rfl, rfl, rfl, rfl, rfl⟩ | (simp +zetaDelta [modAt]; done)))

theorem State.ringBaseWrite_keeps {s0 s : State} (h : Keeps s0 s) : ∀ x1 x2, Keeps s0 (State.ringBaseWrite s x1 x2) := by
  intro x1 x2
  unfold State.ringBaseWrite
  repeat' first
    | with_reducible assumption
    | with_reducible apply State.bump_keeps
    | with_reducible apply Keeps.wr
    | with_reducible apply Keeps.ite
    | with_reducible apply Keeps.foldl
    | intro _ _ _
    | intro _ _
    | split
    | (dsimp only)
    | ((with_reducible refine Keeps.upd ?_ ?_); rotate_left; focus (first | exact ⟨rfl, rfl, rfl, rfl, rfl, rfl, rfl, rfl, rfl, rfl, rfl, rfl, rfl⟩ | (simp +zetaDelta [modAt]; done)))

theorem State.ringTailWrite_keeps {s0 s : State} (h : Keeps s0 s) : ∀ x1 x2, Keeps s0 (State.ringTailWrite s x1 x2) := by
  intro x1 x2
  unfold State.ringTailWrite
  repeat' first
    | with_reducible assumption
    | with_reducible apply State.bump_keeps
    | with_reducible apply State.put_keeps
    | with_reducible apply Keeps.ite
    | with_reducible apply Keeps.foldl
    | intro _ _ _
    | intro _ _
    | split
    | (dsimp only)
    | ((with_reducible refine Keeps.upd ?_ ?_); rotate_left; focus (first | exact ⟨rfl, rfl, rfl, rfl, rfl, rfl, rfl, rfl, rfl, rfl, rfl, rfl, rfl⟩ | (simp +zetaDelta [modAt]; done)))

theorem State.vecCount_keeps {s0 s : State} (h : Keeps s0 s) : ∀ x1, Keeps s0 (State.vecCount s x1) := by
  intro x1
  unfold State.vecCount
  repeat' first
    | with_reducible assumption
    | with_reducible apply Keeps.ite
    | with_reducible apply Keeps.foldl
    | intro _ _ _
    | intro _ _
    | split
    | (dsimp only)
    | ((with_reducible refine Keeps.upd ?_ ?_); rotate_left; focus (first | exact ⟨rfl, rfl, rfl, rfl, rfl, rfl, rfl, rfl, rfl, rfl, rfl, rfl, rfl⟩ | (simp +zetaDelta [modAt]; done)))

theorem State.writeback_keeps {s0 s : State} (h : Keeps s0 s) : ∀ x1 x2, Keeps s0 (State.writeback s x1 x2) := by
  intro x1 x2
  unfold State.writeback
  repeat' first
    | with_reducible assumption
    | with_reducible apply State.vecCount_keeps
    | with_reducible apply State.put_keeps
    | with_reducible apply Keeps.ite
    | with_reducible apply Keeps.foldl
    | intro _ _ _
    | intro _ _
    | split
    | (dsimp only)
    | ((with_reducible refine Keeps.upd ?_ ?_); rotate_left; focus (first | exact ⟨rfl, rfl, rfl, rfl, rfl, rfl, rfl, rfl, rfl, rfl, rfl, rfl, rfl⟩ | (simp +zetaDelta [modAt]; done)))

theorem State.txAccept_keeps {s0 s : State} (h : Keeps s0 s) : ∀ x1 x2 x3 x4, Keeps s0 (State.txAccept s x1 x2 x3 x4) := by
  intro x1 x2 x3 x4
  unfold State.txAccept
  repeat' first
    | with_reducible assumption
    | with_reducible apply State.freeW_keeps
    | with_reducible apply State.bump_keeps
    | with_reducible refine State.freeW_keeps_eq ?_ (by with_reducible assumption)
    | with_reducible apply Keeps.ite
    | with_reducible apply Keeps.foldl
    | intro _ _ _
    | intro _ _
    | split
    | (dsimp only)
    | ((with_reducible refine Keeps.upd ?_ ?_); rotate_left; focus (first | exact ⟨rfl, rfl, rfl, rfl, rfl, rfl, rfl, rfl, rfl, rfl, rfl, rfl, rfl⟩ | (simp +zetaDelta [modAt]; done)))

theorem State.txTake_keeps {s0 s : State} (h : Keeps s0 s) : ∀ x1 x2 x3, Keeps s0 (State.txTake s x1 x2 x3) := by
  intro x1 x2 x3
  unfold State.txTake
  repeat' first
    | with_reducible assumption
    | with_reducible apply State.txAccept_keeps
    | with_reducible apply State.writeback_keeps
    | with_reducible apply Keeps.ite
    | with_reducible apply Keeps.foldl
    | intro _ _ _
    | intro _ _
    | split
    | (dsimp only)
    | ((with_reducible refine Keeps.upd ?_ ?_); rotate_left; focus (first | exact ⟨rfl, rfl, rfl, rfl, rfl, rfl, rfl, rfl, rfl, rfl, rfl, rfl, rfl⟩ | (simp +zetaDelta [modAt]; done)))

theorem State.rxFill_keeps {s0 s : State} (h : Keeps s0 s) : ∀ x1 x2 x3 x4, Keeps s0 (State.rxFill s x1 x2 x3 x4).2 := by
  intro x1 x2 x3 x4
  induction x4 generalizing s x3 with
  | nil => exact h
  | cons d ds ih =>
    unfold State.rxFill
    extract_lets addr room part t fin words u
    have ht : Keeps s0 t := by exact Keeps.upd h ⟨rfl, rfl, rfl, rfl, rfl, rfl, rfl, rfl, rfl, rfl, rfl, rfl, rfl⟩
    have hu : Keeps s0 u := State.writeback_keeps ht _ _
    split
    · exact h
    · split
      · exact hu
      · exact ih hu _

theorem State.rxFill_keeps_eq {s0 s t : State} {x1 x2 x3 x4 a} (h : Keeps s0 s) (e : State.rxFill s x1 x2 x3 x4 = (a, t)) : Keeps s0 t := by
  have := State.rxFill_keeps h x1 x2 x3 x4
  rw [e] at this
  exact this

theorem State.rxWrite_keeps {s0 s : State} (h : Keeps s0 s) : ∀ x1 x2, Keeps s0 (State.rxWrite s x1 x2) := by
  intro x1 x2
  unfold State.rxWrite
  repeat' first
    | with_reducible assumption
    | with_reducible apply State.rxFill_keeps
    | with_reducible apply State.ringSettle_keeps
    | with_reducible refine State.rxFill_keeps_eq ?_ (by with_reducible assumption)
    | with_reducible apply Keeps.ite
    | with_reducible apply Keeps.foldl
    | intro _ _ _
    | intro _ _
    | split
    | (dsimp only)
    | ((with_reducible refine Keeps.upd ?_ ?_); rotate_left; focus (first | exact ⟨rfl, rfl, rfl, rfl, rfl, rfl, rfl, rfl, rfl, rfl, rfl, rfl, rfl⟩ | (simp +zetaDelta [modAt]; done)))

theorem State.ringError_keeps {s0 s : State} (h : Keeps s0 s) : ∀ x1, Keeps s0 (State.ringError s x1) := by
  intro x1
  unfold State.ringError
  repeat' first
    | with_reducible assumption
    | with_reducible apply State.ringStop_keeps
    | with_reducible apply State.raise_keeps
    | with_reducible apply Keeps.ite
    | with_reducible apply Keeps.foldl
    | intro _ _ _
    | intro _ _
    | split
    | (dsimp only)
    | ((with_reducible refine Keeps.upd ?_ ?_); rotate_left; focus (first | exact ⟨rfl, rfl, rfl, rfl, rfl, rfl, rfl, rfl, rfl, rfl, rfl, rfl, rfl⟩ | (simp +zetaDelta [modAt]; done)))

theorem State.eventWrite_keeps {s0 s : State} (h : Keeps s0 s) : Keeps s0 (State.eventWrite s) := by
  unfold State.eventWrite
  repeat' first
    | with_reducible assumption
    | with_reducible apply State.writeback_keeps
    | with_reducible apply Keeps.ite
    | with_reducible apply Keeps.foldl
    | intro _ _ _
    | intro _ _
    | split
    | (dsimp only)
    | ((with_reducible refine Keeps.upd ?_ ?_); rotate_left; focus (first | exact ⟨rfl, rfl, rfl, rfl, rfl, rfl, rfl, rfl, rfl, rfl, rfl, rfl, rfl⟩ | (simp +zetaDelta [modAt]; done)))

theorem State.vecFire_keeps {s0 s : State} (h : Keeps s0 s) : ∀ x1, Keeps s0 (State.vecFire s x1) := by
  intro x1
  unfold State.vecFire
  repeat' first
    | with_reducible assumption
    | with_reducible apply Keeps.wr
    | with_reducible apply Keeps.ite
    | with_reducible apply Keeps.foldl
    | intro _ _ _
    | intro _ _
    | split
    | (dsimp only)
    | ((with_reducible refine Keeps.upd ?_ ?_); rotate_left; focus (first | exact ⟨rfl, rfl, rfl, rfl, rfl, rfl, rfl, rfl, rfl, rfl, rfl, rfl, rfl⟩ | (simp +zetaDelta [modAt]; done)))

theorem State.vecUnmask_keeps {s0 s : State} (h : Keeps s0 s) : ∀ x1, Keeps s0 (State.vecUnmask s x1) := by
  intro x1
  unfold State.vecUnmask
  repeat' first
    | with_reducible assumption
    | with_reducible apply Keeps.wr
    | with_reducible apply Keeps.ite
    | with_reducible apply Keeps.foldl
    | intro _ _ _
    | intro _ _
    | split
    | (dsimp only)
    | ((with_reducible refine Keeps.upd ?_ ?_); rotate_left; focus (first | exact ⟨rfl, rfl, rfl, rfl, rfl, rfl, rfl, rfl, rfl, rfl, rfl, rfl, rfl⟩ | (simp +zetaDelta [modAt]; done)))

theorem State.vecSignal_keeps {s0 s : State} (h : Keeps s0 s) : ∀ x1, Keeps s0 (State.vecSignal s x1) := by
  intro x1
  unfold State.vecSignal
  repeat' first
    | with_reducible assumption
    | with_reducible apply State.vecFire_keeps
    | with_reducible apply Keeps.ite
    | with_reducible apply Keeps.foldl
    | intro _ _ _
    | intro _ _
    | split
    | (dsimp only)
    | ((with_reducible refine Keeps.upd ?_ ?_); rotate_left; focus (first | exact ⟨rfl, rfl, rfl, rfl, rfl, rfl, rfl, rfl, rfl, rfl, rfl, rfl, rfl⟩ | (simp +zetaDelta [modAt]; done)))

theorem State.sealDmaError_keeps {s0 s : State} (h : Keeps s0 s) : Keeps s0 (State.sealDmaError s) := by
  unfold State.sealDmaError
  repeat' first
    | with_reducible assumption
    | with_reducible apply State.sealEnd_keeps
    | with_reducible apply Keeps.ite
    | with_reducible apply Keeps.foldl
    | intro _ _ _
    | intro _ _
    | split
    | (dsimp only)
    | ((with_reducible refine Keeps.upd ?_ ?_); rotate_left; focus (first | exact ⟨rfl, rfl, rfl, rfl, rfl, rfl, rfl, rfl, rfl, rfl, rfl, rfl, rfl⟩ | (simp +zetaDelta [modAt]; done)))

theorem State.pcieReset_keeps {s0 s : State} (h : Keeps s0 s) : ∀ x1, Keeps s0 (State.pcieReset s x1) := by
  intro x1
  unfold State.pcieReset
  refine State.sealDmaError_keeps (Keeps.foldl ?_ _ fun t x ht => State.setQue_keeps ht _ _)
  exact Keeps.upd (h.filter _) ⟨rfl, rfl, rfl, rfl, rfl, rfl, rfl, rfl, rfl, rfl, rfl, rfl, rfl⟩

theorem State.sealTouch_keeps {s0 s : State} (h : Keeps s0 s) : Keeps s0 (State.sealTouch s) := by
  unfold State.sealTouch
  repeat' first
    | with_reducible assumption
    | with_reducible apply Keeps.ite
    | with_reducible apply Keeps.foldl
    | intro _ _ _
    | intro _ _
    | split
    | (dsimp only)
    | ((with_reducible refine Keeps.upd ?_ ?_); rotate_left; focus (first | exact ⟨rfl, rfl, rfl, rfl, rfl, rfl, rfl, rfl, rfl, rfl, rfl, rfl, rfl⟩ | (simp +zetaDelta [modAt]; done)))

theorem State.sealLockWrite_keeps {s0 s : State} (h : Keeps s0 s) : ∀ x1, Keeps s0 (State.sealLockWrite s x1) := by
  intro x1
  unfold State.sealLockWrite
  repeat' first
    | with_reducible assumption
    | with_reducible apply State.sealTouch_keeps
    | with_reducible apply State.put_keeps
    | with_reducible apply State.sealFree_keeps
    | with_reducible apply Keeps.ite
    | with_reducible apply Keeps.foldl
    | intro _ _ _
    | intro _ _
    | split
    | (dsimp only)
    | ((with_reducible refine Keeps.upd ?_ ?_); rotate_left; focus (first | exact ⟨rfl, rfl, rfl, rfl, rfl, rfl, rfl, rfl, rfl, rfl, rfl, rfl, rfl⟩ | (simp +zetaDelta [modAt]; done)))

theorem State.sealLease_keeps {s0 s : State} (h : Keeps s0 s) : Keeps s0 (State.sealLease s) := by
  unfold State.sealLease
  repeat' first
    | with_reducible assumption
    | with_reducible apply State.sealFree_keeps
    | with_reducible apply Keeps.ite
    | with_reducible apply Keeps.foldl
    | intro _ _ _
    | intro _ _
    | split
    | (dsimp only)
    | ((with_reducible refine Keeps.upd ?_ ?_); rotate_left; focus (first | exact ⟨rfl, rfl, rfl, rfl, rfl, rfl, rfl, rfl, rfl, rfl, rfl, rfl, rfl⟩ | (simp +zetaDelta [modAt]; done)))

theorem State.sealCmdWrite_keeps {s0 s : State} (h : Keeps s0 s) : ∀ x1, Keeps s0 (State.sealCmdWrite s x1) := by
  intro x1
  unfold State.sealCmdWrite
  repeat' first
    | with_reducible assumption
    | with_reducible apply State.sealTouch_keeps
    | with_reducible apply State.bump_keeps
    | with_reducible apply State.put_keeps
    | with_reducible apply Keeps.ite
    | with_reducible apply Keeps.foldl
    | intro _ _ _
    | intro _ _
    | split
    | (dsimp only)
    | ((with_reducible refine Keeps.upd ?_ ?_); rotate_left; focus (first | exact ⟨rfl, rfl, rfl, rfl, rfl, rfl, rfl, rfl, rfl, rfl, rfl, rfl, rfl⟩ | (simp +zetaDelta [modAt]; done)))

theorem State.tagWrite_keeps {s0 s : State} (h : Keeps s0 s) : ∀ x1, Keeps s0 (State.tagWrite s x1) := by
  intro x1
  unfold State.tagWrite
  repeat' first
    | with_reducible assumption
    | with_reducible apply Keeps.wr
    | with_reducible apply Keeps.ite
    | with_reducible apply Keeps.foldl
    | intro _ _ _
    | intro _ _
    | split
    | (dsimp only)
    | ((with_reducible refine Keeps.upd ?_ ?_); rotate_left; focus (first | exact ⟨rfl, rfl, rfl, rfl, rfl, rfl, rfl, rfl, rfl, rfl, rfl, rfl, rfl⟩ | (simp +zetaDelta [modAt]; done)))

theorem State.sealDone_keeps {s0 s : State} (h : Keeps s0 s) : ∀ x1, Keeps s0 (State.sealDone s x1) := by
  intro x1
  unfold State.sealDone
  repeat' first
    | with_reducible assumption
    | with_reducible apply State.sealEnd_keeps
    | with_reducible apply State.bump_keeps
    | with_reducible apply State.tagWrite_keeps
    | with_reducible apply Keeps.ite
    | with_reducible apply Keeps.foldl
    | intro _ _ _
    | intro _ _
    | split
    | (dsimp only)
    | ((with_reducible refine Keeps.upd ?_ ?_); rotate_left; focus (first | exact ⟨rfl, rfl, rfl, rfl, rfl, rfl, rfl, rfl, rfl, rfl, rfl, rfl, rfl⟩ | (simp +zetaDelta [modAt]; done)))

theorem State.custSlotPut_keeps {s0 s : State} (h : Keeps s0 s) : ∀ x1 x2, Keeps s0 (State.custSlotPut s x1 x2) := by
  intro x1 x2
  unfold State.custSlotPut
  repeat' first
    | with_reducible assumption
    | with_reducible apply Keeps.wr
    | with_reducible apply Keeps.ite
    | with_reducible apply Keeps.foldl
    | intro _ _ _
    | intro _ _
    | split
    | (dsimp only)
    | ((with_reducible refine Keeps.upd ?_ ?_); rotate_left; focus (first | exact ⟨rfl, rfl, rfl, rfl, rfl, rfl, rfl, rfl, rfl, rfl, rfl, rfl, rfl⟩ | (simp +zetaDelta [modAt]; done)))

theorem State.keyFuseWrite_keeps {s0 s : State} (h : Keeps s0 s) : ∀ x1, Keeps s0 (State.keyFuseWrite s x1) := by
  intro x1
  unfold State.keyFuseWrite
  repeat' first
    | with_reducible assumption
    | with_reducible apply State.bump_keeps
    | with_reducible apply State.raise_keeps
    | with_reducible apply State.put_keeps
    | with_reducible apply Keeps.ite
    | with_reducible apply Keeps.foldl
    | intro _ _ _
    | intro _ _
    | split
    | (dsimp only)
    | ((with_reducible refine Keeps.upd ?_ ?_); rotate_left; focus (first | exact ⟨rfl, rfl, rfl, rfl, rfl, rfl, rfl, rfl, rfl, rfl, rfl, rfl, rfl⟩ | (simp +zetaDelta [modAt]; done)))

theorem State.keyFuseDone_keeps {s0 s : State} (h : Keeps s0 s) : Keeps s0 (State.keyFuseDone s) := by
  unfold State.keyFuseDone
  repeat' first
    | with_reducible assumption
    | with_reducible apply Keeps.wr
    | with_reducible apply State.custSlotPut_keeps
    | with_reducible apply State.put_keeps
    | with_reducible apply State.raise_keeps
    | with_reducible apply Keeps.ite
    | with_reducible apply Keeps.foldl
    | intro _ _ _
    | intro _ _
    | split
    | (dsimp only)
    | ((with_reducible refine Keeps.upd ?_ ?_); rotate_left; focus (first | exact ⟨rfl, rfl, rfl, rfl, rfl, rfl, rfl, rfl, rfl, rfl, rfl, rfl, rfl⟩ | (simp +zetaDelta [modAt]; done)))

theorem State.attWrite_keeps {s0 s : State} (h : Keeps s0 s) : ∀ x1, Keeps s0 (State.attWrite s x1) := by
  intro x1
  unfold State.attWrite
  repeat' first
    | with_reducible assumption
    | with_reducible apply State.bump_keeps
    | with_reducible apply State.put_keeps
    | with_reducible apply Keeps.ite
    | with_reducible apply Keeps.foldl
    | intro _ _ _
    | intro _ _
    | split
    | (dsimp only)
    | ((with_reducible refine Keeps.upd ?_ ?_); rotate_left; focus (first | exact ⟨rfl, rfl, rfl, rfl, rfl, rfl, rfl, rfl, rfl, rfl, rfl, rfl, rfl⟩ | (simp +zetaDelta [modAt]; done)))

theorem State.nonceWrite_keeps {s0 s : State} (h : Keeps s0 s) : ∀ x1 x2, Keeps s0 (State.nonceWrite s x1 x2) := by
  intro x1 x2
  unfold State.nonceWrite
  repeat' first
    | with_reducible assumption
    | with_reducible apply Keeps.wr
    | with_reducible apply Keeps.ite
    | with_reducible apply Keeps.foldl
    | intro _ _ _
    | intro _ _
    | split
    | (dsimp only)
    | ((with_reducible refine Keeps.upd ?_ ?_); rotate_left; focus (first | exact ⟨rfl, rfl, rfl, rfl, rfl, rfl, rfl, rfl, rfl, rfl, rfl, rfl, rfl⟩ | (simp +zetaDelta [modAt]; done)))

theorem State.attDone_keeps {s0 s : State} (h : Keeps s0 s) : Keeps s0 (State.attDone s) := by
  unfold State.attDone
  repeat' first
    | with_reducible assumption
    | with_reducible apply Keeps.wr
    | with_reducible apply State.raise_keeps
    | with_reducible apply State.put_keeps
    | with_reducible apply Keeps.ite
    | with_reducible apply Keeps.foldl
    | intro _ _ _
    | intro _ _
    | split
    | (dsimp only)
    | ((with_reducible refine Keeps.upd ?_ ?_); rotate_left; focus (first | exact ⟨rfl, rfl, rfl, rfl, rfl, rfl, rfl, rfl, rfl, rfl, rfl, rfl, rfl⟩ | (simp +zetaDelta [modAt]; done)))

theorem State.chkTick_keeps {s0 s : State} (h : Keeps s0 s) : ∀ x1, Keeps s0 (State.chkTick s x1) := by
  intro x1
  unfold State.chkTick
  repeat' first
    | with_reducible assumption
    | with_reducible apply Keeps.ite
    | with_reducible apply Keeps.foldl
    | intro _ _ _
    | intro _ _
    | split
    | (dsimp only)
    | ((with_reducible refine Keeps.upd ?_ ?_); rotate_left; focus (first | exact ⟨rfl, rfl, rfl, rfl, rfl, rfl, rfl, rfl, rfl, rfl, rfl, rfl, rfl⟩ | (simp +zetaDelta [modAt]; done)))

theorem State.chkMod_keeps {s0 s : State} (h : Keeps s0 s) : ∀ x1 x2, Keeps s0 (State.chkMod s x1 x2) := by
  intro x1 x2
  unfold State.chkMod
  repeat' first
    | with_reducible assumption
    | with_reducible apply Keeps.ite
    | with_reducible apply Keeps.foldl
    | intro _ _ _
    | intro _ _
    | split
    | (dsimp only)
    | ((with_reducible refine Keeps.upd ?_ ?_); rotate_left; focus (first | exact ⟨rfl, rfl, rfl, rfl, rfl, rfl, rfl, rfl, rfl, rfl, rfl, rfl, rfl⟩ | (simp +zetaDelta [modAt]; done)))

theorem State.chkWrite_keeps {s0 s : State} (h : Keeps s0 s) {x3 : State → State} (h3 : ∀ t, Keeps s0 t → Keeps s0 (x3 t)) : ∀ x1 x2, Keeps s0 (State.chkWrite s x1 x2 x3) := by
  intro x1 x2
  unfold State.chkWrite
  repeat' first
    | with_reducible assumption
    | with_reducible apply State.bump_keeps
    | with_reducible apply State.chkMod_keeps
    | with_reducible apply h3
    | with_reducible apply Keeps.ite
    | with_reducible apply Keeps.foldl
    | intro _ _ _
    | intro _ _
    | split
    | (dsimp only)
    | ((with_reducible refine Keeps.upd ?_ ?_); rotate_left; focus (first | exact ⟨rfl, rfl, rfl, rfl, rfl, rfl, rfl, rfl, rfl, rfl, rfl, rfl, rfl⟩ | (simp +zetaDelta [modAt]; done)))

theorem State.chkRegWrite_keeps {s0 s : State} (h : Keeps s0 s) : ∀ x1 x2 x3, Keeps s0 (State.chkRegWrite s x1 x2 x3) := by
  intro x1 x2 x3
  unfold State.chkRegWrite
  split
  all_goals first
    | exact State.chkWrite_keeps h (fun t ht => ht.wr _ _) _ _
    | exact State.chkWrite_keeps h (fun t ht => ht) _ _
    | exact Keeps.ite (State.bump_keeps h _) h

theorem State.chkRead_keeps {s0 s : State} (h : Keeps s0 s) : ∀ x1 x2, Keeps s0 (State.chkRead s x1 x2).2 := by
  intro x1 x2
  unfold State.chkRead
  repeat' first
    | with_reducible assumption
    | with_reducible apply State.chkMod_keeps
    | with_reducible apply Keeps.ite
    | with_reducible apply Keeps.foldl
    | intro _ _ _
    | intro _ _
    | split
    | (dsimp only)
    | ((with_reducible refine Keeps.upd ?_ ?_); rotate_left; focus (first | exact ⟨rfl, rfl, rfl, rfl, rfl, rfl, rfl, rfl, rfl, rfl, rfl, rfl, rfl⟩ | (simp +zetaDelta [modAt]; done)))

theorem State.chkRead_keeps_eq {s0 s : State} (h : Keeps s0 s) {x1 x2 t a0} (e : (State.chkRead s x1 x2) = (a0, t)) : Keeps s0 t := by
  have := State.chkRead_keeps h x1 x2
  rw [e] at this
  exact this

theorem State.chkRejoin_keeps {s0 s : State} (h : Keeps s0 s) : Keeps s0 (State.chkRejoin s) := by
  refine ⟨h.pending, fun k => kvWf_filter resetWord _ _ (h.regs k), h.dram, fun k => ?_⟩
  have := h.shape k
  simp only [State.shapeOk, State.chkRejoin, List.length_replicate, Bool.and_eq_true, beq_self_eq_true, and_true] at this ⊢
  simp_all

end Sys2Proof.Machine
end

