-- ==== Sys2Proof/Laws/Keeps6.lean ====
section
/-! SUPPORT. What the operations of Loader, Update, Memory, Start, Power, Faults, TrvOps keep. -/

namespace Sys2Proof.Machine

theorem State.recordWrite'_keeps {s0 s : State} (h : Keeps s0 s) : ∀ x1 x2, Keeps s0 (State.recordWrite' s x1 x2) := by
  intro x1 x2
  unfold State.recordWrite'
  repeat' first
    | with_reducible assumption
    | with_reducible apply Keeps.ite
    | with_reducible apply Keeps.foldl
    | intro _ _ _
    | intro _ _
    | split
    | (dsimp only)
    | ((with_reducible refine Keeps.upd ?_ ?_); rotate_left; focus (first | exact ⟨rfl, rfl, rfl, rfl, rfl, rfl, rfl, rfl, rfl, rfl, rfl, rfl, rfl⟩ | (simp +zetaDelta [modAt]; done)))

theorem State.recordNow_keeps {s0 s : State} (h : Keeps s0 s) : Keeps s0 (State.recordNow s) := by
  unfold State.recordNow
  repeat' first
    | with_reducible assumption
    | with_reducible apply State.recordWrite'_keeps
    | with_reducible apply Keeps.ite
    | with_reducible apply Keeps.foldl
    | intro _ _ _
    | intro _ _
    | split
    | (dsimp only)
    | ((with_reducible refine Keeps.upd ?_ ?_); rotate_left; focus (first | exact ⟨rfl, rfl, rfl, rfl, rfl, rfl, rfl, rfl, rfl, rfl, rfl, rfl, rfl⟩ | (simp +zetaDelta [modAt]; done)))

theorem State.recordRead_keeps {s0 s : State} (h : Keeps s0 s) : Keeps s0 (State.recordRead s) := by
  unfold State.recordRead
  repeat' first
    | with_reducible assumption
    | with_reducible apply Keeps.wr
    | with_reducible apply Keeps.ite
    | with_reducible apply Keeps.foldl
    | intro _ _ _
    | intro _ _
    | split
    | (dsimp only)
    | ((with_reducible refine Keeps.upd ?_ ?_); rotate_left; focus (first | exact ⟨rfl, rfl, rfl, rfl, rfl, rfl, rfl, rfl, rfl, rfl, rfl, rfl, rfl⟩ | (simp +zetaDelta [modAt]; done)))

theorem State.funcsFromLegend_keeps {s0 s : State} (h : Keeps s0 s) : Keeps s0 (State.funcsFromLegend s) := by
  unfold State.funcsFromLegend
  repeat' first
    | with_reducible assumption
    | with_reducible apply Keeps.wr
    | with_reducible apply Keeps.ite
    | with_reducible apply Keeps.foldl
    | intro _ _ _
    | intro _ _
    | split
    | (dsimp only)
    | ((with_reducible refine Keeps.upd ?_ ?_); rotate_left; focus (first | exact ⟨rfl, rfl, rfl, rfl, rfl, rfl, rfl, rfl, rfl, rfl, rfl, rfl, rfl⟩ | (simp +zetaDelta [modAt]; done)))

theorem State.assignSynth_keeps {s0 s : State} (h : Keeps s0 s) : ∀ x1 x2, Keeps s0 (State.assignSynth s x1 x2) := by
  intro x1 x2
  unfold State.assignSynth
  repeat' first
    | with_reducible assumption
    | with_reducible apply State.put_keeps
    | with_reducible apply State.radioStop_keeps
    | with_reducible apply Keeps.ite
    | with_reducible apply Keeps.foldl
    | intro _ _ _
    | intro _ _
    | split
    | (dsimp only)
    | ((with_reducible refine Keeps.upd ?_ ?_); rotate_left; focus (first | exact ⟨rfl, rfl, rfl, rfl, rfl, rfl, rfl, rfl, rfl, rfl, rfl, rfl, rfl⟩ | (simp +zetaDelta [modAt]; done)))

theorem State.place_keeps {s0 s : State} (h : Keeps s0 s) : ∀ x1 x2 x3 x4, Keeps s0 (State.place s x1 x2 x3 x4) := by
  intro x1 x2 x3 x4
  unfold State.place
  repeat' first
    | with_reducible assumption
    | with_reducible apply State.showPlate_keeps
    | with_reducible apply State.put_keeps
    | with_reducible apply State.setEngine_keeps
    | with_reducible apply State.assignSynth_keeps
    | with_reducible apply State.synthLock_keeps
    | with_reducible apply State.setRoutes_keeps
    | with_reducible apply State.funcsFromLegend_keeps
    | with_reducible apply Keeps.ite
    | with_reducible apply Keeps.foldl
    | intro _ _ _
    | intro _ _
    | split
    | (dsimp only)
    | ((with_reducible refine Keeps.upd ?_ ?_); rotate_left; focus (first | exact ⟨rfl, rfl, rfl, rfl, rfl, rfl, rfl, rfl, rfl, rfl, rfl, rfl, rfl⟩ | (simp +zetaDelta [modAt]; done)))

theorem State.unassign_keeps {s0 s : State} (h : Keeps s0 s) : Keeps s0 (State.unassign s) := by
  unfold State.unassign
  repeat' first
    | with_reducible assumption
    | with_reducible apply State.radMod_keeps
    | with_reducible apply State.radioRestart_keeps
    | with_reducible apply State.put_keeps
    | with_reducible apply Keeps.wr
    | with_reducible apply Keeps.ite
    | with_reducible apply Keeps.foldl
    | intro _ _ _
    | intro _ _
    | split
    | (dsimp only)
    | ((with_reducible refine Keeps.upd ?_ ?_); rotate_left; focus (first | exact ⟨rfl, rfl, rfl, rfl, rfl, rfl, rfl, rfl, rfl, rfl, rfl, rfl, rfl⟩ | (simp +zetaDelta [modAt]; done)))

theorem State.unplace_keeps {s0 s : State} (h : Keeps s0 s) : Keeps s0 (State.unplace s) := by
  unfold State.unplace
  repeat' first
    | with_reducible assumption
    | with_reducible apply State.setEngine_keeps
    | with_reducible apply Keeps.wr
    | with_reducible apply State.put_keeps
    | with_reducible apply State.engSync_keeps
    | with_reducible apply State.unassign_keeps
    | with_reducible apply Keeps.ite
    | with_reducible apply Keeps.foldl
    | intro _ _ _
    | intro _ _
    | split
    | (dsimp only)
    | ((with_reducible refine Keeps.upd ?_ ?_); rotate_left; focus (first | exact ⟨rfl, rfl, rfl, rfl, rfl, rfl, rfl, rfl, rfl, rfl, rfl, rfl, rfl⟩ | (simp +zetaDelta [modAt]; done)))

theorem State.plateWait_keeps {s0 s : State} (h : Keeps s0 s) : Keeps s0 (State.plateWait s) := by
  unfold State.plateWait
  repeat' first
    | with_reducible assumption
    | with_reducible apply State.put_keeps
    | with_reducible apply Keeps.ite
    | with_reducible apply Keeps.foldl
    | intro _ _ _
    | intro _ _
    | split
    | (dsimp only)
    | ((with_reducible refine Keeps.upd ?_ ?_); rotate_left; focus (first | exact ⟨rfl, rfl, rfl, rfl, rfl, rfl, rfl, rfl, rfl, rfl, rfl, rfl, rfl⟩ | (simp +zetaDelta [modAt]; done)))

theorem State.pltError_keeps {s0 s : State} (h : Keeps s0 s) : ∀ x1, Keeps s0 (State.pltError s x1) := by
  intro x1
  unfold State.pltError
  repeat' first
    | with_reducible assumption
    | with_reducible apply Keeps.wr
    | with_reducible apply State.put_keeps
    | with_reducible apply Keeps.ite
    | with_reducible apply Keeps.foldl
    | intro _ _ _
    | intro _ _
    | split
    | (dsimp only)
    | ((with_reducible refine Keeps.upd ?_ ?_); rotate_left; focus (first | exact ⟨rfl, rfl, rfl, rfl, rfl, rfl, rfl, rfl, rfl, rfl, rfl, rfl, rfl⟩ | (simp +zetaDelta [modAt]; done)))

theorem State.loadS_keeps {s0 s : State} (h : Keeps s0 s) : Keeps s0 (State.loadS s) := by
  unfold State.loadS
  repeat' first
    | with_reducible assumption
    | with_reducible apply State.put_keeps
    | with_reducible apply State.plateWait_keeps
    | with_reducible apply State.pltError_keeps
    | with_reducible apply Keeps.ite
    | with_reducible apply Keeps.foldl
    | intro _ _ _
    | intro _ _
    | split
    | (dsimp only)
    | ((with_reducible refine Keeps.upd ?_ ?_); rotate_left; focus (first | exact ⟨rfl, rfl, rfl, rfl, rfl, rfl, rfl, rfl, rfl, rfl, rfl, rfl, rfl⟩ | (simp +zetaDelta [modAt]; done)))

theorem State.loadFail_keeps {s0 s : State} (h : Keeps s0 s) : ∀ x1 x2, Keeps s0 (State.loadFail s x1 x2) := by
  intro x1 x2
  unfold State.loadFail
  repeat' first
    | with_reducible assumption
    | with_reducible apply State.unplace_keeps
    | with_reducible apply State.pltError_keeps
    | with_reducible apply State.loadS_keeps
    | with_reducible apply State.put_keeps
    | with_reducible apply State.plateWait_keeps
    | with_reducible apply Keeps.ite
    | with_reducible apply Keeps.foldl
    | intro _ _ _
    | intro _ _
    | split
    | (dsimp only)
    | ((with_reducible refine Keeps.upd ?_ ?_); rotate_left; focus (first | exact ⟨rfl, rfl, rfl, rfl, rfl, rfl, rfl, rfl, rfl, rfl, rfl, rfl, rfl⟩ | (simp +zetaDelta [modAt]; done)))

theorem State.loadStart_keeps {s0 s : State} (h : Keeps s0 s) : ∀ x1, Keeps s0 (State.loadStart s x1) := by
  intro x1
  unfold State.loadStart
  repeat' first
    | with_reducible assumption
    | with_reducible apply State.plateWait_keeps
    | with_reducible apply State.pltError_keeps
    | with_reducible apply State.loadS_keeps
    | with_reducible apply State.put_keeps
    | with_reducible apply State.loadFail_keeps
    | with_reducible apply Keeps.ite
    | with_reducible apply Keeps.foldl
    | intro _ _ _
    | intro _ _
    | split
    | (dsimp only)
    | ((with_reducible refine Keeps.upd ?_ ?_); rotate_left; focus (first | exact ⟨rfl, rfl, rfl, rfl, rfl, rfl, rfl, rfl, rfl, rfl, rfl, rfl, rfl⟩ | (simp +zetaDelta [modAt]; done)))

theorem State.loadFromWait_keeps {s0 s : State} (h : Keeps s0 s) : Keeps s0 (State.loadFromWait s) := by
  unfold State.loadFromWait
  repeat' first
    | with_reducible assumption
    | with_reducible apply State.loadS_keeps
    | with_reducible apply Keeps.ite
    | with_reducible apply Keeps.foldl
    | intro _ _ _
    | intro _ _
    | split
    | (dsimp only)
    | ((with_reducible refine Keeps.upd ?_ ?_); rotate_left; focus (first | exact ⟨rfl, rfl, rfl, rfl, rfl, rfl, rfl, rfl, rfl, rfl, rfl, rfl, rfl⟩ | (simp +zetaDelta [modAt]; done)))

theorem State.plateBlock_keeps {s0 s : State} (h : Keeps s0 s) : ∀ x1, Keeps s0 (State.plateBlock s x1) := by
  intro x1
  unfold State.plateBlock
  repeat' first
    | with_reducible assumption
    | with_reducible apply State.loadFail_keeps
    | with_reducible apply State.put_keeps
    | with_reducible apply Keeps.ite
    | with_reducible apply Keeps.foldl
    | intro _ _ _
    | intro _ _
    | split
    | (dsimp only)
    | ((with_reducible refine Keeps.upd ?_ ?_); rotate_left; focus (first | exact ⟨rfl, rfl, rfl, rfl, rfl, rfl, rfl, rfl, rfl, rfl, rfl, rfl, rfl⟩ | (simp +zetaDelta [modAt]; done)))

theorem State.plateSigned_keeps {s0 s : State} (h : Keeps s0 s) : Keeps s0 (State.plateSigned s) := by
  unfold State.plateSigned
  split
  · exact h
  · refine Keeps.ite h ?_
    dsimp only
    split
    · exact State.loadFail_keeps h _ _
    · refine State.put_keeps ?_ _ _
      exact Keeps.upd (State.place_keeps h _ _ _ _) ⟨rfl, rfl, rfl, rfl, rfl, rfl, rfl, rfl, rfl, rfl, rfl, rfl, rfl⟩

theorem State.dramTrained_keeps {s0 s : State} (h : Keeps s0 s) : ∀ x1, Keeps s0 (State.dramTrained s x1) := by
  intro x1
  unfold State.dramTrained
  split
  · exact h
  · refine Keeps.wr (State.put_keeps (State.put_keeps ?_ _ _) _ _) _ _
    exact ⟨h.pending, h.regs, fun _ => rfl, h.shape⟩

theorem State.wordsWrite_keeps {s0 s : State} (h : Keeps s0 s) : ∀ x1 x2, Keeps s0 (State.wordsWrite s x1 x2) := by
  intro x1 x2
  unfold State.wordsWrite
  repeat' first
    | with_reducible assumption
    | with_reducible apply State.fieldsWrite_keeps
    | with_reducible apply Keeps.ite
    | with_reducible apply Keeps.foldl
    | intro _ _ _
    | intro _ _
    | split
    | (dsimp only)
    | ((with_reducible refine Keeps.upd ?_ ?_); rotate_left; focus (first | exact ⟨rfl, rfl, rfl, rfl, rfl, rfl, rfl, rfl, rfl, rfl, rfl, rfl, rfl⟩ | (simp +zetaDelta [modAt]; done)))

theorem State.seedEntry_keeps {s0 s : State} (h : Keeps s0 s) : ∀ x1 x2 x3, Keeps s0 (State.seedEntry s x1 x2 x3) := by
  intro x1 x2 x3
  unfold State.seedEntry
  repeat' first
    | with_reducible assumption
    | with_reducible apply State.ruleCommitWrite_keeps
    | with_reducible apply State.wordsWrite_keeps
    | with_reducible apply State.rangeWrite_keeps
    | with_reducible apply State.fieldsWrite_keeps
    | with_reducible apply State.addRoute_keeps
    | with_reducible apply State.policerWrite_keeps
    | with_reducible apply Keeps.wr
    | with_reducible apply State.shaperWrite_keeps
    | with_reducible apply State.recordWrite_keeps
    | with_reducible refine State.addRoute_keeps_eq ?_ (by with_reducible assumption)
    | with_reducible apply Keeps.ite
    | with_reducible apply Keeps.foldl
    | intro _ _ _
    | intro _ _
    | split
    | (dsimp only)
    | ((with_reducible refine Keeps.upd ?_ ?_); rotate_left; focus (first | exact ⟨rfl, rfl, rfl, rfl, rfl, rfl, rfl, rfl, rfl, rfl, rfl, rfl, rfl⟩ | (simp +zetaDelta [modAt]; done)))

theorem State.seedRecord_keeps {s0 s : State} (h : Keeps s0 s) : ∀ x1, Keeps s0 (State.seedRecord s x1) := by
  intro x1
  unfold State.seedRecord
  repeat' first
    | with_reducible assumption
    | with_reducible apply State.seedEntry_keeps
    | with_reducible apply Keeps.ite
    | with_reducible apply Keeps.foldl
    | intro _ _ _
    | intro _ _
    | split
    | (dsimp only)
    | ((with_reducible refine Keeps.upd ?_ ?_); rotate_left; focus (first | exact ⟨rfl, rfl, rfl, rfl, rfl, rfl, rfl, rfl, rfl, rfl, rfl, rfl, rfl⟩ | (simp +zetaDelta [modAt]; done)))

theorem State.copyBegin_keeps {s0 s : State} (h : Keeps s0 s) : Keeps s0 (State.copyBegin s) := by
  unfold State.copyBegin
  repeat' first
    | with_reducible assumption
    | with_reducible apply State.recordWrite'_keeps
    | with_reducible apply Keeps.wr
    | with_reducible apply Keeps.ite
    | with_reducible apply Keeps.foldl
    | intro _ _ _
    | intro _ _
    | split
    | (dsimp only)
    | ((with_reducible refine Keeps.upd ?_ ?_); rotate_left; focus (first | exact ⟨rfl, rfl, rfl, rfl, rfl, rfl, rfl, rfl, rfl, rfl, rfl, rfl, rfl⟩ | (simp +zetaDelta [modAt]; done)))

theorem State.enterService_keeps {s0 s : State} (h : Keeps s0 s) : Keeps s0 (State.enterService s) := by
  unfold State.enterService
  repeat' first
    | with_reducible assumption
    | with_reducible apply State.chkRejoin_keeps
    | with_reducible apply State.put_keeps
    | with_reducible apply State.copyBegin_keeps
    | with_reducible apply Keeps.ite
    | with_reducible apply Keeps.foldl
    | intro _ _ _
    | intro _ _
    | split
    | (dsimp only)
    | ((with_reducible refine Keeps.upd ?_ ?_); rotate_left; focus (first | exact ⟨rfl, rfl, rfl, rfl, rfl, rfl, rfl, rfl, rfl, rfl, rfl, rfl, rfl⟩ | (simp +zetaDelta [modAt]; done)))

theorem State.seedApply_keeps {s0 s : State} (h : Keeps s0 s) : Keeps s0 (State.seedApply s) := by
  unfold State.seedApply
  repeat' first
    | with_reducible assumption
    | with_reducible apply State.loadFail_keeps
    | with_reducible apply State.enterService_keeps
    | with_reducible apply State.seedRecord_keeps
    | with_reducible apply Keeps.ite
    | with_reducible apply Keeps.foldl
    | intro _ _ _
    | intro _ _
    | split
    | (dsimp only)
    | ((with_reducible refine Keeps.upd ?_ ?_); rotate_left; focus (first | exact ⟨rfl, rfl, rfl, rfl, rfl, rfl, rfl, rfl, rfl, rfl, rfl, rfl, rfl⟩ | (simp +zetaDelta [modAt]; done)))

theorem State.mbxEnd_keeps {s0 s : State} (h : Keeps s0 s) : ∀ x1 x2 x3, Keeps s0 (State.mbxEnd s x1 x2 x3) := by
  intro x1 x2 x3
  unfold State.mbxEnd
  repeat' first
    | with_reducible assumption
    | with_reducible apply State.put_keeps
    | with_reducible apply State.raise_keeps
    | with_reducible apply Keeps.wr
    | with_reducible apply Keeps.ite
    | with_reducible apply Keeps.foldl
    | intro _ _ _
    | intro _ _
    | split
    | (dsimp only)
    | ((with_reducible refine Keeps.upd ?_ ?_); rotate_left; focus (first | exact ⟨rfl, rfl, rfl, rfl, rfl, rfl, rfl, rfl, rfl, rfl, rfl, rfl, rfl⟩ | (simp +zetaDelta [modAt]; done)))

theorem State.mbxRefuse_keeps {s0 s : State} (h : Keeps s0 s) : Keeps s0 (State.mbxRefuse s) := by
  unfold State.mbxRefuse
  repeat' first
    | with_reducible assumption
    | with_reducible apply State.mbxEnd_keeps
    | with_reducible apply Keeps.ite
    | with_reducible apply Keeps.foldl
    | intro _ _ _
    | intro _ _
    | split
    | (dsimp only)
    | ((with_reducible refine Keeps.upd ?_ ?_); rotate_left; focus (first | exact ⟨rfl, rfl, rfl, rfl, rfl, rfl, rfl, rfl, rfl, rfl, rfl, rfl, rfl⟩ | (simp +zetaDelta [modAt]; done)))

theorem State.flashBegin_keeps {s0 s : State} (h : Keeps s0 s) : ∀ x1, Keeps s0 (State.flashBegin s x1) := by
  intro x1
  unfold State.flashBegin
  repeat' first
    | with_reducible assumption
    | with_reducible apply State.put_keeps
    | with_reducible apply Keeps.ite
    | with_reducible apply Keeps.foldl
    | intro _ _ _
    | intro _ _
    | split
    | (dsimp only)
    | ((with_reducible refine Keeps.upd ?_ ?_); rotate_left; focus (first | exact ⟨rfl, rfl, rfl, rfl, rfl, rfl, rfl, rfl, rfl, rfl, rfl, rfl, rfl⟩ | (simp +zetaDelta [modAt]; done)))

theorem State.mbxOpen_keeps {s0 s : State} (h : Keeps s0 s) : ∀ x1, Keeps s0 (State.mbxOpen s x1) := by
  intro x1
  unfold State.mbxOpen
  repeat' first
    | with_reducible assumption
    | with_reducible apply State.mbxRefuse_keeps
    | with_reducible apply State.mbxEnd_keeps
    | with_reducible apply State.flashBegin_keeps
    | with_reducible apply State.put_keeps
    | with_reducible apply Keeps.wr
    | with_reducible apply Keeps.ite
    | with_reducible apply Keeps.foldl
    | intro _ _ _
    | intro _ _
    | split
    | (dsimp only)
    | ((with_reducible refine Keeps.upd ?_ ?_); rotate_left; focus (first | exact ⟨rfl, rfl, rfl, rfl, rfl, rfl, rfl, rfl, rfl, rfl, rfl, rfl, rfl⟩ | (simp +zetaDelta [modAt]; done)))

theorem State.mbxBlock_keeps {s0 s : State} (h : Keeps s0 s) : ∀ x1, Keeps s0 (State.mbxBlock s x1) := by
  intro x1
  unfold State.mbxBlock
  repeat' first
    | with_reducible assumption
    | with_reducible apply State.mbxRefuse_keeps
    | with_reducible apply State.mbxEnd_keeps
    | with_reducible apply State.flashBegin_keeps
    | with_reducible apply Keeps.ite
    | with_reducible apply Keeps.foldl
    | intro _ _ _
    | intro _ _
    | split
    | (dsimp only)
    | ((with_reducible refine Keeps.upd ?_ ?_); rotate_left; focus (first | exact ⟨rfl, rfl, rfl, rfl, rfl, rfl, rfl, rfl, rfl, rfl, rfl, rfl, rfl⟩ | (simp +zetaDelta [modAt]; done)))

theorem State.mbxProof_keeps {s0 s : State} (h : Keeps s0 s) : Keeps s0 (State.mbxProof s) := by
  unfold State.mbxProof
  repeat' first
    | with_reducible assumption
    | with_reducible apply State.mbxRefuse_keeps
    | with_reducible apply State.mbxEnd_keeps
    | with_reducible apply State.put_keeps
    | with_reducible apply Keeps.ite
    | with_reducible apply Keeps.foldl
    | intro _ _ _
    | intro _ _
    | split
    | (dsimp only)
    | ((with_reducible refine Keeps.upd ?_ ?_); rotate_left; focus (first | exact ⟨rfl, rfl, rfl, rfl, rfl, rfl, rfl, rfl, rfl, rfl, rfl, rfl, rfl⟩ | (simp +zetaDelta [modAt]; done)))

theorem State.mbxRecut_keeps {s0 s : State} (h : Keeps s0 s) : Keeps s0 (State.mbxRecut s) := by
  unfold State.mbxRecut
  repeat' first
    | with_reducible assumption
    | with_reducible apply State.mbxEnd_keeps
    | with_reducible apply State.recutStart_keeps
    | with_reducible apply State.put_keeps
    | with_reducible refine State.recutStart_keeps_eq ?_ (by with_reducible assumption)
    | with_reducible apply Keeps.ite
    | with_reducible apply Keeps.foldl
    | intro _ _ _
    | intro _ _
    | split
    | (dsimp only)
    | ((with_reducible refine Keeps.upd ?_ ?_); rotate_left; focus (first | exact ⟨rfl, rfl, rfl, rfl, rfl, rfl, rfl, rfl, rfl, rfl, rfl, rfl, rfl⟩ | (simp +zetaDelta [modAt]; done)))

theorem State.mbxCancel_keeps {s0 s : State} (h : Keeps s0 s) : Keeps s0 (State.mbxCancel s) := by
  unfold State.mbxCancel
  repeat' first
    | with_reducible assumption
    | with_reducible apply State.mbxRefuse_keeps
    | with_reducible apply State.flashBegin_keeps
    | with_reducible apply Keeps.ite
    | with_reducible apply Keeps.foldl
    | intro _ _ _
    | intro _ _
    | split
    | (dsimp only)
    | ((with_reducible refine Keeps.upd ?_ ?_); rotate_left; focus (first | exact ⟨rfl, rfl, rfl, rfl, rfl, rfl, rfl, rfl, rfl, rfl, rfl, rfl, rfl⟩ | (simp +zetaDelta [modAt]; done)))

theorem State.mbxCopy_keeps {s0 s : State} (h : Keeps s0 s) : Keeps s0 (State.mbxCopy s) := by
  unfold State.mbxCopy
  repeat' first
    | with_reducible assumption
    | with_reducible apply State.mbxEnd_keeps
    | with_reducible apply State.copyBegin_keeps
    | with_reducible apply Keeps.ite
    | with_reducible apply Keeps.foldl
    | intro _ _ _
    | intro _ _
    | split
    | (dsimp only)
    | ((with_reducible refine Keeps.upd ?_ ?_); rotate_left; focus (first | exact ⟨rfl, rfl, rfl, rfl, rfl, rfl, rfl, rfl, rfl, rfl, rfl, rfl, rfl⟩ | (simp +zetaDelta [modAt]; done)))

theorem State.mbxWrite_keeps {s0 s : State} (h : Keeps s0 s) : ∀ x1, Keeps s0 (State.mbxWrite s x1) := by
  intro x1
  unfold State.mbxWrite
  repeat' first
    | with_reducible assumption
    | with_reducible apply State.bump_keeps
    | with_reducible apply State.mbxEnd_keeps
    | with_reducible apply State.mbxOpen_keeps
    | with_reducible apply State.mbxBlock_keeps
    | with_reducible apply State.mbxProof_keeps
    | with_reducible apply State.mbxRecut_keeps
    | with_reducible apply State.mbxCancel_keeps
    | with_reducible apply State.mbxCopy_keeps
    | with_reducible apply State.mbxRefuse_keeps
    | with_reducible apply Keeps.ite
    | with_reducible apply Keeps.foldl
    | intro _ _ _
    | intro _ _
    | split
    | (dsimp only)
    | ((with_reducible refine Keeps.upd ?_ ?_); rotate_left; focus (first | exact ⟨rfl, rfl, rfl, rfl, rfl, rfl, rfl, rfl, rfl, rfl, rfl, rfl, rfl⟩ | (simp +zetaDelta [modAt]; done)))

theorem State.mbxDataWrite_keeps {s0 s : State} (h : Keeps s0 s) : ∀ x1 x2, Keeps s0 (State.mbxDataWrite s x1 x2) := by
  intro x1 x2
  unfold State.mbxDataWrite
  repeat' first
    | with_reducible assumption
    | with_reducible apply State.bump_keeps
    | with_reducible apply Keeps.wr
    | with_reducible apply Keeps.ite
    | with_reducible apply Keeps.foldl
    | intro _ _ _
    | intro _ _
    | split
    | (dsimp only)
    | ((with_reducible refine Keeps.upd ?_ ?_); rotate_left; focus (first | exact ⟨rfl, rfl, rfl, rfl, rfl, rfl, rfl, rfl, rfl, rfl, rfl, rfl, rfl⟩ | (simp +zetaDelta [modAt]; done)))

theorem State.sFailed_keeps {s0 s : State} (h : Keeps s0 s) : Keeps s0 (State.sFailed s) := by
  unfold State.sFailed
  repeat' first
    | with_reducible assumption
    | with_reducible apply State.recordNow_keeps
    | with_reducible apply State.put_keeps
    | with_reducible apply Keeps.ite
    | with_reducible apply Keeps.foldl
    | intro _ _ _
    | intro _ _
    | split
    | (dsimp only)
    | ((with_reducible refine Keeps.upd ?_ ?_); rotate_left; focus (first | exact ⟨rfl, rfl, rfl, rfl, rfl, rfl, rfl, rfl, rfl, rfl, rfl, rfl, rfl⟩ | (simp +zetaDelta [modAt]; done)))

theorem State.flashDone_keeps {s0 s : State} (h : Keeps s0 s) : ∀ x1, Keeps s0 (State.flashDone s x1) := by
  intro x1
  unfold State.flashDone
  repeat' first
    | with_reducible assumption
    | with_reducible apply State.recordNow_keeps
    | with_reducible apply Keeps.wr
    | with_reducible apply State.mbxEnd_keeps
    | with_reducible apply State.recordWrite'_keeps
    | with_reducible apply State.sFailed_keeps
    | with_reducible apply State.put_keeps
    | with_reducible apply Keeps.ite
    | with_reducible apply Keeps.foldl
    | intro _ _ _
    | intro _ _
    | split
    | (dsimp only)
    | ((with_reducible refine Keeps.upd ?_ ?_); rotate_left; focus (first | exact ⟨rfl, rfl, rfl, rfl, rfl, rfl, rfl, rfl, rfl, rfl, rfl, rfl, rfl⟩ | (simp +zetaDelta [modAt]; done)))

theorem State.proofEnd_keeps {s0 s : State} (h : Keeps s0 s) : Keeps s0 (State.proofEnd s) := by
  unfold State.proofEnd
  repeat' first
    | with_reducible assumption
    | with_reducible apply State.mbxEnd_keeps
    | with_reducible apply State.sFailed_keeps
    | with_reducible apply State.put_keeps
    | with_reducible apply Keeps.wr
    | with_reducible apply State.recordWrite'_keeps
    | with_reducible apply State.loadFromWait_keeps
    | with_reducible apply Keeps.ite
    | with_reducible apply Keeps.foldl
    | intro _ _ _
    | intro _ _
    | split
    | (dsimp only)
    | ((with_reducible refine Keeps.upd ?_ ?_); rotate_left; focus (first | exact ⟨rfl, rfl, rfl, rfl, rfl, rfl, rfl, rfl, rfl, rfl, rfl, rfl, rfl⟩ | (simp +zetaDelta [modAt]; done)))

theorem State.copyEnd_keeps {s0 s : State} (h : Keeps s0 s) : ∀ x1, Keeps s0 (State.copyEnd s x1) := by
  intro x1
  unfold State.copyEnd
  repeat' first
    | with_reducible assumption
    | with_reducible apply State.put_keeps
    | with_reducible apply State.recordWrite'_keeps
    | with_reducible apply Keeps.ite
    | with_reducible apply Keeps.foldl
    | intro _ _ _
    | intro _ _
    | split
    | (dsimp only)
    | ((with_reducible refine Keeps.upd ?_ ?_); rotate_left; focus (first | exact ⟨rfl, rfl, rfl, rfl, rfl, rfl, rfl, rfl, rfl, rfl, rfl, rfl, rfl⟩ | (simp +zetaDelta [modAt]; done)))

theorem State.mbxHost_keeps {s0 s : State} (h : Keeps s0 s) : ∀ x1 x2, Keeps s0 (State.mbxHost s x1 x2) := by
  intro x1 x2
  unfold State.mbxHost
  repeat' first
    | with_reducible assumption
    | with_reducible apply State.hostWrite_keeps
    | with_reducible apply State.mbxWrite_keeps
    | with_reducible apply Keeps.ite
    | with_reducible apply Keeps.foldl
    | intro _ _ _
    | intro _ _
    | split
    | (dsimp only)
    | ((with_reducible refine Keeps.upd ?_ ?_); rotate_left; focus (first | exact ⟨rfl, rfl, rfl, rfl, rfl, rfl, rfl, rfl, rfl, rfl, rfl, rfl, rfl⟩ | (simp +zetaDelta [modAt]; done)))

theorem State.ueAt_keeps {s0 s : State} (h : Keeps s0 s) : ∀ x1 x2 x3 x4 x5, Keeps s0 (State.ueAt s x1 x2 x3 x4 x5) := by
  intro x1 x2 x3 x4 x5
  unfold State.ueAt
  repeat' first
    | with_reducible assumption
    | with_reducible apply State.faultNow_keeps
    | with_reducible apply State.memUe_keeps
    | with_reducible apply Keeps.ite
    | with_reducible apply Keeps.foldl
    | intro _ _ _
    | intro _ _
    | split
    | (dsimp only)
    | ((with_reducible refine Keeps.upd ?_ ?_); rotate_left; focus (first | exact ⟨rfl, rfl, rfl, rfl, rfl, rfl, rfl, rfl, rfl, rfl, rfl, rfl, rfl⟩ | (simp +zetaDelta [modAt]; done)))

theorem State.cellBank_keeps {s0 s : State} (h : Keeps s0 s) : ∀ x1, Keeps s0 (State.cellBank s x1) := by
  intro x1
  unfold State.cellBank
  repeat' first
    | with_reducible assumption
    | with_reducible apply State.raise_keeps
    | with_reducible apply State.put_keeps
    | with_reducible apply Keeps.ite
    | with_reducible apply Keeps.foldl
    | intro _ _ _
    | intro _ _
    | split
    | (dsimp only)
    | ((with_reducible refine Keeps.upd ?_ ?_); rotate_left; focus (first | exact ⟨rfl, rfl, rfl, rfl, rfl, rfl, rfl, rfl, rfl, rfl, rfl, rfl, rfl⟩ | (simp +zetaDelta [modAt]; done)))

theorem State.recordReset_keeps {s0 s : State} (h : Keeps s0 s) : ∀ x1, Keeps s0 (State.recordReset s x1) := by
  intro x1
  unfold State.recordReset
  repeat' first
    | with_reducible assumption
    | with_reducible apply State.freeW_keeps
    | with_reducible apply State.freeN_keeps
    | with_reducible apply State.freeInt_keeps
    | with_reducible apply Keeps.wr
    | with_reducible apply State.setShaper_keeps
    | with_reducible apply State.freeB_keeps
    | with_reducible apply State.raise_keeps
    | with_reducible apply State.bump_keeps
    | with_reducible refine State.freeW_keeps_eq ?_ (by with_reducible assumption)
    | with_reducible refine State.freeN_keeps_eq ?_ (by with_reducible assumption)
    | with_reducible refine State.freeInt_keeps_eq ?_ (by with_reducible assumption)
    | with_reducible refine State.freeB_keeps_eq ?_ (by with_reducible assumption)
    | with_reducible apply Keeps.ite
    | with_reducible apply Keeps.foldl
    | intro _ _ _
    | intro _ _
    | split
    | (dsimp only)
    | ((with_reducible refine Keeps.upd ?_ ?_); rotate_left; focus (first | exact ⟨rfl, rfl, rfl, rfl, rfl, rfl, rfl, rfl, rfl, rfl, rfl, rfl, rfl⟩ | (simp +zetaDelta [modAt]; done)))

theorem State.memoryUe_keeps {s0 s : State} (h : Keeps s0 s) : ∀ x1 x2 x3, Keeps s0 (State.memoryUe s x1 x2 x3) := by
  intro x1 x2 x3
  unfold State.memoryUe
  repeat' first
    | with_reducible assumption
    | with_reducible apply State.ueAt_keeps
    | with_reducible apply State.roleMod_keeps
    | with_reducible apply State.cellBank_keeps
    | with_reducible apply State.bump_keeps
    | with_reducible apply State.pktDrop_keeps
    | with_reducible apply State.recordReset_keeps
    | with_reducible apply State.setPolicer_keeps
    | with_reducible apply State.raise_keeps
    | with_reducible apply State.put_keeps
    | with_reducible apply Keeps.ite
    | with_reducible apply Keeps.foldl
    | intro _ _ _
    | intro _ _
    | split
    | (dsimp only)
    | ((with_reducible refine Keeps.upd ?_ ?_); rotate_left; focus (first | exact ⟨rfl, rfl, rfl, rfl, rfl, rfl, rfl, rfl, rfl, rfl, rfl, rfl, rfl⟩ | (simp +zetaDelta [modAt]; done)))

theorem State.scrubbed_keeps {s0 s : State} (h : Keeps s0 s) : ∀ x1 x2 x3 x4, Keeps s0 (State.scrubbed s x1 x2 x3 x4) := by
  intro x1 x2 x3 x4
  unfold State.scrubbed
  repeat' first
    | with_reducible assumption
    | with_reducible apply State.memCe_keeps
    | with_reducible apply State.memoryUe_keeps
    | with_reducible apply Keeps.ite
    | with_reducible apply Keeps.foldl
    | intro _ _ _
    | intro _ _
    | split
    | (dsimp only)
    | ((with_reducible refine Keeps.upd ?_ ?_); rotate_left; focus (first | exact ⟨rfl, rfl, rfl, rfl, rfl, rfl, rfl, rfl, rfl, rfl, rfl, rfl, rfl⟩ | (simp +zetaDelta [modAt]; done)))

theorem State.closeRows_keeps {s0 s : State} (h : Keeps s0 s) : ∀ x1, Keeps s0 (State.closeRows s x1) := by
  intro x1
  unfold State.closeRows
  repeat' first
    | with_reducible assumption
    | with_reducible apply Keeps.ite
    | with_reducible apply Keeps.foldl
    | intro _ _ _
    | intro _ _
    | split
    | (dsimp only)
    | ((with_reducible refine Keeps.upd ?_ ?_); rotate_left; focus (first | exact ⟨rfl, rfl, rfl, rfl, rfl, rfl, rfl, rfl, rfl, rfl, rfl, rfl, rfl⟩ | (simp +zetaDelta [modAt]; done)))

theorem State.refreshDue_keeps {s0 s : State} (h : Keeps s0 s) : ∀ x1, Keeps s0 (State.refreshDue s x1) := by
  intro x1
  unfold State.refreshDue
  repeat' first
    | with_reducible assumption
    | with_reducible apply State.closeRows_keeps
    | with_reducible apply State.bump_keeps
    | with_reducible apply State.put_keeps
    | with_reducible apply Keeps.ite
    | with_reducible apply Keeps.foldl
    | intro _ _ _
    | intro _ _
    | split
    | (dsimp only)
    | ((with_reducible refine Keeps.upd ?_ ?_); rotate_left; focus (first | exact ⟨rfl, rfl, rfl, rfl, rfl, rfl, rfl, rfl, rfl, rfl, rfl, rfl, rfl⟩ | (simp +zetaDelta [modAt]; done)))

theorem State.mr4_keeps {s0 s : State} (h : Keeps s0 s) : ∀ x1 x2 x3, Keeps s0 (State.mr4 s x1 x2 x3) := by
  intro x1 x2 x3
  unfold State.mr4
  repeat' first
    | with_reducible assumption
    | with_reducible apply State.raise_keeps
    | with_reducible apply State.closeRows_keeps
    | with_reducible apply State.put_keeps
    | with_reducible apply Keeps.ite
    | with_reducible apply Keeps.foldl
    | intro _ _ _
    | intro _ _
    | split
    | (dsimp only)
    | ((with_reducible refine Keeps.upd ?_ ?_); rotate_left; focus (first | exact ⟨rfl, rfl, rfl, rfl, rfl, rfl, rfl, rfl, rfl, rfl, rfl, rfl, rfl⟩ | (simp +zetaDelta [modAt]; done)))

theorem State.reqDone_keeps {s0 s : State} (h : Keeps s0 s) : ∀ x1, Keeps s0 (State.reqDone s x1) := by
  intro x1
  unfold State.reqDone
  repeat' first
    | with_reducible assumption
    | with_reducible apply State.bump_keeps
    | with_reducible apply State.putMax_keeps
    | with_reducible apply Keeps.ite
    | with_reducible apply Keeps.foldl
    | intro _ _ _
    | intro _ _
    | split
    | (dsimp only)
    | ((with_reducible refine Keeps.upd ?_ ?_); rotate_left; focus (first | exact ⟨rfl, rfl, rfl, rfl, rfl, rfl, rfl, rfl, rfl, rfl, rfl, rfl, rfl⟩ | (simp +zetaDelta [modAt]; done)))

theorem State.dramIssue_keeps {s0 s : State} (h : Keeps s0 s) : ∀ x1 x2 x3, Keeps s0 (State.dramIssue s x1 x2 x3) := by
  intro x1 x2 x3
  unfold State.dramIssue
  repeat' first
    | with_reducible assumption
    | with_reducible apply State.reqDone_keeps
    | with_reducible apply State.lineWrite_keeps
    | with_reducible apply Keeps.ite
    | with_reducible apply Keeps.foldl
    | intro _ _ _
    | intro _ _
    | split
    | (dsimp only)
    | ((with_reducible refine Keeps.upd ?_ ?_); rotate_left; focus (first | exact ⟨rfl, rfl, rfl, rfl, rfl, rfl, rfl, rfl, rfl, rfl, rfl, rfl, rfl⟩ | (simp +zetaDelta [modAt]; done)))

theorem State.poisoned_keeps {s0 s : State} (h : Keeps s0 s) : ∀ x1 x2, Keeps s0 (State.poisoned s x1 x2) := by
  intro x1 x2
  unfold State.poisoned
  repeat' first
    | with_reducible assumption
    | with_reducible apply State.entryDrop_keeps
    | with_reducible apply State.setQue_keeps
    | with_reducible apply State.bump_keeps
    | with_reducible apply Keeps.ite
    | with_reducible apply Keeps.foldl
    | intro _ _ _
    | intro _ _
    | split
    | (dsimp only)
    | ((with_reducible refine Keeps.upd ?_ ?_); rotate_left; focus (first | exact ⟨rfl, rfl, rfl, rfl, rfl, rfl, rfl, rfl, rfl, rfl, rfl, rfl, rfl⟩ | (simp +zetaDelta [modAt]; done)))

theorem State.poisonRead_keeps {s0 s : State} (h : Keeps s0 s) : ∀ x1 x2, Keeps s0 (State.poisonRead s x1 x2) := by
  intro x1 x2
  unfold State.poisonRead
  repeat' first
    | with_reducible assumption
    | with_reducible apply State.reqDone_keeps
    | with_reducible apply State.poisoned_keeps
    | with_reducible apply State.bump_keeps
    | with_reducible apply Keeps.ite
    | with_reducible apply Keeps.foldl
    | intro _ _ _
    | intro _ _
    | split
    | (dsimp only)
    | ((with_reducible refine Keeps.upd ?_ ?_); rotate_left; focus (first | exact ⟨rfl, rfl, rfl, rfl, rfl, rfl, rfl, rfl, rfl, rfl, rfl, rfl, rfl⟩ | (simp +zetaDelta [modAt]; done)))

theorem State.freeze_keeps {s0 s : State} (h : Keeps s0 s) : ∀ x1, Keeps s0 (State.freeze s x1) := by
  intro x1
  unfold State.freeze
  repeat' first
    | with_reducible assumption
    | with_reducible apply State.put_keeps
    | with_reducible apply State.freeW_keeps
    | with_reducible apply Keeps.wr
    | with_reducible refine State.freeW_keeps_eq ?_ (by with_reducible assumption)
    | with_reducible apply Keeps.ite
    | with_reducible apply Keeps.foldl
    | intro _ _ _
    | intro _ _
    | split
    | (dsimp only)
    | ((with_reducible refine Keeps.upd ?_ ?_); rotate_left; focus (first | exact ⟨rfl, rfl, rfl, rfl, rfl, rfl, rfl, rfl, rfl, rfl, rfl, rfl, rfl⟩ | (simp +zetaDelta [modAt]; done)))

theorem State.readEnd_keeps {s0 s : State} (h : Keeps s0 s) : ∀ x1 x2, Keeps s0 (State.readEnd s x1 x2) := by
  intro x1 x2
  unfold State.readEnd
  repeat' first
    | with_reducible assumption
    | with_reducible apply State.reqDone_keeps
    | with_reducible apply State.bump_keeps
    | with_reducible apply Keeps.wr
    | with_reducible apply State.faultNow_keeps
    | with_reducible apply State.freeze_keeps
    | with_reducible apply State.poisonRead_keeps
    | with_reducible apply Keeps.ite
    | with_reducible apply Keeps.foldl
    | intro _ _ _
    | intro _ _
    | split
    | (dsimp only)
    | ((with_reducible refine Keeps.upd ?_ ?_); rotate_left; focus (first | exact ⟨rfl, rfl, rfl, rfl, rfl, rfl, rfl, rfl, rfl, rfl, rfl, rfl, rfl⟩ | (simp +zetaDelta [modAt]; done)))

theorem State.readReturn_keeps {s0 s : State} (h : Keeps s0 s) : ∀ x1 x2, Keeps s0 (State.readReturn s x1 x2) := by
  intro x1 x2
  unfold State.readReturn
  repeat' first
    | with_reducible assumption
    | with_reducible apply State.readEnd_keeps
    | with_reducible apply Keeps.ite
    | with_reducible apply Keeps.foldl
    | intro _ _ _
    | intro _ _
    | split
    | (dsimp only)
    | ((with_reducible refine Keeps.upd ?_ ?_); rotate_left; focus (first | exact ⟨rfl, rfl, rfl, rfl, rfl, rfl, rfl, rfl, rfl, rfl, rfl, rfl, rfl⟩ | (simp +zetaDelta [modAt]; done)))

theorem State.withdraw_keeps {s0 s : State} (h : Keeps s0 s) : Keeps s0 (State.withdraw s) := by
  unfold State.withdraw
  repeat' first
    | with_reducible assumption
    | with_reducible apply State.setQue_keeps
    | with_reducible apply State.put_keeps
    | with_reducible apply State.count_keeps
    | with_reducible apply Keeps.ite
    | with_reducible apply Keeps.foldl
    | intro _ _ _
    | intro _ _
    | split
    | (dsimp only)
    | ((with_reducible refine Keeps.upd ?_ ?_); rotate_left; focus (first | exact ⟨rfl, rfl, rfl, rfl, rfl, rfl, rfl, rfl, rfl, rfl, rfl, rfl, rfl⟩ | (simp +zetaDelta [modAt]; done)))

theorem State.deviceLoss_keeps {s0 s : State} (h : Keeps s0 s) : ∀ x1 x2, Keeps s0 (State.deviceLoss s x1 x2) := by
  intro x1 x2
  unfold State.deviceLoss
  repeat' first
    | with_reducible assumption
    | with_reducible apply State.put_keeps
    | with_reducible apply State.faultNow_keeps
    | with_reducible apply State.withdraw_keeps
    | with_reducible apply Keeps.wr
    | with_reducible apply Keeps.ite
    | with_reducible apply Keeps.foldl
    | intro _ _ _
    | intro _ _
    | split
    | (dsimp only)
    | ((with_reducible refine Keeps.upd ?_ ?_); rotate_left; focus (first | exact ⟨rfl, rfl, rfl, rfl, rfl, rfl, rfl, rfl, rfl, rfl, rfl, rfl, rfl⟩ | (simp +zetaDelta [modAt]; done)))

theorem State.alert_keeps {s0 s : State} (h : Keeps s0 s) : ∀ x1, Keeps s0 (State.alert s x1) := by
  intro x1
  unfold State.alert
  repeat' first
    | with_reducible assumption
    | with_reducible apply State.freeze_keeps
    | with_reducible apply State.closeRows_keeps
    | with_reducible apply State.bump_keeps
    | with_reducible apply State.deviceLoss_keeps
    | with_reducible apply Keeps.ite
    | with_reducible apply Keeps.foldl
    | intro _ _ _
    | intro _ _
    | split
    | (dsimp only)
    | ((with_reducible refine Keeps.upd ?_ ?_); rotate_left; focus (first | exact ⟨rfl, rfl, rfl, rfl, rfl, rfl, rfl, rfl, rfl, rfl, rfl, rfl, rfl⟩ | (simp +zetaDelta [modAt]; done)))

theorem State.drcCtrlWrite_keeps {s0 s : State} (h : Keeps s0 s) : ∀ x1, Keeps s0 (State.drcCtrlWrite s x1) := by
  intro x1
  unfold State.drcCtrlWrite
  repeat' first
    | with_reducible assumption
    | with_reducible apply State.put_keeps
    | with_reducible apply State.closeRows_keeps
    | with_reducible apply State.bump_keeps
    | with_reducible apply State.poisonRead_keeps
    | with_reducible apply Keeps.ite
    | with_reducible apply Keeps.foldl
    | intro _ _ _
    | intro _ _
    | split
    | (dsimp only)
    | ((with_reducible refine Keeps.upd ?_ ?_); rotate_left; focus (first | exact ⟨rfl, rfl, rfl, rfl, rfl, rfl, rfl, rfl, rfl, rfl, rfl, rfl, rfl⟩ | (simp +zetaDelta [modAt]; done)))

theorem State.recordsAtReset_keeps {s0 s : State} (h : Keeps s0 s) : Keeps s0 (State.recordsAtReset s) := by
  unfold State.recordsAtReset
  repeat' first
    | with_reducible assumption
    | with_reducible apply State.fltShift_keeps
    | with_reducible apply State.bump_keeps
    | with_reducible apply Keeps.ite
    | with_reducible apply Keeps.foldl
    | intro _ _ _
    | intro _ _
    | split
    | (dsimp only)
    | ((with_reducible refine Keeps.upd ?_ ?_); rotate_left; focus (first | exact ⟨rfl, rfl, rfl, rfl, rfl, rfl, rfl, rfl, rfl, rfl, rfl, rfl, rfl⟩ | (simp +zetaDelta [modAt]; done)))

theorem State.operationsCut_keeps {s0 s : State} (h : Keeps s0 s) : Keeps s0 (State.operationsCut s) := by
  unfold State.operationsCut
  repeat' first
    | with_reducible assumption
    | with_reducible apply State.freeB_keeps
    | with_reducible apply State.fuseDone_keeps
    | with_reducible apply State.keyFuseDone_keeps
    | with_reducible apply State.flashDone_keeps
    | with_reducible refine State.freeB_keeps_eq ?_ (by with_reducible assumption)
    | with_reducible apply Keeps.ite
    | with_reducible apply Keeps.foldl
    | intro _ _ _
    | intro _ _
    | split
    | (dsimp only)
    | ((with_reducible refine Keeps.upd ?_ ?_); rotate_left; focus (first | exact ⟨rfl, rfl, rfl, rfl, rfl, rfl, rfl, rfl, rfl, rfl, rfl, rfl, rfl⟩ | (simp +zetaDelta [modAt]; done)))

theorem State.resetTo_keeps {s0 s : State} (h : Keeps s0 s) : ∀ x1, Keeps s0 (State.resetTo s x1) := by
  intro x1
  refine State.put_keeps ?_ _ _
  have k := State.operationsCut_keeps (State.recordsAtReset_keeps h)
  exact ⟨k.pending, fun r => kvWf_filter resetWord _ _ (k.regs r), fun _ => rfl, fun _ => rfl⟩

theorem State.withRegulators_keeps {s0 s : State} (h : Keeps s0 s) : Keeps s0 (State.withRegulators s) := by
  unfold State.withRegulators
  repeat' first
    | with_reducible assumption
    | with_reducible apply Keeps.ite
    | with_reducible apply Keeps.foldl
    | intro _ _ _
    | intro _ _
    | split
    | (dsimp only)
    | ((with_reducible refine Keeps.upd ?_ ?_); rotate_left; focus (first | exact ⟨rfl, rfl, rfl, rfl, rfl, rfl, rfl, rfl, rfl, rfl, rfl, rfl, rfl⟩ | (simp +zetaDelta [modAt]; done)))

theorem State.packageReset_keeps {s0 s : State} (h : Keeps s0 s) : ∀ x1, Keeps s0 (State.packageReset s x1) := by
  intro x1
  unfold State.packageReset
  repeat' first
    | with_reducible assumption
    | with_reducible apply State.put_keeps
    | with_reducible apply State.resetTo_keeps
    | with_reducible apply Keeps.ite
    | with_reducible apply Keeps.foldl
    | intro _ _ _
    | intro _ _
    | split
    | (dsimp only)
    | ((with_reducible refine Keeps.upd ?_ ?_); rotate_left; focus (first | exact ⟨rfl, rfl, rfl, rfl, rfl, rfl, rfl, rfl, rfl, rfl, rfl, rfl, rfl⟩ | (simp +zetaDelta [modAt]; done)))

theorem State.phaseFence_keeps {s0 s : State} (h : Keeps s0 s) : ∀ x1 x2, Keeps s0 (State.phaseFence s x1 x2) := by
  intro x1 x2
  unfold State.phaseFence
  repeat' first
    | with_reducible assumption
    | with_reducible apply Keeps.wr
    | with_reducible apply State.put_keeps
    | with_reducible apply Keeps.ite
    | with_reducible apply Keeps.foldl
    | intro _ _ _
    | intro _ _
    | split
    | (dsimp only)
    | ((with_reducible refine Keeps.upd ?_ ?_); rotate_left; focus (first | exact ⟨rfl, rfl, rfl, rfl, rfl, rfl, rfl, rfl, rfl, rfl, rfl, rfl, rfl⟩ | (simp +zetaDelta [modAt]; done)))

theorem State.fallBack_keeps {s0 s : State} (h : Keeps s0 s) : Keeps s0 (State.fallBack s) := by
  unfold State.fallBack
  repeat' first
    | with_reducible assumption
    | with_reducible apply State.put_keeps
    | with_reducible apply Keeps.ite
    | with_reducible apply Keeps.foldl
    | intro _ _ _
    | intro _ _
    | split
    | (dsimp only)
    | ((with_reducible refine Keeps.upd ?_ ?_); rotate_left; focus (first | exact ⟨rfl, rfl, rfl, rfl, rfl, rfl, rfl, rfl, rfl, rfl, rfl, rfl, rfl⟩ | (simp +zetaDelta [modAt]; done)))

theorem State.lockOrFallBack_keeps {s0 s : State} (h : Keeps s0 s) : Keeps s0 (State.lockOrFallBack s) := by
  unfold State.lockOrFallBack
  repeat' first
    | with_reducible assumption
    | with_reducible apply State.fallBack_keeps
    | with_reducible apply Keeps.ite
    | with_reducible apply Keeps.foldl
    | intro _ _ _
    | intro _ _
    | split
    | (dsimp only)
    | ((with_reducible refine Keeps.upd ?_ ?_); rotate_left; focus (first | exact ⟨rfl, rfl, rfl, rfl, rfl, rfl, rfl, rfl, rfl, rfl, rfl, rfl, rfl⟩ | (simp +zetaDelta [modAt]; done)))

theorem State.pcieComesUp_keeps {s0 s : State} (h : Keeps s0 s) : Keeps s0 (State.pcieComesUp s) := by
  unfold State.pcieComesUp
  repeat' first
    | with_reducible assumption
    | with_reducible apply Keeps.ite
    | with_reducible apply Keeps.foldl
    | intro _ _ _
    | intro _ _
    | split
    | (dsimp only)
    | ((with_reducible refine Keeps.upd ?_ ?_); rotate_left; focus (first | exact ⟨rfl, rfl, rfl, rfl, rfl, rfl, rfl, rfl, rfl, rfl, rfl, rfl, rfl⟩ | (simp +zetaDelta [modAt]; done)))

theorem State.startStep1_keeps {s0 s : State} (h : Keeps s0 s) : ∀ x1, Keeps s0 (State.startStep1 s x1) := by
  intro x1
  unfold State.startStep1
  repeat' first
    | with_reducible assumption
    | with_reducible apply State.phaseFence_keeps
    | with_reducible apply Keeps.ite
    | with_reducible apply Keeps.foldl
    | intro _ _ _
    | intro _ _
    | split
    | (dsimp only)
    | ((with_reducible refine Keeps.upd ?_ ?_); rotate_left; focus (first | exact ⟨rfl, rfl, rfl, rfl, rfl, rfl, rfl, rfl, rfl, rfl, rfl, rfl, rfl⟩ | (simp +zetaDelta [modAt]; done)))

theorem State.startStep2_keeps {s0 s : State} (h : Keeps s0 s) : ∀ x1, Keeps s0 (State.startStep2 s x1) := by
  intro x1
  unfold State.startStep2
  repeat' first
    | with_reducible assumption
    | with_reducible apply State.put_keeps
    | with_reducible apply Keeps.ite
    | with_reducible apply Keeps.foldl
    | intro _ _ _
    | intro _ _
    | split
    | (dsimp only)
    | ((with_reducible refine Keeps.upd ?_ ?_); rotate_left; focus (first | exact ⟨rfl, rfl, rfl, rfl, rfl, rfl, rfl, rfl, rfl, rfl, rfl, rfl, rfl⟩ | (simp +zetaDelta [modAt]; done)))

theorem State.calTargets_keeps {s0 s : State} (h : Keeps s0 s) : Keeps s0 (State.calTargets s) := by
  unfold State.calTargets
  repeat' first
    | with_reducible assumption
    | with_reducible apply Keeps.ite
    | with_reducible apply Keeps.foldl
    | intro _ _ _
    | intro _ _
    | split
    | (dsimp only)
    | ((with_reducible refine Keeps.upd ?_ ?_); rotate_left; focus (first | exact ⟨rfl, rfl, rfl, rfl, rfl, rfl, rfl, rfl, rfl, rfl, rfl, rfl, rfl⟩ | (simp +zetaDelta [modAt]; done)))

theorem State.startStep3_keeps {s0 s : State} (h : Keeps s0 s) : ∀ x1, Keeps s0 (State.startStep3 s x1) := by
  intro x1
  unfold State.startStep3
  repeat' first
    | with_reducible assumption
    | with_reducible apply State.put_keeps
    | with_reducible apply State.lockOrFallBack_keeps
    | with_reducible apply State.calTargets_keeps
    | with_reducible apply Keeps.ite
    | with_reducible apply Keeps.foldl
    | intro _ _ _
    | intro _ _
    | split
    | (dsimp only)
    | ((with_reducible refine Keeps.upd ?_ ?_); rotate_left; focus (first | exact ⟨rfl, rfl, rfl, rfl, rfl, rfl, rfl, rfl, rfl, rfl, rfl, rfl, rfl⟩ | (simp +zetaDelta [modAt]; done)))

theorem State.synthFenceAtStart_keeps {s0 s : State} (h : Keeps s0 s) : ∀ x1, Keeps s0 (State.synthFenceAtStart s x1) := by
  intro x1
  unfold State.synthFenceAtStart
  repeat' first
    | with_reducible assumption
    | with_reducible apply Keeps.wr
    | with_reducible apply State.put_keeps
    | with_reducible apply Keeps.ite
    | with_reducible apply Keeps.foldl
    | intro _ _ _
    | intro _ _
    | split
    | (dsimp only)
    | ((with_reducible refine Keeps.upd ?_ ?_); rotate_left; focus (first | exact ⟨rfl, rfl, rfl, rfl, rfl, rfl, rfl, rfl, rfl, rfl, rfl, rfl, rfl⟩ | (simp +zetaDelta [modAt]; done)))

theorem State.startStep4_keeps {s0 s : State} (h : Keeps s0 s) : ∀ x1, Keeps s0 (State.startStep4 s x1) := by
  intro x1
  unfold State.startStep4
  repeat' first
    | with_reducible assumption
    | with_reducible apply Keeps.wr
    | with_reducible apply State.put_keeps
    | with_reducible apply State.engMod_keeps
    | with_reducible apply State.synthFenceAtStart_keeps
    | with_reducible apply State.engSync_keeps
    | with_reducible apply Keeps.ite
    | with_reducible apply Keeps.foldl
    | intro _ _ _
    | intro _ _
    | split
    | (dsimp only)
    | ((with_reducible refine Keeps.upd ?_ ?_); rotate_left; focus (first | exact ⟨rfl, rfl, rfl, rfl, rfl, rfl, rfl, rfl, rfl, rfl, rfl, rfl, rfl⟩ | (simp +zetaDelta [modAt]; done)))

theorem State.drawSession_keeps {s0 s : State} (h : Keeps s0 s) : Keeps s0 (State.drawSession s) := by
  unfold State.drawSession
  repeat' first
    | with_reducible assumption
    | with_reducible apply State.freeN_keeps
    | with_reducible refine State.freeN_keeps_eq ?_ (by with_reducible assumption)
    | with_reducible apply Keeps.ite
    | with_reducible apply Keeps.foldl
    | intro _ _ _
    | intro _ _
    | split
    | (dsimp only)
    | ((with_reducible refine Keeps.upd ?_ ?_); rotate_left; focus (first | exact ⟨rfl, rfl, rfl, rfl, rfl, rfl, rfl, rfl, rfl, rfl, rfl, rfl, rfl⟩ | (simp +zetaDelta [modAt]; done)))

theorem State.startRest_keeps {s0 s : State} (h : Keeps s0 s) : ∀ x1, Keeps s0 (State.startRest s x1) := by
  intro x1
  unfold State.startRest
  repeat' first
    | with_reducible assumption
    | with_reducible apply State.drawSession_keeps
    | with_reducible apply State.startStep4_keeps
    | with_reducible apply State.startStep3_keeps
    | with_reducible apply State.put_keeps
    | with_reducible apply State.loadStart_keeps
    | with_reducible apply State.recordRead_keeps
    | with_reducible apply State.pcieComesUp_keeps
    | with_reducible apply Keeps.ite
    | with_reducible apply Keeps.foldl
    | intro _ _ _
    | intro _ _
    | split
    | (dsimp only)
    | ((with_reducible refine Keeps.upd ?_ ?_); rotate_left; focus (first | exact ⟨rfl, rfl, rfl, rfl, rfl, rfl, rfl, rfl, rfl, rfl, rfl, rfl, rfl⟩ | (simp +zetaDelta [modAt]; done)))

theorem State.start_keeps {s0 s : State} (h : Keeps s0 s) : ∀ x1, Keeps s0 (State.start s x1) := by
  intro x1
  unfold State.start
  repeat' first
    | with_reducible assumption
    | with_reducible apply State.startStep1_keeps
    | with_reducible apply State.startStep2_keeps
    | with_reducible apply State.startRest_keeps
    | with_reducible apply Keeps.ite
    | with_reducible apply Keeps.foldl
    | intro _ _ _
    | intro _ _
    | split
    | (dsimp only)
    | ((with_reducible refine Keeps.upd ?_ ?_); rotate_left; focus (first | exact ⟨rfl, rfl, rfl, rfl, rfl, rfl, rfl, rfl, rfl, rfl, rfl, rfl, rfl⟩ | (simp +zetaDelta [modAt]; done)))

theorem State.lockRetry_keeps {s0 s : State} (h : Keeps s0 s) : ∀ x1 x2 x3, Keeps s0 (State.lockRetry s x1 x2 x3) := by
  intro x1 x2 x3
  unfold State.lockRetry
  repeat' first
    | with_reducible assumption
    | with_reducible apply State.put_keeps
    | with_reducible apply State.pcieComesUp_keeps
    | with_reducible apply Keeps.ite
    | with_reducible apply Keeps.foldl
    | intro _ _ _
    | intro _ _
    | split
    | (dsimp only)
    | ((with_reducible refine Keeps.upd ?_ ?_); rotate_left; focus (first | exact ⟨rfl, rfl, rfl, rfl, rfl, rfl, rfl, rfl, rfl, rfl, rfl, rfl, rfl⟩ | (simp +zetaDelta [modAt]; done)))

theorem State.clkCtrlWrite_keeps {s0 s : State} (h : Keeps s0 s) : ∀ x1, Keeps s0 (State.clkCtrlWrite s x1) := by
  intro x1
  unfold State.clkCtrlWrite
  repeat' first
    | with_reducible assumption
    | with_reducible apply State.put_keeps
    | with_reducible apply State.bump_keeps
    | with_reducible apply Keeps.ite
    | with_reducible apply Keeps.foldl
    | intro _ _ _
    | intro _ _
    | split
    | (dsimp only)
    | ((with_reducible refine Keeps.upd ?_ ?_); rotate_left; focus (first | exact ⟨rfl, rfl, rfl, rfl, rfl, rfl, rfl, rfl, rfl, rfl, rfl, rfl, rfl⟩ | (simp +zetaDelta [modAt]; done)))

theorem State.pwrCmdWrite_keeps {s0 s : State} (h : Keeps s0 s) : ∀ x1, Keeps s0 (State.pwrCmdWrite s x1) := by
  intro x1
  unfold State.pwrCmdWrite
  repeat' first
    | with_reducible assumption
    | with_reducible apply State.bump_keeps
    | with_reducible apply State.pwrRelease_keeps
    | with_reducible apply State.packageReset_keeps
    | with_reducible apply Keeps.wr
    | with_reducible apply Keeps.ite
    | with_reducible apply Keeps.foldl
    | intro _ _ _
    | intro _ _
    | split
    | (dsimp only)
    | ((with_reducible refine Keeps.upd ?_ ?_); rotate_left; focus (first | exact ⟨rfl, rfl, rfl, rfl, rfl, rfl, rfl, rfl, rfl, rfl, rfl, rfl, rfl⟩ | (simp +zetaDelta [modAt]; done)))

theorem State.pwrHost_keeps {s0 s : State} (h : Keeps s0 s) : ∀ x1 x2, Keeps s0 (State.pwrHost s x1 x2) := by
  intro x1 x2
  unfold State.pwrHost
  repeat' first
    | with_reducible assumption
    | with_reducible apply State.hostWrite_keeps
    | with_reducible apply State.pwrCmdWrite_keeps
    | with_reducible apply Keeps.ite
    | with_reducible apply Keeps.foldl
    | intro _ _ _
    | intro _ _
    | split
    | (dsimp only)
    | ((with_reducible refine Keeps.upd ?_ ?_); rotate_left; focus (first | exact ⟨rfl, rfl, rfl, rfl, rfl, rfl, rfl, rfl, rfl, rfl, rfl, rfl, rfl⟩ | (simp +zetaDelta [modAt]; done)))

theorem State.clusterGrant_keeps {s0 s : State} (h : Keeps s0 s) : ∀ x1, Keeps s0 (State.clusterGrant s x1) := by
  intro x1
  unfold State.clusterGrant
  repeat' first
    | with_reducible assumption
    | with_reducible apply State.put_keeps
    | with_reducible apply Keeps.ite
    | with_reducible apply Keeps.foldl
    | intro _ _ _
    | intro _ _
    | split
    | (dsimp only)
    | ((with_reducible refine Keeps.upd ?_ ?_); rotate_left; focus (first | exact ⟨rfl, rfl, rfl, rfl, rfl, rfl, rfl, rfl, rfl, rfl, rfl, rfl, rfl⟩ | (simp +zetaDelta [modAt]; done)))

theorem State.windowClose_keeps {s0 s : State} (h : Keeps s0 s) : ∀ x1 x2, Keeps s0 (State.windowClose s x1 x2) := by
  intro x1 x2
  unfold State.windowClose
  repeat' first
    | with_reducible assumption
    | with_reducible apply State.pwrRelease_keeps
    | with_reducible apply State.lastWake_keeps
    | with_reducible apply State.put_keeps
    | with_reducible apply Keeps.ite
    | with_reducible apply Keeps.foldl
    | intro _ _ _
    | intro _ _
    | split
    | (dsimp only)
    | ((with_reducible refine Keeps.upd ?_ ?_); rotate_left; focus (first | exact ⟨rfl, rfl, rfl, rfl, rfl, rfl, rfl, rfl, rfl, rfl, rfl, rfl, rfl⟩ | (simp +zetaDelta [modAt]; done)))

theorem State.radioDown_keeps {s0 s : State} (h : Keeps s0 s) : ∀ x1 x2, Keeps s0 (State.radioDown s x1 x2) := by
  intro x1 x2
  unfold State.radioDown
  repeat' first
    | with_reducible assumption
    | with_reducible apply State.setRadio_keeps
    | with_reducible apply State.synthLock_keeps
    | with_reducible apply State.rxAbort_keeps
    | with_reducible apply Keeps.ite
    | with_reducible apply Keeps.foldl
    | intro _ _ _
    | intro _ _
    | split
    | (dsimp only)
    | ((with_reducible refine Keeps.upd ?_ ?_); rotate_left; focus (first | exact ⟨rfl, rfl, rfl, rfl, rfl, rfl, rfl, rfl, rfl, rfl, rfl, rfl, rfl⟩ | (simp +zetaDelta [modAt]; done)))

theorem State.enterSleep_keeps {s0 s : State} (h : Keeps s0 s) : Keeps s0 (State.enterSleep s) := by
  unfold State.enterSleep
  repeat' first
    | with_reducible assumption
    | with_reducible apply State.radioDown_keeps
    | with_reducible apply State.put_keeps
    | with_reducible apply Keeps.ite
    | with_reducible apply Keeps.foldl
    | intro _ _ _
    | intro _ _
    | split
    | (dsimp only)
    | ((with_reducible refine Keeps.upd ?_ ?_); rotate_left; focus (first | exact ⟨rfl, rfl, rfl, rfl, rfl, rfl, rfl, rfl, rfl, rfl, rfl, rfl, rfl⟩ | (simp +zetaDelta [modAt]; done)))

theorem State.enterDeep_keeps {s0 s : State} (h : Keeps s0 s) : Keeps s0 (State.enterDeep s) := by
  unfold State.enterDeep
  repeat' first
    | with_reducible assumption
    | with_reducible apply State.sealFree_keeps
    | with_reducible apply State.clearStage_keeps
    | with_reducible apply State.enterSleep_keeps
    | with_reducible apply State.radioDown_keeps
    | with_reducible apply State.linkSet_keeps
    | with_reducible apply State.put_keeps
    | with_reducible apply State.pcieReset_keeps
    | with_reducible apply State.tclkHalt_keeps
    | with_reducible apply Keeps.ite
    | with_reducible apply Keeps.foldl
    | intro _ _ _
    | intro _ _
    | split
    | (dsimp only)
    | ((with_reducible refine Keeps.upd ?_ ?_); rotate_left; focus (first | exact ⟨rfl, rfl, rfl, rfl, rfl, rfl, rfl, rfl, rfl, rfl, rfl, rfl, rfl⟩ | (simp +zetaDelta [modAt]; done)))

theorem State.enterOff_keeps {s0 s : State} (h : Keeps s0 s) : Keeps s0 (State.enterOff s) := by
  unfold State.enterOff
  repeat' first
    | with_reducible assumption
    | with_reducible apply State.withRegulators_keeps
    | with_reducible apply State.resetTo_keeps
    | with_reducible apply Keeps.ite
    | with_reducible apply Keeps.foldl
    | intro _ _ _
    | intro _ _
    | split
    | (dsimp only)
    | ((with_reducible refine Keeps.upd ?_ ?_); rotate_left; focus (first | exact ⟨rfl, rfl, rfl, rfl, rfl, rfl, rfl, rfl, rfl, rfl, rfl, rfl, rfl⟩ | (simp +zetaDelta [modAt]; done)))

theorem State.entryDone_keeps {s0 s : State} (h : Keeps s0 s) : Keeps s0 (State.entryDone s) := by
  unfold State.entryDone
  repeat' first
    | with_reducible assumption
    | with_reducible apply State.put_keeps
    | with_reducible apply State.enterSleep_keeps
    | with_reducible apply State.enterDeep_keeps
    | with_reducible apply State.enterOff_keeps
    | with_reducible apply Keeps.ite
    | with_reducible apply Keeps.foldl
    | intro _ _ _
    | intro _ _
    | split
    | (dsimp only)
    | ((with_reducible refine Keeps.upd ?_ ?_); rotate_left; focus (first | exact ⟨rfl, rfl, rfl, rfl, rfl, rfl, rfl, rfl, rfl, rfl, rfl, rfl, rfl⟩ | (simp +zetaDelta [modAt]; done)))

theorem State.wakeRegister_keeps {s0 s : State} (h : Keeps s0 s) : ∀ x1 x2, Keeps s0 (State.wakeRegister s x1 x2) := by
  intro x1 x2
  unfold State.wakeRegister
  repeat' first
    | with_reducible assumption
    | with_reducible apply State.packageReset_keeps
    | with_reducible apply State.lastWake_keeps
    | with_reducible apply State.pwrRelease_keeps
    | with_reducible apply State.put_keeps
    | with_reducible apply Keeps.ite
    | with_reducible apply Keeps.foldl
    | intro _ _ _
    | intro _ _
    | split
    | (dsimp only)
    | ((with_reducible refine Keeps.upd ?_ ?_); rotate_left; focus (first | exact ⟨rfl, rfl, rfl, rfl, rfl, rfl, rfl, rfl, rfl, rfl, rfl, rfl, rfl⟩ | (simp +zetaDelta [modAt]; done)))

theorem State.keyArrayLost_keeps {s0 s : State} (h : Keeps s0 s) : ∀ x1, Keeps s0 (State.keyArrayLost s x1) := by
  intro x1
  unfold State.keyArrayLost
  repeat' first
    | with_reducible assumption
    | with_reducible apply State.setSlot_keeps
    | with_reducible apply State.put_keeps
    | with_reducible apply State.raise_keeps
    | with_reducible apply Keeps.ite
    | with_reducible apply Keeps.foldl
    | intro _ _ _
    | intro _ _
    | split
    | (dsimp only)
    | ((with_reducible refine Keeps.upd ?_ ?_); rotate_left; focus (first | exact ⟨rfl, rfl, rfl, rfl, rfl, rfl, rfl, rfl, rfl, rfl, rfl, rfl, rfl⟩ | (simp +zetaDelta [modAt]; done)))

theorem State.retentionRestore_keeps {s0 s : State} (h : Keeps s0 s) : ∀ x1 x2, Keeps s0 (State.retentionRestore s x1 x2) := by
  intro x1 x2
  unfold State.retentionRestore
  repeat' first
    | with_reducible assumption
    | with_reducible apply State.engMod_keeps
    | with_reducible apply State.roleMod_keeps
    | with_reducible apply State.put_keeps
    | with_reducible apply State.faultNow_keeps
    | with_reducible apply Keeps.wr
    | with_reducible apply State.raise_keeps
    | with_reducible apply State.keyArrayLost_keeps
    | with_reducible apply Keeps.ite
    | with_reducible apply Keeps.foldl
    | intro _ _ _
    | intro _ _
    | split
    | (dsimp only)
    | ((with_reducible refine Keeps.upd ?_ ?_); rotate_left; focus (first | exact ⟨rfl, rfl, rfl, rfl, rfl, rfl, rfl, rfl, rfl, rfl, rfl, rfl, rfl⟩ | (simp +zetaDelta [modAt]; done)))

theorem State.funcOff_keeps {s0 s : State} (h : Keeps s0 s) : ∀ x1, Keeps s0 (State.funcOff s x1) := by
  intro x1
  unfold State.funcOff
  repeat' first
    | with_reducible assumption
    | with_reducible apply State.xo80Follow_keeps
    | with_reducible apply State.setRadio_keeps
    | with_reducible apply State.synthLock_keeps
    | with_reducible apply State.rxAbort_keeps
    | with_reducible apply State.linkSet_keeps
    | with_reducible apply Keeps.ite
    | with_reducible apply Keeps.foldl
    | intro _ _ _
    | intro _ _
    | split
    | (dsimp only)
    | ((with_reducible refine Keeps.upd ?_ ?_); rotate_left; focus (first | exact ⟨rfl, rfl, rfl, rfl, rfl, rfl, rfl, rfl, rfl, rfl, rfl, rfl, rfl⟩ | (simp +zetaDelta [modAt]; done)))

theorem State.funcStarted_keeps {s0 s : State} (h : Keeps s0 s) : ∀ x1, Keeps s0 (State.funcStarted s x1) := by
  intro x1
  unfold State.funcStarted
  repeat' first
    | with_reducible assumption
    | with_reducible apply State.xo80Follow_keeps
    | with_reducible apply State.radioRestart_keeps
    | with_reducible apply Keeps.ite
    | with_reducible apply Keeps.foldl
    | intro _ _ _
    | intro _ _
    | split
    | (dsimp only)
    | ((with_reducible refine Keeps.upd ?_ ?_); rotate_left; focus (first | exact ⟨rfl, rfl, rfl, rfl, rfl, rfl, rfl, rfl, rfl, rfl, rfl, rfl, rfl⟩ | (simp +zetaDelta [modAt]; done)))

theorem State.funcDone_keeps {s0 s : State} (h : Keeps s0 s) : ∀ x1, Keeps s0 (State.funcDone s x1) := by
  intro x1
  unfold State.funcDone
  repeat' first
    | with_reducible assumption
    | with_reducible apply State.funcShow_keeps
    | with_reducible apply State.funcOff_keeps
    | with_reducible apply State.funcMod_keeps
    | with_reducible apply State.funcStarted_keeps
    | with_reducible apply Keeps.ite
    | with_reducible apply Keeps.foldl
    | intro _ _ _
    | intro _ _
    | split
    | (dsimp only)
    | ((with_reducible refine Keeps.upd ?_ ?_); rotate_left; focus (first | exact ⟨rfl, rfl, rfl, rfl, rfl, rfl, rfl, rfl, rfl, rfl, rfl, rfl, rfl⟩ | (simp +zetaDelta [modAt]; done)))

theorem State.holdInReset_keeps {s0 s : State} (h : Keeps s0 s) : Keeps s0 (State.holdInReset s) := by
  unfold State.holdInReset
  repeat' first
    | with_reducible assumption
    | with_reducible apply State.withRegulators_keeps
    | with_reducible apply State.resetTo_keeps
    | with_reducible apply Keeps.ite
    | with_reducible apply Keeps.foldl
    | intro _ _ _
    | intro _ _
    | split
    | (dsimp only)
    | ((with_reducible refine Keeps.upd ?_ ?_); rotate_left; focus (first | exact ⟨rfl, rfl, rfl, rfl, rfl, rfl, rfl, rfl, rfl, rfl, rfl, rfl, rfl⟩ | (simp +zetaDelta [modAt]; done)))

theorem State.phaseFault_keeps {s0 s : State} (h : Keeps s0 s) : ∀ x1 x2, Keeps s0 (State.phaseFault s x1 x2) := by
  intro x1 x2
  unfold State.phaseFault
  repeat' first
    | with_reducible assumption
    | with_reducible apply State.bump_keeps
    | with_reducible apply State.phaseFence_keeps
    | with_reducible apply State.faultNow_keeps
    | with_reducible apply State.holdInReset_keeps
    | with_reducible apply State.faultRecord_keeps
    | with_reducible apply Keeps.ite
    | with_reducible apply Keeps.foldl
    | intro _ _ _
    | intro _ _
    | split
    | (dsimp only)
    | ((with_reducible refine Keeps.upd ?_ ?_); rotate_left; focus (first | exact ⟨rfl, rfl, rfl, rfl, rfl, rfl, rfl, rfl, rfl, rfl, rfl, rfl, rfl⟩ | (simp +zetaDelta [modAt]; done)))

theorem State.xo80Lost_keeps {s0 s : State} (h : Keeps s0 s) : Keeps s0 (State.xo80Lost s) := by
  unfold State.xo80Lost
  extract_lets s1 c s2 s3
  have h1 : Keeps s0 s1 := Keeps.foldl h _ fun t n ht =>
    State.setRadio_keeps (State.synthLock_keeps (State.rxAbort_keeps (State.endTx_keeps ht _ _) _) _ _) _ _
  clear_value s1
  have h2 : Keeps s0 s2 := by
      refine Keeps.upd h1 ?_
      exact ⟨rfl, rfl, rfl, rfl, rfl, rfl, rfl, rfl, rfl, rfl, rfl, rfl, rfl⟩
  have h3 : Keeps s0 s3 := by
    repeat' first
      | with_reducible assumption
      | with_reducible apply State.setRadio_keeps
      | with_reducible apply State.synthLock_keeps
      | with_reducible apply State.rxAbort_keeps
      | with_reducible apply State.endTx_keeps
      | with_reducible apply State.put_keeps
      | with_reducible apply State.tclkHalt_keeps
      | with_reducible apply State.withdraw_keeps
      | with_reducible apply Keeps.ite
      | with_reducible apply Keeps.foldl
      | intro _ _ _
      | intro _ _
      | split
      | (dsimp only)
      | ((with_reducible refine Keeps.upd ?_ ?_); rotate_left; focus (first | exact ⟨rfl, rfl, rfl, rfl, rfl, rfl, rfl, rfl, rfl, rfl, rfl, rfl, rfl⟩ | (simp +zetaDelta [modAt]; done)))
  clear_value s3
  exact State.tclkHalt_keeps (State.withdraw_keeps h3)

theorem State.clockFault_keeps {s0 s : State} (h : Keeps s0 s) : ∀ x1, Keeps s0 (State.clockFault s x1) := by
  intro x1
  unfold State.clockFault
  repeat' first
    | with_reducible assumption
    | with_reducible apply State.faultNow_keeps
    | with_reducible apply State.fallBack_keeps
    | with_reducible apply State.put_keeps
    | with_reducible apply State.tclkHalt_keeps
    | with_reducible apply State.xo80Lost_keeps
    | with_reducible apply Keeps.ite
    | with_reducible apply Keeps.foldl
    | intro _ _ _
    | intro _ _
    | split
    | (dsimp only)
    | ((with_reducible refine Keeps.upd ?_ ?_); rotate_left; focus (first | exact ⟨rfl, rfl, rfl, rfl, rfl, rfl, rfl, rfl, rfl, rfl, rfl, rfl, rfl⟩ | (simp +zetaDelta [modAt]; done)))

theorem State.clusterFail_keeps {s0 s : State} (h : Keeps s0 s) : ∀ x1 x2 x3, Keeps s0 (State.clusterFail s x1 x2 x3) := by
  intro x1 x2 x3
  unfold State.clusterFail
  repeat' first
    | with_reducible assumption
    | with_reducible apply State.rxAbort_keeps
    | with_reducible apply State.faultRecord_keeps
    | with_reducible apply Keeps.ite
    | with_reducible apply Keeps.foldl
    | intro _ _ _
    | intro _ _
    | split
    | (dsimp only)
    | ((with_reducible refine Keeps.upd ?_ ?_); rotate_left; focus (first | exact ⟨rfl, rfl, rfl, rfl, rfl, rfl, rfl, rfl, rfl, rfl, rfl, rfl, rfl⟩ | (simp +zetaDelta [modAt]; done)))

theorem State.radioPermanent_keeps {s0 s : State} (h : Keeps s0 s) : ∀ x1, Keeps s0 (State.radioPermanent s x1) := by
  intro x1
  unfold State.radioPermanent
  repeat' first
    | with_reducible assumption
    | with_reducible apply State.radMod_keeps
    | with_reducible apply State.xo80Follow_keeps
    | with_reducible apply State.radioStop_keeps
    | with_reducible apply State.radioRestart_keeps
    | with_reducible apply Keeps.ite
    | with_reducible apply Keeps.foldl
    | intro _ _ _
    | intro _ _
    | split
    | (dsimp only)
    | ((with_reducible refine Keeps.upd ?_ ?_); rotate_left; focus (first | exact ⟨rfl, rfl, rfl, rfl, rfl, rfl, rfl, rfl, rfl, rfl, rfl, rfl, rfl⟩ | (simp +zetaDelta [modAt]; done)))

theorem State.permanentEffect_keeps {s0 s : State} (h : Keeps s0 s) : ∀ x1 x2 x3, Keeps s0 (State.permanentEffect s x1 x2 x3).2 := by
  intro x1 x2 x3
  unfold State.permanentEffect
  repeat' first
    | with_reducible assumption
    | with_reducible apply State.linkSet_keeps
    | with_reducible apply State.portMod_keeps
    | with_reducible apply State.pcieReset_keeps
    | with_reducible apply State.radioPermanent_keeps
    | with_reducible apply State.funcShow_keeps
    | with_reducible apply State.put_keeps
    | with_reducible apply State.funcMod_keeps
    | with_reducible apply State.radioStop_keeps
    | with_reducible apply State.fenceChain_keeps
    | with_reducible apply Keeps.ite
    | with_reducible apply Keeps.foldl
    | intro _ _ _
    | intro _ _
    | (extract_lets +onlyGivenNames a; refine Keeps.cut a ?_ ?_; simp only [a]; rotate_left; intro ha; clear_value a)
    | extract_lets +onlyGivenNames a
    | split
    | (dsimp only)
    | ((with_reducible refine Keeps.upd ?_ ?_); rotate_left; focus (first | exact ⟨rfl, rfl, rfl, rfl, rfl, rfl, rfl, rfl, rfl, rfl, rfl, rfl, rfl⟩ | (simp +zetaDelta [modAt]; done)))

theorem State.permanentEffect_keeps_eq {s0 s : State} (h : Keeps s0 s) {x1 x2 x3 t a0} (e : (State.permanentEffect s x1 x2 x3) = (a0, t)) : Keeps s0 t := by
  have := State.permanentEffect_keeps h x1 x2 x3
  rw [e] at this
  exact this

theorem State.clusterDone_keeps {s0 s : State} (h : Keeps s0 s) : ∀ x1 x2 x3 x4, Keeps s0 (State.clusterDone s x1 x2 x3 x4) := by
  intro x1 x2 x3 x4
  unfold State.clusterDone
  repeat' first
    | with_reducible assumption
    | with_reducible apply State.faultDone_keeps
    | with_reducible apply State.faultUpdate_keeps
    | with_reducible apply State.permanentEffect_keeps
    | with_reducible refine State.permanentEffect_keeps_eq ?_ (by with_reducible assumption)
    | with_reducible apply Keeps.ite
    | with_reducible apply Keeps.foldl
    | intro _ _ _
    | intro _ _
    | split
    | (dsimp only)
    | ((with_reducible refine Keeps.upd ?_ ?_); rotate_left; focus (first | exact ⟨rfl, rfl, rfl, rfl, rfl, rfl, rfl, rfl, rfl, rfl, rfl, rfl, rfl⟩ | (simp +zetaDelta [modAt]; done)))

theorem State.laneFault_keeps {s0 s : State} (h : Keeps s0 s) : ∀ x1 x2, Keeps s0 (State.laneFault s x1 x2) := by
  intro x1 x2
  unfold State.laneFault
  repeat' first
    | with_reducible assumption
    | with_reducible apply State.put_keeps
    | with_reducible apply State.faultNow_keeps
    | with_reducible apply State.fenceChain_keeps
    | with_reducible apply Keeps.ite
    | with_reducible apply Keeps.foldl
    | intro _ _ _
    | intro _ _
    | split
    | (dsimp only)
    | ((with_reducible refine Keeps.upd ?_ ?_); rotate_left; focus (first | exact ⟨rfl, rfl, rfl, rfl, rfl, rfl, rfl, rfl, rfl, rfl, rfl, rfl, rfl⟩ | (simp +zetaDelta [modAt]; done)))

theorem State.monitor_keeps {s0 s : State} (h : Keeps s0 s) : ∀ x1 x2 x3 x4 x5, Keeps s0 (State.monitor s x1 x2 x3 x4 x5) := by
  intro x1 x2 x3 x4 x5
  unfold State.monitor
  repeat' first
    | with_reducible assumption
    | with_reducible apply Keeps.wr
    | with_reducible apply State.put_keeps
    | with_reducible apply Keeps.ite
    | with_reducible apply Keeps.foldl
    | intro _ _ _
    | intro _ _
    | split
    | (dsimp only)
    | ((with_reducible refine Keeps.upd ?_ ?_); rotate_left; focus (first | exact ⟨rfl, rfl, rfl, rfl, rfl, rfl, rfl, rfl, rfl, rfl, rfl, rfl, rfl⟩ | (simp +zetaDelta [modAt]; done)))

theorem State.trvMod_keeps {s0 s : State} (h : Keeps s0 s) : ∀ x1, Keeps s0 (State.trvMod s x1) := by
  intro x1
  unfold State.trvMod
  repeat' first
    | with_reducible assumption
    | with_reducible apply Keeps.ite
    | with_reducible apply Keeps.foldl
    | intro _ _ _
    | intro _ _
    | split
    | (dsimp only)
    | ((with_reducible refine Keeps.upd ?_ ?_); rotate_left; focus (first | exact ⟨rfl, rfl, rfl, rfl, rfl, rfl, rfl, rfl, rfl, rfl, rfl, rfl, rfl⟩ | (simp +zetaDelta [modAt]; done)))

theorem State.putMap_keeps {s0 s : State} (h : Keeps s0 s) : ∀ x1 x2, Keeps s0 (State.putMap s x1 x2) := by
  intro x1 x2
  unfold State.putMap
  repeat' first
    | with_reducible assumption
    | with_reducible apply State.put_keeps
    | with_reducible apply Keeps.wr
    | with_reducible apply Keeps.ite
    | with_reducible apply Keeps.foldl
    | intro _ _ _
    | intro _ _
    | split
    | (dsimp only)
    | ((with_reducible refine Keeps.upd ?_ ?_); rotate_left; focus (first | exact ⟨rfl, rfl, rfl, rfl, rfl, rfl, rfl, rfl, rfl, rfl, rfl, rfl, rfl⟩ | (simp +zetaDelta [modAt]; done)))

theorem State.skipUpdate_keeps {s0 s : State} (h : Keeps s0 s) : Keeps s0 (State.skipUpdate s) := by
  unfold State.skipUpdate
  repeat' first
    | with_reducible assumption
    | with_reducible apply State.trvMod_keeps
    | with_reducible apply Keeps.ite
    | with_reducible apply Keeps.foldl
    | intro _ _ _
    | intro _ _
    | split
    | (dsimp only)
    | ((with_reducible refine Keeps.upd ?_ ?_); rotate_left; focus (first | exact ⟨rfl, rfl, rfl, rfl, rfl, rfl, rfl, rfl, rfl, rfl, rfl, rfl, rfl⟩ | (simp +zetaDelta [modAt]; done)))

theorem State.dwellAdvance_keeps {s0 s : State} (h : Keeps s0 s) : Keeps s0 (State.dwellAdvance s) := by
  unfold State.dwellAdvance
  repeat' first
    | with_reducible assumption
    | with_reducible apply State.trvMod_keeps
    | with_reducible apply Keeps.ite
    | with_reducible apply Keeps.foldl
    | intro _ _ _
    | intro _ _
    | split
    | (dsimp only)
    | ((with_reducible refine Keeps.upd ?_ ?_); rotate_left; focus (first | exact ⟨rfl, rfl, rfl, rfl, rfl, rfl, rfl, rfl, rfl, rfl, rfl, rfl, rfl⟩ | (simp +zetaDelta [modAt]; done)))

theorem State.queueFrame_keeps {s0 s : State} (h : Keeps s0 s) : ∀ x1, Keeps s0 (State.queueFrame s x1) := by
  intro x1
  unfold State.queueFrame
  repeat' first
    | with_reducible assumption
    | with_reducible apply State.bump_keeps
    | with_reducible apply State.trvMod_keeps
    | with_reducible apply Keeps.ite
    | with_reducible apply Keeps.foldl
    | intro _ _ _
    | intro _ _
    | split
    | (dsimp only)
    | ((with_reducible refine Keeps.upd ?_ ?_); rotate_left; focus (first | exact ⟨rfl, rfl, rfl, rfl, rfl, rfl, rfl, rfl, rfl, rfl, rfl, rfl, rfl⟩ | (simp +zetaDelta [modAt]; done)))

theorem State.queueClear_keeps {s0 s : State} (h : Keeps s0 s) : Keeps s0 (State.queueClear s) := by
  unfold State.queueClear
  repeat' first
    | with_reducible assumption
    | with_reducible apply State.put_keeps
    | with_reducible apply State.trvMod_keeps
    | with_reducible apply Keeps.ite
    | with_reducible apply Keeps.foldl
    | intro _ _ _
    | intro _ _
    | split
    | (dsimp only)
    | ((with_reducible refine Keeps.upd ?_ ?_); rotate_left; focus (first | exact ⟨rfl, rfl, rfl, rfl, rfl, rfl, rfl, rfl, rfl, rfl, rfl, rfl, rfl⟩ | (simp +zetaDelta [modAt]; done)))

theorem State.sessionReady_keeps {s0 s : State} (h : Keeps s0 s) : ∀ {t}, State.sessionReady s = some t → Keeps s0 t := by
  intro t ho
  unfold State.sessionReady at ho
  split at ho
  · cases ho
    exact h
  · split at ho
    · cases ho
    · cases ho
      exact State.bump_keeps (State.drawSession_keeps h) _

theorem State.sendNow_keeps {s0 s : State} (h : Keeps s0 s) : ∀ x1, Keeps s0 (State.sendNow s x1).1 := by
  intro x1
  unfold State.sendNow
  repeat' first
    | with_reducible assumption
    | with_reducible apply State.trvMod_keeps
    | with_reducible apply State.bump_keeps
    | with_reducible apply Keeps.ite
    | with_reducible apply Keeps.foldl
    | intro _ _ _
    | intro _ _
    | split
    | (dsimp only)
    | ((with_reducible refine Keeps.upd ?_ ?_); rotate_left; focus (first | exact ⟨rfl, rfl, rfl, rfl, rfl, rfl, rfl, rfl, rfl, rfl, rfl, rfl, rfl⟩ | (simp +zetaDelta [modAt]; done)))

theorem State.sendNow_keeps_eq {s0 s : State} (h : Keeps s0 s) {x1 t a1 a2 a3} (e : (State.sendNow s x1) = (t, a1, a2, a3)) : Keeps s0 t := by
  have := State.sendNow_keeps h x1
  rw [e] at this
  exact this

end Sys2Proof.Machine
end

