-- ==== Sys2Proof/Laws/Keeps7.lean ====
section
/-! SUPPORT. What the operations of Convert, Phy, Traverse, Wakeup keep. -/

namespace Sys2Proof.Machine

theorem State.airReceive_keeps {s0 s : State} (h : Keeps s0 s) : ∀ x1 x2 x3 x4, Keeps s0 (State.airReceive s x1 x2 x3 x4) := by
  intro x1 x2 x3 x4
  unfold State.airReceive
  repeat' first
    | with_reducible assumption
    | with_reducible apply Keeps.ite
    | with_reducible apply Keeps.foldl
    | intro _ _ _
    | intro _ _
    | split
    | (dsimp only)
    | ((with_reducible refine Keeps.upd ?_ ?_); rotate_left; focus (first | exact ⟨rfl, rfl, rfl, rfl, rfl, rfl, rfl, rfl, rfl, rfl, rfl, rfl, rfl⟩ | (simp +zetaDelta [modAt]; done)))

theorem State.mgmtReceive_keeps {s0 s : State} (h : Keeps s0 s) : ∀ x1 x2 x3 x4 x5, Keeps s0 (State.mgmtReceive s x1 x2 x3 x4 x5) := by
  intro x1 x2 x3 x4 x5
  unfold State.mgmtReceive
  repeat' first
    | with_reducible assumption
    | with_reducible apply Keeps.ite
    | with_reducible apply Keeps.foldl
    | intro _ _ _
    | intro _ _
    | split
    | (dsimp only)
    | ((with_reducible refine Keeps.upd ?_ ?_); rotate_left; focus (first | exact ⟨rfl, rfl, rfl, rfl, rfl, rfl, rfl, rfl, rfl, rfl, rfl, rfl, rfl⟩ | (simp +zetaDelta [modAt]; done)))

theorem State.surveyTake_keeps {s0 s : State} (h : Keeps s0 s) : ∀ x1 x2 x3, Keeps s0 (State.surveyTake s x1 x2 x3) := by
  intro x1 x2 x3
  unfold State.surveyTake
  repeat' first
    | with_reducible assumption
    | with_reducible apply State.put_keeps
    | with_reducible apply Keeps.wr
    | with_reducible apply Keeps.ite
    | with_reducible apply Keeps.foldl
    | intro _ _ _
    | intro _ _
    | split
    | (dsimp only)
    | ((with_reducible refine Keeps.upd ?_ ?_); rotate_left; focus (first | exact ⟨rfl, rfl, rfl, rfl, rfl, rfl, rfl, rfl, rfl, rfl, rfl, rfl, rfl⟩ | (simp +zetaDelta [modAt]; done)))

theorem State.surveyAll_keeps {s0 s : State} (h : Keeps s0 s) : ∀ x1 x2 x3 x4, Keeps s0 (State.surveyAll s x1 x2 x3 x4) := by
  intro x1 x2 x3 x4
  unfold State.surveyAll
  repeat' first
    | with_reducible assumption
    | with_reducible apply State.surveyTake_keeps
    | with_reducible apply Keeps.ite
    | with_reducible apply Keeps.foldl
    | intro _ _ _
    | intro _ _
    | split
    | (dsimp only)
    | ((with_reducible refine Keeps.upd ?_ ?_); rotate_left; focus (first | exact ⟨rfl, rfl, rfl, rfl, rfl, rfl, rfl, rfl, rfl, rfl, rfl, rfl, rfl⟩ | (simp +zetaDelta [modAt]; done)))

theorem State.surveyWrite_keeps {s0 s : State} (h : Keeps s0 s) : ∀ x1 x2, Keeps s0 (State.surveyWrite s x1 x2) := by
  intro x1 x2
  unfold State.surveyWrite
  repeat' first
    | with_reducible assumption
    | with_reducible apply Keeps.wr
    | with_reducible apply Keeps.ite
    | with_reducible apply Keeps.foldl
    | intro _ _ _
    | intro _ _
    | split
    | (dsimp only)
    | ((with_reducible refine Keeps.upd ?_ ?_); rotate_left; focus (first | exact ⟨rfl, rfl, rfl, rfl, rfl, rfl, rfl, rfl, rfl, rfl, rfl, rfl, rfl⟩ | (simp +zetaDelta [modAt]; done)))

theorem State.rxStart_keeps {s0 s : State} (h : Keeps s0 s) : ∀ x1 x2 x3, Keeps s0 (State.rxStart s x1 x2 x3) := by
  intro x1 x2 x3
  unfold State.rxStart
  repeat' first
    | with_reducible assumption
    | with_reducible apply State.phMod_keeps
    | with_reducible apply Keeps.ite
    | with_reducible apply Keeps.foldl
    | intro _ _ _
    | intro _ _
    | split
    | (dsimp only)
    | ((with_reducible refine Keeps.upd ?_ ?_); rotate_left; focus (first | exact ⟨rfl, rfl, rfl, rfl, rfl, rfl, rfl, rfl, rfl, rfl, rfl, rfl, rfl⟩ | (simp +zetaDelta [modAt]; done)))

theorem State.detect_keeps {s0 s : State} (h : Keeps s0 s) : ∀ x1 x2, Keeps s0 (State.detect s x1 x2) := by
  intro x1 x2
  unfold State.detect
  repeat' first
    | with_reducible assumption
    | with_reducible apply State.rxStart_keeps
    | with_reducible apply State.bump_keeps
    | with_reducible apply State.phMod_keeps
    | with_reducible apply Keeps.ite
    | with_reducible apply Keeps.foldl
    | intro _ _ _
    | intro _ _
    | split
    | (dsimp only)
    | ((with_reducible refine Keeps.upd ?_ ?_); rotate_left; focus (first | exact ⟨rfl, rfl, rfl, rfl, rfl, rfl, rfl, rfl, rfl, rfl, rfl, rfl, rfl⟩ | (simp +zetaDelta [modAt]; done)))

theorem State.watch_keeps {s0 s : State} (h : Keeps s0 s) : ∀ x1 x2 x3, Keeps s0 (State.watch s x1 x2 x3) := by
  intro x1 x2 x3
  unfold State.watch
  repeat' first
    | with_reducible assumption
    | with_reducible apply State.bump_keeps
    | with_reducible apply State.rxStart_keeps
    | with_reducible apply Keeps.ite
    | with_reducible apply Keeps.foldl
    | intro _ _ _
    | intro _ _
    | split
    | (dsimp only)
    | ((with_reducible refine Keeps.upd ?_ ?_); rotate_left; focus (first | exact ⟨rfl, rfl, rfl, rfl, rfl, rfl, rfl, rfl, rfl, rfl, rfl, rfl, rfl⟩ | (simp +zetaDelta [modAt]; done)))

theorem State.rxChecked_keeps {s0 s : State} (h : Keeps s0 s) : ∀ x1 x2 x3, Keeps s0 (State.rxChecked s x1 x2 x3).2 := by
  intro x1 x2 x3
  unfold State.rxChecked
  repeat' first
    | with_reducible assumption
    | with_reducible apply State.bump_keeps
    | with_reducible apply State.setSlot_keeps
    | with_reducible apply Keeps.ite
    | with_reducible apply Keeps.foldl
    | intro _ _ _
    | intro _ _
    | split
    | (dsimp only)
    | ((with_reducible refine Keeps.upd ?_ ?_); rotate_left; focus (first | exact ⟨rfl, rfl, rfl, rfl, rfl, rfl, rfl, rfl, rfl, rfl, rfl, rfl, rfl⟩ | (simp +zetaDelta [modAt]; done)))

theorem State.rxChecked_keeps_eq {s0 s : State} (h : Keeps s0 s) {x1 x2 x3 t a0} (e : (State.rxChecked s x1 x2 x3) = (a0, t)) : Keeps s0 t := by
  have := State.rxChecked_keeps h x1 x2 x3
  rw [e] at this
  exact this

theorem State.boardTake_keeps {s0 s : State} (h : Keeps s0 s) : ∀ x1 x2, Keeps s0 (State.boardTake s x1 x2).2 := by
  intro x1 x2
  unfold State.boardTake
  repeat' first
    | with_reducible assumption
    | with_reducible apply Keeps.ite
    | with_reducible apply Keeps.foldl
    | intro _ _ _
    | intro _ _
    | split
    | (dsimp only)
    | ((with_reducible refine Keeps.upd ?_ ?_); rotate_left; focus (first | exact ⟨rfl, rfl, rfl, rfl, rfl, rfl, rfl, rfl, rfl, rfl, rfl, rfl, rfl⟩ | (simp +zetaDelta [modAt]; done)))

theorem State.boardTake_keeps_eq {s0 s : State} (h : Keeps s0 s) {x1 x2 t a0} (e : (State.boardTake s x1 x2) = (a0, t)) : Keeps s0 t := by
  have := State.boardTake_keeps h x1 x2
  rw [e] at this
  exact this

theorem State.rxMpdu_keeps {s0 s : State} (h : Keeps s0 s) : ∀ x1 x2 x3, Keeps s0 (State.rxMpdu s x1 x2 x3) := by
  intro x1 x2 x3
  unfold State.rxMpdu
  repeat' first
    | with_reducible assumption
    | with_reducible apply State.bump_keeps
    | with_reducible apply State.mgmtReceive_keeps
    | with_reducible apply State.boardTake_keeps
    | with_reducible apply State.rxChecked_keeps
    | with_reducible apply State.airReceive_keeps
    | with_reducible refine State.boardTake_keeps_eq ?_ (by with_reducible assumption)
    | with_reducible refine State.rxChecked_keeps_eq ?_ (by with_reducible assumption)
    | with_reducible apply Keeps.ite
    | with_reducible apply Keeps.foldl
    | intro _ _ _
    | intro _ _
    | split
    | (dsimp only)
    | ((with_reducible refine Keeps.upd ?_ ?_); rotate_left; focus (first | exact ⟨rfl, rfl, rfl, rfl, rfl, rfl, rfl, rfl, rfl, rfl, rfl, rfl, rfl⟩ | (simp +zetaDelta [modAt]; done)))

theorem State.snrTake_keeps {s0 s : State} (h : Keeps s0 s) : ∀ x1 x2 x3, Keeps s0 (State.snrTake s x1 x2 x3) := by
  intro x1 x2 x3
  unfold State.snrTake
  repeat' first
    | with_reducible assumption
    | with_reducible apply State.linkMod_keeps
    | with_reducible apply Keeps.ite
    | with_reducible apply Keeps.foldl
    | intro _ _ _
    | intro _ _
    | split
    | (dsimp only)
    | ((with_reducible refine Keeps.upd ?_ ?_); rotate_left; focus (first | exact ⟨rfl, rfl, rfl, rfl, rfl, rfl, rfl, rfl, rfl, rfl, rfl, rfl, rfl⟩ | (simp +zetaDelta [modAt]; done)))

theorem State.measured_keeps {s0 s : State} (h : Keeps s0 s) : ∀ x1 x2, Keeps s0 (State.measured s x1 x2) := by
  intro x1 x2
  unfold State.measured
  repeat' first
    | with_reducible assumption
    | with_reducible apply State.surveyAll_keeps
    | with_reducible apply State.snrTake_keeps
    | with_reducible apply Keeps.ite
    | with_reducible apply Keeps.foldl
    | intro _ _ _
    | intro _ _
    | split
    | (dsimp only)
    | ((with_reducible refine Keeps.upd ?_ ?_); rotate_left; focus (first | exact ⟨rfl, rfl, rfl, rfl, rfl, rfl, rfl, rfl, rfl, rfl, rfl, rfl, rfl⟩ | (simp +zetaDelta [modAt]; done)))

theorem State.defers_keeps {s0 s : State} (h : Keeps s0 s) : ∀ x1 x2, Keeps s0 (State.defers s x1 x2) := by
  intro x1 x2
  unfold State.defers
  repeat' first
    | with_reducible assumption
    | with_reducible apply State.phMod_keeps
    | with_reducible apply Keeps.ite
    | with_reducible apply Keeps.foldl
    | intro _ _ _
    | intro _ _
    | split
    | (dsimp only)
    | ((with_reducible refine Keeps.upd ?_ ?_); rotate_left; focus (first | exact ⟨rfl, rfl, rfl, rfl, rfl, rfl, rfl, rfl, rfl, rfl, rfl, rfl, rfl⟩ | (simp +zetaDelta [modAt]; done)))

theorem State.stippleSend_keeps {s0 s : State} (h : Keeps s0 s) : ∀ x1 x2 x3 x4 x5, Keeps s0 (State.stippleSend s x1 x2 x3 x4 x5) := by
  intro x1 x2 x3 x4 x5
  unfold State.stippleSend
  repeat' first
    | with_reducible assumption
    | with_reducible apply Keeps.ite
    | with_reducible apply Keeps.foldl
    | intro _ _ _
    | intro _ _
    | split
    | (dsimp only)
    | ((with_reducible refine Keeps.upd ?_ ?_); rotate_left; focus (first | exact ⟨rfl, rfl, rfl, rfl, rfl, rfl, rfl, rfl, rfl, rfl, rfl, rfl, rfl⟩ | (simp +zetaDelta [modAt]; done)))

theorem State.stippleAck_keeps {s0 s : State} (h : Keeps s0 s) : ∀ x1 x2 x3, Keeps s0 (State.stippleAck s x1 x2 x3) := by
  intro x1 x2 x3
  unfold State.stippleAck
  repeat' first
    | with_reducible assumption
    | with_reducible apply State.stippleSend_keeps
    | with_reducible refine State.frameStart_keeps ?_ (by with_reducible assumption)
    | with_reducible apply Keeps.ite
    | with_reducible apply Keeps.foldl
    | intro _ _ _
    | intro _ _
    | split
    | (dsimp only)
    | ((with_reducible refine Keeps.upd ?_ ?_); rotate_left; focus (first | exact ⟨rfl, rfl, rfl, rfl, rfl, rfl, rfl, rfl, rfl, rfl, rfl, rfl, rfl⟩ | (simp +zetaDelta [modAt]; done)))

theorem State.stippleRx_keeps {s0 s : State} (h : Keeps s0 s) : ∀ x1 x2 x3 x4 x5 x6, Keeps s0 (State.stippleRx s x1 x2 x3 x4 x5 x6) := by
  intro x1 x2 x3 x4 x5 x6
  unfold State.stippleRx
  repeat' first
    | with_reducible assumption
    | with_reducible apply State.measured_keeps
    | with_reducible apply State.defers_keeps
    | with_reducible apply State.count_keeps
    | with_reducible apply State.bump_keeps
    | with_reducible apply State.linkMod_keeps
    | with_reducible apply State.put_keeps
    | with_reducible apply State.stippleAck_keeps
    | with_reducible apply Keeps.ite
    | with_reducible apply Keeps.foldl
    | intro _ _ _
    | intro _ _
    | split
    | (dsimp only)
    | ((with_reducible refine Keeps.upd ?_ ?_); rotate_left; focus (first | exact ⟨rfl, rfl, rfl, rfl, rfl, rfl, rfl, rfl, rfl, rfl, rfl, rfl, rfl⟩ | (simp +zetaDelta [modAt]; done)))

theorem State.rxUnsupported_keeps {s0 s : State} (h : Keeps s0 s) : ∀ x1 x2, Keeps s0 (State.rxUnsupported s x1 x2) := by
  intro x1 x2
  unfold State.rxUnsupported
  repeat' first
    | with_reducible assumption
    | with_reducible apply State.defers_keeps
    | with_reducible apply State.bump_keeps
    | with_reducible apply Keeps.ite
    | with_reducible apply Keeps.foldl
    | intro _ _ _
    | intro _ _
    | split
    | (dsimp only)
    | ((with_reducible refine Keeps.upd ?_ ?_); rotate_left; focus (first | exact ⟨rfl, rfl, rfl, rfl, rfl, rfl, rfl, rfl, rfl, rfl, rfl, rfl, rfl⟩ | (simp +zetaDelta [modAt]; done)))

theorem State.rxEnd_keeps {s0 s : State} (h : Keeps s0 s) : ∀ x1 x2, Keeps s0 (State.rxEnd s x1 x2) := by
  intro x1 x2
  unfold State.rxEnd
  repeat' first
    | with_reducible assumption
    | with_reducible apply State.phMod_keeps
    | with_reducible apply State.rxUnsupported_keeps
    | with_reducible apply State.bump_keeps
    | with_reducible apply State.defers_keeps
    | with_reducible apply State.count_keeps
    | with_reducible apply State.put_keeps
    | with_reducible apply State.ulReport_keeps
    | with_reducible apply State.rxMpdu_keeps
    | with_reducible apply State.measured_keeps
    | with_reducible apply State.stippleRx_keeps
    | with_reducible apply Keeps.ite
    | with_reducible apply Keeps.foldl
    | intro _ _ _
    | intro _ _
    | split
    | (dsimp only)
    | ((with_reducible refine Keeps.upd ?_ ?_); rotate_left; focus (first | exact ⟨rfl, rfl, rfl, rfl, rfl, rfl, rfl, rfl, rfl, rfl, rfl, rfl, rfl⟩ | (simp +zetaDelta [modAt]; done)))

theorem State.recompute_keeps {s0 s : State} (h : Keeps s0 s) : ∀ x1 x2, Keeps s0 (State.recompute s x1 x2) := by
  intro x1 x2
  unfold State.recompute
  repeat' first
    | with_reducible assumption
    | with_reducible apply State.linkMod_keeps
    | with_reducible apply Keeps.ite
    | with_reducible apply Keeps.foldl
    | intro _ _ _
    | intro _ _
    | split
    | (dsimp only)
    | ((with_reducible refine Keeps.upd ?_ ?_); rotate_left; focus (first | exact ⟨rfl, rfl, rfl, rfl, rfl, rfl, rfl, rfl, rfl, rfl, rfl, rfl, rfl⟩ | (simp +zetaDelta [modAt]; done)))

theorem State.mapOffer_keeps {s0 s : State} (h : Keeps s0 s) : ∀ x1 x2 x3 x4, Keeps s0 (State.mapOffer s x1 x2 x3 x4) := by
  intro x1 x2 x3 x4
  unfold State.mapOffer
  repeat' first
    | with_reducible assumption
    | with_reducible apply State.put_keeps
    | with_reducible apply State.linkMod_keeps
    | with_reducible apply State.queueFrame_keeps
    | with_reducible apply Keeps.ite
    | with_reducible apply Keeps.foldl
    | intro _ _ _
    | intro _ _
    | split
    | (dsimp only)
    | ((with_reducible refine Keeps.upd ?_ ?_); rotate_left; focus (first | exact ⟨rfl, rfl, rfl, rfl, rfl, rfl, rfl, rfl, rfl, rfl, rfl, rfl, rfl⟩ | (simp +zetaDelta [modAt]; done)))

theorem State.mapSelWrite_keeps {s0 s : State} (h : Keeps s0 s) : ∀ x1 x2, Keeps s0 (State.mapSelWrite s x1 x2) := by
  intro x1 x2
  unfold State.mapSelWrite
  repeat' first
    | with_reducible assumption
    | with_reducible apply Keeps.wr
    | with_reducible apply State.recompute_keeps
    | with_reducible apply State.mapOffer_keeps
    | with_reducible apply Keeps.ite
    | with_reducible apply Keeps.foldl
    | intro _ _ _
    | intro _ _
    | split
    | (dsimp only)
    | ((with_reducible refine Keeps.upd ?_ ?_); rotate_left; focus (first | exact ⟨rfl, rfl, rfl, rfl, rfl, rfl, rfl, rfl, rfl, rfl, rfl, rfl, rfl⟩ | (simp +zetaDelta [modAt]; done)))

theorem State.acceptTimeout_keeps {s0 s : State} (h : Keeps s0 s) : ∀ x1 x2, Keeps s0 (State.acceptTimeout s x1 x2) := by
  intro x1 x2
  unfold State.acceptTimeout
  repeat' first
    | with_reducible assumption
    | with_reducible apply State.put_keeps
    | with_reducible apply State.linkMod_keeps
    | with_reducible apply State.mapOffer_keeps
    | with_reducible apply State.bump_keeps
    | with_reducible apply Keeps.ite
    | with_reducible apply Keeps.foldl
    | intro _ _ _
    | intro _ _
    | split
    | (dsimp only)
    | ((with_reducible refine Keeps.upd ?_ ?_); rotate_left; focus (first | exact ⟨rfl, rfl, rfl, rfl, rfl, rfl, rfl, rfl, rfl, rfl, rfl, rfl, rfl⟩ | (simp +zetaDelta [modAt]; done)))

theorem State.activateRx_keeps {s0 s : State} (h : Keeps s0 s) : ∀ x1 x2 x3, Keeps s0 (State.activateRx s x1 x2 x3) := by
  intro x1 x2 x3
  unfold State.activateRx
  repeat' first
    | with_reducible assumption
    | with_reducible apply State.linkMod_keeps
    | with_reducible apply State.put_keeps
    | with_reducible apply Keeps.ite
    | with_reducible apply Keeps.foldl
    | intro _ _ _
    | intro _ _
    | split
    | (dsimp only)
    | ((with_reducible refine Keeps.upd ?_ ?_); rotate_left; focus (first | exact ⟨rfl, rfl, rfl, rfl, rfl, rfl, rfl, rfl, rfl, rfl, rfl, rfl, rfl⟩ | (simp +zetaDelta [modAt]; done)))

theorem State.activateTx_keeps {s0 s : State} (h : Keeps s0 s) : ∀ x1 x2 x3, Keeps s0 (State.activateTx s x1 x2 x3) := by
  intro x1 x2 x3
  unfold State.activateTx
  repeat' first
    | with_reducible assumption
    | with_reducible apply State.linkMod_keeps
    | with_reducible apply State.put_keeps
    | with_reducible apply Keeps.ite
    | with_reducible apply Keeps.foldl
    | intro _ _ _
    | intro _ _
    | split
    | (dsimp only)
    | ((with_reducible refine Keeps.upd ?_ ?_); rotate_left; focus (first | exact ⟨rfl, rfl, rfl, rfl, rfl, rfl, rfl, rfl, rfl, rfl, rfl, rfl, rfl⟩ | (simp +zetaDelta [modAt]; done)))

theorem State.soundAgain_keeps {s0 s : State} (h : Keeps s0 s) : ∀ x1 x2, Keeps s0 (State.soundAgain s x1 x2) := by
  intro x1 x2
  unfold State.soundAgain
  repeat' first
    | with_reducible assumption
    | with_reducible apply State.linkMod_keeps
    | with_reducible apply Keeps.ite
    | with_reducible apply Keeps.foldl
    | intro _ _ _
    | intro _ _
    | split
    | (dsimp only)
    | ((with_reducible refine Keeps.upd ?_ ?_); rotate_left; focus (first | exact ⟨rfl, rfl, rfl, rfl, rfl, rfl, rfl, rfl, rfl, rfl, rfl, rfl, rfl⟩ | (simp +zetaDelta [modAt]; done)))

theorem State.soundFirst_keeps {s0 s : State} (h : Keeps s0 s) : ∀ x1 x2, Keeps s0 (State.soundFirst s x1 x2) := by
  intro x1 x2
  unfold State.soundFirst
  repeat' first
    | with_reducible assumption
    | with_reducible apply State.linkMod_keeps
    | with_reducible apply Keeps.ite
    | with_reducible apply Keeps.foldl
    | intro _ _ _
    | intro _ _
    | split
    | (dsimp only)
    | ((with_reducible refine Keeps.upd ?_ ?_); rotate_left; focus (first | exact ⟨rfl, rfl, rfl, rfl, rfl, rfl, rfl, rfl, rfl, rfl, rfl, rfl, rfl⟩ | (simp +zetaDelta [modAt]; done)))

theorem State.spanStart_keeps {s0 s : State} (h : Keeps s0 s) : ∀ x1, Keeps s0 (State.spanStart s x1) := by
  intro x1
  unfold State.spanStart
  repeat' first
    | with_reducible assumption
    | with_reducible apply State.linkStale_keeps
    | with_reducible apply State.activateTx_keeps
    | with_reducible apply State.activateRx_keeps
    | with_reducible apply State.fineAdjust_keeps
    | with_reducible apply State.soundAgain_keeps
    | with_reducible apply Keeps.ite
    | with_reducible apply Keeps.foldl
    | intro _ _ _
    | intro _ _
    | split
    | (dsimp only)
    | ((with_reducible refine Keeps.upd ?_ ?_); rotate_left; focus (first | exact ⟨rfl, rfl, rfl, rfl, rfl, rfl, rfl, rfl, rfl, rfl, rfl, rfl, rfl⟩ | (simp +zetaDelta [modAt]; done)))

theorem State.sendOnMap_keeps {s0 s : State} (h : Keeps s0 s) : ∀ x1 x2 x3 x4 x5, Keeps s0 (State.sendOnMap s x1 x2 x3 x4 x5) := by
  intro x1 x2 x3 x4 x5
  unfold State.sendOnMap
  repeat' first
    | with_reducible assumption
    | with_reducible apply State.put_keeps
    | with_reducible apply State.stippleSend_keeps
    | with_reducible apply Keeps.ite
    | with_reducible apply Keeps.foldl
    | intro _ _ _
    | intro _ _
    | split
    | (dsimp only)
    | ((with_reducible refine Keeps.upd ?_ ?_); rotate_left; focus (first | exact ⟨rfl, rfl, rfl, rfl, rfl, rfl, rfl, rfl, rfl, rfl, rfl, rfl, rfl⟩ | (simp +zetaDelta [modAt]; done)))

theorem State.sendFallback_keeps {s0 s : State} (h : Keeps s0 s) : ∀ x1 x2 x3 x4, Keeps s0 (State.sendFallback s x1 x2 x3 x4) := by
  intro x1 x2 x3 x4
  unfold State.sendFallback
  repeat' first
    | with_reducible assumption
    | with_reducible apply State.staUsing_keeps
    | with_reducible apply State.bump_keeps
    | with_reducible apply State.put_keeps
    | with_reducible apply Keeps.ite
    | with_reducible apply Keeps.foldl
    | intro _ _ _
    | intro _ _
    | split
    | (dsimp only)
    | ((with_reducible refine Keeps.upd ?_ ?_); rotate_left; focus (first | exact ⟨rfl, rfl, rfl, rfl, rfl, rfl, rfl, rfl, rfl, rfl, rfl, rfl, rfl⟩ | (simp +zetaDelta [modAt]; done)))

theorem State.stippleData_keeps {s0 s : State} (h : Keeps s0 s) : ∀ x1 x2 x3 x4 x5 x6, Keeps s0 (State.stippleData s x1 x2 x3 x4 x5 x6) := by
  intro x1 x2 x3 x4 x5 x6
  unfold State.stippleData
  repeat' first
    | with_reducible assumption
    | with_reducible apply State.keyed_keeps
    | with_reducible apply State.soundFirst_keeps
    | with_reducible apply State.retryCharge_keeps
    | with_reducible apply State.sendOnMap_keeps
    | with_reducible apply State.sendFallback_keeps
    | with_reducible apply State.mpduSent_keeps
    | with_reducible refine State.exchange_keeps ?_ (by with_reducible assumption)
    | with_reducible refine State.keyed_keeps_eq ?_ (by with_reducible assumption)
    | with_reducible apply Keeps.ite
    | with_reducible apply Keeps.foldl
    | intro _ _ _
    | intro _ _
    | split
    | (dsimp only)
    | ((with_reducible refine Keeps.upd ?_ ?_); rotate_left; focus (first | exact ⟨rfl, rfl, rfl, rfl, rfl, rfl, rfl, rfl, rfl, rfl, rfl, rfl, rfl⟩ | (simp +zetaDelta [modAt]; done)))

theorem State.contourTake_keeps {s0 s : State} (h : Keeps s0 s) : ∀ x1 x2 x3, Keeps s0 (State.contourTake s x1 x2 x3) := by
  intro x1 x2 x3
  unfold State.contourTake
  repeat' first
    | with_reducible assumption
    | with_reducible apply State.phMod_keeps
    | with_reducible apply Keeps.ite
    | with_reducible apply Keeps.foldl
    | intro _ _ _
    | intro _ _
    | split
    | (dsimp only)
    | ((with_reducible refine Keeps.upd ?_ ?_); rotate_left; focus (first | exact ⟨rfl, rfl, rfl, rfl, rfl, rfl, rfl, rfl, rfl, rfl, rfl, rfl, rfl⟩ | (simp +zetaDelta [modAt]; done)))

theorem State.radioWindow_keeps {s0 s : State} (h : Keeps s0 s) : ∀ x1 x2 x3, Keeps s0 (State.radioWindow s x1 x2 x3) := by
  intro x1 x2 x3
  unfold State.radioWindow
  repeat' first
    | with_reducible assumption
    | with_reducible apply State.contourTake_keeps
    | with_reducible apply Keeps.ite
    | with_reducible apply Keeps.foldl
    | intro _ _ _
    | intro _ _
    | split
    | (dsimp only)
    | ((with_reducible refine Keeps.upd ?_ ?_); rotate_left; focus (first | exact ⟨rfl, rfl, rfl, rfl, rfl, rfl, rfl, rfl, rfl, rfl, rfl, rfl, rfl⟩ | (simp +zetaDelta [modAt]; done)))

theorem State.trvWindow_keeps {s0 s : State} (h : Keeps s0 s) : ∀ x1, Keeps s0 (State.trvWindow s x1) := by
  intro x1
  unfold State.trvWindow
  repeat' first
    | with_reducible assumption
    | with_reducible apply State.trvMod_keeps
    | with_reducible apply State.skipUpdate_keeps
    | with_reducible apply Keeps.ite
    | with_reducible apply Keeps.foldl
    | intro _ _ _
    | intro _ _
    | split
    | (dsimp only)
    | ((with_reducible refine Keeps.upd ?_ ?_); rotate_left; focus (first | exact ⟨rfl, rfl, rfl, rfl, rfl, rfl, rfl, rfl, rfl, rfl, rfl, rfl, rfl⟩ | (simp +zetaDelta [modAt]; done)))

theorem State.measWrite_keeps {s0 s : State} (h : Keeps s0 s) : ∀ x1 x2, Keeps s0 (State.measWrite s x1 x2) := by
  intro x1 x2
  unfold State.measWrite
  repeat' first
    | with_reducible assumption
    | with_reducible apply State.put_keeps
    | with_reducible apply State.phMod_keeps
    | with_reducible apply Keeps.ite
    | with_reducible apply Keeps.foldl
    | intro _ _ _
    | intro _ _
    | split
    | (dsimp only)
    | ((with_reducible refine Keeps.upd ?_ ?_); rotate_left; focus (first | exact ⟨rfl, rfl, rfl, rfl, rfl, rfl, rfl, rfl, rfl, rfl, rfl, rfl, rfl⟩ | (simp +zetaDelta [modAt]; done)))

theorem State.measRun_keeps {s0 s : State} (h : Keeps s0 s) : ∀ x1 x2, Keeps s0 (State.measRun s x1 x2) := by
  intro x1 x2
  unfold State.measRun
  repeat' first
    | with_reducible assumption
    | with_reducible apply State.rxAbort_keeps
    | with_reducible apply State.contourTake_keeps
    | with_reducible apply State.takeResult_keeps
    | with_reducible apply State.put_keeps
    | with_reducible apply State.phMod_keeps
    | with_reducible apply Keeps.ite
    | with_reducible apply Keeps.foldl
    | intro _ _ _
    | intro _ _
    | split
    | (dsimp only)
    | ((with_reducible refine Keeps.upd ?_ ?_); rotate_left; focus (first | exact ⟨rfl, rfl, rfl, rfl, rfl, rfl, rfl, rfl, rfl, rfl, rfl, rfl, rfl⟩ | (simp +zetaDelta [modAt]; done)))

theorem State.loSwitch_keeps {s0 s : State} (h : Keeps s0 s) : Keeps s0 (State.loSwitch s) := by
  unfold State.loSwitch
  repeat' first
    | with_reducible assumption
    | with_reducible apply State.faultDone_keeps
    | with_reducible apply State.put_keeps
    | with_reducible apply State.bandSearches_keeps
    | with_reducible apply State.bump_keeps
    | with_reducible apply Keeps.ite
    | with_reducible apply Keeps.foldl
    | intro _ _ _
    | intro _ _
    | split
    | (dsimp only)
    | ((with_reducible refine Keeps.upd ?_ ?_); rotate_left; focus (first | exact ⟨rfl, rfl, rfl, rfl, rfl, rfl, rfl, rfl, rfl, rfl, rfl, rfl, rfl⟩ | (simp +zetaDelta [modAt]; done)))

theorem State.mapSwitch_keeps {s0 s : State} (h : Keeps s0 s) : Keeps s0 (State.mapSwitch s) := by
  unfold State.mapSwitch
  repeat' first
    | with_reducible assumption
    | with_reducible apply State.put_keeps
    | with_reducible apply State.trvMod_keeps
    | with_reducible apply State.putMap_keeps
    | with_reducible apply Keeps.ite
    | with_reducible apply Keeps.foldl
    | intro _ _ _
    | intro _ _
    | split
    | (dsimp only)
    | ((with_reducible refine Keeps.upd ?_ ?_); rotate_left; focus (first | exact ⟨rfl, rfl, rfl, rfl, rfl, rfl, rfl, rfl, rfl, rfl, rfl, rfl, rfl⟩ | (simp +zetaDelta [modAt]; done)))

theorem State.goOut_keeps {s0 s : State} (h : Keeps s0 s) : Keeps s0 (State.goOut s) := by
  unfold State.goOut
  repeat' first
    | with_reducible assumption
    | with_reducible apply State.put_keeps
    | with_reducible apply State.trvMod_keeps
    | with_reducible apply State.queueClear_keeps
    | with_reducible apply Keeps.ite
    | with_reducible apply Keeps.foldl
    | intro _ _ _
    | intro _ _
    | split
    | (dsimp only)
    | ((with_reducible refine Keeps.upd ?_ ?_); rotate_left; focus (first | exact ⟨rfl, rfl, rfl, rfl, rfl, rfl, rfl, rfl, rfl, rfl, rfl, rfl, rfl⟩ | (simp +zetaDelta [modAt]; done)))

theorem State.exchSlot_keeps {s0 s : State} (h : Keeps s0 s) : Keeps s0 (State.exchSlot s) := by
  unfold State.exchSlot
  repeat' first
    | with_reducible assumption
    | with_reducible apply State.trvMod_keeps
    | with_reducible apply Keeps.ite
    | with_reducible apply Keeps.foldl
    | intro _ _ _
    | intro _ _
    | split
    | (dsimp only)
    | ((with_reducible refine Keeps.upd ?_ ?_); rotate_left; focus (first | exact ⟨rfl, rfl, rfl, rfl, rfl, rfl, rfl, rfl, rfl, rfl, rfl, rfl, rfl⟩ | (simp +zetaDelta [modAt]; done)))

theorem State.joinFrames_keeps {s0 s : State} (h : Keeps s0 s) : Keeps s0 (State.joinFrames s) := by
  unfold State.joinFrames
  repeat' first
    | with_reducible assumption
    | with_reducible apply State.goOut_keeps
    | with_reducible apply State.queueFrame_keeps
    | with_reducible apply State.trvMod_keeps
    | with_reducible apply Keeps.ite
    | with_reducible apply Keeps.foldl
    | intro _ _ _
    | intro _ _
    | split
    | (dsimp only)
    | ((with_reducible refine Keeps.upd ?_ ?_); rotate_left; focus (first | exact ⟨rfl, rfl, rfl, rfl, rfl, rfl, rfl, rfl, rfl, rfl, rfl, rfl, rfl⟩ | (simp +zetaDelta [modAt]; done)))

theorem State.leaveDue_keeps {s0 s : State} (h : Keeps s0 s) : Keeps s0 (State.leaveDue s) := by
  unfold State.leaveDue
  repeat' first
    | with_reducible assumption
    | with_reducible apply State.goOut_keeps
    | with_reducible apply Keeps.ite
    | with_reducible apply Keeps.foldl
    | intro _ _ _
    | intro _ _
    | split
    | (dsimp only)
    | ((with_reducible refine Keeps.upd ?_ ?_); rotate_left; focus (first | exact ⟨rfl, rfl, rfl, rfl, rfl, rfl, rfl, rfl, rfl, rfl, rfl, rfl, rfl⟩ | (simp +zetaDelta [modAt]; done)))

theorem State.exchEpoch_keeps {s0 s : State} (h : Keeps s0 s) : Keeps s0 (State.exchEpoch s) := by
  unfold State.exchEpoch
  repeat' first
    | with_reducible assumption
    | with_reducible apply State.trvMod_keeps
    | with_reducible apply Keeps.ite
    | with_reducible apply Keeps.foldl
    | intro _ _ _
    | intro _ _
    | split
    | (dsimp only)
    | ((with_reducible refine Keeps.upd ?_ ?_); rotate_left; focus (first | exact ⟨rfl, rfl, rfl, rfl, rfl, rfl, rfl, rfl, rfl, rfl, rfl, rfl, rfl⟩ | (simp +zetaDelta [modAt]; done)))

theorem State.trvSlotStart_keeps {s0 s : State} (h : Keeps s0 s) : Keeps s0 (State.trvSlotStart s) := by
  unfold State.trvSlotStart
  repeat' first
    | with_reducible assumption
    | with_reducible apply State.loSwitch_keeps
    | with_reducible apply State.relock_keeps
    | with_reducible apply State.trvMod_keeps
    | with_reducible apply State.skipUpdate_keeps
    | with_reducible apply State.dwellAdvance_keeps
    | with_reducible apply State.mapSwitch_keeps
    | with_reducible apply State.exchEpoch_keeps
    | with_reducible apply State.put_keeps
    | with_reducible apply State.exchSlot_keeps
    | with_reducible apply State.releaseHeld_keeps
    | with_reducible apply State.xo80Follow_keeps
    | with_reducible apply State.captureAll_keeps
    | with_reducible apply State.joinFrames_keeps
    | with_reducible apply Keeps.ite
    | with_reducible apply Keeps.foldl
    | intro _ _ _
    | intro _ _
    | split
    | (dsimp only)
    | ((with_reducible refine Keeps.upd ?_ ?_); rotate_left; focus (first | exact ⟨rfl, rfl, rfl, rfl, rfl, rfl, rfl, rfl, rfl, rfl, rfl, rfl, rfl⟩ | (simp +zetaDelta [modAt]; done)))

theorem State.noteHeld_keeps {s0 s : State} (h : Keeps s0 s) : ∀ x1, Keeps s0 (State.noteHeld s x1) := by
  intro x1
  unfold State.noteHeld
  repeat' first
    | with_reducible assumption
    | with_reducible apply State.trvMod_keeps
    | with_reducible apply State.bump_keeps
    | with_reducible apply Keeps.ite
    | with_reducible apply Keeps.foldl
    | intro _ _ _
    | intro _ _
    | split
    | (dsimp only)
    | ((with_reducible refine Keeps.upd ?_ ?_); rotate_left; focus (first | exact ⟨rfl, rfl, rfl, rfl, rfl, rfl, rfl, rfl, rfl, rfl, rfl, rfl, rfl⟩ | (simp +zetaDelta [modAt]; done)))

theorem State.afterSend_keeps {s0 s : State} (h : Keeps s0 s) : ∀ x1 x2, Keeps s0 (State.afterSend s x1 x2) := by
  intro x1 x2
  unfold State.afterSend
  repeat' first
    | with_reducible assumption
    | with_reducible apply State.trvMod_keeps
    | with_reducible apply State.goOut_keeps
    | with_reducible apply State.put_keeps
    | with_reducible apply Keeps.ite
    | with_reducible apply Keeps.foldl
    | intro _ _ _
    | intro _ _
    | split
    | (dsimp only)
    | ((with_reducible refine Keeps.upd ?_ ?_); rotate_left; focus (first | exact ⟨rfl, rfl, rfl, rfl, rfl, rfl, rfl, rfl, rfl, rfl, rfl, rfl, rfl⟩ | (simp +zetaDelta [modAt]; done)))

theorem State.senseDraw_keeps {s0 s : State} (h : Keeps s0 s) : Keeps s0 (State.senseDraw s).2 := by
  unfold State.senseDraw
  repeat' first
    | with_reducible assumption
    | with_reducible apply State.freeN_keeps
    | with_reducible apply State.trvMod_keeps
    | with_reducible refine State.freeN_keeps_eq ?_ (by with_reducible assumption)
    | with_reducible apply Keeps.ite
    | with_reducible apply Keeps.foldl
    | intro _ _ _
    | intro _ _
    | split
    | (dsimp only)
    | ((with_reducible refine Keeps.upd ?_ ?_); rotate_left; focus (first | exact ⟨rfl, rfl, rfl, rfl, rfl, rfl, rfl, rfl, rfl, rfl, rfl, rfl, rfl⟩ | (simp +zetaDelta [modAt]; done)))

theorem State.senseDraw_keeps_eq {s0 s : State} (h : Keeps s0 s) { t a0} (e : (State.senseDraw s) = (a0, t)) : Keeps s0 t := by
  have := State.senseDraw_keeps h 
  rw [e] at this
  exact this

theorem State.sendGo_keeps {s0 s : State} (h : Keeps s0 s) : ∀ x1, Keeps s0 (State.sendGo s x1) := by
  intro x1
  unfold State.sendGo
  repeat' first
    | with_reducible assumption
    | with_reducible apply State.trvMod_keeps
    | with_reducible apply State.sendNow_keeps
    | with_reducible apply State.afterSend_keeps
    | with_reducible refine State.sessionReady_keeps ?_ (by with_reducible assumption)
    | with_reducible refine State.sendNow_keeps_eq ?_ (by with_reducible assumption)
    | with_reducible apply Keeps.ite
    | with_reducible apply Keeps.foldl
    | intro _ _ _
    | intro _ _
    | split
    | (dsimp only)
    | ((with_reducible refine Keeps.upd ?_ ?_); rotate_left; focus (first | exact ⟨rfl, rfl, rfl, rfl, rfl, rfl, rfl, rfl, rfl, rfl, rfl, rfl, rfl⟩ | (simp +zetaDelta [modAt]; done)))

theorem State.sendNext_keeps {s0 s : State} (h : Keeps s0 s) : Keeps s0 (State.sendNext s) := by
  unfold State.sendNext
  repeat' first
    | with_reducible assumption
    | with_reducible apply State.noteHeld_keeps
    | with_reducible apply State.senseDraw_keeps
    | with_reducible apply State.sendGo_keeps
    | with_reducible refine State.senseDraw_keeps_eq ?_ (by with_reducible assumption)
    | with_reducible apply Keeps.ite
    | with_reducible apply Keeps.foldl
    | intro _ _ _
    | intro _ _
    | split
    | (dsimp only)
    | ((with_reducible refine Keeps.upd ?_ ?_); rotate_left; focus (first | exact ⟨rfl, rfl, rfl, rfl, rfl, rfl, rfl, rfl, rfl, rfl, rfl, rfl, rfl⟩ | (simp +zetaDelta [modAt]; done)))

theorem State.sendBeacon_keeps {s0 s : State} (h : Keeps s0 s) : Keeps s0 (State.sendBeacon s) := by
  unfold State.sendBeacon
  repeat' first
    | with_reducible assumption
    | with_reducible apply State.noteHeld_keeps
    | with_reducible apply State.sendNow_keeps
    | with_reducible apply State.trvMod_keeps
    | with_reducible refine State.sessionReady_keeps ?_ (by with_reducible assumption)
    | with_reducible refine State.sendNow_keeps_eq ?_ (by with_reducible assumption)
    | with_reducible apply Keeps.ite
    | with_reducible apply Keeps.foldl
    | intro _ _ _
    | intro _ _
    | split
    | (dsimp only)
    | ((with_reducible refine Keeps.upd ?_ ?_); rotate_left; focus (first | exact ⟨rfl, rfl, rfl, rfl, rfl, rfl, rfl, rfl, rfl, rfl, rfl, rfl, rfl⟩ | (simp +zetaDelta [modAt]; done)))

theorem State.delayStart_keeps {s0 s : State} (h : Keeps s0 s) : Keeps s0 (State.delayStart s) := by
  unfold State.delayStart
  repeat' first
    | with_reducible assumption
    | with_reducible apply State.queueFrame_keeps
    | with_reducible apply State.trvMod_keeps
    | with_reducible apply Keeps.ite
    | with_reducible apply Keeps.foldl
    | intro _ _ _
    | intro _ _
    | split
    | (dsimp only)
    | ((with_reducible refine Keeps.upd ?_ ?_); rotate_left; focus (first | exact ⟨rfl, rfl, rfl, rfl, rfl, rfl, rfl, rfl, rfl, rfl, rfl, rfl, rfl⟩ | (simp +zetaDelta [modAt]; done)))

theorem State.delayAgain_keeps {s0 s : State} (h : Keeps s0 s) : Keeps s0 (State.delayAgain s) := by
  unfold State.delayAgain
  repeat' first
    | with_reducible assumption
    | with_reducible apply State.queueFrame_keeps
    | with_reducible apply State.trvMod_keeps
    | with_reducible apply State.bump_keeps
    | with_reducible apply Keeps.ite
    | with_reducible apply Keeps.foldl
    | intro _ _ _
    | intro _ _
    | split
    | (dsimp only)
    | ((with_reducible refine Keeps.upd ?_ ?_); rotate_left; focus (first | exact ⟨rfl, rfl, rfl, rfl, rfl, rfl, rfl, rfl, rfl, rfl, rfl, rfl, rfl⟩ | (simp +zetaDelta [modAt]; done)))

theorem State.nbrPut_keeps {s0 s : State} (h : Keeps s0 s) : ∀ x1 x2 x3 x4 x5, Keeps s0 (State.nbrPut s x1 x2 x3 x4 x5) := by
  intro x1 x2 x3 x4 x5
  unfold State.nbrPut
  repeat' first
    | with_reducible assumption
    | with_reducible apply Keeps.wr
    | with_reducible apply State.put_keeps
    | with_reducible apply Keeps.ite
    | with_reducible apply Keeps.foldl
    | intro _ _ _
    | intro _ _
    | split
    | (dsimp only)
    | ((with_reducible refine Keeps.upd ?_ ?_); rotate_left; focus (first | exact ⟨rfl, rfl, rfl, rfl, rfl, rfl, rfl, rfl, rfl, rfl, rfl, rfl, rfl⟩ | (simp +zetaDelta [modAt]; done)))

theorem State.replayCheck_keeps {s0 s : State} (h : Keeps s0 s) : ∀ x1, Keeps s0 (State.replayCheck s x1).2 := by
  intro x1
  unfold State.replayCheck
  repeat' first
    | with_reducible assumption
    | with_reducible apply State.nbrPut_keeps
    | with_reducible apply State.bump_keeps
    | with_reducible apply Keeps.ite
    | with_reducible apply Keeps.foldl
    | intro _ _ _
    | intro _ _
    | split
    | (dsimp only)
    | ((with_reducible refine Keeps.upd ?_ ?_); rotate_left; focus (first | exact ⟨rfl, rfl, rfl, rfl, rfl, rfl, rfl, rfl, rfl, rfl, rfl, rfl, rfl⟩ | (simp +zetaDelta [modAt]; done)))

theorem State.replayCheck_keeps_eq {s0 s : State} (h : Keeps s0 s) {x1 t a0} (e : (State.replayCheck s x1) = (a0, t)) : Keeps s0 t := by
  have := State.replayCheck_keeps h x1
  rw [e] at this
  exact this

theorem State.servoSample_keeps {s0 s : State} (h : Keeps s0 s) : ∀ x1, Keeps s0 (State.servoSample s x1) := by
  intro x1
  unfold State.servoSample
  repeat' first
    | with_reducible assumption
    | with_reducible apply Keeps.wr
    | with_reducible apply State.bump_keeps
    | with_reducible apply State.put_keeps
    | with_reducible apply State.steer_keeps
    | with_reducible apply State.servoApply_keeps
    | with_reducible apply Keeps.ite
    | with_reducible apply Keeps.foldl
    | intro _ _ _
    | intro _ _
    | split
    | (dsimp only)
    | ((with_reducible refine Keeps.upd ?_ ?_); rotate_left; focus (first | exact ⟨rfl, rfl, rfl, rfl, rfl, rfl, rfl, rfl, rfl, rfl, rfl, rfl, rfl⟩ | (simp +zetaDelta [modAt]; done)))

theorem State.adoptMap_keeps {s0 s : State} (h : Keeps s0 s) : ∀ x1, Keeps s0 (State.adoptMap s x1) := by
  intro x1
  unfold State.adoptMap
  repeat' first
    | with_reducible assumption
    | with_reducible apply State.bump_keeps
    | with_reducible apply State.putMap_keeps
    | with_reducible apply State.put_keeps
    | with_reducible apply State.trvMod_keeps
    | with_reducible apply Keeps.ite
    | with_reducible apply Keeps.foldl
    | intro _ _ _
    | intro _ _
    | split
    | (dsimp only)
    | ((with_reducible refine Keeps.upd ?_ ?_); rotate_left; focus (first | exact ⟨rfl, rfl, rfl, rfl, rfl, rfl, rfl, rfl, rfl, rfl, rfl, rfl, rfl⟩ | (simp +zetaDelta [modAt]; done)))

theorem State.scanEnd_keeps {s0 s : State} (h : Keeps s0 s) : ∀ x1 x2 x3, Keeps s0 (State.scanEnd s x1 x2 x3) := by
  intro x1 x2 x3
  unfold State.scanEnd
  repeat' first
    | with_reducible assumption
    | with_reducible apply State.tbMod_keeps
    | with_reducible apply State.put_keeps
    | with_reducible apply State.adoptMap_keeps
    | with_reducible apply State.trvMod_keeps
    | with_reducible apply Keeps.ite
    | with_reducible apply Keeps.foldl
    | intro _ _ _
    | intro _ _
    | split
    | (dsimp only)
    | ((with_reducible refine Keeps.upd ?_ ?_); rotate_left; focus (first | exact ⟨rfl, rfl, rfl, rfl, rfl, rfl, rfl, rfl, rfl, rfl, rfl, rfl, rfl⟩ | (simp +zetaDelta [modAt]; done)))

theorem State.refBeacon_keeps {s0 s : State} (h : Keeps s0 s) : ∀ x1 x2 x3 x4, Keeps s0 (State.refBeacon s x1 x2 x3 x4) := by
  intro x1 x2 x3 x4
  unfold State.refBeacon
  repeat' first
    | with_reducible assumption
    | with_reducible apply State.holdMod_keeps
    | with_reducible apply State.adoptMap_keeps
    | with_reducible apply State.trvMod_keeps
    | with_reducible apply State.relockDue_keeps
    | with_reducible apply State.servoSample_keeps
    | with_reducible apply Keeps.ite
    | with_reducible apply Keeps.foldl
    | intro _ _ _
    | intro _ _
    | split
    | (dsimp only)
    | ((with_reducible refine Keeps.upd ?_ ?_); rotate_left; focus (first | exact ⟨rfl, rfl, rfl, rfl, rfl, rfl, rfl, rfl, rfl, rfl, rfl, rfl, rfl⟩ | (simp +zetaDelta [modAt]; done)))

theorem State.onBeacon_keeps {s0 s : State} (h : Keeps s0 s) : ∀ x1 x2 x3 x4, Keeps s0 (State.onBeacon s x1 x2 x3 x4) := by
  intro x1 x2 x3 x4
  unfold State.onBeacon
  repeat' first
    | with_reducible assumption
    | with_reducible apply State.trvMod_keeps
    | with_reducible apply State.put_keeps
    | with_reducible apply State.scanEnd_keeps
    | with_reducible apply State.refBeacon_keeps
    | with_reducible apply Keeps.ite
    | with_reducible apply Keeps.foldl
    | intro _ _ _
    | intro _ _
    | split
    | (dsimp only)
    | ((with_reducible refine Keeps.upd ?_ ?_); rotate_left; focus (first | exact ⟨rfl, rfl, rfl, rfl, rfl, rfl, rfl, rfl, rfl, rfl, rfl, rfl, rfl⟩ | (simp +zetaDelta [modAt]; done)))

theorem State.onDelayReq_keeps {s0 s : State} (h : Keeps s0 s) : ∀ x1 x2 x3, Keeps s0 (State.onDelayReq s x1 x2 x3) := by
  intro x1 x2 x3
  unfold State.onDelayReq
  repeat' first
    | with_reducible assumption
    | with_reducible apply State.queueFrame_keeps
    | with_reducible apply Keeps.ite
    | with_reducible apply Keeps.foldl
    | intro _ _ _
    | intro _ _
    | split
    | (dsimp only)
    | ((with_reducible refine Keeps.upd ?_ ?_); rotate_left; focus (first | exact ⟨rfl, rfl, rfl, rfl, rfl, rfl, rfl, rfl, rfl, rfl, rfl, rfl, rfl⟩ | (simp +zetaDelta [modAt]; done)))

theorem State.onDelayResp_keeps {s0 s : State} (h : Keeps s0 s) : ∀ x1 x2 x3, Keeps s0 (State.onDelayResp s x1 x2 x3) := by
  intro x1 x2 x3
  unfold State.onDelayResp
  repeat' first
    | with_reducible assumption
    | with_reducible apply State.trvMod_keeps
    | with_reducible apply State.holdMod_keeps
    | with_reducible apply State.relockDue_keeps
    | with_reducible apply State.put_keeps
    | with_reducible apply Keeps.wr
    | with_reducible apply Keeps.ite
    | with_reducible apply Keeps.foldl
    | intro _ _ _
    | intro _ _
    | split
    | (dsimp only)
    | ((with_reducible refine Keeps.upd ?_ ?_); rotate_left; focus (first | exact ⟨rfl, rfl, rfl, rfl, rfl, rfl, rfl, rfl, rfl, rfl, rfl, rfl, rfl⟩ | (simp +zetaDelta [modAt]; done)))

theorem State.grantRecord_keeps {s0 s : State} (h : Keeps s0 s) : ∀ x1, Keeps s0 (State.grantRecord s x1).1 := by
  intro x1
  unfold State.grantRecord
  repeat' first
    | with_reducible assumption
    | with_reducible apply State.submitGrant_keeps
    | with_reducible apply Keeps.ite
    | with_reducible apply Keeps.foldl
    | intro _ _ _
    | intro _ _
    | split
    | (dsimp only)
    | ((with_reducible refine Keeps.upd ?_ ?_); rotate_left; focus (first | exact ⟨rfl, rfl, rfl, rfl, rfl, rfl, rfl, rfl, rfl, rfl, rfl, rfl, rfl⟩ | (simp +zetaDelta [modAt]; done)))

theorem State.grantRecord_keeps_eq {s0 s : State} (h : Keeps s0 s) {x1 t a1} (e : (State.grantRecord s x1) = (t, a1)) : Keeps s0 t := by
  have := State.grantRecord_keeps h x1
  rw [e] at this
  exact this

theorem State.onGrants_keeps {s0 s : State} (h : Keeps s0 s) : ∀ x1 x2, Keeps s0 (State.onGrants s x1 x2) := by
  intro x1 x2
  unfold State.onGrants
  refine State.queueFrame_keeps ?_ _
  exact Keeps.foldl_fst h _ fun a i ha => State.grantRecord_keeps ha _

theorem State.mapArrived_keeps {s0 s : State} (h : Keeps s0 s) : ∀ x1 x2, Keeps s0 (State.mapArrived s x1 x2) := by
  intro x1 x2
  unfold State.mapArrived
  repeat' first
    | with_reducible assumption
    | with_reducible apply State.trvMod_keeps
    | with_reducible apply State.put_keeps
    | with_reducible apply State.linkMod_keeps
    | with_reducible apply State.bump_keeps
    | with_reducible apply State.queueFrame_keeps
    | with_reducible apply Keeps.ite
    | with_reducible apply Keeps.foldl
    | intro _ _ _
    | intro _ _
    | split
    | (dsimp only)
    | ((with_reducible refine Keeps.upd ?_ ?_); rotate_left; focus (first | exact ⟨rfl, rfl, rfl, rfl, rfl, rfl, rfl, rfl, rfl, rfl, rfl, rfl, rfl⟩ | (simp +zetaDelta [modAt]; done)))

theorem State.onMapOffer_keeps {s0 s : State} (h : Keeps s0 s) : ∀ x1 x2, Keeps s0 (State.onMapOffer s x1 x2) := by
  intro x1 x2
  unfold State.onMapOffer
  repeat' first
    | with_reducible assumption
    | with_reducible apply State.trvMod_keeps
    | with_reducible apply State.mapArrived_keeps
    | with_reducible apply Keeps.ite
    | with_reducible apply Keeps.foldl
    | intro _ _ _
    | intro _ _
    | split
    | (dsimp only)
    | ((with_reducible refine Keeps.upd ?_ ?_); rotate_left; focus (first | exact ⟨rfl, rfl, rfl, rfl, rfl, rfl, rfl, rfl, rfl, rfl, rfl, rfl, rfl⟩ | (simp +zetaDelta [modAt]; done)))

theorem State.onMapReply_keeps {s0 s : State} (h : Keeps s0 s) : ∀ x1 x2, Keeps s0 (State.onMapReply s x1 x2) := by
  intro x1 x2
  unfold State.onMapReply
  repeat' first
    | with_reducible assumption
    | with_reducible apply State.linkMod_keeps
    | with_reducible apply Keeps.ite
    | with_reducible apply Keeps.foldl
    | intro _ _ _
    | intro _ _
    | split
    | (dsimp only)
    | ((with_reducible refine Keeps.upd ?_ ?_); rotate_left; focus (first | exact ⟨rfl, rfl, rfl, rfl, rfl, rfl, rfl, rfl, rfl, rfl, rfl, rfl, rfl⟩ | (simp +zetaDelta [modAt]; done)))

theorem State.trvToHost_keeps {s0 s : State} (h : Keeps s0 s) : ∀ x1 x2, Keeps s0 (State.trvToHost s x1 x2) := by
  intro x1 x2
  unfold State.trvToHost
  repeat' first
    | with_reducible assumption
    | with_reducible apply Keeps.ite
    | with_reducible apply Keeps.foldl
    | intro _ _ _
    | intro _ _
    | split
    | (dsimp only)
    | ((with_reducible refine Keeps.upd ?_ ?_); rotate_left; focus (first | exact ⟨rfl, rfl, rfl, rfl, rfl, rfl, rfl, rfl, rfl, rfl, rfl, rfl, rfl⟩ | (simp +zetaDelta [modAt]; done)))

theorem State.trvAct_keeps {s0 s : State} (h : Keeps s0 s) : ∀ x1 x2 x3 x4, Keeps s0 (State.trvAct s x1 x2 x3 x4) := by
  intro x1 x2 x3 x4
  unfold State.trvAct
  repeat' first
    | with_reducible assumption
    | with_reducible apply State.onBeacon_keeps
    | with_reducible apply State.onDelayReq_keeps
    | with_reducible apply State.onDelayResp_keeps
    | with_reducible apply State.onGrants_keeps
    | with_reducible apply State.onMapOffer_keeps
    | with_reducible apply State.onMapReply_keeps
    | with_reducible apply State.trvToHost_keeps
    | with_reducible apply Keeps.ite
    | with_reducible apply Keeps.foldl
    | intro _ _ _
    | intro _ _
    | split
    | (dsimp only)
    | ((with_reducible refine Keeps.upd ?_ ?_); rotate_left; focus (first | exact ⟨rfl, rfl, rfl, rfl, rfl, rfl, rfl, rfl, rfl, rfl, rfl, rfl, rfl⟩ | (simp +zetaDelta [modAt]; done)))

theorem State.nbrHeard_keeps {s0 s : State} (h : Keeps s0 s) : ∀ x1 x2 x3, Keeps s0 (State.nbrHeard s x1 x2 x3) := by
  intro x1 x2 x3
  unfold State.nbrHeard
  repeat' first
    | with_reducible assumption
    | with_reducible apply State.trvMod_keeps
    | with_reducible apply State.put_keeps
    | with_reducible apply Keeps.ite
    | with_reducible apply Keeps.foldl
    | intro _ _ _
    | intro _ _
    | split
    | (dsimp only)
    | ((with_reducible refine Keeps.upd ?_ ?_); rotate_left; focus (first | exact ⟨rfl, rfl, rfl, rfl, rfl, rfl, rfl, rfl, rfl, rfl, rfl, rfl, rfl⟩ | (simp +zetaDelta [modAt]; done)))

theorem State.trvChecks_keeps {s0 s : State} (h : Keeps s0 s) : ∀ x1 x2, Keeps s0 (State.trvChecks s x1 x2).2 := by
  intro x1 x2
  unfold State.trvChecks
  repeat' first
    | with_reducible assumption
    | with_reducible apply State.bump_keeps
    | with_reducible apply State.raise_keeps
    | with_reducible apply State.replayCheck_keeps
    | with_reducible refine State.replayCheck_keeps_eq ?_ (by with_reducible assumption)
    | with_reducible apply Keeps.ite
    | with_reducible apply Keeps.foldl
    | intro _ _ _
    | intro _ _
    | split
    | (dsimp only)
    | ((with_reducible refine Keeps.upd ?_ ?_); rotate_left; focus (first | exact ⟨rfl, rfl, rfl, rfl, rfl, rfl, rfl, rfl, rfl, rfl, rfl, rfl, rfl⟩ | (simp +zetaDelta [modAt]; done)))

theorem State.trvChecks_keeps_eq {s0 s : State} (h : Keeps s0 s) {x1 x2 t a0} (e : (State.trvChecks s x1 x2) = (a0, t)) : Keeps s0 t := by
  have := State.trvChecks_keeps h x1 x2
  rw [e] at this
  exact this

theorem State.trvReceive_keeps {s0 s : State} (h : Keeps s0 s) : ∀ x1 x2 x3 x4 x5 x6 x7, Keeps s0 (State.trvReceive s x1 x2 x3 x4 x5 x6 x7) := by
  intro x1 x2 x3 x4 x5 x6 x7
  unfold State.trvReceive
  repeat' first
    | with_reducible assumption
    | with_reducible apply State.bump_keeps
    | with_reducible apply State.trvMod_keeps
    | with_reducible apply State.trvChecks_keeps
    | with_reducible apply State.nbrHeard_keeps
    | with_reducible apply State.surveyAll_keeps
    | with_reducible apply State.trvAct_keeps
    | with_reducible refine State.trvChecks_keeps_eq ?_ (by with_reducible assumption)
    | with_reducible apply Keeps.ite
    | with_reducible apply Keeps.foldl
    | intro _ _ _
    | intro _ _
    | split
    | (dsimp only)
    | ((with_reducible refine Keeps.upd ?_ ?_); rotate_left; focus (first | exact ⟨rfl, rfl, rfl, rfl, rfl, rfl, rfl, rfl, rfl, rfl, rfl, rfl, rfl⟩ | (simp +zetaDelta [modAt]; done)))

theorem State.armMap_keeps {s0 s : State} (h : Keeps s0 s) : ∀ x1, Keeps s0 (State.armMap s x1) := by
  intro x1
  unfold State.armMap
  repeat' first
    | with_reducible assumption
    | with_reducible apply State.bump_keeps
    | with_reducible apply State.put_keeps
    | with_reducible apply State.trvMod_keeps
    | with_reducible apply Keeps.wr
    | with_reducible apply Keeps.ite
    | with_reducible apply Keeps.foldl
    | intro _ _ _
    | intro _ _
    | split
    | (dsimp only)
    | ((with_reducible refine Keeps.upd ?_ ?_); rotate_left; focus (first | exact ⟨rfl, rfl, rfl, rfl, rfl, rfl, rfl, rfl, rfl, rfl, rfl, rfl, rfl⟩ | (simp +zetaDelta [modAt]; done)))

theorem State.joinStart_keeps {s0 s : State} (h : Keeps s0 s) : Keeps s0 (State.joinStart s) := by
  unfold State.joinStart
  repeat' first
    | with_reducible assumption
    | with_reducible apply State.queueClear_keeps
    | with_reducible apply State.nbrClear_keeps
    | with_reducible apply State.stageTo_keeps
    | with_reducible apply State.trvMod_keeps
    | with_reducible apply State.holdMod_keeps
    | with_reducible apply State.put_keeps
    | with_reducible apply State.refNext_keeps
    | with_reducible apply Keeps.ite
    | with_reducible apply Keeps.foldl
    | intro _ _ _
    | intro _ _
    | split
    | (dsimp only)
    | ((with_reducible refine Keeps.upd ?_ ?_); rotate_left; focus (first | exact ⟨rfl, rfl, rfl, rfl, rfl, rfl, rfl, rfl, rfl, rfl, rfl, rfl, rfl⟩ | (simp +zetaDelta [modAt]; done)))

theorem State.leaveStart_keeps {s0 s : State} (h : Keeps s0 s) : Keeps s0 (State.leaveStart s) := by
  unfold State.leaveStart
  repeat' first
    | with_reducible assumption
    | with_reducible apply State.goOut_keeps
    | with_reducible apply State.trvMod_keeps
    | with_reducible apply Keeps.ite
    | with_reducible apply Keeps.foldl
    | intro _ _ _
    | intro _ _
    | split
    | (dsimp only)
    | ((with_reducible refine Keeps.upd ?_ ?_); rotate_left; focus (first | exact ⟨rfl, rfl, rfl, rfl, rfl, rfl, rfl, rfl, rfl, rfl, rfl, rfl, rfl⟩ | (simp +zetaDelta [modAt]; done)))

theorem State.trvCtrlWrite_keeps {s0 s : State} (h : Keeps s0 s) : ∀ x1, Keeps s0 (State.trvCtrlWrite s x1) := by
  intro x1
  unfold State.trvCtrlWrite
  repeat' first
    | with_reducible assumption
    | with_reducible apply State.bump_keeps
    | with_reducible apply State.skipUpdate_keeps
    | with_reducible apply Keeps.wr
    | with_reducible apply State.joinStart_keeps
    | with_reducible apply State.leaveStart_keeps
    | with_reducible apply Keeps.ite
    | with_reducible apply Keeps.foldl
    | intro _ _ _
    | intro _ _
    | split
    | (dsimp only)
    | ((with_reducible refine Keeps.upd ?_ ?_); rotate_left; focus (first | exact ⟨rfl, rfl, rfl, rfl, rfl, rfl, rfl, rfl, rfl, rfl, rfl, rfl, rfl⟩ | (simp +zetaDelta [modAt]; done)))

theorem State.scanMove_keeps {s0 s : State} (h : Keeps s0 s) : Keeps s0 (State.scanMove s) := by
  unfold State.scanMove
  repeat' first
    | with_reducible assumption
    | with_reducible apply State.trvMod_keeps
    | with_reducible apply State.put_keeps
    | with_reducible apply Keeps.ite
    | with_reducible apply Keeps.foldl
    | intro _ _ _
    | intro _ _
    | split
    | (dsimp only)
    | ((with_reducible refine Keeps.upd ?_ ?_); rotate_left; focus (first | exact ⟨rfl, rfl, rfl, rfl, rfl, rfl, rfl, rfl, rfl, rfl, rfl, rfl, rfl⟩ | (simp +zetaDelta [modAt]; done)))

theorem State.domainKeyPut_keeps {s0 s : State} (h : Keeps s0 s) : ∀ x1 x2 x3, Keeps s0 (State.domainKeyPut s x1 x2 x3) := by
  intro x1 x2 x3
  unfold State.domainKeyPut
  repeat' first
    | with_reducible assumption
    | with_reducible apply State.trvMod_keeps
    | with_reducible apply State.put_keeps
    | with_reducible apply Keeps.ite
    | with_reducible apply Keeps.foldl
    | intro _ _ _
    | intro _ _
    | split
    | (dsimp only)
    | ((with_reducible refine Keeps.upd ?_ ?_); rotate_left; focus (first | exact ⟨rfl, rfl, rfl, rfl, rfl, rfl, rfl, rfl, rfl, rfl, rfl, rfl, rfl⟩ | (simp +zetaDelta [modAt]; done)))

theorem State.hostTxWrite_keeps {s0 s : State} (h : Keeps s0 s) : ∀ x1, Keeps s0 (State.hostTxWrite s x1) := by
  intro x1
  unfold State.hostTxWrite
  repeat' first
    | with_reducible assumption
    | with_reducible apply State.bump_keeps
    | with_reducible apply Keeps.wr
    | with_reducible apply State.queueFrame_keeps
    | with_reducible apply State.put_keeps
    | with_reducible apply Keeps.ite
    | with_reducible apply Keeps.foldl
    | intro _ _ _
    | intro _ _
    | split
    | (dsimp only)
    | ((with_reducible refine Keeps.upd ?_ ?_); rotate_left; focus (first | exact ⟨rfl, rfl, rfl, rfl, rfl, rfl, rfl, rfl, rfl, rfl, rfl, rfl, rfl⟩ | (simp +zetaDelta [modAt]; done)))

theorem State.rdvEnd_keeps {s0 s : State} (h : Keeps s0 s) : ∀ x1, Keeps s0 (State.rdvEnd s x1) := by
  intro x1
  unfold State.rdvEnd
  repeat' first
    | with_reducible assumption
    | with_reducible apply State.trvMod_keeps
    | with_reducible apply State.put_keeps
    | with_reducible apply State.raise_keeps
    | with_reducible apply Keeps.ite
    | with_reducible apply Keeps.foldl
    | intro _ _ _
    | intro _ _
    | split
    | (dsimp only)
    | ((with_reducible refine Keeps.upd ?_ ?_); rotate_left; focus (first | exact ⟨rfl, rfl, rfl, rfl, rfl, rfl, rfl, rfl, rfl, rfl, rfl, rfl, rfl⟩ | (simp +zetaDelta [modAt]; done)))

theorem State.rdvFrame_keeps {s0 s : State} (h : Keeps s0 s) : ∀ x1, Keeps s0 (State.rdvFrame s x1) := by
  intro x1
  unfold State.rdvFrame
  repeat' first
    | with_reducible assumption
    | with_reducible apply State.trvMod_keeps
    | with_reducible apply Keeps.ite
    | with_reducible apply Keeps.foldl
    | intro _ _ _
    | intro _ _
    | split
    | (dsimp only)
    | ((with_reducible refine Keeps.upd ?_ ?_); rotate_left; focus (first | exact ⟨rfl, rfl, rfl, rfl, rfl, rfl, rfl, rfl, rfl, rfl, rfl, rfl, rfl⟩ | (simp +zetaDelta [modAt]; done)))

theorem State.rdvHeard_keeps {s0 s : State} (h : Keeps s0 s) : ∀ x1, Keeps s0 (State.rdvHeard s x1) := by
  intro x1
  unfold State.rdvHeard
  repeat' first
    | with_reducible assumption
    | with_reducible apply State.rdvFrame_keeps
    | with_reducible apply State.rdvEnd_keeps
    | with_reducible apply Keeps.ite
    | with_reducible apply Keeps.foldl
    | intro _ _ _
    | intro _ _
    | split
    | (dsimp only)
    | ((with_reducible refine Keeps.upd ?_ ?_); rotate_left; focus (first | exact ⟨rfl, rfl, rfl, rfl, rfl, rfl, rfl, rfl, rfl, rfl, rfl, rfl, rfl⟩ | (simp +zetaDelta [modAt]; done)))

theorem State.wurAccept_keeps {s0 s : State} (h : Keeps s0 s) : ∀ x1 x2, Keeps s0 (State.wurAccept s x1 x2) := by
  intro x1 x2
  unfold State.wurAccept
  repeat' first
    | with_reducible assumption
    | with_reducible apply State.put_keeps
    | with_reducible apply State.bump_keeps
    | with_reducible apply State.captureAll_keeps
    | with_reducible apply State.raise_keeps
    | with_reducible apply State.rdvHeard_keeps
    | with_reducible apply Keeps.ite
    | with_reducible apply Keeps.foldl
    | intro _ _ _
    | intro _ _
    | split
    | (dsimp only)
    | ((with_reducible refine Keeps.upd ?_ ?_); rotate_left; focus (first | exact ⟨rfl, rfl, rfl, rfl, rfl, rfl, rfl, rfl, rfl, rfl, rfl, rfl, rfl⟩ | (simp +zetaDelta [modAt]; done)))

theorem State.wurReceive_keeps {s0 s : State} (h : Keeps s0 s) : ∀ x1 x2 x3 x4 x5, Keeps s0 (State.wurReceive s x1 x2 x3 x4 x5) := by
  intro x1 x2 x3 x4 x5
  unfold State.wurReceive
  repeat' first
    | with_reducible assumption
    | with_reducible apply State.trvMod_keeps
    | with_reducible apply State.bump_keeps
    | with_reducible apply State.wurAccept_keeps
    | with_reducible apply Keeps.ite
    | with_reducible apply Keeps.foldl
    | intro _ _ _
    | intro _ _
    | split
    | (dsimp only)
    | ((with_reducible refine Keeps.upd ?_ ?_); rotate_left; focus (first | exact ⟨rfl, rfl, rfl, rfl, rfl, rfl, rfl, rfl, rfl, rfl, rfl, rfl, rfl⟩ | (simp +zetaDelta [modAt]; done)))

theorem State.wurLimited_keeps {s0 s : State} (h : Keeps s0 s) : Keeps s0 (State.wurLimited s) := by
  unfold State.wurLimited
  repeat' first
    | with_reducible assumption
    | with_reducible apply State.bump_keeps
    | with_reducible apply State.trvMod_keeps
    | with_reducible apply Keeps.ite
    | with_reducible apply Keeps.foldl
    | intro _ _ _
    | intro _ _
    | split
    | (dsimp only)
    | ((with_reducible refine Keeps.upd ?_ ?_); rotate_left; focus (first | exact ⟨rfl, rfl, rfl, rfl, rfl, rfl, rfl, rfl, rfl, rfl, rfl, rfl, rfl⟩ | (simp +zetaDelta [modAt]; done)))

theorem State.wurSend_keeps {s0 s : State} (h : Keeps s0 s) : Keeps s0 (State.wurSend s) := by
  unfold State.wurSend
  repeat' first
    | with_reducible assumption
    | with_reducible apply State.wurLimited_keeps
    | with_reducible apply State.trvMod_keeps
    | with_reducible apply State.bump_keeps
    | with_reducible apply State.bumpField_keeps
    | with_reducible apply State.rdvEnd_keeps
    | with_reducible apply Keeps.ite
    | with_reducible apply Keeps.foldl
    | intro _ _ _
    | intro _ _
    | split
    | (dsimp only)
    | ((with_reducible refine Keeps.upd ?_ ?_); rotate_left; focus (first | exact ⟨rfl, rfl, rfl, rfl, rfl, rfl, rfl, rfl, rfl, rfl, rfl, rfl, rfl⟩ | (simp +zetaDelta [modAt]; done)))

theorem State.rdvAlarm_keeps {s0 s : State} (h : Keeps s0 s) : ∀ x1, Keeps s0 (State.rdvAlarm s x1) := by
  intro x1
  unfold State.rdvAlarm
  repeat' first
    | with_reducible assumption
    | with_reducible apply State.put_keeps
    | with_reducible apply Keeps.ite
    | with_reducible apply Keeps.foldl
    | intro _ _ _
    | intro _ _
    | split
    | (dsimp only)
    | ((with_reducible refine Keeps.upd ?_ ?_); rotate_left; focus (first | exact ⟨rfl, rfl, rfl, rfl, rfl, rfl, rfl, rfl, rfl, rfl, rfl, rfl, rfl⟩ | (simp +zetaDelta [modAt]; done)))

theorem State.rdvArm_keeps {s0 s : State} (h : Keeps s0 s) : Keeps s0 (State.rdvArm s) := by
  unfold State.rdvArm
  repeat' first
    | with_reducible assumption
    | with_reducible apply State.bump_keeps
    | with_reducible apply State.trvMod_keeps
    | with_reducible apply State.rdvAlarm_keeps
    | with_reducible apply State.put_keeps
    | with_reducible apply Keeps.ite
    | with_reducible apply Keeps.foldl
    | intro _ _ _
    | intro _ _
    | split
    | (dsimp only)
    | ((with_reducible refine Keeps.upd ?_ ?_); rotate_left; focus (first | exact ⟨rfl, rfl, rfl, rfl, rfl, rfl, rfl, rfl, rfl, rfl, rfl, rfl, rfl⟩ | (simp +zetaDelta [modAt]; done)))

theorem State.rdvCtrlWrite_keeps {s0 s : State} (h : Keeps s0 s) : ∀ x1, Keeps s0 (State.rdvCtrlWrite s x1) := by
  intro x1
  unfold State.rdvCtrlWrite
  repeat' first
    | with_reducible assumption
    | with_reducible apply State.trvMod_keeps
    | with_reducible apply State.put_keeps
    | with_reducible apply Keeps.wr
    | with_reducible apply State.rdvArm_keeps
    | with_reducible apply Keeps.ite
    | with_reducible apply Keeps.foldl
    | intro _ _ _
    | intro _ _
    | split
    | (dsimp only)
    | ((with_reducible refine Keeps.upd ?_ ?_); rotate_left; focus (first | exact ⟨rfl, rfl, rfl, rfl, rfl, rfl, rfl, rfl, rfl, rfl, rfl, rfl, rfl⟩ | (simp +zetaDelta [modAt]; done)))

end Sys2Proof.Machine
end

