-- ==== Sys2Proof/Laws/Keeps8.lean ====
section
/-! SUPPORT. What the operations of QueueRows, HostBus, PowerReturn, Idle, Tap, Stylus, Step keep. -/

namespace Sys2Proof.Machine

theorem State.ethDequeue_keeps {s0 s : State} (h : Keeps s0 s) : ∀ x1, Keeps s0 (State.ethDequeue s x1) := by
  intro x1
  unfold State.ethDequeue
  repeat' first
    | with_reducible assumption
    | with_reducible apply State.flatRefused_keeps
    | with_reducible apply State.flatServe_keeps
    | with_reducible apply State.bump_keeps
    | with_reducible apply State.ethSend_keeps
    | with_reducible apply Keeps.ite
    | with_reducible apply Keeps.foldl
    | intro _ _ _
    | intro _ _
    | split
    | (dsimp only)
    | ((with_reducible refine Keeps.upd ?_ ?_); rotate_left; focus (first | exact ⟨rfl, rfl, rfl, rfl, rfl, rfl, rfl, rfl, rfl, rfl, rfl, rfl, rfl⟩ | (simp +zetaDelta [modAt]; done)))

theorem State.hostDequeue_keeps {s0 s : State} (h : Keeps s0 s) : Keeps s0 (State.hostDequeue s) := by
  unfold State.hostDequeue
  repeat' first
    | with_reducible assumption
    | with_reducible apply State.flatRefused_keeps
    | with_reducible apply State.flatServe_keeps
    | with_reducible apply State.bump_keeps
    | with_reducible apply Keeps.ite
    | with_reducible apply Keeps.foldl
    | intro _ _ _
    | intro _ _
    | split
    | (dsimp only)
    | ((with_reducible refine Keeps.upd ?_ ?_); rotate_left; focus (first | exact ⟨rfl, rfl, rfl, rfl, rfl, rfl, rfl, rfl, rfl, rfl, rfl, rfl, rfl⟩ | (simp +zetaDelta [modAt]; done)))

theorem State.drawStations_keeps {s0 s : State} (h : Keeps s0 s) : ∀ x1 x2 x3, Keeps s0 (State.drawStations s x1 x2 x3) := by
  intro x1 x2 x3
  unfold State.drawStations
  repeat' first
    | with_reducible assumption
    | with_reducible apply State.bump_keeps
    | with_reducible apply State.drawServe_keeps
    | with_reducible apply State.grMod_keeps
    | with_reducible apply Keeps.ite
    | with_reducible apply Keeps.foldl
    | intro _ _ _
    | intro _ _
    | split
    | (dsimp only)
    | ((with_reducible refine Keeps.upd ?_ ?_); rotate_left; focus (first | exact ⟨rfl, rfl, rfl, rfl, rfl, rfl, rfl, rfl, rfl, rfl, rfl, rfl, rfl⟩ | (simp +zetaDelta [modAt]; done)))

theorem State.radioDraw_keeps {s0 s : State} (h : Keeps s0 s) : ∀ x1 x2, Keeps s0 (State.radioDraw s x1 x2) := by
  intro x1 x2
  unfold State.radioDraw
  repeat' first
    | with_reducible assumption
    | with_reducible apply State.drawGroup_keeps
    | with_reducible apply State.drawStations_keeps
    | with_reducible apply Keeps.ite
    | with_reducible apply Keeps.foldl
    | intro _ _ _
    | intro _ _
    | split
    | (dsimp only)
    | ((with_reducible refine Keeps.upd ?_ ?_); rotate_left; focus (first | exact ⟨rfl, rfl, rfl, rfl, rfl, rfl, rfl, rfl, rfl, rfl, rfl, rfl, rfl⟩ | (simp +zetaDelta [modAt]; done)))

theorem State.shaperWake_keeps {s0 s : State} (h : Keeps s0 s) : ∀ x1, Keeps s0 (State.shaperWake s x1) := by
  intro x1
  unfold State.shaperWake
  repeat' first
    | with_reducible assumption
    | with_reducible apply State.offer_keeps
    | with_reducible apply Keeps.ite
    | with_reducible apply Keeps.foldl
    | intro _ _ _
    | intro _ _
    | split
    | (dsimp only)
    | ((with_reducible refine Keeps.upd ?_ ?_); rotate_left; focus (first | exact ⟨rfl, rfl, rfl, rfl, rfl, rfl, rfl, rfl, rfl, rfl, rfl, rfl, rfl⟩ | (simp +zetaDelta [modAt]; done)))

theorem State.flushStation_keeps {s0 s : State} (h : Keeps s0 s) : ∀ x1, Keeps s0 (State.flushStation s x1) := by
  intro x1
  unfold State.flushStation
  repeat' first
    | with_reducible assumption
    | with_reducible apply State.setQue_keeps
    | with_reducible apply State.count_keeps
    | with_reducible apply State.setF_keeps
    | with_reducible apply State.put_keeps
    | with_reducible apply Keeps.ite
    | with_reducible apply Keeps.foldl
    | intro _ _ _
    | intro _ _
    | split
    | (dsimp only)
    | ((with_reducible refine Keeps.upd ?_ ?_); rotate_left; focus (first | exact ⟨rfl, rfl, rfl, rfl, rfl, rfl, rfl, rfl, rfl, rfl, rfl, rfl, rfl⟩ | (simp +zetaDelta [modAt]; done)))

theorem State.refreshBuckets_keeps {s0 s : State} (h : Keeps s0 s) : ∀ x1, Keeps s0 (State.refreshBuckets s x1) := by
  intro x1
  unfold State.refreshBuckets
  repeat' first
    | with_reducible assumption
    | with_reducible apply Keeps.ite
    | with_reducible apply Keeps.foldl
    | intro _ _ _
    | intro _ _
    | split
    | (dsimp only)
    | ((with_reducible refine Keeps.upd ?_ ?_); rotate_left; focus (first | exact ⟨rfl, rfl, rfl, rfl, rfl, rfl, rfl, rfl, rfl, rfl, rfl, rfl, rfl⟩ | (simp +zetaDelta [modAt]; done)))

theorem State.readClears_keeps {s0 s : State} (h : Keeps s0 s) : ∀ x1, Keeps s0 (State.readClears s x1) := by
  intro x1
  unfold State.readClears
  repeat' first
    | with_reducible assumption
    | with_reducible apply Keeps.wr
    | with_reducible apply Keeps.ite
    | with_reducible apply Keeps.foldl
    | intro _ _ _
    | intro _ _
    | split
    | (dsimp only)
    | ((with_reducible refine Keeps.upd ?_ ?_); rotate_left; focus (first | exact ⟨rfl, rfl, rfl, rfl, rfl, rfl, rfl, rfl, rfl, rfl, rfl, rfl, rfl⟩ | (simp +zetaDelta [modAt]; done)))

theorem State.regRead_keeps {s0 s : State} (h : Keeps s0 s) : ∀ x1 x2 x3, Keeps s0 (State.regRead s x1 x2 x3) := by
  intro x1 x2 x3
  unfold State.regRead
  repeat' first
    | with_reducible assumption
    | with_reducible apply State.capRead_keeps
    | with_reducible apply State.txqRead_keeps
    | with_reducible apply State.answer_keeps
    | with_reducible apply State.chkRead_keeps
    | with_reducible apply State.calNowRead_keeps
    | with_reducible apply State.freeW_keeps
    | with_reducible apply State.latch_keeps
    | with_reducible apply State.readClears_keeps
    | with_reducible refine State.chkRead_keeps_eq ?_ (by with_reducible assumption)
    | with_reducible refine State.freeW_keeps_eq ?_ (by with_reducible assumption)
    | with_reducible apply Keeps.ite
    | with_reducible apply Keeps.foldl
    | intro _ _ _
    | intro _ _
    | split
    | (dsimp only)
    | ((with_reducible refine Keeps.upd ?_ ?_); rotate_left; focus (first | exact ⟨rfl, rfl, rfl, rfl, rfl, rfl, rfl, rfl, rfl, rfl, rfl, rfl, rfl⟩ | (simp +zetaDelta [modAt]; done)))

theorem State.bar2Read_keeps {s0 s : State} (h : Keeps s0 s) : ∀ x1 x2, Keeps s0 (State.bar2Read s x1 x2) := by
  intro x1 x2
  unfold State.bar2Read
  generalize s.bar2At x2 = a
  refine Keeps.ite (State.answer_keeps h _ _ _) (Keeps.ite ?_ ?_)
  · exact Keeps.upd h ⟨rfl, rfl, rfl, rfl, rfl, rfl, rfl, rfl, rfl, rfl, rfl, rfl, rfl⟩
  · split
    rename_i v t e
    exact State.answer_keeps (State.dramWord_keeps_eq h e) _ _ _

theorem State.hold_keeps {s0 s : State} (h : Keeps s0 s) : ∀ x1 x2 x3, Keeps s0 (State.hold s x1 x2 x3) := by
  intro x1 x2 x3
  unfold State.hold
  repeat' first
    | with_reducible assumption
    | with_reducible apply Keeps.ite
    | with_reducible apply Keeps.foldl
    | intro _ _ _
    | intro _ _
    | split
    | (dsimp only)
    | ((with_reducible refine Keeps.upd ?_ ?_); rotate_left; focus (first | exact ⟨rfl, rfl, rfl, rfl, rfl, rfl, rfl, rfl, rfl, rfl, rfl, rfl, rfl⟩ | (simp +zetaDelta [modAt]; done)))

theorem State.busRead_keeps {s0 s : State} (h : Keeps s0 s) : ∀ x1 x2 x3, Keeps s0 (State.busRead s x1 x2 x3) := by
  intro x1 x2 x3
  unfold State.busRead
  repeat' first
    | with_reducible assumption
    | with_reducible apply State.hold_keeps
    | with_reducible apply State.bar2Read_keeps
    | with_reducible apply State.hostRead_keeps
    | with_reducible apply State.regRead_keeps
    | with_reducible apply Keeps.ite
    | with_reducible apply Keeps.foldl
    | intro _ _ _
    | intro _ _
    | split
    | (dsimp only)
    | ((with_reducible refine Keeps.upd ?_ ?_); rotate_left; focus (first | exact ⟨rfl, rfl, rfl, rfl, rfl, rfl, rfl, rfl, rfl, rfl, rfl, rfl, rfl⟩ | (simp +zetaDelta [modAt]; done)))

theorem State.tbBlockWrite_keeps {s0 s : State} (h : Keeps s0 s) : ∀ x1 x2, Keeps s0 (State.tbBlockWrite s x1 x2) := by
  intro x1 x2
  unfold State.tbBlockWrite
  repeat' first
    | with_reducible assumption
    | with_reducible apply State.tbCtrlWrite_keeps
    | with_reducible apply State.tbRateWrite_keeps
    | with_reducible apply State.tbStepWrite_keeps
    | with_reducible apply State.tbSlewWrite_keeps
    | with_reducible apply State.tableWrite_keeps
    | with_reducible apply State.capCtrlWrite_keeps
    | with_reducible apply State.cmpCtrlWrite_keeps
    | with_reducible apply State.cmpTargetWrite_keeps
    | with_reducible apply State.calCtrlWrite_keeps
    | with_reducible apply State.ppsCtrlWrite_keeps
    | with_reducible apply Keeps.ite
    | with_reducible apply Keeps.foldl
    | intro _ _ _
    | intro _ _
    | split
    | (dsimp only)
    | ((with_reducible refine Keeps.upd ?_ ?_); rotate_left; focus (first | exact ⟨rfl, rfl, rfl, rfl, rfl, rfl, rfl, rfl, rfl, rfl, rfl, rfl, rfl⟩ | (simp +zetaDelta [modAt]; done)))

theorem State.keyBlockWrite_keeps {s0 s : State} (h : Keeps s0 s) : ∀ x1 x2, Keeps s0 (State.keyBlockWrite s x1 x2) := by
  intro x1 x2
  unfold State.keyBlockWrite
  repeat' first
    | with_reducible assumption
    | with_reducible apply State.keyCmdWrite_keeps
    | with_reducible apply State.keyFuseWrite_keeps
    | with_reducible apply State.attWrite_keeps
    | with_reducible apply State.nonceWrite_keeps
    | with_reducible apply State.sealLockWrite_keeps
    | with_reducible apply State.sealCmdWrite_keeps
    | with_reducible apply State.tableWrite_keeps
    | with_reducible apply State.sealTouch_keeps
    | with_reducible apply Keeps.ite
    | with_reducible apply Keeps.foldl
    | intro _ _ _
    | intro _ _
    | split
    | (dsimp only)
    | ((with_reducible refine Keeps.upd ?_ ?_); rotate_left; focus (first | exact ⟨rfl, rfl, rfl, rfl, rfl, rfl, rfl, rfl, rfl, rfl, rfl, rfl, rfl⟩ | (simp +zetaDelta [modAt]; done)))

theorem State.chkBlockWrite_keeps {s0 s : State} (h : Keeps s0 s) : ∀ x1 x2, Keeps s0 (State.chkBlockWrite s x1 x2) := by
  intro x1 x2
  unfold State.chkBlockWrite
  repeat' first
    | with_reducible assumption
    | with_reducible apply State.chkRegWrite_keeps
    | with_reducible apply State.tableWrite_keeps
    | with_reducible apply Keeps.ite
    | with_reducible apply Keeps.foldl
    | intro _ _ _
    | intro _ _
    | split
    | (dsimp only)
    | ((with_reducible refine Keeps.upd ?_ ?_); rotate_left; focus (first | exact ⟨rfl, rfl, rfl, rfl, rfl, rfl, rfl, rfl, rfl, rfl, rfl, rfl, rfl⟩ | (simp +zetaDelta [modAt]; done)))

theorem State.radBlockWrite_keeps {s0 s : State} (h : Keeps s0 s) : ∀ x1 x2 x3, Keeps s0 (State.radBlockWrite s x1 x2 x3) := by
  intro x1 x2 x3
  unfold State.radBlockWrite
  repeat' first
    | with_reducible assumption
    | with_reducible apply State.mapSelWrite_keeps
    | with_reducible apply State.measWrite_keeps
    | with_reducible apply State.grtCtrlWrite_keeps
    | with_reducible apply State.grtCommit_keeps
    | with_reducible apply State.submitGrant_keeps
    | with_reducible apply State.shadowWrite_keeps
    | with_reducible apply State.linkMod_keeps
    | with_reducible apply State.tableWrite_keeps
    | with_reducible apply Keeps.ite
    | with_reducible apply Keeps.foldl
    | intro _ _ _
    | intro _ _
    | split
    | (dsimp only)
    | ((with_reducible refine Keeps.upd ?_ ?_); rotate_left; focus (first | exact ⟨rfl, rfl, rfl, rfl, rfl, rfl, rfl, rfl, rfl, rfl, rfl, rfl, rfl⟩ | (simp +zetaDelta [modAt]; done)))

theorem State.chnBlockWrite_keeps {s0 s : State} (h : Keeps s0 s) : ∀ x1 x2, Keeps s0 (State.chnBlockWrite s x1 x2) := by
  intro x1 x2
  unfold State.chnBlockWrite
  repeat' first
    | with_reducible assumption
    | with_reducible apply State.reinstateWrite_keeps
    | with_reducible apply State.regSelectWrite_keeps
    | with_reducible apply State.fuseCtrlWrite_keeps
    | with_reducible apply State.coexCtrlWrite_keeps
    | with_reducible apply State.surveyWrite_keeps
    | with_reducible apply State.tableWrite_keeps
    | with_reducible apply Keeps.ite
    | with_reducible apply Keeps.foldl
    | intro _ _ _
    | intro _ _
    | split
    | (dsimp only)
    | ((with_reducible refine Keeps.upd ?_ ?_); rotate_left; focus (first | exact ⟨rfl, rfl, rfl, rfl, rfl, rfl, rfl, rfl, rfl, rfl, rfl, rfl, rfl⟩ | (simp +zetaDelta [modAt]; done)))

theorem State.trvBlockWrite_keeps {s0 s : State} (h : Keeps s0 s) : ∀ x1 x2, Keeps s0 (State.trvBlockWrite s x1 x2) := by
  intro x1 x2
  unfold State.trvBlockWrite
  repeat' first
    | with_reducible assumption
    | with_reducible apply State.trvCtrlWrite_keeps
    | with_reducible apply State.bump_keeps
    | with_reducible apply State.armMap_keeps
    | with_reducible apply State.skipUpdate_keeps
    | with_reducible apply State.tableWrite_keeps
    | with_reducible apply State.hostTxWrite_keeps
    | with_reducible apply State.rootFollow_keeps
    | with_reducible apply State.rdvCtrlWrite_keeps
    | with_reducible apply State.domainKeyPut_keeps
    | with_reducible apply Keeps.ite
    | with_reducible apply Keeps.foldl
    | intro _ _ _
    | intro _ _
    | split
    | (dsimp only)
    | ((with_reducible refine Keeps.upd ?_ ?_); rotate_left; focus (first | exact ⟨rfl, rfl, rfl, rfl, rfl, rfl, rfl, rfl, rfl, rfl, rfl, rfl, rfl⟩ | (simp +zetaDelta [modAt]; done)))

theorem State.pktBlockWrite_keeps {s0 s : State} (h : Keeps s0 s) : ∀ x1 x2, Keeps s0 (State.pktBlockWrite s x1 x2) := by
  intro x1 x2
  unfold State.pktBlockWrite
  repeat' first
    | with_reducible assumption
    | with_reducible apply State.rteCmdWrite_keeps
    | with_reducible apply State.flwCmdWrite_keeps
    | with_reducible apply State.bump_keeps
    | with_reducible apply State.profileSet_keeps
    | with_reducible apply State.rangeWrite_keeps
    | with_reducible apply State.tableWrite_keeps
    | with_reducible apply Keeps.ite
    | with_reducible apply Keeps.foldl
    | intro _ _ _
    | intro _ _
    | split
    | (dsimp only)
    | ((with_reducible refine Keeps.upd ?_ ?_); rotate_left; focus (first | exact ⟨rfl, rfl, rfl, rfl, rfl, rfl, rfl, rfl, rfl, rfl, rfl, rfl, rfl⟩ | (simp +zetaDelta [modAt]; done)))

theorem State.hdmBlockWrite_keeps {s0 s : State} (h : Keeps s0 s) : ∀ x1 x2, Keeps s0 (State.hdmBlockWrite s x1 x2) := by
  intro x1 x2
  unfold State.hdmBlockWrite
  repeat' first
    | with_reducible assumption
    | with_reducible apply State.ringCtrlWrite_keeps
    | with_reducible apply State.ringTailWrite_keeps
    | with_reducible apply State.ringBaseWrite_keeps
    | with_reducible apply State.vecUnmask_keeps
    | with_reducible apply State.tableWrite_keeps
    | with_reducible apply Keeps.ite
    | with_reducible apply Keeps.foldl
    | intro _ _ _
    | intro _ _
    | split
    | (dsimp only)
    | ((with_reducible refine Keeps.upd ?_ ?_); rotate_left; focus (first | exact ⟨rfl, rfl, rfl, rfl, rfl, rfl, rfl, rfl, rfl, rfl, rfl, rfl, rfl⟩ | (simp +zetaDelta [modAt]; done)))

theorem State.tablesWrite_keeps {s0 s : State} (h : Keeps s0 s) : ∀ x1 x2 x3, Keeps s0 (State.tablesWrite s x1 x2 x3) := by
  intro x1 x2 x3
  unfold State.tablesWrite
  repeat' first
    | with_reducible assumption
    | with_reducible apply State.stationWrite_keeps
    | with_reducible apply State.tableWrite_keeps
    | with_reducible apply State.nhCommit_keeps
    | with_reducible apply State.nhStage_keeps
    | with_reducible apply State.ruleCommitWrite_keeps
    | with_reducible apply State.ruleStage_keeps
    | with_reducible apply State.recordWrite_keeps
    | with_reducible apply State.bump_keeps
    | with_reducible apply Keeps.wr
    | with_reducible apply State.shaperWrite_keeps
    | with_reducible apply State.policerWrite_keeps
    | with_reducible apply Keeps.ite
    | with_reducible apply Keeps.foldl
    | intro _ _ _
    | intro _ _
    | split
    | (dsimp only)
    | ((with_reducible refine Keeps.upd ?_ ?_); rotate_left; focus (first | exact ⟨rfl, rfl, rfl, rfl, rfl, rfl, rfl, rfl, rfl, rfl, rfl, rfl, rfl⟩ | (simp +zetaDelta [modAt]; done)))

theorem State.regWrite_keeps {s0 s : State} (h : Keeps s0 s) : ∀ x1 x2 x3, Keeps s0 (State.regWrite s x1 x2 x3) := by
  intro x1 x2 x3
  unfold State.regWrite
  repeat' first
    | with_reducible assumption
    | with_reducible apply State.tableWrite_keeps
    | with_reducible apply State.pwrCmdWrite_keeps
    | with_reducible apply State.funcWrite_keeps
    | with_reducible apply State.clkCtrlWrite_keeps
    | with_reducible apply State.tbBlockWrite_keeps
    | with_reducible apply State.mbxWrite_keeps
    | with_reducible apply State.mbxDataWrite_keeps
    | with_reducible apply State.recutCtrlWrite_keeps
    | with_reducible apply State.engReinstateWrite_keeps
    | with_reducible apply State.keyBlockWrite_keeps
    | with_reducible apply State.chkBlockWrite_keeps
    | with_reducible apply State.radBlockWrite_keeps
    | with_reducible apply State.chnBlockWrite_keeps
    | with_reducible apply State.trvBlockWrite_keeps
    | with_reducible apply State.pktBlockWrite_keeps
    | with_reducible apply State.ethCtrl_keeps
    | with_reducible apply State.drcCtrlWrite_keeps
    | with_reducible apply State.hdmBlockWrite_keeps
    | with_reducible apply State.tablesWrite_keeps
    | with_reducible apply Keeps.ite
    | with_reducible apply Keeps.foldl
    | intro _ _ _
    | intro _ _
    | split
    | (dsimp only)
    | ((with_reducible refine Keeps.upd ?_ ?_); rotate_left; focus (first | exact ⟨rfl, rfl, rfl, rfl, rfl, rfl, rfl, rfl, rfl, rfl, rfl, rfl, rfl⟩ | (simp +zetaDelta [modAt]; done)))

theorem State.busWrite_keeps {s0 s : State} (h : Keeps s0 s) : ∀ x1 x2 x3, Keeps s0 (State.busWrite s x1 x2 x3) := by
  intro x1 x2 x3
  unfold State.busWrite
  repeat' first
    | with_reducible assumption
    | with_reducible apply State.bump_keeps
    | with_reducible apply State.hold_keeps
    | with_reducible apply State.hostWrite_keeps
    | with_reducible apply State.regWrite_keeps
    | with_reducible apply Keeps.ite
    | with_reducible apply Keeps.foldl
    | intro _ _ _
    | intro _ _
    | split
    | (dsimp only)
    | ((with_reducible refine Keeps.upd ?_ ?_); rotate_left; focus (first | exact ⟨rfl, rfl, rfl, rfl, rfl, rfl, rfl, rfl, rfl, rfl, rfl, rfl, rfl⟩ | (simp +zetaDelta [modAt]; done)))

theorem State.dropStaged_keeps {s0 s : State} (h : Keeps s0 s) : ∀ x1 x2, Keeps s0 (State.dropStaged s x1 x2) := by
  intro x1 x2
  unfold State.dropStaged
  repeat' first
    | with_reducible assumption
    | with_reducible apply State.setStaging_keeps
    | with_reducible apply Keeps.ite
    | with_reducible apply Keeps.foldl
    | intro _ _ _
    | intro _ _
    | split
    | (dsimp only)
    | ((with_reducible refine Keeps.upd ?_ ?_); rotate_left; focus (first | exact ⟨rfl, rfl, rfl, rfl, rfl, rfl, rfl, rfl, rfl, rfl, rfl, rfl, rfl⟩ | (simp +zetaDelta [modAt]; done)))

theorem State.collided_keeps {s0 s : State} (h : Keeps s0 s) : ∀ x1 x2, Keeps s0 (State.collided s x1 x2) := by
  intro x1 x2
  unfold State.collided
  repeat' first
    | with_reducible assumption
    | with_reducible apply State.bump_keeps
    | with_reducible apply State.put_keeps
    | with_reducible apply State.dropStaged_keeps
    | with_reducible apply Keeps.ite
    | with_reducible apply Keeps.foldl
    | intro _ _ _
    | intro _ _
    | split
    | (dsimp only)
    | ((with_reducible refine Keeps.upd ?_ ?_); rotate_left; focus (first | exact ⟨rfl, rfl, rfl, rfl, rfl, rfl, rfl, rfl, rfl, rfl, rfl, rfl, rfl⟩ | (simp +zetaDelta [modAt]; done)))

theorem State.writeAgainst_keeps {s0 s : State} (h : Keeps s0 s) : ∀ x1 x2 x3 x4, Keeps s0 (State.writeAgainst s x1 x2 x3 x4) := by
  intro x1 x2 x3 x4
  unfold State.writeAgainst
  repeat' first
    | with_reducible assumption
    | with_reducible apply State.collided_keeps
    | with_reducible apply State.busWrite_keeps
    | with_reducible apply Keeps.ite
    | with_reducible apply Keeps.foldl
    | intro _ _ _
    | intro _ _
    | split
    | (dsimp only)
    | ((with_reducible refine Keeps.upd ?_ ?_); rotate_left; focus (first | exact ⟨rfl, rfl, rfl, rfl, rfl, rfl, rfl, rfl, rfl, rfl, rfl, rfl, rfl⟩ | (simp +zetaDelta [modAt]; done)))

theorem State.secOp_keeps {s0 s : State} (h : Keeps s0 s) : ∀ x1 x2 x3 x4, Keeps s0 (State.secOp s x1 x2 x3 x4).2.2 := by
  intro x1 x2 x3 x4
  unfold State.secOp
  repeat' first
    | with_reducible assumption
    | with_reducible apply State.bump_keeps
    | with_reducible apply State.busRead_keeps
    | with_reducible apply State.collided_keeps
    | with_reducible apply State.busWrite_keeps
    | with_reducible apply Keeps.ite
    | with_reducible apply Keeps.foldl
    | intro _ _ _
    | intro _ _
    | split
    | (dsimp only)
    | ((with_reducible refine Keeps.upd ?_ ?_); rotate_left; focus (first | exact ⟨rfl, rfl, rfl, rfl, rfl, rfl, rfl, rfl, rfl, rfl, rfl, rfl, rfl⟩ | (simp +zetaDelta [modAt]; done)))

theorem State.secOp_keeps_eq {s0 s : State} (h : Keeps s0 s) {x1 x2 x3 x4 t a0 a1} (e : (State.secOp s x1 x2 x3 x4) = (a0, a1, t)) : Keeps s0 t := by
  have := State.secOp_keeps h x1 x2 x3 x4
  rw [e] at this
  exact this

theorem State.secOps_keeps {s0 s : State} (h : Keeps s0 s) : ∀ x1 x2 x3, Keeps s0 (State.secOps s x1 x2 x3).2 := by
  intro x1 x2 x3
  induction x1 generalizing s x2 x3 with
  | zero => exact h
  | succ n ih => exact ih (State.secOp_keeps h _ _ _ _) _ _

theorem State.secRequest_keeps {s0 s : State} (h : Keeps s0 s) : ∀ x1, Keeps s0 (State.secRequest s x1) := by
  intro x1
  unfold State.secRequest
  repeat' first
    | with_reducible assumption
    | with_reducible apply State.bump_keeps
    | with_reducible apply Keeps.wr
    | with_reducible apply State.secOps_keeps
    | with_reducible apply State.arrive_keeps
    | with_reducible refine State.secOps_keeps_eq ?_ (by with_reducible assumption)
    | with_reducible apply Keeps.ite
    | with_reducible apply Keeps.foldl
    | intro _ _ _
    | intro _ _
    | split
    | (dsimp only)
    | ((with_reducible refine Keeps.upd ?_ ?_); rotate_left; focus (first | exact ⟨rfl, rfl, rfl, rfl, rfl, rfl, rfl, rfl, rfl, rfl, rfl, rfl, rfl⟩ | (simp +zetaDelta [modAt]; done)))

theorem State.fromDeep_keeps {s0 s : State} (h : Keeps s0 s) : ∀ x1, Keeps s0 (State.fromDeep s x1) := by
  intro x1
  unfold State.fromDeep
  repeat' first
    | with_reducible assumption
    | with_reducible apply State.retentionRestore_keeps
    | with_reducible apply State.put_keeps
    | with_reducible apply State.tclkResume_keeps
    | with_reducible apply State.setRadio_keeps
    | with_reducible apply State.pcieComesUp_keeps
    | with_reducible apply Keeps.ite
    | with_reducible apply Keeps.foldl
    | intro _ _ _
    | intro _ _
    | split
    | (dsimp only)
    | ((with_reducible refine Keeps.upd ?_ ?_); rotate_left; focus (first | exact ⟨rfl, rfl, rfl, rfl, rfl, rfl, rfl, rfl, rfl, rfl, rfl, rfl, rfl⟩ | (simp +zetaDelta [modAt]; done)))

theorem State.heldRun_keeps {s0 s : State} (h : Keeps s0 s) : Keeps s0 (State.heldRun s) := by
  unfold State.heldRun
  repeat' first
    | with_reducible assumption
    | with_reducible apply State.busWrite_keeps
    | with_reducible apply State.busRead_keeps
    | with_reducible apply Keeps.ite
    | with_reducible apply Keeps.foldl
    | intro _ _ _
    | intro _ _
    | split
    | (dsimp only)
    | ((with_reducible refine Keeps.upd ?_ ?_); rotate_left; focus (first | exact ⟨rfl, rfl, rfl, rfl, rfl, rfl, rfl, rfl, rfl, rfl, rfl, rfl, rfl⟩ | (simp +zetaDelta [modAt]; done)))

theorem State.calStay_keeps {s0 s : State} (h : Keeps s0 s) : Keeps s0 (State.calStay s) := by
  unfold State.calStay
  repeat' first
    | with_reducible assumption
    | with_reducible apply State.calOverdue_keeps
    | with_reducible apply Keeps.ite
    | with_reducible apply Keeps.foldl
    | intro _ _ _
    | intro _ _
    | split
    | (dsimp only)
    | ((with_reducible refine Keeps.upd ?_ ?_); rotate_left; focus (first | exact ⟨rfl, rfl, rfl, rfl, rfl, rfl, rfl, rfl, rfl, rfl, rfl, rfl, rfl⟩ | (simp +zetaDelta [modAt]; done)))

theorem State.returnRun_keeps {s0 s : State} (h : Keeps s0 s) : ∀ x1 x2 x3, Keeps s0 (State.returnRun s x1 x2 x3) := by
  intro x1 x2 x3
  unfold State.returnRun
  repeat' first
    | with_reducible assumption
    | with_reducible apply State.put_keeps
    | with_reducible apply State.lockOrFallBack_keeps
    | with_reducible apply State.fromDeep_keeps
    | with_reducible apply State.heldRun_keeps
    | with_reducible apply State.pwrRelease_keeps
    | with_reducible apply State.calStay_keeps
    | with_reducible apply Keeps.ite
    | with_reducible apply Keeps.foldl
    | intro _ _ _
    | intro _ _
    | split
    | (dsimp only)
    | ((with_reducible refine Keeps.upd ?_ ?_); rotate_left; focus (first | exact ⟨rfl, rfl, rfl, rfl, rfl, rfl, rfl, rfl, rfl, rfl, rfl, rfl, rfl⟩ | (simp +zetaDelta [modAt]; done)))

theorem State.radioTick_keeps {s0 s : State} (h : Keeps s0 s) : ∀ x1, Keeps s0 (State.radioTick s x1) := by
  intro x1
  unfold State.radioTick
  repeat' first
    | with_reducible assumption
    | with_reducible apply State.restLeave_keeps
    | with_reducible apply State.radMod_keeps
    | with_reducible apply State.releaseHeld_keeps
    | with_reducible apply Keeps.ite
    | with_reducible apply Keeps.foldl
    | intro _ _ _
    | intro _ _
    | split
    | (dsimp only)
    | ((with_reducible refine Keeps.upd ?_ ?_); rotate_left; focus (first | exact ⟨rfl, rfl, rfl, rfl, rfl, rfl, rfl, rfl, rfl, rfl, rfl, rfl, rfl⟩ | (simp +zetaDelta [modAt]; done)))

theorem State.idlePeriod_keeps {s0 s : State} (h : Keeps s0 s) : Keeps s0 (State.idlePeriod s) := by
  unfold State.idlePeriod
  repeat' first
    | with_reducible assumption
    | with_reducible apply State.radioTick_keeps
    | with_reducible apply State.leaveDue_keeps
    | with_reducible apply State.stallTime_keeps
    | with_reducible apply State.chkTick_keeps
    | with_reducible apply State.jumped_keeps
    | with_reducible apply State.idleTick_keeps
    | with_reducible apply State.heldRun_keeps
    | with_reducible apply Keeps.ite
    | with_reducible apply Keeps.foldl
    | intro _ _ _
    | intro _ _
    | split
    | (dsimp only)
    | ((with_reducible refine Keeps.upd ?_ ?_); rotate_left; focus (first | exact ⟨rfl, rfl, rfl, rfl, rfl, rfl, rfl, rfl, rfl, rfl, rfl, rfl, rfl⟩ | (simp +zetaDelta [modAt]; done)))

theorem State.dbgMod_keeps {s0 s : State} (h : Keeps s0 s) : ∀ x1, Keeps s0 (State.dbgMod s x1) := by
  intro x1
  unfold State.dbgMod
  repeat' first
    | with_reducible assumption
    | with_reducible apply Keeps.ite
    | with_reducible apply Keeps.foldl
    | intro _ _ _
    | intro _ _
    | split
    | (dsimp only)
    | ((with_reducible refine Keeps.upd ?_ ?_); rotate_left; focus (first | exact ⟨rfl, rfl, rfl, rfl, rfl, rfl, rfl, rfl, rfl, rfl, rfl, rfl, rfl⟩ | (simp +zetaDelta [modAt]; done)))

theorem State.tdo_keeps {s0 s : State} (h : Keeps s0 s) : ∀ x1, Keeps s0 (State.tdo s x1) := by
  intro x1
  unfold State.tdo
  repeat' first
    | with_reducible assumption
    | with_reducible apply Keeps.ite
    | with_reducible apply Keeps.foldl
    | intro _ _ _
    | intro _ _
    | split
    | (dsimp only)
    | ((with_reducible refine Keeps.upd ?_ ?_); rotate_left; focus (first | exact ⟨rfl, rfl, rfl, rfl, rfl, rfl, rfl, rfl, rfl, rfl, rfl, rfl, rfl⟩ | (simp +zetaDelta [modAt]; done)))

theorem State.ballsGo_keeps {s0 s : State} (h : Keeps s0 s) : Keeps s0 (State.ballsGo s) := by
  unfold State.ballsGo
  repeat' first
    | with_reducible assumption
    | with_reducible apply State.linkSet_keeps
    | with_reducible apply State.rxAbort_keeps
    | with_reducible apply State.endTx_keeps
    | with_reducible apply State.pcieReset_keeps
    | with_reducible apply Keeps.ite
    | with_reducible apply Keeps.foldl
    | intro _ _ _
    | intro _ _
    | split
    | (dsimp only)
    | ((with_reducible refine Keeps.upd ?_ ?_); rotate_left; focus (first | exact ⟨rfl, rfl, rfl, rfl, rfl, rfl, rfl, rfl, rfl, rfl, rfl, rfl, rfl⟩ | (simp +zetaDelta [modAt]; done)))

theorem State.tapSelect_keeps {s0 s : State} (h : Keeps s0 s) : ∀ x1, Keeps s0 (State.tapSelect s x1) := by
  intro x1
  unfold State.tapSelect
  repeat' first
    | with_reducible assumption
    | with_reducible apply State.dbgMod_keeps
    | with_reducible apply State.ballsGo_keeps
    | with_reducible apply State.pcieComesUp_keeps
    | with_reducible apply Keeps.ite
    | with_reducible apply Keeps.foldl
    | intro _ _ _
    | intro _ _
    | split
    | (dsimp only)
    | ((with_reducible refine Keeps.upd ?_ ?_); rotate_left; focus (first | exact ⟨rfl, rfl, rfl, rfl, rfl, rfl, rfl, rfl, rfl, rfl, rfl, rfl, rfl⟩ | (simp +zetaDelta [modAt]; done)))

theorem State.haltRelease_keeps {s0 s : State} (h : Keeps s0 s) : Keeps s0 (State.haltRelease s) := by
  unfold State.haltRelease
  repeat' first
    | with_reducible assumption
    | with_reducible apply State.dbgMod_keeps
    | with_reducible apply State.blankFree_keeps
    | with_reducible apply State.setEngine_keeps
    | with_reducible apply State.engMod_keeps
    | with_reducible apply Keeps.ite
    | with_reducible apply Keeps.foldl
    | intro _ _ _
    | intro _ _
    | split
    | (dsimp only)
    | ((with_reducible refine Keeps.upd ?_ ?_); rotate_left; focus (first | exact ⟨rfl, rfl, rfl, rfl, rfl, rfl, rfl, rfl, rfl, rfl, rfl, rfl, rfl⟩ | (simp +zetaDelta [modAt]; done)))

theorem State.endSession_keeps {s0 s : State} (h : Keeps s0 s) : Keeps s0 (State.endSession s) := by
  unfold State.endSession
  repeat' first
    | with_reducible assumption
    | with_reducible apply State.dbgMod_keeps
    | with_reducible apply State.haltRelease_keeps
    | with_reducible apply Keeps.ite
    | with_reducible apply Keeps.foldl
    | intro _ _ _
    | intro _ _
    | split
    | (dsimp only)
    | ((with_reducible refine Keeps.upd ?_ ?_); rotate_left; focus (first | exact ⟨rfl, rfl, rfl, rfl, rfl, rfl, rfl, rfl, rfl, rfl, rfl, rfl, rfl⟩ | (simp +zetaDelta [modAt]; done)))

theorem State.challengeIssue_keeps {s0 s : State} (h : Keeps s0 s) : Keeps s0 (State.challengeIssue s) := by
  unfold State.challengeIssue
  repeat' first
    | with_reducible assumption
    | with_reducible apply State.tdo_keeps
    | with_reducible apply State.dbgMod_keeps
    | with_reducible apply Keeps.ite
    | with_reducible apply Keeps.foldl
    | intro _ _ _
    | intro _ _
    | split
    | (dsimp only)
    | ((with_reducible refine Keeps.upd ?_ ?_); rotate_left; focus (first | exact ⟨rfl, rfl, rfl, rfl, rfl, rfl, rfl, rfl, rfl, rfl, rfl, rfl, rfl⟩ | (simp +zetaDelta [modAt]; done)))

theorem State.respond_keeps {s0 s : State} (h : Keeps s0 s) : ∀ x1, Keeps s0 (State.respond s x1) := by
  intro x1
  unfold State.respond
  repeat' first
    | with_reducible assumption
    | with_reducible apply State.dbgMod_keeps
    | with_reducible apply Keeps.ite
    | with_reducible apply Keeps.foldl
    | intro _ _ _
    | intro _ _
    | split
    | (dsimp only)
    | ((with_reducible refine Keeps.upd ?_ ?_); rotate_left; focus (first | exact ⟨rfl, rfl, rfl, rfl, rfl, rfl, rfl, rfl, rfl, rfl, rfl, rfl, rfl⟩ | (simp +zetaDelta [modAt]; done)))

theorem State.verified_keeps {s0 s : State} (h : Keeps s0 s) : Keeps s0 (State.verified s) := by
  unfold State.verified
  repeat' first
    | with_reducible assumption
    | with_reducible apply State.dbgMod_keeps
    | with_reducible apply Keeps.ite
    | with_reducible apply Keeps.foldl
    | intro _ _ _
    | intro _ _
    | split
    | (dsimp only)
    | ((with_reducible refine Keeps.upd ?_ ?_); rotate_left; focus (first | exact ⟨rfl, rfl, rfl, rfl, rfl, rfl, rfl, rfl, rfl, rfl, rfl, rfl, rfl⟩ | (simp +zetaDelta [modAt]; done)))

theorem State.haltCtrl_keeps {s0 s : State} (h : Keeps s0 s) {x1 : State → State} (h1 : ∀ t, Keeps s0 t → Keeps s0 (x1 t)) : Keeps s0 (State.haltCtrl s x1) := by
  unfold State.haltCtrl
  repeat' first
    | with_reducible assumption
    | with_reducible apply State.tapSelect_keeps
    | with_reducible apply State.tdo_keeps
    | with_reducible apply h1
    | with_reducible apply Keeps.ite
    | with_reducible apply Keeps.foldl
    | intro _ _ _
    | intro _ _
    | split
    | (dsimp only)
    | ((with_reducible refine Keeps.upd ?_ ?_); rotate_left; focus (first | exact ⟨rfl, rfl, rfl, rfl, rfl, rfl, rfl, rfl, rfl, rfl, rfl, rfl, rfl⟩ | (simp +zetaDelta [modAt]; done)))

theorem State.halt_keeps {s0 s : State} (h : Keeps s0 s) : ∀ x1 x2, Keeps s0 (State.halt s x1 x2) := by
  intro x1 x2
  unfold State.halt
  repeat' first
    | with_reducible assumption
    | with_reducible apply State.dbgMod_keeps
    | with_reducible apply State.retireAll_keeps
    | with_reducible apply State.engMod_keeps
    | with_reducible apply State.setEngine_keeps
    | with_reducible apply State.put_keeps
    | with_reducible apply State.roleLost_keeps
    | with_reducible apply Keeps.ite
    | with_reducible apply Keeps.foldl
    | intro _ _ _
    | intro _ _
    | split
    | (dsimp only)
    | ((with_reducible refine Keeps.upd ?_ ?_); rotate_left; focus (first | exact ⟨rfl, rfl, rfl, rfl, rfl, rfl, rfl, rfl, rfl, rfl, rfl, rfl, rfl⟩ | (simp +zetaDelta [modAt]; done)))

theorem State.shadowRun_keeps {s0 s : State} (h : Keeps s0 s) : ∀ x1, Keeps s0 (State.shadowRun s x1).2 := by
  intro x1
  unfold State.shadowRun
  split
  · extract_lets s1 cap s2
    have h2 : Keeps s0 s2 := State.dbgMod_keeps (State.engMod_keeps h _ _) _
    split
    · dsimp only
      exact State.dbgMod_keeps h2 _
    · exact h2
  · exact h

theorem State.shadowRun_keeps_eq {s0 s t : State} {x1 a} (h : Keeps s0 s) (e : State.shadowRun s x1 = (a, t)) : Keeps s0 t := by
  have := State.shadowRun_keeps h x1
  rw [e] at this
  exact this

theorem State.step1_keeps {s0 s : State} (h : Keeps s0 s) : ∀ x1, Keeps s0 (State.step1 s x1) := by
  intro x1
  unfold State.step1
  repeat' first
    | with_reducible assumption
    | with_reducible apply State.shadowRun_keeps
    | with_reducible apply State.dbgMod_keeps
    | with_reducible refine State.shadowRun_keeps_eq ?_ (by with_reducible assumption)
    | with_reducible apply Keeps.ite
    | with_reducible apply Keeps.foldl
    | intro _ _ _
    | intro _ _
    | split
    | (dsimp only)
    | ((with_reducible refine Keeps.upd ?_ ?_); rotate_left; focus (first | exact ⟨rfl, rfl, rfl, rfl, rfl, rfl, rfl, rfl, rfl, rfl, rfl, rfl, rfl⟩ | (simp +zetaDelta [modAt]; done)))

theorem State.runOn_keeps {s0 s : State} (h : Keeps s0 s) : ∀ x1 x2, Keeps s0 (State.runOn s x1 x2) := by
  intro x1 x2
  induction x2 generalizing s x1 with
  | nil => exact Keeps.ite (State.dbgMod_keeps h _) h
  | cons r l ih =>
    unfold State.runOn
    refine Keeps.ite (State.dbgMod_keeps h _) ?_
    split
    · exact ih (State.shadowRun_keeps h _) _
    · exact ih (State.dbgMod_keeps (State.shadowRun_keeps h _) _) _

theorem State.runAll_keeps {s0 s : State} (h : Keeps s0 s) : ∀ x1, Keeps s0 (State.runAll s x1) := by
  intro x1
  unfold State.runAll
  repeat' first
    | with_reducible assumption
    | with_reducible apply State.runOn_keeps
    | with_reducible apply State.dbgMod_keeps
    | with_reducible apply Keeps.ite
    | with_reducible apply Keeps.foldl
    | intro _ _ _
    | intro _ _
    | split
    | (dsimp only)
    | ((with_reducible refine Keeps.upd ?_ ?_); rotate_left; focus (first | exact ⟨rfl, rfl, rfl, rfl, rfl, rfl, rfl, rfl, rfl, rfl, rfl, rfl, rfl⟩ | (simp +zetaDelta [modAt]; done)))

theorem State.breakWrite_keeps {s0 s : State} (h : Keeps s0 s) : ∀ x1, Keeps s0 (State.breakWrite s x1) := by
  intro x1
  unfold State.breakWrite
  repeat' first
    | with_reducible assumption
    | with_reducible apply State.dbgMod_keeps
    | with_reducible apply Keeps.ite
    | with_reducible apply Keeps.foldl
    | intro _ _ _
    | intro _ _
    | split
    | (dsimp only)
    | ((with_reducible refine Keeps.upd ?_ ?_); rotate_left; focus (first | exact ⟨rfl, rfl, rfl, rfl, rfl, rfl, rfl, rfl, rfl, rfl, rfl, rfl, rfl⟩ | (simp +zetaDelta [modAt]; done)))

theorem State.accEnd_keeps {s0 s : State} (h : Keeps s0 s) : ∀ x1 x2, Keeps s0 (State.accEnd s x1 x2) := by
  intro x1 x2
  unfold State.accEnd
  repeat' first
    | with_reducible assumption
    | with_reducible apply State.dbgMod_keeps
    | with_reducible apply Keeps.ite
    | with_reducible apply Keeps.foldl
    | intro _ _ _
    | intro _ _
    | split
    | (dsimp only)
    | ((with_reducible refine Keeps.upd ?_ ?_); rotate_left; focus (first | exact ⟨rfl, rfl, rfl, rfl, rfl, rfl, rfl, rfl, rfl, rfl, rfl, rfl, rfl⟩ | (simp +zetaDelta [modAt]; done)))

theorem State.accBar0_keeps {s0 s : State} (h : Keeps s0 s) : ∀ x1 x2 x3 x4, Keeps s0 (State.accBar0 s x1 x2 x3 x4) := by
  intro x1 x2 x3 x4
  unfold State.accBar0
  repeat' first
    | with_reducible assumption
    | with_reducible apply State.accEnd_keeps
    | with_reducible apply State.collided_keeps
    | with_reducible apply State.busWrite_keeps
    | with_reducible apply State.busRead_keeps
    | with_reducible apply Keeps.ite
    | with_reducible apply Keeps.foldl
    | intro _ _ _
    | intro _ _
    | split
    | (dsimp only)
    | ((with_reducible refine Keeps.upd ?_ ?_); rotate_left; focus (first | exact ⟨rfl, rfl, rfl, rfl, rfl, rfl, rfl, rfl, rfl, rfl, rfl, rfl, rfl⟩ | (simp +zetaDelta [modAt]; done)))

theorem State.accSp_keeps {s0 s : State} (h : Keeps s0 s) : ∀ x1 x2 x3 x4, Keeps s0 (State.accSp s x1 x2 x3 x4) := by
  intro x1 x2 x3 x4
  unfold State.accSp
  repeat' first
    | with_reducible assumption
    | with_reducible apply State.accEnd_keeps
    | with_reducible apply State.engMod_keeps
    | with_reducible apply Keeps.ite
    | with_reducible apply Keeps.foldl
    | intro _ _ _
    | intro _ _
    | split
    | (dsimp only)
    | ((with_reducible refine Keeps.upd ?_ ?_); rotate_left; focus (first | exact ⟨rfl, rfl, rfl, rfl, rfl, rfl, rfl, rfl, rfl, rfl, rfl, rfl, rfl⟩ | (simp +zetaDelta [modAt]; done)))

theorem State.accDram_keeps {s0 s : State} (h : Keeps s0 s) : ∀ x1 x2 x3 x4, Keeps s0 (State.accDram s x1 x2 x3 x4) := by
  intro x1 x2 x3 x4
  unfold State.accDram
  repeat' first
    | with_reducible assumption
    | with_reducible apply State.accEnd_keeps
    | with_reducible apply State.dramWrite_keeps
    | with_reducible apply State.dramWord_keeps
    | with_reducible apply State.readEnd_keeps
    | with_reducible refine State.dramWord_keeps_eq ?_ (by with_reducible assumption)
    | with_reducible apply Keeps.ite
    | with_reducible apply Keeps.foldl
    | intro _ _ _
    | intro _ _
    | split
    | (dsimp only)
    | ((with_reducible refine Keeps.upd ?_ ?_); rotate_left; focus (first | exact ⟨rfl, rfl, rfl, rfl, rfl, rfl, rfl, rfl, rfl, rfl, rfl, rfl, rfl⟩ | (simp +zetaDelta [modAt]; done)))

theorem State.accCapture_keeps {s0 s : State} (h : Keeps s0 s) : ∀ x1 x2 x3 x4, Keeps s0 (State.accCapture s x1 x2 x3 x4) := by
  intro x1 x2 x3 x4
  unfold State.accCapture
  repeat' first
    | with_reducible assumption
    | with_reducible apply State.accEnd_keeps
    | with_reducible apply Keeps.ite
    | with_reducible apply Keeps.foldl
    | intro _ _ _
    | intro _ _
    | split
    | (dsimp only)
    | ((with_reducible refine Keeps.upd ?_ ?_); rotate_left; focus (first | exact ⟨rfl, rfl, rfl, rfl, rfl, rfl, rfl, rfl, rfl, rfl, rfl, rfl, rfl⟩ | (simp +zetaDelta [modAt]; done)))

theorem State.access_keeps {s0 s : State} (h : Keeps s0 s) : ∀ x1 x2 x3, Keeps s0 (State.access s x1 x2 x3) := by
  intro x1 x2 x3
  unfold State.access
  repeat' first
    | with_reducible assumption
    | with_reducible apply State.tdo_keeps
    | with_reducible apply State.accBar0_keeps
    | with_reducible apply State.accSp_keeps
    | with_reducible apply State.accDram_keeps
    | with_reducible apply State.accCapture_keeps
    | with_reducible apply Keeps.ite
    | with_reducible apply Keeps.foldl
    | intro _ _ _
    | intro _ _
    | split
    | (dsimp only)
    | ((with_reducible refine Keeps.upd ?_ ?_); rotate_left; focus (first | exact ⟨rfl, rfl, rfl, rfl, rfl, rfl, rfl, rfl, rfl, rfl, rfl, rfl, rfl⟩ | (simp +zetaDelta [modAt]; done)))

theorem idle_keeps {s0 s : State} (h : Keeps s0 s) : Keeps s0 (idle s) := by
  unfold idle
  repeat' first
    | with_reducible assumption
    | with_reducible apply State.idlePeriod_keeps
    | with_reducible apply Keeps.ite
    | with_reducible apply Keeps.foldl
    | intro _ _ _
    | intro _ _
    | split
    | (dsimp only)
    | ((with_reducible refine Keeps.upd ?_ ?_); rotate_left; focus (first | exact ⟨rfl, rfl, rfl, rfl, rfl, rfl, rfl, rfl, rfl, rfl, rfl, rfl, rfl⟩ | (simp +zetaDelta [modAt]; done)))

end Sys2Proof.Machine
end

