-- ==== Sys2Proof/Machine/Pins.lean ====
section
/-! DEFINITION. What the device holds its pins at (R431, R473): a view of the state, by groups of balls. -/

namespace Sys2Proof.Machine

/-- The groups of balls that R431 names: the PA_EN, LNA_EN and TRSW lines of a chain, EXT_GNT, DEV_REQ, an Ethernet port's and the PCIe transmitters, the RF, Traverse and wake-up outputs,
the SPI flash, TOUT0 to TOUT3, PPS_OUT, DRAM RESET_n, and the inputs WAKE_N, RESET_N and PERST_N. -/
inductive PinGroup where
  | paEn (c : Fin 16) | lnaEn (c : Fin 16) | trsw (c : Fin 16)
  | extGnt | devReq
  | ethTx (p : Fin 4) | pcieTx
  | rfOut
  | spiCs | spiBus
  | tout (i : Fin 4) | ppsOut
  | dramResetN
  | wakeN | resetN | perstN
deriving DecidableEq, Repr

/-- What a ball is held at: high impedance, a level, electrical idle, in use by its function, RF off, an input, or in the hands of the boundary scan. -/
inductive Pad where
  | hiZ | low | high | idle | active | off | input | scan
deriving DecidableEq, Repr

/-- The columns of R431, and Run. -/
inductive PinPhase where
  | reset | start | run | sleep | deep | off
deriving DecidableEq, Repr

/-- The column of R431 that holds now: "reset" runs to the end of step 2 of a start, "start" from then until the Plate is in service. -/
def State.pinPhase (s : State) : PinPhase :=
  match s.pwr.stage with
  | .off => .off
  | .up => if s.asleep then .sleep else if !s.answers then .deep else if s.inService then .run else .start
  | _ => .reset

/-- A level as a pad. -/
def padLevel (b : Bool) : Pad := if b then .high else .low

/-- A signal of the coexistence interface as its ball shows it: INVERT bit `i` turns it over (R117). -/
def State.coexPad (s : State) (i : Nat) (b : Bool) : Pad := padLevel (b != bit (s.get F.CHN_COEX_CTRL_INVERT) i)

/-- R431: what a ball is held at by its device function. -/
def State.padByFunction (s : State) (p : PinGroup) : Pad :=
  let ph := s.pinPhase
  let held : Bool := ph == .reset || ph == .off
  match p with
  | .paEn c => if held then .hiZ else padLevel (ph == .run && (s.chain c).pa)
  | .lnaEn c => if held then .hiZ else padLevel (ph == .run && (s.chain c).lna)
  | .trsw c => if held then .hiZ else padLevel (ph == .run && (s.chain c).trsw)
  | .extGnt => if held ∨ ph = .deep then .hiZ else s.coexPad 2 (ph != .start && s.chn.extGnt)
  | .devReq => if held ∨ ph = .deep then .hiZ else s.coexPad 3 (ph == .run && s.chn.devReq)
  | .ethTx q => if (ph = .run ∨ ph = .sleep ∨ ph = .start) ∧ s.isSet (F.ETH_STATUS_LINK q) then .active else .idle
  | .pcieTx => if (ph = .run ∨ ph = .sleep ∨ ph = .start) ∧ s.hst.pcieUp then .active else .idle
  | .rfOut => if ph = .run ∧ ((List.range 3).any s.onAir ∨ s.t0 < s.trv.txUntil) then .active else .off
  | .spiCs => if held then .hiZ else if ph = .sleep ∨ ph = .deep then .high else .active
  | .spiBus => if held then .hiZ else .active
  | .tout i => if held then .hiZ else padLevel ((ph == .run || ph == .sleep) && s.tim.tout.getD i false)
  | .ppsOut => if held then .hiZ else padLevel ((ph == .run || ph == .sleep) && s.tim.pps)
  | .dramResetN => if held then .hiZ else if ph = .start then padLevel s.mem.resetN else .high
  | .wakeN => .input
  | .resetN | .perstN => if ph = .off then .hiZ else .input

/-- R431, R473: what a ball is held at. EXTEST, CLAMP and HIGHZ take every ball but those without a boundary cell, and EXTEST the front-end lines only where the regulatory lock is blown. -/
def State.pad (s : State) (p : PinGroup) : Pad :=
  match s.dbg.instr, p with
  | .extest, .paEn _ | .extest, .lnaEn _ | .extest, .trsw _ => if s.rfuse.lock then .scan else s.padByFunction p
  | .extest, .rfOut | .clamp, .rfOut | .highz, .rfOut => s.padByFunction p
  | .extest, _ | .clamp, _ => .scan
  | .highz, _ => .hiZ
  | _, _ => s.padByFunction p

end Sys2Proof.Machine
end

