-- ==== Sys2Proof/Tests/Slice0.lean ====
section
/-! SUPPORT. Tests. First the ill-formed commands that `Instr.wf` refuses, and small tests whose expected values are the spec's worked examples
or rules. Then, for the statements of Certificates/Slice0/Obligations.lean, one witness theorem for each statement or part of one: for every
clause with hypotheses, a state and operands that meet them all. -/

set_option maxRecDepth 100000
set_option Elab.async false

open Sys2Proof Sys2Proof.Machine

namespace Wit

/-- After the start, with no Plate. -/
def up : State :=
  { State.reset with pwr := { State.reset.pwr with stage := .up }, regs := [(0x30000, 4#32)] }

/-- `l` with the bytes of each number `(offset, bytes, value)` in place. -/
def patch (l : List Byte) (ps : List (Nat × Nat × Nat)) : List Byte :=
  ps.foldl (fun l p => l.take p.1 ++ leBytes p.2.1 p.2.2 ++ l.drop (p.1 + p.2.1)) l

/-- A Legend: 512 bytes, engines 12 and 13 spare. -/
def legD : List Byte :=
  List.replicate 14 0#8 ++ List.replicate 6 1#8 ++ [2#8, 2#8, 2#8, 2#8, 0#8, 1#8, 2#8, 15#8, 0#8, 1#8] ++ List.replicate 26 0#8 ++ [1#8, 1#8, 1#8, 1#8, 0#8, 0#8, 255#8] ++ List.replicate 9 0#8 ++ [100#8, 0#8, 100#8, 0#8, 100#8, 0#8, 0#8, 0#8, 2#8, 2#8, 2#8, 2#8, 10#8, 0#8, 0#8, 0#8, 16#8, 0#8, 0#8, 0#8, 16#8] ++ List.replicate 419 0#8

/-- `s` with that Legend, changed at these numbers. -/
def withLeg (s : State) (ps : List (Nat × Nat × Nat)) : State := { s with plt := { s.plt with legend := patch legD ps } }

/-- The registers of `live`: PLT_STATUS in service, engines 0 to 11 serve roles 1 to 12, engines 12 and 13 spare. -/
def liveRegs : List (Nat × Word) :=
  [(0x30000, 516#32), (0x40000, 18#32), (0x40004, 34#32), (0x40008, 50#32), (0x4000c, 66#32), (0x40010, 82#32), (0x40014, 98#32), (0x40018, 114#32),
   (0x4001c, 130#32), (0x40020, 146#32), (0x40024, 162#32), (0x40028, 178#32), (0x4002c, 194#32), (0x40030, 1#32), (0x40034, 1#32), (0x40040, 0#32),
   (0x40044, 1#32), (0x40048, 2#32), (0x4004c, 3#32), (0x40050, 4#32), (0x40054, 5#32), (0x40058, 6#32), (0x4005c, 7#32), (0x40060, 8#32),
   (0x40064, 9#32), (0x40068, 10#32), (0x4006c, 11#32)]

/-- In service: a Plate placed, engines serving and spare. -/
def live : State :=
  { up with plt := { up.plt with legend := legD }, regs := liveRegs }

/-- A regulatory profile that passes its checks. -/
def prof0 : List Byte :=
  [165#8, 0#8, 0#8, 0#8, 254#8, 127#8, 0#8, 0#8] ++ List.replicate 32 255#8 ++ [1#8, 3#8, 4#8] ++ List.replicate 13 0#8 ++ [80#8, 0#8, 80#8, 80#8, 0#8, 0#8, 0#8, 0#8] ++ List.replicate 48 80#8 ++ List.replicate 12 0#8 ++ [177#8, 216#8, 62#8, 223#8]

/-- A profile with other bytes, its check computed. -/
def profGood (ps : List (Nat × Nat × Nat) := []) : List Byte :=
  let b := patch (List.replicate 128 0#8) ([(0,1,0xA5),(4,2,0x7FFE),(8,24,2^192-1),(0x20,8,2^64-1),(0x28,1,1),(0x29,1,3),(0x2A,1,4),(0x38,1,80),(0x3A,1,80),(0x3B,1,80)] ++ (List.range 48).map (fun k => (0x40+k,1,80)) ++ ps)
  patch b [(0x7C,4,crc32c (b.take 0x7C))]

/-- A run of kind `k`. -/
def runOf (k : Nat) : Run := ⟨k, 0, false, 0, 0, false, 0, 1000, 0⟩

/-- The registers of the chains and synthesisers of `radio`. -/
def radioRegs : List (Nat × Word) :=
  [(0x1c0000, 8#32), (0x1c0004, 8#32), (0x1c0008, 8#32), (0x1c000c, 8#32), (0x1c0010, 8#32), (0x1c0014, 8#32), (0x1c0018, 9#32), (0x1c001c, 9#32),
   (0x1c0020, 9#32), (0x1c0024, 9#32), (0x1c0028, 9#32), (0x1c002c, 9#32), (0x1c0030, 10#32), (0x1c0034, 10#32), (0x1c0038, 10#32), (0x1c003c, 10#32),
   (0x1c0040, 8#32), (0x1c0044, 9#32), (0x1c0048, 10#32), (0x1c0050, 388#32), (0x1c0054, 388#32), (0x1c0058, 260#32), (0x1c00d0, 2#32)]

/-- In service with three radios that receive on channels of their own, each in a run of contention, under a written regulatory profile. -/
def radio : State :=
  { live with
    pwr := { live.pwr with funcs := live.pwr.funcs.map (fun f => { f with on := true }) },
    rfuse := { live.rfuse with lock := true, profiles := live.rfuse.profiles.set 0 prof0 },
    chn := { live.chn with
      xo80 := true,
      chains := live.chn.chains.map (fun c => { c with lna := true }),
      radios := List.zipWith (fun (c : Channel) r => { r with chan := some c }) [⟨0, [1], 0⟩, ⟨1, [36], 0⟩, ⟨2, [0], 0⟩] live.chn.radios },
    grt := { live.grt with radios := live.grt.radios.map (fun g => { g with run := some (runOf kCTN) }) },
    regs := (0x10028, 16#32) :: liveRegs ++ radioRegs }

/-! ### Blocks of 4,096 bytes, their check computed with each value forced -/

/-- `crcBit` over bits, each value computed before the next. -/
def crcBits (poly : Nat) : List Bool → Nat → Nat
  | [], r => r
  | b :: bs, r =>
    match crcBit 32 poly r b with
    | 0 => crcBits poly bs 0
    | k + 1 => crcBits poly bs (k + 1)
theorem crcBits_eq (poly : Nat) (bs : List Bool) (r : Nat) : crcBits poly bs r = bs.foldl (crcBit 32 poly) r := by
  induction bs generalizing r with
  | nil => rfl
  | cons b bs ih => rw [crcBits, List.foldl_cons]; cases h : crcBit 32 poly r b <;> simp [ih]
def crcRun (poly : Nat) : List Byte → Nat → Nat
  | [], r => r
  | b :: bs, r =>
    match crcBits poly (byteBits true b) r with
    | 0 => crcRun poly bs 0
    | k + 1 => crcRun poly bs (k + 1)
theorem crcRun_eq (poly : Nat) (bs : List Byte) (r : Nat) : crcRun poly bs r = bs.foldl (crcByte 32 poly true) r := by
  induction bs generalizing r with
  | nil => rfl
  | cons b bs ih =>
    have h2 : crcByte 32 poly true r b = crcBits poly (byteBits true b) r := by rw [crcBits_eq]; rfl
    rw [crcRun, List.foldl_cons, h2]; cases crcBits poly (byteBits true b) r <;> simp [ih]

/-- `n` zero bits into a CRC-32C register, each value computed before the next. -/
def zeroBits : Nat → Nat → Nat
  | 0, r => r
  | n + 1, r =>
    match cond (Nat.ble 0x80000000 r) ((2 * r - 0x100000000) ^^^ 0x1EDC6F41) (2 * r) with
    | 0 => zeroBits n 0
    | k + 1 => zeroBits n (k + 1)
theorem zeroBits_step (n r : Nat) : zeroBits (n + 1) r =
    zeroBits n (cond (Nat.ble 0x80000000 r) ((2 * r - 0x100000000) ^^^ 0x1EDC6F41) (2 * r)) := by
  rw [zeroBits]; cases cond (Nat.ble 0x80000000 r) ((2 * r - 0x100000000) ^^^ 0x1EDC6F41) (2 * r) <;> rfl
theorem bit31 (r : Nat) (h : r < 4294967296) : bit r 31 = decide (0x80000000 ≤ r) := by
  unfold bit bits
  rcases Nat.lt_or_ge r 0x80000000 with hc | hc
  · have : r / 2 ^ 31 % 2 ^ 1 = 0 := by omega
    rw [this, decide_eq_false (by omega)]; rfl
  · have : r / 2 ^ 31 % 2 ^ 1 = 1 := by omega
    rw [this, decide_eq_true hc]; rfl
theorem a1 (r : Nat) (h : r < 4294967296) (hc : r < 0x80000000) : crcBit 32 0x1EDC6F41 r false = 2 * r := by
      have h1 : r * 2 % 2 ^ 32 = 2 * r := by omega
      have hb := bit31 r h
      rw [decide_eq_false (by omega)] at hb
      unfold crcBit
      rw [show 32 - 1 = 31 from rfl, hb, h1]
      rfl
theorem a2 (r : Nat) (h : r < 4294967296) (hc : 0x80000000 ≤ r) : crcBit 32 0x1EDC6F41 r false = (2 * r - 0x100000000) ^^^ 0x1EDC6F41 := by
      have h1 : r * 2 % 2 ^ 32 = 2 * r - 0x100000000 := by omega
      have hb := bit31 r h
      rw [decide_eq_true hc] at hb
      unfold crcBit
      rw [show 32 - 1 = 31 from rfl, hb, h1]
      exact if_pos rfl


theorem crcBit_zero (r : Nat) (h : r < 4294967296) : crcBit 32 0x1EDC6F41 r false =
    cond (Nat.ble 0x80000000 r) ((2 * r - 0x100000000) ^^^ 0x1EDC6F41) (2 * r) ∧ crcBit 32 0x1EDC6F41 r false < 4294967296 := by
  rcases Nat.lt_or_ge r 0x80000000 with hc | hc
  · have hn : Nat.ble 0x80000000 r = false := by
      rw [Bool.eq_false_iff]; intro hh; have := Nat.le_of_ble_eq_true hh; omega
    rw [a1 r h hc, hn, cond_false]; exact ⟨by trivial, by omega⟩
  · rw [a2 r h hc, Nat.ble_eq_true_of_le hc, cond_true]
    exact ⟨Eq.refl _, Nat.lt_of_lt_of_le (Nat.xor_lt_two_pow (n := 32) (by omega) (by omega)) (by decide)⟩

theorem zeroBits_eq (n r : Nat) (h : r < 4294967296) : zeroBits n r = (List.replicate n false).foldl (crcBit 32 0x1EDC6F41) r := by
  induction n generalizing r with
  | zero => rfl
  | succ n ih => rw [zeroBits_step, List.replicate_succ, List.foldl_cons, ← (crcBit_zero r h).1, ih _ (crcBit_zero r h).2]

theorem zeroBytes (n r : Nat) : (List.replicate n (0#8 : Byte)).foldl (crcByte 32 0x1EDC6F41 true) r =
    (List.replicate (8 * n) false).foldl (crcBit 32 0x1EDC6F41) r := by
  induction n generalizing r with
  | zero => rfl
  | succ n ih =>
    rw [List.replicate_succ, List.foldl_cons, ih, show 8 * (n + 1) = 8 + 8 * n by omega, ← List.replicate_append_replicate, List.foldl_append]; rfl
/-- A block of 4,096 bytes: `c`, zeros, the check. -/
def padded (c : List Byte) (v : Nat) : List Byte := c ++ List.replicate (4092 - c.length) 0#8 ++ leBytes 4 v
theorem padded_ok (c : List Byte) (r z v u : Nat) (hl : c.length ≤ 4092) (hr : crcRun 0x1EDC6F41 c 0xFFFFFFFF = r) (h : r < 4294967296)
    (hz : zeroBits (8 * (4092 - c.length)) r = z) (hv : crcFinish 32 true 0xFFFFFFFF z = v) (hu : u < 4294967296) : blockOk (padded c u) = (v == u) := by
  have hL : (leBytes 4 u).length = 4 := by simp [leBytes]
  have h0 : (c ++ List.replicate (4092 - c.length) (0#8 : Byte)).length = 4092 := by simp; omega
  have ht : (padded c u).take 4092 = c ++ List.replicate (4092 - c.length) 0#8 := by
    rw [padded, List.take_append_of_le_length (by omega), List.take_of_length_le (by omega)]
  have hd : leAt (padded c u) 4092 4 = u := by
    have h1 : ((padded c u).drop 4092).take 4 = leBytes 4 u := by
      rw [padded, List.drop_append, List.drop_of_length_le (by omega), h0, List.nil_append]
      exact List.take_of_length_le (by rw [List.length_drop]; omega)
    rw [leAt, slice, h1, hL, Nat.sub_self, List.replicate_zero, List.append_nil]
    simp only [leBytes, leNat, BitVec.toNat_ofNat]; omega
  have hc : crc32c (c ++ List.replicate (4092 - c.length) 0#8) = v := by
    rw [crc32c, crc, List.foldl_append, ← crcRun_eq _ c, hr, zeroBytes, ← zeroBits_eq _ _ h, hz, hv]
  have hp : (padded c u).length = 4096 := by rw [padded, List.length_append, h0, hL]
  rw [blockOk, ht, hd, hc, hp]; rfl

theorem plt_reset (off : Nat) (h : 0x30000 ≤ off) (h' : off < 0x40000) : resetWord off = 0#32 := by
  have hz : ∀ r ∈ pltRegs, specReset r = 0#32 := by decide +kernel
  have hb : blockRegs off = pltRegs := by
    unfold blockRegs
    rw [if_neg (by omega), if_neg (by omega), if_neg (by omega), if_pos (by omega)]
  simp only [resetWord]
  rw [if_neg (by simp only [A.CHN_SYNTH_STATUS]; omega), if_neg (by simp only [A.CHN_SYNTH_STATUS]; omega), if_neg (by simp only [A.CHN_SYNTH_STATUS]; omega),
    if_neg (by simp only [A.CMP_CTRL]; omega), if_neg (by simp only [A.CMP_CTRL]; omega), if_neg (by simp only [A.CMP_CTRL]; omega), if_neg (by simp only [A.CMP_PERIOD]; omega),
     if_neg (by omega), if_neg (by omega), if_neg (by omega), if_neg (by omega), if_neg (by omega), if_neg (by omega)]
  cases hr : regAt off with
  | none => rfl
  | some r =>
    unfold regAt at hr
    split at hr
    · cases hr
    · rw [hb] at hr; exact hz r (List.mem_of_find?_eq_some hr)
theorem kvGet_none {α : Type} (l : List (Nat × α)) (k : Nat) (h : ∀ e ∈ l, e.1 ≠ k) : kvGet l k = none := by
  induction l with
  | nil => rfl
  | cons e t ih =>
    obtain ⟨a, x⟩ := e
    rw [kvGet, if_neg (h (a, x) (List.mem_cons_self ..)), ih (fun e he => h e (List.mem_cons_of_mem _ he))]
theorem window (s : State) (k : Nat) (hk : k ≤ 1023) (h : ∀ e ∈ s.regs, e.1 < 0x32000 + 4 * k ∨ 0x32000 + 4092 ≤ e.1) :
    s.mbxWindow = wordBytes ((List.range k).map (fun w => s.rd (A.PLT_MBX_BLOCK w))) ++ List.replicate (4 * (1023 - k)) 0#8 ++
      leBytes 4 (s.rd (A.PLT_MBX_BLOCK 1023)).toNat := by
  have h0 : ∀ w, k ≤ w → w < 1023 → s.rd (A.PLT_MBX_BLOCK w) = 0#32 := by
    intro w h1 h2
    rw [State.rd, kvRead, kvGet_none _ _ (fun e he hh => by have := h e he; simp only [A.PLT_MBX_BLOCK] at hh; omega)]
    exact plt_reset _ (by simp only [A.PLT_MBX_BLOCK]; omega) (by simp only [A.PLT_MBX_BLOCK]; omega)
  have hz : ∀ n, n ≤ 1023 - k → wordBytes ((List.range (k + n)).map (fun w => s.rd (A.PLT_MBX_BLOCK w))) =
      wordBytes ((List.range k).map (fun w => s.rd (A.PLT_MBX_BLOCK w))) ++ List.replicate (4 * n) 0#8 := by
    intro n
    induction n with
    | zero => intro; simp
    | succ n ih =>
      intro hn
      have e := ih (by omega)
      simp only [wordBytes] at e ⊢
      rw [← Nat.add_assoc, List.range_succ, List.map_append, List.flatMap_append, e, List.append_assoc, show 4 * (n + 1) = 4 * n + 4 by omega,
        ← List.replicate_append_replicate]
      simp only [List.map_cons, List.map_nil, h0 (k + n) (by omega) (by omega)]; rfl
  have hl := hz (1023 - k) (by omega)
  rw [show k + (1023 - k) = 1023 by omega] at hl
  rw [State.mbxWindow, State.regBytes, show (1024 : Nat) = 1023 + 1 from rfl, List.range_succ, List.map_append, ← hl]
  simp [wordBytes]

/-- The window of a state whose only listed words are the first `k` and the last. -/
theorem window_padded (s : State) (k : Nat) (c : List Byte) (u : Nat) (hk : k ≤ 1023)
    (h : ∀ e ∈ s.regs, e.1 < 0x32000 + 4 * k ∨ 0x32000 + 4092 ≤ e.1) (hc : wordBytes ((List.range k).map (fun w => s.rd (A.PLT_MBX_BLOCK w))) = c)
    (hl : c.length = 4 * k) (hu : (s.rd (A.PLT_MBX_BLOCK 1023)).toNat = u) : s.mbxWindow = padded c u := by
  rw [window s k hk h, hc, hu, padded, hl, show 4 * (1023 - k) = 4092 - 4 * k by omega]
theorem zeros_ok (u : Nat) (hu : u < 4294967296) : blockOk (padded [] u) = (2805094510 == u) :=
  padded_ok [] 0xFFFFFFFF _ _ u (by decide) rfl (by decide) rfl (by decide +kernel) hu
/-- A block of zeros with its check. -/
def zeroBlock : List Byte := padded [] 2805094510
theorem zeroBlock_ok : blockOk zeroBlock = true := by rw [zeroBlock, zeros_ok _ (by decide)]; rfl

end Wit

/-! ### Ill-formed commands -/

theorem test_wf_start_phase : (Instr.startSequence ⟨[(6, 0)], true, true, true, true, [], [], true, 0, false, false⟩).wf = false := by decide
theorem test_wf_plate_block : (Instr.plateBlockRead [0#8]).wf = false := by decide
theorem test_wf_dram_rate : (Instr.dramTrained ⟨true, 3, 0, false, false⟩).wf = false := by decide
theorem test_wf_retired_line : (Instr.tokenRetire 0 [(16384, 0#512)] []).wf = false := by decide
theorem test_wf_recut_line : (Instr.recutCut [([(16384, 0#512)], [])]).wf = false := by decide
theorem test_wf_channel_band : (Instr.channelChange 0 ⟨3, [1], 0⟩).wf = false := by decide
theorem test_wf_channel_width : (Instr.channelChange 0 ⟨0, [1], 1⟩).wf = false := by decide
theorem test_wf_request_duration : (Instr.txRequest 0 ⟨1, 0, none, .dls, ⟨1, 0, 1, 0, false, 1⟩, 0⟩).wf = false := by decide
theorem test_wf_contour_power : (Instr.contourWindow 0 1 0).wf = false := by decide
theorem test_wf_cts_duration : (Instr.ctsToSelf 0 0 true).wf = false := by decide
theorem test_wf_draw_budget : (Instr.radioDraw 0 ⟨2, 2, [100], 0, [], 0, none, 0⟩).wf = false := by decide
theorem test_wf_frame_empty : (Instr.ethFrameReceive 0 [] false).wf = false := by decide
theorem test_wf_dram_line : (Instr.dramCommandIssue 0 [⟨0, 32, none⟩] []).wf = false := by decide
theorem test_wf_dram_data : (Instr.dramCommandIssue 0 [⟨0, 64, some [0#8]⟩] []).wf = false := by decide
theorem test_wf_unlock_length : (Instr.unlockResp [0#8]).wf = false := by decide
theorem test_wf_halt_line : (Instr.stylusHalt 0 [([(16384, 0#512)], [])]).wf = false := by decide
theorem test_wf_step_line : (Instr.stylusStep ⟨[], [], [(0, 0, 1024)]⟩).wf = false := by decide
theorem test_wf_run_line : (Instr.stylusRun [⟨[(16384, 0#512)], [], []⟩]).wf = false := by decide

/-! ### Small tests -/

/-- Worked example "packing a location": M0117/D0/ENG/E05/SP07. -/
theorem test_location : packLoc 117 .eng 5 7 = 0x1D441407#32 := by decide

/-- Worked example "PKT2 loses a pipeline stage": M0117/D0/ENG/E06, unit 0x020. -/
theorem test_takeover_location : packLoc 117 .eng 6 0x20 = 0x1D441820#32 := by decide

/-- R389: the CRC-32C of "123456789". -/
theorem test_crc32c : crc32c [0x31, 0x32, 0x33, 0x34, 0x35, 0x36, 0x37, 0x38, 0x39] = 0xE3069283 := by decide +kernel

/-- Worked example "decoding a flow-table address": subchannel 1, bank group 1, bank 1, row 0x048D, in order 1 with x8 devices of 16 Gb. -/
theorem test_dram_place : ((Wit.withLeg Wit.live [(0x1E, 1, 1)]).put F.DRC_CONFIG_DENSITY 1).dramPlace 0x12345678 = (1, 1 * 4 + 1, 0x048D) := by decide +kernel

/-- R14: before service a write outside the GLB_, PWR_ and PLT_ blocks is counted in PLT_STRUCT_REJECT. -/
theorem test_before_service : (match step { Wit.up.put F.PLT_STATUS_STATE 0 with pending := [.registerWrite .pcie 0x40040 5#32 ⟨none, 0#32⟩] } with
    | .next t => (t.rd A.PLT_STRUCT_REJECT, t.rd 0x40040, t.pending) | _ => (0#32, 0#32, [])) = (1#32, Wit.up.rd 0x40040, []) := by decide +kernel

/-- R332: a write in a reserved range is counted in GLB_UNMAPPED_WRITE. -/
theorem test_unmapped_write : (match exec (.unmappedAccess .pcie 0x50000 (some 5#32)) Wit.live with
    | .next t => t.rd A.GLB_UNMAPPED_WRITE | _ => 0#32) = 1#32 := by decide +kernel

/-- R332: so is one at an offset that is no multiple of 4 (log 3). -/
theorem test_unaligned_write : (match exec (.registerWrite .pcie 2 5#32 ⟨none, 0#32⟩) Wit.live with | .next t => t.rd A.GLB_UNMAPPED_WRITE | _ => 0#32) = 1#32 := by decide +kernel

/-- R11: an event in the cycle of a write that clears its bit wins: the bit stays set. -/
theorem test_event_wins : (match exec (.registerWrite .pcie A.GLB_FLT_STATUS 0xFFFFFFFF#32 ⟨none, 0x2#32⟩) (Wit.live.put F.GLB_FLT_STATUS_EVENT 1) with
    | .next t => t.get F.GLB_FLT_STATUS_EVENT | _ => 0) = 1 := by decide +kernel

/-- R182: the PHY header of a frame at the basic load names that load and its length, and passes its own check. -/
theorem test_phy_header : phyOk (Load.phy basicLoad 40) = true ∧ phyLoad (Load.phy basicLoad 40) = basicLoad ∧ phyLen (Load.phy basicLoad 40) = 40 := by decide +kernel

/-- R431: a front-end line is high impedance until step 2 of the start, and low in service while its chain rests. -/
theorem test_pad_line : State.reset.pad (.paEn 0) = .hiZ ∧ Wit.live.pad (.paEn 0) = .low := by decide +kernel

/-- R380: with the lock free a claim takes it. -/
theorem test_seal_claim : (match exec (.sealClaim .pcie 7) Wit.live with | .next t => t.get F.SEAL_OWNER_OWNER | _ => 0) = 7 := by decide +kernel

/-- R380: with the lock held another claim leaves its owner. -/
theorem test_seal_held : (match exec (.sealClaim .pcie 7) (Wit.live.put F.SEAL_OWNER_OWNER 9) with | .next t => t.get F.SEAL_OWNER_OWNER | _ => 0) = 9 := by decide +kernel

/-- An idle step passes one TCLK period of 4 ns (log 2). -/
theorem test_idle_step : (match step State.reset with | .next t => (t.tim.now, t.pending) | _ => (0, [])) = (4, []) := by decide +kernel

/-! ### Witnesses of the statements on the step -/

theorem witness_StepKeepsCanonical : ∃ s t : State, s.canonical ∧ step s = .next t :=
  ⟨{ State.reset with pending := [.pwrAbort .pcie] }, _, ⟨by decide +kernel, by decide +kernel⟩, rfl⟩

theorem witness_StepKeepsQueueAndUnits : ∃ s t : State, s.shapeOk = true ∧ step s = .next t :=
  ⟨{ State.reset with pending := [.pwrAbort .pcie] }, _, by decide +kernel, rfl⟩

/-- No producer stalls right after reset. -/
theorem reset_unstalled (c : Nat) : (State.reset.role c).stall = none := by
  have h : ∀ (l : List Role) (k : Nat), (∀ r ∈ l, r.stall = none) → (l.getD k Role.reset).stall = none := by
    intro l
    induction l with
    | nil => intro k _; rfl
    | cons r l ih =>
      intro k hl
      cases k with
      | zero => exact hl r (List.mem_cons_self ..)
      | succ k => exact ih k (fun x hx => hl x (List.mem_cons_of_mem _ hx))
  exact h _ _ (by decide +kernel)

theorem witness_StepIdles : ∃ s : State, s.pending = [] ∧ s.hst.held = [] ∧ ∀ c, (s.role c).stall = none :=
  ⟨State.reset, rfl, rfl, reset_unstalled⟩

/-! ### Witnesses -/

namespace W02
open Wit
def st (g : StartStage) (s : State := up) : State := { s with pwr := { s.pwr with stage := g } }
def reg (s : State) (v : Bool) : State := { s with pwr := { s.pwr with regulators := true, vddio := v } }
def o1 : StartOutcome := ⟨[], true, true, true, true, [], [], true, 1, false, true⟩
def o2 : StartOutcome := ⟨[], false, true, true, false, [(0,5)], [1], true, 1, false, false⟩
def o3 : StartOutcome := ⟨[(0,0),(0,1)], true, false, false, true, [], [4], false, 1, false, true⟩
def o4 : StartOutcome := { o1 with testMode := true }
def slot : KeySlot := KeySlot.blank
def busyS : State := { up with path := { up.path with nextId := 5 }, sec := { up.sec with slots := [(0, slot)] }, out := [.msix 1], mem := { up.mem with dram := [(3, 1)] } }
def q1_2 : State := st .unpowered
def q1_9 : State := reg (st .begun busyS) true
def q1_12 : State := { st .waitVddio with pwr := { (st .waitVddio).pwr with outcome := some o2 }}
def q1_14 : State := up.put F.PWR_CLK_STATUS_FALLBACK 1
def q1_15 : State := ((up.put F.PWR_CLK_STATUS_ENG_LOCK 1).put F.PWR_CLK_STATUS_PKT_LOCK 1)
def q1_17 : State := { up with tim := { up.tim with tclkOn := true } }
theorem witness_PackageReset :
    (∃ (s : State) (ns : Nat) (off : Nat), 1000 ≤ ns ∧ s.pwr.stage ≠ StartStage.unpowered ∧ s.pwr.stage ≠ StartStage.off ∧ keptAtReset off = false ∧ off ≠ F.PWR_RESET_CAUSE_RESET_PIN.off ∧ off ≠ A.PWR_CLK_STATUS) ∧
    (∃ (s : State) (off : Nat), s.pwr.stage ≠ StartStage.unpowered ∧ keptAtReset off = false ∧ off ≠ F.PWR_RESET_CAUSE_UVLO.off ∧ off ≠ A.PWR_CLK_STATUS) ∧
    (∃ (s : State) (off : Nat), s.pwr.stage = StartStage.unpowered ∧ keptAtReset off = false ∧ off ≠ F.PWR_RESET_CAUSE_POWER_ON.off ∧ off ≠ A.PWR_CLK_STATUS) ∧
    (∃ (s : State) (ns : Nat), 200 ≤ ns ∧ ns < 1000 ∧ s.pwr.stage ≠ StartStage.unpowered ∧ s.pwr.stage ≠ StartStage.off) ∧
    (∃ (ns : Nat), ns < 200) :=
  ⟨⟨up, 1000, 4, by decide +kernel⟩,
   ⟨up, 4, by decide +kernel⟩,
   ⟨q1_2, 4, by decide +kernel⟩,
   ⟨up, 200, by decide +kernel⟩,
   ⟨0, by decide +kernel⟩⟩
theorem witness_StartSequence :
    (∃ (s : State) (o : StartOutcome), s.pwr.stage = StartStage.begun ∧ s.pwr.regulators = true ∧ o.testMode = false ∧ o.badPhases = [] ∧ s.pwr.vddio = true ∧ (o.engLock = false ∨ o.pktLock = false)) ∧
    (∃ (s : State) (o : StartOutcome), s.pwr.stage = StartStage.begun ∧ s.pwr.regulators = true ∧ o.testMode = false ∧ o.badPhases = [] ∧ s.pwr.vddio = false) ∧
    (∃ (s : State) (o : StartOutcome), s.pwr.stage = StartStage.begun ∧ s.pwr.regulators = true ∧ o.testMode = false ∧ o.badPhases = [(0, 0), (0, 1)]) ∧
    (∃ (s : State) (o : StartOutcome), s.pwr.stage = StartStage.begun ∧ s.pwr.regulators = true ∧ o.testMode = true) :=
  ⟨⟨q1_9, o2, by decide +kernel⟩,
   ⟨State.reset, o1, by decide +kernel⟩,
   ⟨State.reset, o3, by decide +kernel⟩,
   ⟨State.reset, o4, by decide +kernel⟩⟩
theorem witness_VddioPresent :
    (∃ (s : State) (o : StartOutcome), s.pwr.stage = StartStage.waitVddio ∧ s.pwr.outcome = some o) ∧
    (∃ (s : State), s.pwr.stage ≠ StartStage.waitVddio) :=
  ⟨⟨q1_12, o2, by decide +kernel⟩,
   ⟨up, by decide +kernel⟩⟩
theorem witness_ClockFallBack :
    (∃ (s : State) (m : Master) (v : Word), s.gate m A.PWR_CLK_CTRL = Gate.pass ∧ getField v 0 1 = 1) ∧
    (∃ (s : State), s.pwr.stage = StartStage.up ∧ s.isSet F.PWR_CLK_STATUS_FALLBACK = true) ∧
    (∃ (s : State), s.pwr.stage = StartStage.up ∧ s.pllsLocked = true) ∧
    (∃ (s : State), s.pwr.stage = StartStage.up ∧ s.pllsLocked = false) :=
  ⟨⟨up, Master.pcie, 1, by decide +kernel⟩,
   ⟨q1_14, by decide +kernel⟩,
   ⟨q1_15, by decide +kernel⟩,
   ⟨up, by decide +kernel⟩⟩
theorem witness_LateStarters :
    (∃ (s : State), s.pwr.stage = StartStage.up ∧ s.isSet F.PWR_CLK_STATUS_XO80_OK = false ∧ s.tim.tclkOn = false) ∧
    (∃ (s : State), s.pwr.stage = StartStage.up ∧ s.ballsTaken = false) ∧
    (∃ (s : State), s.tim.tclkOn = true) :=
  ⟨⟨up, by decide +kernel⟩,
   ⟨up, by decide +kernel⟩,
   ⟨q1_17, by decide +kernel⟩⟩
end W02

namespace W03
open Wit
def b0 : List Byte := List.replicate 4092 0#8
def legBlock : List Byte := (256, 0) |> fun _ => patch b0 ([(0x1C,2,1),(0x100,1,1),(0x108,4,1024),(0x10C,4,512)]) ++ [0,0,0,0]
def legBlock2 : List Byte := patch legBlock [(1024 + 0x1F, 1, 2), (1024 + 0x1E, 1, 3)]
def bad : List Byte := [1]
def l1 : Loader := ⟨1, 3, [], .reading⟩
def l4 : Loader := ⟨2, 3, [legBlock2, [], []], .signature⟩
def l5 : Loader := ⟨2, 3, [legBlock2, [], []], .seeding⟩
def ldd (l : Loader) (s : State := live.put F.PLT_STATUS_STATE 0) : State := { s with plt := { s.plt with loader := some l } }
def br : BootRec := ⟨5,1,0,3,0,3,[],[],[]⟩
def wS (s : State) : State := { s.put F.PLT_STAGE_STATE 3 with upd := { s.upd with inForce := some br } }
def q1_1 : State := ldd l1
def q1_4 : State := wS (ldd l1)
def q2_0 : State := ldd l4
def q3_0 : State := ldd l4
def tr (l : Loader) (n : Nat) (leg : List (Nat × Nat × Nat)) : State := let s := (withLeg (ldd l) leg).put F.DRC_CONFIG_CAPACITY_MIB 4096; { s with mem := { s.mem with trained := some n } }
def q4_0 : State := ldd l5
def q4_2 : State := tr l5 0 []
def q4_5 : State := tr l5 2 [(0x1F,1,2),(0x56,2,5000)]
theorem witness_PlateBlocks :
    (∃ (s : State) (ld : Loader) (block : List Byte), s.plt.loader = some ld ∧ ld.phase = LoadPhase.reading ∧ blockOk block = false ∧ (ld.region ≠ 1 ∨ s.sProofed = false) ∧ s.get F.PLT_ERROR_CODE = 0) ∧
    (∃ (s : State) (ld : Loader) (block : List Byte), s.plt.loader = some ld ∧ ld.phase = LoadPhase.reading ∧ blockOk block = false ∧ ld.region = 1 ∧ s.sProofed = true ∧ blockCountOk s.bootRec.sBlocks = true) ∧
    (∃ (s : State), s.plt.loader = none) :=
  ⟨⟨q1_1, l1, bad, by decide +kernel⟩,
   ⟨q1_4, l1, bad, by decide +kernel⟩,
   ⟨live, by decide +kernel⟩⟩
theorem witness_PlateSignature : ∃ (s : State) (ld : Loader) (f : Nat × Nat), s.plt.loader = some ld ∧ ld.phase = LoadPhase.signature ∧ ld.region = 2 ∧ s.get F.PLT_ERROR_CODE = 0 ∧ s.stepFour ld.blocks ld.n = some f :=
  ⟨q2_0, l4, (6, 0), by decide +kernel⟩
theorem witness_DramTrains : ∃ (s : State) (ld : Loader) (l : List Byte) (off : Nat), s.plt.loader = some ld ∧ ld.legend = some l ∧ off ≠ A.DRC_STATUS ∧ off ≠ A.DRC_CONFIG :=
  ⟨q3_0, l4, match l4.legend with | some l => l | none => [], 0, by decide +kernel⟩
theorem witness_SeedsApply :
    (∃ (s : State) (ld : Loader) (f : Nat × Nat), s.plt.loader = some ld ∧ ld.phase = LoadPhase.seeding ∧ s.mem.trained = some (s.leg 31 1) ∧ ld.region = 2 ∧ s.get F.PLT_ERROR_CODE = 0 ∧ dramCheck s.plt.legend (s.get F.DRC_CONFIG_CAPACITY_MIB) = some f) ∧
    (∃ (s : State) (ld : Loader), s.plt.loader = some ld ∧ ld.phase = LoadPhase.seeding ∧ s.mem.trained = some (s.leg 31 1) ∧ s.plt.seeds = [] ∧ dramCheck s.plt.legend (s.get F.DRC_CONFIG_CAPACITY_MIB) = none) ∧
    (∃ (s : State) (ld : Loader), s.plt.loader = some ld ∧ s.mem.trained = none) :=
  ⟨⟨q4_5, l5, (11, 4096), by decide +kernel⟩,
   ⟨q4_2, l5, by decide +kernel⟩,
   ⟨q4_0, l5, by decide +kernel⟩⟩
theorem witness_PlateBlocksGood : ∃ (s : State) (ld : Loader) (block : List Byte), s.plt.loader = some ld ∧ ld.phase = LoadPhase.reading ∧ 0 < ld.blocks.length ∧
    ld.n ≤ ld.blocks.length + 2 ∧ blockOk block = true :=
  ⟨{ live with plt := { live.plt with loader := some ⟨2, 3, [[1], [1]], .reading⟩ } }, ⟨2, 3, [[1], [1]], .reading⟩, zeroBlock, rfl, rfl, by decide, by decide, zeroBlock_ok⟩
end W03

namespace W04
open Wit
def tk (n : Option Nat) (tm : Option Nat := none) : Token := ⟨n, 1, 5, tm, 0, [7], none, false⟩
def q (s : State) (c : Nat) (l : List Token) : State := s.roleMod c (fun r => { r with queue := l, nextSeq := 9 })
def full : State := q live 1 (List.replicate 4096 (tk none))
def q1_2 : State := full.roleMod 1 (fun r => {r with stopped := true})
def q1_3 : State := full.roleMod 1 (fun r => {r with stall := some 5})
def q1_4 : State := q live 1 [tk none (some 3)]
def q2_1 : State := q live 1 [tk none]
def q2_3 : State := q live 1 ((List.range 16).map (fun i => tk (some i)) ++ [tk none])
def q3_1 : State := q live 1 [tk none]
def q3_2 : State := (q live 1 [tk none]).put (F.ENG_STATUS_IDLE 0) 1
def q3_4 : State := (List.range 14).foldl (fun (s:State) e => s.put (F.ENG_STATUS_IDLE e) 1) live
def q4_2 : State := q live 1 [tk (some 8), tk (some 9), tk none]
def q5_2 : State := q live 1 [tk (some 8), tk (some 9), tk none]
theorem witness_TokenOffers :
    (∃ (s : State) (r : Fin 12) (t : TokenIn) (k : Nat) (i : Nat) (c : Fin 12), s.shapeOk = true ∧ (isPkt ((r : Nat) + 1) = false ∨ s.isSet (F.ENG_ROLE_AT_SHED (r : Nat)) = false) ∧ t.timer = some k ∧ Option.any (fun (x : Token) => x.seq.isNone && x.timer == some k) (s.role ((r : Nat) + 1)).queue[i]? = true ∧ ((List.drop (i + 1) (s.role ((r : Nat) + 1)).queue).any fun (x : Token) => x.seq.isNone && x.timer == some k) = false ∧ 1 ≤ c ∧ c ≠ r + 1) ∧
    (∃ (s : State) (r : Fin 12) (t : TokenIn) (c : Fin 12), s.shapeOk = true ∧ (isPkt ((r : Nat) + 1) = false ∨ s.isSet (F.ENG_ROLE_AT_SHED (r : Nat)) = false) ∧ t.timer = none ∧ (s.role ((r : Nat) + 1)).queue.length < 4096 ∧ 1 ≤ c ∧ c ≠ r + 1) ∧
    (∃ (s : State) (r : Fin 12) (t : TokenIn) (off : Nat), s.shapeOk = true ∧ (isPkt ((r : Nat) + 1) = false ∨ s.isSet (F.ENG_ROLE_AT_SHED (r : Nat)) = false) ∧ t.timer = none ∧ (s.role ((r : Nat) + 1)).queue.length < 4096 ∧ off ≠ A.ENG_QUEUE_PEAK (r : Nat)) ∧
    (∃ (s : State) (r : Fin 12) (t : TokenIn), s.shapeOk = true ∧ (isPkt ((r : Nat) + 1) = false ∨ s.isSet (F.ENG_ROLE_AT_SHED (r : Nat)) = false) ∧ t.timer = none ∧ 4096 ≤ (s.role ((r : Nat) + 1)).queue.length ∧ (s.role ((r : Nat) + 1)).stopped = true) ∧
    (∃ (s : State) (r : Fin 12) (t : TokenIn), s.shapeOk = true ∧ (isPkt ((r : Nat) + 1) = false ∨ s.isSet (F.ENG_ROLE_AT_SHED (r : Nat)) = false) ∧ t.timer = none ∧ 4096 ≤ (s.role ((r : Nat) + 1)).queue.length ∧ (s.role ((r : Nat) + 1)).stopped = false ∧ (s.role ((r : Nat) + 1)).stall ≠ none) ∧
    (∃ (s : State) (r : Fin 12) (t : TokenIn), s.shapeOk = true ∧ (isPkt ((r : Nat) + 1) = false ∨ s.isSet (F.ENG_ROLE_AT_SHED (r : Nat)) = false) ∧ t.timer = none ∧ 4096 ≤ (s.role ((r : Nat) + 1)).queue.length ∧ (s.role ((r : Nat) + 1)).stopped = false ∧ (s.role ((r : Nat) + 1)).stall = none) :=
  ⟨⟨q1_4, 0, { source := 70, hash := 5, timer := some 3, body := [] }, 3, 0, 4, by decide +kernel⟩,
   ⟨live, 0, { source := 1, hash := 5, timer := none, body := [7] }, 4, by decide +kernel⟩,
   ⟨live, 0, { source := 1, hash := 5, timer := none, body := [7] }, 0, by decide +kernel⟩,
   ⟨q1_2, 0, { source := 1, hash := 5, timer := none, body := [7] }, by decide +kernel⟩,
   ⟨q1_3, 0, { source := 1, hash := 5, timer := none, body := [7] }, by decide +kernel⟩,
   ⟨full, 0, { source := 1, hash := 5, timer := none, body := [7] }, by decide +kernel⟩⟩
theorem witness_TokenIssues :
    (∃ (s : State) (e : Fin 14) (t : Token) (c : Nat), s.shapeOk = true ∧ s.estate (e : Nat) = eServing ∧ 1 ≤ s.erole (e : Nat) ∧ s.erole (e : Nat) ≤ 12 ∧ s.isSet (F.ENG_STATUS_IDLE (e : Nat)) = false ∧ (s.inFlight (s.erole (e : Nat))).length < 16 ∧ s.roleAt (s.erole (e : Nat)) = (e : Nat) ∧ s.pwr.idle = false ∧ s.stopping 10 = false ∧ s.dbg.halted = none ∧ s.nextToken (s.erole (e : Nat)) = some t ∧ 1 ≤ c ∧ c ≠ s.erole (e : Nat)) ∧
    (∃ (s : State) (e : Fin 14), s.shapeOk = true ∧ s.estate (e : Nat) = eServing ∧ 1 ≤ s.erole (e : Nat) ∧ s.erole (e : Nat) ≤ 12 ∧ s.nextToken (s.erole (e : Nat)) = none) ∧
    (∃ (s : State) (e : Fin 14), s.shapeOk = true ∧ s.estate (e : Nat) = eServing ∧ 1 ≤ s.erole (e : Nat) ∧ s.erole (e : Nat) ≤ 12 ∧ 16 ≤ (s.inFlight (s.erole (e : Nat))).length) :=
  ⟨⟨q2_1, 0, tk none, 2, by decide +kernel⟩,
   ⟨live, 0, by decide +kernel⟩,
   ⟨q2_3, 0, by decide +kernel⟩⟩
theorem witness_EngineClocks :
    (∃ (s : State) (e : Fin 14) (off : Nat), s.estate (e : Nat) = eServing ∧ s.isSet (F.ENG_STATUS_IDLE (e : Nat)) = true ∧ (s.role (s.erole (e : Nat))).queue ≠ [] ∧ off ≠ A.ENG_STATUS (e : Nat)) ∧
    (∃ (s : State) (e : Fin 14), s.estate (e : Nat) = eServing ∧ s.isSet (F.ENG_STATUS_IDLE (e : Nat)) = false) ∧
    (∃ (s : State), ((List.range 14).all fun (k : Nat) => s.estate k == eFenced || s.isSet (F.ENG_STATUS_IDLE k)) = true) ∧
    (∃ (s : State) (e : Fin 14), s.isSet (F.ENG_STATUS_IDLE (e : Nat)) = false) ∧
    (∃ (s : State) (e : Fin 14), s.estate (e : Nat) = eServing ∧ (s.role (s.erole (e : Nat))).queue ≠ []) ∧
    (∃ (s : State) (e : Fin 14), (s.estate (e : Nat) = eBlank ∨ s.estate (e : Nat) = eServing ∧ (s.role (s.erole (e : Nat))).queue = [])) :=
  ⟨⟨q3_2, 0, 0, by decide +kernel⟩,
   ⟨live, 0, by decide +kernel⟩,
   ⟨q3_4, by decide +kernel⟩,
   ⟨live, 0, by decide +kernel⟩,
   ⟨q3_1, 0, by decide +kernel⟩,
   ⟨live, 0, by decide +kernel⟩⟩
theorem witness_TokenCommits :
    (∃ (s : State) (e : Fin 14) (ws : List (Nat × BitVec 512)) (t : Token) (l : List Token) (c : Nat), s.shapeOk = true ∧ s.estate (e : Nat) = eServing ∧ 1 ≤ s.erole (e : Nat) ∧ s.erole (e : Nat) ≤ 12 ∧ ws.length ≤ 32 ∧ s.inFlight (s.erole (e : Nat)) = t :: l ∧ 1 ≤ c ∧ c ≠ s.erole (e : Nat)) ∧
    (∃ (s : State) (e : Fin 14) (ws : List (Nat × BitVec 512)) (t : Token) (l : List Token) (k : Nat), s.shapeOk = true ∧ s.estate (e : Nat) = eServing ∧ 1 ≤ s.erole (e : Nat) ∧ s.erole (e : Nat) ≤ 12 ∧ ws.length ≤ 32 ∧ s.inFlight (s.erole (e : Nat)) = t :: l ∧ k ≠ (e : Nat)) ∧
    (∃ (s : State) (e : Fin 14) (ws : List (Nat × BitVec 512)), s.shapeOk = true ∧ s.estate (e : Nat) = eServing ∧ 1 ≤ s.erole (e : Nat) ∧ s.erole (e : Nat) ≤ 12 ∧ ws.length ≤ 32 ∧ s.inFlight (s.erole (e : Nat)) = []) :=
  ⟨⟨q4_2, 0, [], tk (some 8), [tk (some 9)], 5, by decide +kernel⟩,
   ⟨q4_2, 0, [], tk (some 8), [tk (some 9)], 1, by decide +kernel⟩,
   ⟨live, 0, [], by decide +kernel⟩⟩
theorem witness_EngineFaults :
    (∃ (s : State) (e : Fin 14) (c : Nat), QuietServing s e c ∧ s.inFlight c = []) ∧
    (∃ (s : State) (e : Fin 14) (c : Nat), QuietServing s e c ∧ s.inFlight c ≠ []) :=
  ⟨⟨live, 0, 1, by decide +kernel⟩,
   ⟨q5_2, 0, 1, by decide +kernel⟩⟩
theorem witness_LedgerCompares :
    (∃ (s : State) (e : Fin 14) (c : Nat) (line : Fin 16384) (v : BitVec 512) (b : Bool) (off : Nat), QuietServing s e c ∧ s.counterproof = true ∧ (s.role c).badLines.contains (line : Nat) = false ∧ (b = false ∨ s.inFlight c = []) ∧ v = spLine (s.role c).ledger (line : Nat) ∧ off ≠ A.ENG_MEM_CE_SP ∧ off ≠ A.ENG_MEM_LAST_CE_LOC) ∧
    (∃ (s : State) (e : Fin 14) (c : Nat) (line : Fin 16384) (v : BitVec 512) (b : Bool) (off : Nat), QuietServing s e c ∧ s.counterproof = true ∧ (s.role c).badLines.contains (line : Nat) = false ∧ (b = false ∨ s.inFlight c = []) ∧ v = spLine (s.role c).ledger (line : Nat) ∧ off ≠ A.ENG_MEM_CE_LDG ∧ off ≠ A.ENG_MEM_LAST_CE_LOC) ∧
    (∃ (s : State) (e : Fin 14) (c : Nat) (line : Fin 16384) (v : BitVec 512) (b : Bool), QuietServing s e c ∧ s.counterproof = true ∧ (s.role c).badLines.contains (line : Nat) = false ∧ (b = false ∨ s.inFlight c = []) ∧ v ≠ spLine (s.role c).ledger (line : Nat)) ∧
    (∃ (s : State) (e : Fin 14) (c : Nat) (line : Fin 16384) (v : BitVec 512) (b : Bool), QuietServing s e c ∧ s.counterproof = true ∧ (s.role c).badLines.contains (line : Nat) = false ∧ (b = false ∨ s.inFlight c = []) ∧ v = spLine (s.role c).ledger (line : Nat)) ∧
    (∃ (s : State) (e : Fin 14) (c : Nat) (line : Fin 16384), QuietServing s e c ∧ s.counterproof = true ∧ (s.role c).badLines.contains (line : Nat) = false ∧ s.inFlight c ≠ []) :=
  ⟨⟨live, 0, 1, 0, 0, true, 0, by decide +kernel⟩,
   ⟨live, 0, 1, 0, 0, true, 0, by decide +kernel⟩,
   ⟨live, 0, 1, 0, 1, true, by decide +kernel⟩,
   ⟨live, 0, 1, 0, 0, true, by decide +kernel⟩,
   ⟨q5_2, 0, 1, 0, by decide +kernel⟩⟩
end W04

namespace W04b
open Wit
def tk (n : Option Nat) (tm : Option Nat := none) : Token := ⟨n, 1, 5, tm, 0, [7], none, false⟩
def q (s : State) (c : Nat) (l : List Token) : State := s.roleMod c (fun r => { r with queue := l, nextSeq := 9, ledger := [(1, 5)] })
def moved (s : State) : State := match execEngineCheckFail 0 .clock (q s 1 [tk (some 8), tk none]) with | .next u => u | _ => s
def tov (s : State) : TakeOver := match s.eng.running with | some e => e.1 | none => ⟨0,.into,0,0,0⟩
def q1_1 : State := moved live
def q2_1 : State := live.setEngine 12 4 0 0
def q2_2 : State := (live.setEngine 12 4 0 0).engMod 12 (fun x => {x with testAsked := true})
def q2_3 : State := live.setEngine 12 0 0 0
def q2_5 : State := (live.setEngine 12 0 0 0).engMod 12 (fun x => {x with testFailed := some 5})
def rc (todo moved : List Nat) (step blank old : Nat) : Recut := ⟨todo, moved, step, blank, old, none, false, false⟩
def rcs (r : Recut) (ph : Nat) (s : State := live) : State := ({ s with eng := { s.eng with recut := some r } } : State).put F.ENG_RECUT_STATUS_PHASE ph
def rl : List Recut := [rc [1,2] [] 1 15 15, rc [1,2] [] 2 12 0, rc [1,2] [3] 4 12 0, rc [2] [1] 5 12 0, rc [] [1,2] 5 12 0, rc [2] [1] 0 12 0, { rc [1] [] 1 15 15 with pauseAsked := true }]
def l3_ : List State := [live] ++ rl.map (fun r => rcs r 1 (q live 1 [tk none])) ++ rl.map (fun r => { rcs r 1 live with eng := { (rcs r 1 (live.setEngine 0 3 0 0)).eng with clearing := some 0 } }) ++ [rcs (rc [] [1,2] 5 12 0) 1 ((live.setEngine 12 2 1 1).setEngine 0 3 0 0), rcs (rc [1,2] [3] 4 12 0) 1 ((q live 1 [tk none]).setEngine 12 3 1 1)]
def l4_ : List State := [live] ++ rl.map (fun r => rcs r 1) ++ rl.map (fun r => rcs r 2) ++ rl.map (fun r => rcs r 2 ((live.setEngine 12 4 0 0).setEngine 13 4 0 0))
theorem witness_TakeOverEnds :
    (∃ (s : State) (t : TakeOver) (e : Fin 14), s.shapeOk = true ∧ s.eng.running = some (t, (e : Nat)) ∧ t.kind = MoveKind.takeover ∧ 1 ≤ t.role ∧ t.role ≤ 12 ∧ t.old ≠ (e : Nat) ∧ s.eng.waiting = [] ∧ s.eng.degraded = false ∧ (s.role t.role).badLines = [] ∧ s.pageBad t.role = false) ∧
    (∃ (s : State), s.shapeOk = true ∧ s.eng.running = none) :=
  ⟨⟨q1_1, tov (moved live), 12, by decide +kernel⟩,
   ⟨live, by decide +kernel⟩⟩
theorem witness_EngineSelfTests :
    (∃ (s : State) (e : Fin 14) (k : Fin 14), s.shapeOk = true ∧ s.estate (e : Nat) = eFenced ∧ (s.engine (e : Nat)).testAsked = true ∧ k ≠ e) ∧
    (∃ (s : State) (e : Fin 14), s.shapeOk = true ∧ s.estate (e : Nat) = eTest ∧ (s.engine (e : Nat)).testFailed = none ∧ (∀ (c : Nat), c ∈ [5, 6, 7, 8] → s.isSet (F.ENG_ROLE_AT_SHED (c - 1)) = false ∧ (s.role c).stopped = false)) ∧
    (∃ (s : State) (e : Fin 14) (n : Nat), s.shapeOk = true ∧ s.estate (e : Nat) = eTest ∧ (s.engine (e : Nat)).testFailed = some n) ∧
    (∃ (s : State) (e : Fin 14), s.shapeOk = true ∧ s.estate (e : Nat) = eTest) ∧
    (∃ (s : State) (e : Fin 14) (m : Master) (v : Word), s.shapeOk = true ∧ s.gate m A.ENG_REINSTATE = Gate.pass ∧ getField v 0 4 = (e : Nat) ∧ s.estate (e : Nat) ≠ eFenced) ∧
    (∃ (s : State) (e : Fin 14), s.shapeOk = true ∧ s.estate (e : Nat) ≠ eFenced) ∧
    (∃ (s : State) (e : Fin 14) (m : Master) (v : Word), s.shapeOk = true ∧ s.gate m A.ENG_REINSTATE = Gate.pass ∧ getField v 0 4 = (e : Nat) ∧ s.estate (e : Nat) = eFenced) :=
  ⟨⟨q2_2, 12, 0, by decide +kernel⟩,
   ⟨q2_3, 12, by decide +kernel⟩,
   ⟨q2_5, 12, 5, by decide +kernel⟩,
   ⟨q2_3, 12, by decide +kernel⟩,
   ⟨live, 0, Master.pcie, 0, by decide +kernel⟩,
   ⟨live, 0, by decide +kernel⟩,
   ⟨q2_1, 12, Master.pcie, 12, by decide +kernel⟩⟩
theorem witness_RecutMoves :
    (∃ (s : State) (r : Recut) (c : Nat) (l : List Nat), s.shapeOk = true ∧ s.eng.recut = some r ∧ s.get F.ENG_RECUT_STATUS_PHASE = 1 ∧ r.step = 4 ∧ r.todo = c :: l ∧ 1 ≤ c ∧ c ≤ 12 ∧ r.blank < 14 ∧ r.old < 14 ∧ r.blank ≠ r.old ∧ s.inFlight c = [] ∧ s.counterproof = true ∧ r.pauseAsked = false ∧ r.abandonAsked = false ∧ s.eng.clearing = none ∧ r.moved.length < 12) ∧
    (∃ (s : State) (r : Recut) (c : Nat) (l : List Nat) (e : Nat), s.shapeOk = true ∧ s.eng.recut = some r ∧ s.get F.ENG_RECUT_STATUS_PHASE = 1 ∧ r.step = 5 ∧ s.eng.clearing = some e ∧ r.pauseAsked = false ∧ e < 14 ∧ r.todo = c :: l ∧ 1 ≤ c ∧ c ≤ 12 ∧ (∀ (c : Nat), c ∈ [5, 6, 7, 8] → s.isSet (F.ENG_ROLE_AT_SHED (c - 1)) = false ∧ (s.role c).stopped = false)) ∧
    (∃ (s : State) (r : Recut) (e : Nat), s.shapeOk = true ∧ s.eng.recut = some r ∧ s.get F.ENG_RECUT_STATUS_PHASE = 1 ∧ r.step = 5 ∧ s.eng.clearing = some e ∧ r.pauseAsked = false ∧ e < 14 ∧ r.todo = [] ∧ (∀ (c : Nat), c ∈ [5, 6, 7, 8] → s.isSet (F.ENG_ROLE_AT_SHED (c - 1)) = false ∧ (s.role c).stopped = false)) ∧
    (∃ (s : State) (r : Recut) (c : Nat) (l : List Nat), s.shapeOk = true ∧ s.eng.recut = some r ∧ s.get F.ENG_RECUT_STATUS_PHASE = 1 ∧ r.step = 1 ∧ r.todo = c :: l ∧ 1 ≤ c ∧ c ≤ 12 ∧ s.sectionSGood c = false) ∧
    (∃ (s : State) (r : Recut), s.shapeOk = true ∧ s.eng.recut = some r ∧ s.get F.ENG_RECUT_STATUS_PHASE = 1 ∧ r.step = 2 ∧ s.pageBad (r.todo.headD 0) = false) :=
  ⟨⟨(l3_.getD 3 up), rc [1, 2] [3] 4 12 0, 1, [2], by decide +kernel⟩,
   ⟨(l3_.getD 11 up), rc [2] [1] 5 12 0, 2, [], 0, by decide +kernel⟩,
   ⟨(l3_.getD 12 up), rc [] [1, 2] 5 12 0, 0, by decide +kernel⟩,
   ⟨(l3_.getD 1 up), rc [1, 2] [] 1 15 15, 1, [2], by decide +kernel⟩,
   ⟨(l3_.getD 2 up), rc [1, 2] [] 2 12 0, by decide +kernel⟩⟩
theorem witness_RecutCommands :
    (∃ (s : State) (r : Recut) (m : Master) (v : Word) (c : Nat) (l : List Nat), s.shapeOk = true ∧ s.gate m A.ENG_RECUT_CTRL = Gate.pass ∧ s.eng.recut = some r ∧ BitVec.toNat v % 8 = 2 ∧ s.get F.ENG_RECUT_STATUS_PHASE = 2 ∧ 2 ≤ s.blanks.length ∧ r.step = 0 ∧ r.pauseAsked = false ∧ r.todo = c :: l ∧ 1 ≤ c ∧ c ≤ 12) ∧
    (∃ (s : State) (r : Recut) (m : Master) (v : Word), s.shapeOk = true ∧ s.gate m A.ENG_RECUT_CTRL = Gate.pass ∧ s.eng.recut = some r ∧ BitVec.toNat v / 4 % 2 = 1 ∧ s.recutLive = true ∧ r.step = 4) ∧
    (∃ (s : State) (r : Recut) (m : Master) (v : Word), s.shapeOk = true ∧ s.gate m A.ENG_RECUT_CTRL = Gate.pass ∧ s.eng.recut = some r ∧ BitVec.toNat v / 4 % 2 = 1 ∧ s.recutLive = true ∧ (r.step = 0 ∨ r.step = 5)) ∧
    (∃ (s : State) (r : Recut) (m : Master) (v : Word), s.shapeOk = true ∧ s.gate m A.ENG_RECUT_CTRL = Gate.pass ∧ s.eng.recut = some r ∧ BitVec.toNat v % 8 = 1 ∧ s.get F.ENG_RECUT_STATUS_PHASE = 1 ∧ 1 ≤ r.step ∧ r.step ≤ 4) ∧
    (∃ (s : State) (r : Recut) (m : Master) (v : Word), s.shapeOk = true ∧ s.gate m A.ENG_RECUT_CTRL = Gate.pass ∧ s.eng.recut = some r ∧ BitVec.toNat v % 8 = 2 ∧ s.get F.ENG_RECUT_STATUS_PHASE = 2 ∧ s.blanks = []) ∧
    (∃ (s : State) (r : Recut) (m : Master) (v : Word), s.shapeOk = true ∧ s.gate m A.ENG_RECUT_CTRL = Gate.pass ∧ s.eng.recut = some r ∧ BitVec.toNat v % 8 = 1 ∧ s.get F.ENG_RECUT_STATUS_PHASE = 1 ∧ r.abandonAsked = false ∧ (r.step = 0 ∨ r.step = 5)) :=
  ⟨⟨(l4_.getD 13 up), rc [2] [1] 0 12 0, Master.pcie, 2, 2, [], by decide +kernel⟩,
   ⟨(l4_.getD 3 up), rc [1, 2] [3] 4 12 0, Master.pcie, 4, by decide +kernel⟩,
   ⟨(l4_.getD 4 up), rc [2] [1] 5 12 0, Master.pcie, 4, by decide +kernel⟩,
   ⟨(l4_.getD 1 up), rc [1, 2] [] 1 15 15, Master.pcie, 1, by decide +kernel⟩,
   ⟨(l4_.getD 15 up), rc [1, 2] [] 1 15 15, Master.pcie, 2, by decide +kernel⟩,
   ⟨(l4_.getD 4 up), rc [2] [1] 5 12 0, Master.pcie, 1, by decide +kernel⟩⟩
end W04b

namespace W05
open Wit
def nosp : State := radio.put (F.CHN_SYNTH_STATUS_FENCED 3) 1
def tx0 : TxReq := ⟨7, 1000, none, .contention, PhyForm.basic, 0⟩
def txing (s : State) : State := match execTxRequest 0 tx0 s with | .next u => u | _ => s
def sub0 : State := match execSynthFault 0 true radio with | .next u => u | _ => radio
def sub1 (s : State) (l : List Nat) : State := { s with chn := { s.chn with testing := l } }
def trvF (s : State) : State := { s with chn := { s.chn with trvFenced := true } }
def q1_6 : State := sub1 (trvF nosp) [3,4]
def q1_9 : State := sub0.setRadio 0 0
def onlyChain : State := (List.range 16).foldl (fun (s:State) c => if c = 0 then s else s.put (F.CHN_CHAIN_STATUS_STATE c) 5) radio
def fenced (k : Nat) : State := (radio.put (F.CHN_CHAIN_STATUS_STATE 6) 5).put (F.CHN_CHAIN_STATUS_FENCE_CAUSE 6) k
def q2_8 : State := (fun (s : State) => { s with tim := { s.tim with now := 2000000000 } }) ((fenced 1).chainMod 6 (fun x => {x with test := true}))
def cyc (s : State) : State := s.radMod 0 (fun x => { x with cycles := [⟨cycleSteps 0 [0,1],false⟩, ⟨cycleSteps 1 [0,1], false⟩, ⟨cycleSteps 2 [0,1],false⟩] })
def run (s : State) (k : Nat) : State := s.grMod 0 (fun g => { g with run := some (runOf k) })
def kinds : List CalKind := [.rxDc, .txLo, .txIq, .rxIq, .feedback, .interChain]
def dpd (s : State) : State := s.put (F.CHN_CAL_CTRL_DPD_EN 0) 1
def l3_ : List State := [radio, (run (cyc radio) kCAL).put (F.CMP_CTRL_ARM 0) 0, (List.range 16).foldl (fun (s : State) c => s.put (F.CMP_CTRL_ARM c) 0) (run (cyc radio) kCAL), ((dpd radio).chainMod 0 (fun x => {x with accepted := 17})).chainMod 1 (fun x => {x with accepted := 17}), run (cyc radio) kCAL, (run (cyc radio) kCTN).put (F.CHN_CAL_CTRL_OPPORTUNISTIC 0) 1, dpd radio, (dpd radio).chainMod 0 (fun x => {x with accepted := 17}), (dpd radio).chainMod 0 (fun x => {x with accepted := 17, lastCand := some 0}), txing (run (cyc radio) kCAL) ] ++
  kinds.map (fun k => (run (cyc radio) kCAL).radMod 0 (fun x => { x with step := some (k, [0]), held := [tx0] }))
def q4_1 : State := txing radio
def q4_9 : State := radio.chainMod 0 (fun x => { x with stored := [(0, ⟨0,[1],0⟩)]})
def t5 (s : State) : State := { s with tim := { s.tim with tb := s.tim.tb.map (fun b => { b with t := 3 * unitsPerNs }) } }
def dev (s : State) : State := s.wr A.CHN_COEX_CTRL ((s.rd A.CHN_COEX_CTRL) ||| 0xFFFFFFFF#32)
def req (pri wait gnt : Bool) (s : State) : State := { s with chn := { s.chn with extReq := true, extPri := pri, extHigh := pri, extWait := wait, extGnt := gnt } }
def q5_1 : State := t5 radio
def q5_2 : State := {radio with rfuse := {radio.rfuse with lock := false}}
def staged (b : List Byte) (s : State) : State := (indexed (leWords 32 b)).foldl (fun (s:State) e => s.wr (A.CHN_FUSE_DATA e.1) e.2) s
def q6_2 : State := staged profGood {radio with rfuse := {radio.rfuse with lock := false}}
def q6_3 : State := {radio with rfuse := {radio.rfuse with busy := some (3, profGood)}}
def q7_1 : State := (dev (txing radio)).radMod 0 (fun x => {x with held := [tx0]})
def q7_2 : State := {dev radio with chn := { (dev radio).chn with devReq := true}}
def q7_6 : State := req false true false (dev (txing radio))
def q7_7 : State := req false false true (dev radio)
def q7_12 : State := req false true false ((dev radio).put F.CHN_COEX_CTRL_EXT_TRUNCATE 0)
def q7_14 : State := { dev (txing radio) with chn := { (dev (txing radio)).chn with devGnt := true}}
def q7_15 : State := (dev (txing radio)).put F.CHN_COEX_CTRL_DEV_TRUNCATE 0
def q7_17 : State := (run (dev (txing radio)) kDLS).put F.CHN_COEX_CTRL_EXT_RADIOS 6
theorem witness_Synthesisers :
    (∃ (s : State) (k : Fin 5) (m : Nat) (ch : Channel), s.shapeOk = true ∧ s.pwr.stage = StartStage.up ∧ k ≠ 4 ∧ s.chn.testing.contains (k : Nat) = true ∧ m < 3 ∧ (s.rad m).chan = some ch) ∧
    (∃ (s : State) (k : Fin 5), s.shapeOk = true ∧ s.pwr.stage = StartStage.up ∧ k ≠ 4 ∧ s.chn.testing.contains (k : Nat) = true) ∧
    (∃ (s : State) (k : Fin 5) (n : Nat) (sp : Nat), s.shapeOk = true ∧ s.pwr.stage = StartStage.up ∧ sp < 4 ∧ n < 3 ∧ s.chn.subst = some (sp, n, (k : Nat)) ∧ s.rstate n ≠ rOff ∧ s.rstate n ≠ rSleep) ∧
    (∃ (s : State), s.shapeOk = true ∧ s.pwr.stage = StartStage.up ∧ s.chn.testing.contains 4 = true) ∧
    (∃ (s : State) (k : Fin 5), s.shapeOk = true ∧ s.pwr.stage = StartStage.up ∧ s.synthFenced (k : Nat) = false) ∧
    (∃ (s : State) (k : Fin 5), s.shapeOk = true ∧ s.pwr.stage = StartStage.up ∧ s.synthFenced (k : Nat) = true ∧ s.chn.testing.contains (k : Nat) = false) ∧
    (∃ (s : State) (k : Fin 5) (n : Nat) (sp : Nat), s.shapeOk = true ∧ s.pwr.stage = StartStage.up ∧ sp < 4 ∧ n < 3 ∧ s.chn.subst = some (sp, n, (k : Nat)) ∧ (s.rstate n = rOff ∨ s.rstate n = rSleep)) ∧
    (∃ (s : State) (k : Fin 5) (n : Nat) (sp : Nat), s.shapeOk = true ∧ s.pwr.stage = StartStage.up ∧ k ≠ 4 ∧ s.isSet (F.CHN_SYNTH_STATUS_FENCED (k : Nat)) = false ∧ n < 3 ∧ s.chn.subst = some ((k : Nat), n, sp)) ∧
    (∃ (s : State) (k : Fin 5) (n : Nat) (sp : Nat), s.shapeOk = true ∧ s.pwr.stage = StartStage.up ∧ k ≠ 4 ∧ n < 3 ∧ s.isSet (F.CHN_SYNTH_STATUS_FENCED (k : Nat)) = false ∧ s.get (F.CHN_SYNTH_STATUS_SERVES (k : Nat)) = n ∧ s.chn.subst = none ∧ s.spareSynth = some sp ∧ rSynthOn ≤ s.rstate n) ∧
    (∃ (s : State) (sp : Nat), s.shapeOk = true ∧ s.pwr.stage = StartStage.up ∧ s.chn.trvFenced = false ∧ s.chn.trvBy = none ∧ s.chn.trvNext = none ∧ s.spareSynth = some sp) ∧
    (∃ (s : State) (k : Fin 5) (n : Nat), s.shapeOk = true ∧ s.pwr.stage = StartStage.up ∧ k ≠ 4 ∧ n < 3 ∧ s.isSet (F.CHN_SYNTH_STATUS_FENCED (k : Nat)) = false ∧ s.get (F.CHN_SYNTH_STATUS_SERVES (k : Nat)) = n ∧ s.chn.subst = none ∧ s.spareSynth = none) ∧
    (∃ (s : State) (k : Fin 5), s.shapeOk = true ∧ s.pwr.stage = StartStage.up ∧ k ≠ 4 ∧ s.isSet (F.CHN_SYNTH_STATUS_FENCED (k : Nat)) = true) :=
  ⟨⟨q1_6, 3, 0, { band := 0, subs := [1], width := 0 }, by decide +kernel⟩,
   ⟨q1_6, 3, by decide +kernel⟩,
   ⟨sub0, 0, 0, 3, by decide +kernel⟩,
   ⟨q1_6, by decide +kernel⟩,
   ⟨radio, 0, by decide +kernel⟩,
   ⟨nosp, 3, by decide +kernel⟩,
   ⟨q1_9, 0, 0, 3, by decide +kernel⟩,
   ⟨sub0, 3, 0, 0, by decide +kernel⟩,
   ⟨radio, 0, 0, 3, by decide +kernel⟩,
   ⟨radio, 3, by decide +kernel⟩,
   ⟨nosp, 0, 0, by decide +kernel⟩,
   ⟨nosp, 3, by decide +kernel⟩⟩
theorem witness_ChainFaults :
    (∃ (s : State) (c : Fin 16) (cause : Fin 5) (n : Nat), s.shapeOk = true ∧ s.get (F.CHN_CHAIN_STATUS_RADIO (c : Nat)) = n ∧ n < 3 ∧ s.chainFenced (c : Nat) = false ∧ ((cause : Nat) ≠ 3 ∨ s.isSet (F.CHN_CHAIN_STATUS_FBRX_FAULT (c : Nat)) = false) ∧ s.chainsOf n = [(c : Nat)] ∧ s.rstate n ≠ rOff) ∧
    (∃ (s : State) (c : Fin 16) (cause : Fin 5) (n : Nat), s.shapeOk = true ∧ s.get (F.CHN_CHAIN_STATUS_RADIO (c : Nat)) = n ∧ n < 3 ∧ s.chainFenced (c : Nat) = false ∧ ((cause : Nat) ≠ 3 ∨ s.isSet (F.CHN_CHAIN_STATUS_FBRX_FAULT (c : Nat)) = false) ∧ (∃ (d : Nat), d ∈ s.chainsOf n ∧ d ≠ (c : Nat))) ∧
    (∃ (s : State) (c : Fin 16) (m : Master) (v : Word), s.shapeOk = true ∧ s.gate m A.CHN_CHAIN_REINSTATE = Gate.pass ∧ getField v 0 4 = (c : Nat) ∧ s.chainFenced (c : Nat) = true ∧ s.get (F.CHN_CHAIN_STATUS_FENCE_CAUSE (c : Nat)) ≠ 7 ∧ s.get (F.CHN_CHAIN_STATUS_FENCE_CAUSE (c : Nat)) ≠ 8) ∧
    (∃ (s : State) (c : Fin 16) (m : Master) (v : Word), s.shapeOk = true ∧ s.gate m A.CHN_CHAIN_REINSTATE = Gate.pass ∧ getField v 0 4 = (c : Nat) ∧ (s.chainFenced (c : Nat) = false ∨ s.get (F.CHN_CHAIN_STATUS_FENCE_CAUSE (c : Nat)) = 7 ∨ s.get (F.CHN_CHAIN_STATUS_FENCE_CAUSE (c : Nat)) = 8)) ∧
    (∃ (s : State) (c : Fin 16), s.shapeOk = true ∧ s.testDue (c : Nat) = false) ∧
    (∃ (s : State) (c : Fin 16), s.shapeOk = true ∧ (s.chain (c : Nat)).test = false) ∧
    (∃ (s : State) (c : Fin 16), s.shapeOk = true ∧ (s.chain (c : Nat)).test = true ∧ ((s.chain (c : Nat)).testAt + 1000000000 ≤ s.tim.now ∨ (s.chain (c : Nat)).home < 3 ∧ s.runKind (s.chain (c : Nat)).home = kCAL ∧ (s.gr (s.chain (c : Nat)).home).run.isSome = true)) ∧
    (∃ (s : State) (c : Fin 16), s.shapeOk = true ∧ s.chainFenced (c : Nat) = true) :=
  ⟨⟨onlyChain, 0, 0, 0, by decide +kernel⟩,
   ⟨radio, 0, 0, 0, by decide +kernel⟩,
   ⟨onlyChain, 6, Master.pcie, 6, by decide +kernel⟩,
   ⟨radio, 0, Master.pcie, 0, by decide +kernel⟩,
   ⟨radio, 0, by decide +kernel⟩,
   ⟨radio, 0, by decide +kernel⟩,
   ⟨q2_8, 6, by decide +kernel⟩,
   ⟨onlyChain, 6, by decide +kernel⟩⟩
theorem witness_Calibration :
    (∃ (s : State) (n : Fin 3) (c : Fin 16), s.shapeOk = true ∧ s.get (F.CHN_CHAIN_STATUS_RADIO (c : Nat)) = (n : Nat) ∧ 17 ≤ (s.chain (c : Nat)).accepted ∧ (s.chain (c : Nat)).lastCand = none ∧ (s.rad (n : Nat)).tx = none ∧ s.isSet (F.CHN_CAL_CTRL_FREEZE (n : Nat)) = false ∧ s.isSet (F.CHN_CAL_CTRL_DPD_EN (n : Nat)) = true ∧ s.isSet (F.CHN_CHAIN_STATUS_FBRX_FAULT (c : Nat)) = false ∧ (∀ (d : Fin 16), d / 4 = c / 4 → d ≠ c → (s.chain ↑d).accepted < 17)) ∧
    (∃ (s : State) (n : Fin 3) (c : Fin 16) (us : Nat), s.shapeOk = true ∧ s.get (F.CHN_CHAIN_STATUS_RADIO (c : Nat)) = (n : Nat) ∧ s.isSet (F.CHN_CHAIN_STATUS_FBRX_FAULT (c : Nat)) = false ∧ s.isSet (F.CHN_CAL_CTRL_FREEZE (n : Nat)) = false ∧ s.isSet (F.CHN_CAL_CTRL_DPD_EN (n : Nat)) = true ∧ 16 ≤ us) ∧
    (∃ (s : State) (c : Fin 16), s.shapeOk = true ∧ s.estimatorTurn ((c : Nat) / 4) ≠ some (c : Nat)) ∧
    (∃ (s : State) (c : Fin 16), s.shapeOk = true ∧ (s.chain (c : Nat)).accepted < 17) ∧
    (∃ (s : State) (n : Fin 3) (c : Fin 16) (kind : CalKind) (idle : Bool) (off : Nat), s.shapeOk = true ∧ kind ≠ CalKind.interChain ∧ ((s.rad (n : Nat)).cycles.any fun (y : CalCycle) => y.todo.any fun (e : CalKind × Nat) => e.fst == kind && e.snd == (c : Nat)) = true ∧ (s.chainsOf (n : Nat)).contains (c : Nat) = true ∧ s.stepAllowed ((n : Nat)) kind idle = true ∧ off ≠ A.CHN_CHAIN_STATUS (c : Nat) ∧ off ≠ A.CHN_RADIO_STATE (n : Nat)) ∧
    (∃ (s : State) (c : Fin 16), s.shapeOk = true ∧ s.estimatorTurn ((c : Nat) / 4) = some (c : Nat)) ∧
    (∃ (s : State) (n : Fin 3) (c : Fin 16) (us : Nat), s.shapeOk = true ∧ s.get (F.CHN_CHAIN_STATUS_RADIO (c : Nat)) = (n : Nat) ∧ us < 16) ∧
    (∃ (s : State) (n : Fin 3) (c : Fin 16) (kind : CalKind) (ok : Bool), s.shapeOk = true ∧ (s.rad (n : Nat)).step = some (kind, [(c : Nat)]) ∧ kind = CalKind.feedback ∧ ok = false) ∧
    (∃ (s : State) (n : Fin 3), s.shapeOk = true ∧ (s.cyclesOn (n : Nat) = false ∨ ((s.rad (n : Nat)).cycles.any fun (y : CalCycle) => y.todo != []) = false)) ∧
    (∃ (s : State) (n : Fin 3), s.shapeOk = true ∧ s.cyclesOn (n : Nat) = true ∧ ((s.rad (n : Nat)).cycles.any fun (y : CalCycle) => y.todo != []) = true) ∧
    (∃ (s : State) (n : Fin 3), s.shapeOk = true ∧ (s.rad (n : Nat)).step = none) ∧
    (∃ (s : State) (n : Fin 3) (kind : CalKind) (idle : Bool), s.shapeOk = true ∧ s.stepAllowed ((n : Nat)) kind idle = false) :=
  ⟨⟨(l3_.getD 7 up), 0, 0, by decide +kernel⟩,
   ⟨(l3_.getD 0 up), 0, 0, 16, by decide +kernel⟩,
   ⟨(l3_.getD 0 up), 0, by decide +kernel⟩,
   ⟨(l3_.getD 0 up), 0, by decide +kernel⟩,
   ⟨(l3_.getD 1 up), 0, 0, CalKind.rxDc, true, 0, by decide +kernel⟩,
   ⟨(l3_.getD 3 up), 0, by decide +kernel⟩,
   ⟨(l3_.getD 0 up), 0, 0, 0, by decide +kernel⟩,
   ⟨(l3_.getD 14 up), 0, 0, CalKind.feedback, false, by decide +kernel⟩,
   ⟨(l3_.getD 0 up), 0, by decide +kernel⟩,
   ⟨(l3_.getD 1 up), 0, by decide +kernel⟩,
   ⟨(l3_.getD 0 up), 0, by decide +kernel⟩,
   ⟨(l3_.getD 0 up), 0, CalKind.rxDc, false, by decide +kernel⟩⟩
theorem witness_RadioStates :
    (∃ (s : State) (n : Fin 3) (ch : Channel) (c : Nat), s.shapeOk = true ∧ channelAllowed (s.profile s.activeProfile) ch = true ∧ radioFits ((n : Nat)) ch = true ∧ (s.rstate (n : Nat) = rRx ∨ s.rstate (n : Nat) = rSynthOn) ∧ c ∈ s.chainsOf (n : Nat) ∧ (s.chain c).stored.contains ((n : Nat), ch) = false) ∧
    (∃ (s : State) (n : Fin 3) (ch : Channel) (c : Nat), s.shapeOk = true ∧ channelAllowed (s.profile s.activeProfile) ch = true ∧ radioFits ((n : Nat)) ch = true ∧ (s.rstate (n : Nat) = rRx ∨ s.rstate (n : Nat) = rSynthOn) ∧ c ∈ s.chainsOf (n : Nat) ∧ (s.chain c).stored.contains ((n : Nat), ch) = true) ∧
    (∃ (s : State) (n : Fin 3), s.shapeOk = true ∧ (s.rad (n : Nat)).held = []) ∧
    (∃ (s : State) (n : Fin 3) (nx : Fin 6), s.shapeOk = true ∧ mayMove (s.rstate (n : Nat)) (nx : Nat) = true ∧ (nx : Nat) ≠ rRx ∧ s.rstate (n : Nat) = rTx) ∧
    (∃ (s : State) (n : Fin 3) (ch : Channel), s.shapeOk = true ∧ (channelAllowed (s.profile s.activeProfile) ch = false ∨ radioFits ((n : Nat)) ch = false)) ∧
    (∃ (s : State) (n : Fin 3) (nx : Fin 6), s.shapeOk = true ∧ mayMove (s.rstate (n : Nat)) (nx : Nat) = false) ∧
    (∃ (s : State) (n : Fin 3), s.shapeOk = true ∧ mayMove (s.rstate (n : Nat)) rRx = true ∧ (s.rad (n : Nat)).held = []) :=
  ⟨⟨radio, 0, { band := 0, subs := [1], width := 0 }, 0, by decide +kernel⟩,
   ⟨q4_9, 0, { band := 0, subs := [1], width := 0 }, 0, by decide +kernel⟩,
   ⟨radio, 0, by decide +kernel⟩,
   ⟨q4_1, 0, 0, by decide +kernel⟩,
   ⟨radio, 0, { band := 1, subs := [36], width := 1 }, by decide +kernel⟩,
   ⟨radio, 0, 1, by decide +kernel⟩,
   ⟨q4_1, 0, by decide +kernel⟩⟩
theorem witness_TransmitAdmission :
    (∃ (s : State) (n : Fin 3) (r : TxReq), s.shapeOk = true ∧ formOk (n : Nat) { r with form := s.formFits ((n : Nat)) r.form }.form = true ∧ s.mayRadiate = true ∧ s.dutyFits ((n : Nat)) r.dur = true ∧ (s.chainsOf (n : Nat) = [] ∨ s.txChains (n : Nat) ≠ []) ∧ Option.all (fun (t : Nat) => decide (s.t0 ≤ t)) r.startBy = true ∧ (s.extMasked (n : Nat) = false ∨ s.chn.extGnt = false) ∧ ((n : Nat) ≠ 0 ∨ s.trv.hold0 ≤ s.t0) ∧ (s.devMasked (n : Nat) = false ∨ s.chn.devGnt = true) ∧ (s.rad (n : Nat)).settling = false ∧ (s.rad (n : Nat)).step = none ∧ (s.rad (n : Nat)).tx = none ∧ (s.rad (n : Nat)).airEnd ≤ s.tim.now ∧ (r.kind = TxKind.contention → s.mediumFree (n : Nat) = true) ∧ s.rstate (n : Nat) = rRx ∧ s.runAllows ((n : Nat)) r.kind s.t0 (r.dur + r.resp) = true) ∧
    (∃ (s : State) (n : Fin 3) (r : TxReq), s.shapeOk = true ∧ formOk (n : Nat) { r with form := s.formFits ((n : Nat)) r.form }.form = true ∧ s.mayRadiate = true ∧ s.dutyFits ((n : Nat)) r.dur = true ∧ (s.chainsOf (n : Nat) = [] ∨ s.txChains (n : Nat) ≠ []) ∧ Option.all (fun (t : Nat) => decide (s.t0 ≤ t)) r.startBy = true ∧ (s.extMasked (n : Nat) = true ∧ s.chn.extGnt = true ∨ (n : Nat) = 0 ∧ s.t0 < s.trv.hold0 ∨ s.devMasked (n : Nat) = true ∧ s.chn.devGnt = false ∨ (s.rad (n : Nat)).settling = true ∨ (s.rad (n : Nat)).step.isSome = true ∨ (s.rad (n : Nat)).tx.isSome = true ∨ s.tim.now < (s.rad (n : Nat)).airEnd ∨ r.kind = TxKind.contention ∧ s.mediumFree (n : Nat) = false ∨ s.rstate (n : Nat) ≠ rRx ∨ s.runAllows ((n : Nat)) r.kind s.t0 (r.dur + r.resp) = false)) ∧
    (∃ (s : State) (n : Fin 3) (r : TxReq) (t : Nat), s.shapeOk = true ∧ formOk (n : Nat) { r with form := s.formFits ((n : Nat)) r.form }.form = true ∧ s.mayRadiate = true ∧ s.dutyFits ((n : Nat)) r.dur = true ∧ (s.chainsOf (n : Nat) = [] ∨ s.txChains (n : Nat) ≠ []) ∧ r.startBy = some t ∧ t < s.t0) ∧
    (∃ (s : State) (n : Fin 3) (r : TxReq), s.shapeOk = true ∧ formOk (n : Nat) { r with form := s.formFits ((n : Nat)) r.form }.form = true ∧ (s.mayRadiate = false ∨ s.dutyFits ((n : Nat)) r.dur = false ∨ s.chainsOf (n : Nat) ≠ [] ∧ s.txChains (n : Nat) = [])) ∧
    (∃ (s : State) (n : Fin 3) (r : TxReq), s.shapeOk = true ∧ formOk (n : Nat) { r with form := s.formFits ((n : Nat)) r.form }.form = false) :=
  ⟨⟨radio, 0, tx0, by decide +kernel⟩,
   ⟨radio, 0, have __src := tx0; { tag := __src.tag, dur := 10 ^ 9, startBy := __src.startBy, kind := __src.kind, form := __src.form, resp := __src.resp }, by decide +kernel⟩,
   ⟨q5_1, 0, have __src := tx0; { tag := __src.tag, dur := __src.dur, startBy := some 0, kind := __src.kind, form := __src.form, resp := __src.resp }, 0, by decide +kernel⟩,
   ⟨q5_2, 0, tx0, by decide +kernel⟩,
   ⟨radio, 0, { tag := 7, dur := 1000, startBy := none, kind := Sys2Proof.TxKind.contention, form := { format := 99, mcs := 0, streams := 1, width := 0, punctured := false, mpdus := 1 }, resp := 0 }, by decide +kernel⟩⟩
theorem witness_RegulatoryFuses :
    (∃ (s : State) (p : Nat) (b : List Byte), p < 8 ∧ s.rfuse.busy = some (p, b) ∧ profileGood b = true) ∧
    (∃ (s : State) (m : Master) (v : Word), s.gate m A.CHN_FUSE_CTRL = Gate.pass ∧ s.stopping 4 = false ∧ s.isSet F.CHN_FUSE_STATUS_BUSY = false ∧ bit (BitVec.toNat v) 3 = true ∧ bit (BitVec.toNat v) 4 = false ∧ getField v 16 16 = 38464 ∧ s.rfuse.lock = false ∧ profileMark (s.profile (getField v 0 3)) = false ∧ profileCrcOk s.fuseStaged = true ∧ dwellOk s.fuseStaged = true) ∧
    (∃ (s : State) (m : Master) (v : Word), s.gate m A.CHN_FUSE_CTRL = Gate.pass ∧ s.stopping 4 = false ∧ s.isSet F.CHN_FUSE_STATUS_BUSY = false ∧ bit (BitVec.toNat v) 3 = true ∧ bit (BitVec.toNat v) 4 = false ∧ (getField v 16 16 ≠ 38464 ∨ s.rfuse.lock = true ∨ profileMark (s.profile (getField v 0 3)) = true ∨ profileCrcOk s.fuseStaged = false ∨ dwellOk s.fuseStaged = false)) ∧
    (∃ (s : State) (m : Master) (v : Word), s.gate m A.CHN_FUSE_CTRL = Gate.pass ∧ s.stopping 4 = false ∧ s.isSet F.CHN_FUSE_STATUS_BUSY = false ∧ bit (BitVec.toNat v) 3 = false ∧ bit (BitVec.toNat v) 4 = true) ∧
    (∃ (s : State), s.rfuse.busy = none) ∧
    (∃ (s : State) (m : Master) (v : Word), s.gate m A.CHN_REG_SELECT = Gate.pass ∧ s.profileWritten (getField v 0 3) = true ∧ profileWithin (s.profile (getField v 0 3)) (s.profile s.regProfile) = true ∧ (∀ (n : Fin 3) (ch : Channel), (s.rad ↑n).chan = some ch → channelAllowed (s.profile (getField v 0 3)) ch = true)) ∧
    (∃ (s : State) (m : Master) (v : Word), s.gate m A.CHN_REG_SELECT = Gate.pass ∧ s.profileWritten (getField v 0 3) = false) :=
  ⟨⟨q6_3, 3, profGood, by decide +kernel⟩,
   ⟨q6_2, Master.pcie, 2520776715#32, by decide +kernel⟩,
   ⟨radio, Master.pcie, 2520776712#32, by decide +kernel⟩,
   ⟨radio, Master.pcie, 16#32, by decide +kernel⟩,
   ⟨radio, by decide +kernel⟩,
   ⟨radio, Master.pcie, 0, by decide +kernel⟩,
   ⟨radio, Master.pcie, 1, by decide +kernel⟩⟩
theorem witness_Coexistence :
    (∃ (s : State) (n : Fin 3), s.shapeOk = true ∧ s.devMasked (n : Nat) = true ∧ ((s.rad (n : Nat)).tx.isSome = true ∨ s.devDue (n : Nat) = true)) ∧
    (∃ (s : State) (k : Fin 3), s.shapeOk = true ∧ s.isSet F.CHN_COEX_CTRL_DEV_TRUNCATE = true ∧ s.devMasked (k : Nat) = false) ∧
    (∃ (s : State) (m : Master), s.shapeOk = true ∧ s.gate m A.CHN_COEX_CTRL = Gate.pass) ∧
    (∃ (s : State) (k : Fin 3), s.shapeOk = true ∧ s.isSet F.CHN_COEX_CTRL_DEV_TRUNCATE = true ∧ s.devMasked (k : Nat) = true) ∧
    (∃ (s : State), s.shapeOk = true ∧ (∀ (k : Fin 3), s.devMasked ↑k = true → (s.rad ↑k).tx = none ∧ (s.rad ↑k).held = [] ∧ s.devDue ↑k = false)) ∧
    (∃ (s : State) (n : Fin 3) (r : TxReq), s.shapeOk = true ∧ List.find? (fun (r : TxReq) => r.startBy.isNone) (s.rad (n : Nat)).held = some r ∧ s.devMasked (n : Nat) = true ∧ s.chn.devGnt = false) ∧
    (∃ (s : State), s.shapeOk = true ∧ s.chn.devGnt = true) ∧
    (∃ (s : State) (k : Fin 3), s.shapeOk = true ∧ s.chn.extReq = false ∧ s.isSet F.CHN_COEX_CTRL_EXT_EN = true ∧ s.isSet F.CHN_COEX_CTRL_EXT_TRUNCATE = true ∧ (∀ (k : Fin 3), s.rstate (k : Nat) = rTx → (s.rad (k : Nat)).tx.isSome = true) ∧ s.extMasked (k : Nat) = true) ∧
    (∃ (s : State), s.shapeOk = true ∧ s.isSet F.CHN_COEX_CTRL_DEV_TRUNCATE = false) ∧
    (∃ (s : State) (k : Fin 3), s.shapeOk = true ∧ s.chn.extReq = false ∧ s.isSet F.CHN_COEX_CTRL_EXT_EN = true ∧ s.isSet F.CHN_COEX_CTRL_EXT_TRUNCATE = true ∧ (∀ (k : Fin 3), s.rstate (k : Nat) = rTx → (s.rad (k : Nat)).tx.isSome = true) ∧ s.extMasked (k : Nat) = false) ∧
    (∃ (s : State) (n : Fin 3), s.shapeOk = true ∧ (s.devMasked (n : Nat) = false ∨ s.devDue (n : Nat) = false ∧ (s.rad (n : Nat)).held = [])) ∧
    (∃ (s : State) (n : Fin 3), s.shapeOk = true ∧ s.devMasked (n : Nat) = true ∧ (s.devDue (n : Nat) = true ∨ (s.rad (n : Nat)).held ≠ [])) ∧
    (∃ (s : State), s.shapeOk = true ∧ (s.chn.extGnt = false ∨ s.chn.extHigh = true)) ∧
    (∃ (s : State), s.shapeOk = true ∧ s.chn.extGnt = true ∧ s.chn.extHigh = false) ∧
    (∃ (s : State), s.shapeOk = true ∧ s.chn.extPri = false ∧ s.chn.extReq = true ∧ s.isSet F.CHN_COEX_CTRL_EXT_EN = true ∧ s.isSet F.CHN_COEX_CTRL_EXT_TRUNCATE = false ∧ s.extBusy = false) ∧
    (∃ (s : State), s.shapeOk = true ∧ s.chn.extPri = false ∧ s.chn.extReq = false) ∧
    (∃ (s : State), s.shapeOk = true ∧ s.chn.extReq = false ∧ s.isSet F.CHN_COEX_CTRL_EXT_EN = true ∧ (s.extBusy = true ∨ s.extScheduled = true)) ∧
    (∃ (s : State), s.shapeOk = true ∧ s.chn.extReq = false ∧ s.isSet F.CHN_COEX_CTRL_EXT_EN = true ∧ s.extBusy = false ∧ s.extScheduled = false) ∧
    (∃ (s : State), s.shapeOk = true ∧ s.chn.extReq = true) :=
  ⟨⟨q7_1, 0, by decide +kernel⟩,
   ⟨radio, 0, by decide +kernel⟩,
   ⟨radio, Master.pcie, by decide +kernel⟩,
   ⟨q7_1, 0, by decide +kernel⟩,
   ⟨radio, by decide +kernel⟩,
   ⟨q7_1, 0, tx0, by decide +kernel⟩,
   ⟨q7_14, by decide +kernel⟩,
   ⟨q7_1, 0, by decide +kernel⟩,
   ⟨q7_15, by decide +kernel⟩,
   ⟨q7_17, 0, by decide +kernel⟩,
   ⟨radio, 0, by decide +kernel⟩,
   ⟨q7_1, 0, by decide +kernel⟩,
   ⟨radio, by decide +kernel⟩,
   ⟨q7_7, by decide +kernel⟩,
   ⟨q7_12, by decide +kernel⟩,
   ⟨radio, by decide +kernel⟩,
   ⟨q7_1, by decide +kernel⟩,
   ⟨q7_2, by decide +kernel⟩,
   ⟨q7_6, by decide +kernel⟩⟩
end W05

namespace W06
open Wit
def rxS (p : Int) (f : Bool) (s : State := radio) : State := s.phMod 0 (fun x => { x with rx := some p, falseRx := f })
def tx0 : TxReq := ⟨7, 1000, none, .contention, PhyForm.basic, 5000⟩
def txing (s : State) : State := match execTxRequest 0 tx0 s with | .next u => u | _ => s
def en (s : State) : State := (s.put (F.RAD_RX_CTRL_RESTART_EN 0) 1).put (F.RAD_RX_CTRL_RESTART_MARGIN 0) 3
def ks : KeySlot := { KeySlot.blank with valid := true, rx := [5,5,5,5,5,5,5,5,5,5], partner := 3, partnerEn := true }
def keyed (s : State) : State := ({ s with sec := { s.sec with slots := [(2, ks), (3, {ks with keyid := 1})] } } : State).put (F.STA_W2_KEY_VALID 1) 1 |>.put (F.STA_W2_KEY 1) 2 |>.put (F.STA_W0_VALID 1) 1 |>.put (F.STA_W0_BSS 1) 3
def board (s : State) : State := { s with grt := { s.grt with tids := [(8 + 3, ⟨0, [], [5]⟩)] } }
def lockd (s : State) : State := (s.put (F.RAD_RX_CTRL_RESPONSE_LOCK 0) 1).radMod 0 (fun x => { x with exchEnd := s.tim.now + 10 })
def hd (c0 c1 sq : Nat) (q : List Byte) (b : List Byte) : List Byte := [BitVec.ofNat 8 c0, BitVec.ofNat 8 c1] ++ List.replicate 20 2#8 ++ leBytes 2 (sq * 16) ++ q ++ b
def snap : List Byte := [0xAA#8,0xAA#8,3#8,0#8,0#8,0#8,8#8,0#8,0x45#8] ++ List.replicate 19 0#8
def f9 : PhyForm := { PhyForm.basic with format := 9 }
def q1_1 : State := txing radio
def q1_3 : State := rxS (-6500) false
def q1_7 : State := rxS 0 false (keyed radio)
def q1_9 : State := board (rxS 0 false (keyed radio))
def q1_10 : State := lockd (en (rxS (-6500) false))
def lk (s : State) : State := (((((((s.put (F.RAD_STP_LINK_CFG_ENABLE 0 1) 1).put (F.RAD_STP_LINK_CFG_PEER 0 1) 5).put (F.CHN_SURVEY0_VALID 0) 1).put (F.CHN_SURVEY0_STIPPLE_PEER 0) 1).put (F.CHN_SURVEY0_PATH 0) 1).put (F.CHN_SURVEY0_MEMBER 0) 5).put (F.RAD_STP_CTRL_MAX_AGE 0) 10).grMod 0 (fun g => { g with work := [6 + 5 * 2^16], run := some { runOf 6 with peer := 5 } })
def lkm (f : StpLink → StpLink) (s : State) : State := s.linkMod 0 1 f
def L : State := lk radio
def m1 : StpMap := (L.mapCompute 0 1).getD ⟨0,0,0,0,0,0,0,[]⟩
def m2 : StpMap := { m1 with version := 7, loads := [[1,2,3]] }
def m3 : StpMap := { m2 with actS := 5, width := 3 }
def hdrW : List (Nat × Word) := [(0, 0x01000007#32), (1, 0#32), (2,0#32),(3,0#32)]
def linkStates : List State := [L, lkm (fun l => { l with rxMap := some m1 }) L, lkm (fun l => { l with rxNew := some m2, rxMap := some { m1 with version := 65535} }) L, lkm (fun l => { l with rxPend := some m2 }) L, lkm (fun l => { l with rxPend := some m2, accepted := true }) L, lkm (fun l => { l with rxPend := some m3 }) L,
  lkm (fun l => { l with rxMap := some m3, txMap := some m3 }) L, lkm (fun l => { l with txMap := some m2, txPend := some m1 }) L, lkm (fun l => { l with rxPend := some m3, txPend := some m3, accepted := true }) L,
  lkm (fun l => { l with win := hdrW}) L, lkm (fun l => {l with txMap := some m2, echoAt := some 3}) (L.put (F.RAD_STP_LINK_STATUS_LAST_ECHO 0 1) 7), lkm (fun l => {l with txMap := some m2, echoAt := some 3}) L, L.grMod 0 (fun g => {g with run := none})]
def late (s : State) : State := { s with tim := { s.tim with now := 10^15 } }
def l2_ : List State := [radio] ++ linkStates ++ [late L, late (linkStates.getD 2 L)]
def tt (ns : Nat) (s : State) : State := { s with tim := { s.tim with now := ns, tb := s.tim.tb.map (fun b => { b with t := ns * unitsPerNs }) } }
def rxd (s : State) : State := (s.phMod 0 (fun x => { x with rx := some 0, falseRx := false })).put F.TRV_MEMBER_MEMBER 3
def G (a b : Nat) (sel v e : Nat) : BitVec 90 := BitVec.ofNat 90 (a * 2^60 + b * 2^50 + sel + v * 2 + e * 2^17)
def l3_ : List State := [radio] ++ linkStates ++ linkStates.map (tt 100000) ++ (linkStates.take 4).map rxd
def trv (s : State) : State := { s.put F.TRV_STATUS_DOMAIN 3 with trv := { s.trv with rest := false } }
def q4_3 : State := tt 100000 (trv radio)
def q4_4 : State := tt 200000 ((radio.phMod 0 (fun p => {p with meas := some (1, 1)})).grMod 0 (fun g => {g with run := some (runOf kQUI)}))
def q4_5 : State := { radio with chn := { radio.chn with radios := radio.chn.radios.map (fun r => {r with chan := none})}}
def q4_7 : State := radio.phMod 0 (fun p => {p with floor := [(0,2000),(1,250),(2,1000)]})
def q4_11 : State := radio.put (F.RAD_MEAS_CMD_BUSY 0) 1
theorem witness_Receptions :
    (∃ (s : State) (n : Fin 3) (f : PhyForm) (st : Fin 4096) (m : MpduProt) (bs : List Byte) (i : Nat), s.shapeOk = true ∧ (s.ph (n : Nat)).rx.isSome = true ∧ (s.ph (n : Nat)).falseRx = false ∧ formOk ((n : Nat)) f = true ∧ s.staValid (st : Nat) = true ∧ frameTid bs = none ∧ s.rxSlot (st : Nat) ↑m.keyId = some i ∧ m.micOk = true ∧ (s.slot 0 i).rx.getD (↑m.counter) 0 < m.pn ∧ bits (leAt bs 0 2) 2 2 = 2) ∧
    (∃ (s : State) (n : Fin 3) (f : PhyForm) (st : Fin 4096) (m : MpduProt) (bs : List Byte) (i : Nat), s.shapeOk = true ∧ (s.ph (n : Nat)).rx.isSome = true ∧ (s.ph (n : Nat)).falseRx = false ∧ formOk ((n : Nat)) f = true ∧ s.staValid (st : Nat) = true ∧ frameTid bs = none ∧ s.rxSlot (st : Nat) ↑m.keyId = some i ∧ m.micOk = true ∧ (s.slot 0 i).rx.getD (↑m.counter) 0 < m.pn ∧ bits (leAt bs 0 2) 2 2 ≠ 2) ∧
    (∃ (s : State) (n : Fin 3) (f : PhyForm) (st : Fin 4096) (m : MpduProt) (bs : List Byte) (i : Nat), s.shapeOk = true ∧ (s.ph (n : Nat)).rx.isSome = true ∧ (s.ph (n : Nat)).falseRx = false ∧ formOk ((n : Nat)) f = true ∧ s.staValid (st : Nat) = true ∧ frameTid bs = none ∧ s.rxSlot (st : Nat) ↑m.keyId = some i ∧ m.micOk = true ∧ m.pn ≤ (s.slot 0 i).rx.getD (↑m.counter) 0) ∧
    (∃ (s : State) (n : Fin 3) (f : PhyForm) (st : Fin 4096) (m : MpduProt) (bs : List Byte), s.shapeOk = true ∧ (s.ph (n : Nat)).rx.isSome = true ∧ (s.ph (n : Nat)).falseRx = false ∧ formOk ((n : Nat)) f = true ∧ s.staValid (st : Nat) = true ∧ frameTid bs = none ∧ (s.rxSlot (st : Nat) ↑m.keyId = none ∨ m.micOk = false)) ∧
    (∃ (s : State) (n : Fin 3) (f : PhyForm) (st : Fin 4096) (bs : List Byte) (t : Nat), s.shapeOk = true ∧ (s.ph (n : Nat)).rx.isSome = true ∧ (s.ph (n : Nat)).falseRx = false ∧ formOk ((n : Nat)) f = true ∧ s.staValid (st : Nat) = true ∧ frameTid bs = some t ∧ (s.tidState (8 * (st : Nat) + t)).board.contains (leAt bs 22 2 / 16) = true) ∧
    (∃ (s : State) (n : Fin 3) (p : Int) (b : Bool) (q : Int), s.shapeOk = true ∧ (b = false ∨ n = 0) ∧ s.onAir (n : Nat) = false ∧ (s.ph (n : Nat)).rx = some q ∧ s.isSet (F.RAD_RX_CTRL_RESTART_EN (n : Nat)) = true ∧ q + s.restartMargin (n : Nat) ≤ p ∧ s.responseLock (n : Nat) = true) ∧
    (∃ (s : State) (n : Fin 3) (p : Int) (b : Bool) (q : Int), s.shapeOk = true ∧ (b = false ∨ n = 0) ∧ s.onAir (n : Nat) = false ∧ (s.ph (n : Nat)).rx = some q ∧ s.isSet (F.RAD_RX_CTRL_RESTART_EN (n : Nat)) = true ∧ q + s.restartMargin (n : Nat) ≤ p ∧ s.responseLock (n : Nat) = false) ∧
    (∃ (s : State) (n : Fin 3) (f : PhyForm), s.shapeOk = true ∧ (s.ph (n : Nat)).rx.isSome = true ∧ (s.ph (n : Nat)).falseRx = false ∧ formOk ((n : Nat)) f = true) ∧
    (∃ (s : State) (n : Fin 3) (f : PhyForm), s.shapeOk = true ∧ (s.ph (n : Nat)).rx.isSome = true ∧ (s.ph (n : Nat)).falseRx = false ∧ formOk ((n : Nat)) f = false) ∧
    (∃ (s : State) (n : Fin 3) (f : PhyForm) (bs : List Byte), s.shapeOk = true ∧ (s.ph (n : Nat)).rx.isSome = true ∧ (s.ph (n : Nat)).falseRx = false ∧ formOk ((n : Nat)) f = true ∧ bits (leAt bs 0 2) 2 2 = 2) ∧
    (∃ (s : State) (n : Fin 3) (p : Int) (b : Bool) (q : Int), s.shapeOk = true ∧ (b = false ∨ n = 0) ∧ s.onAir (n : Nat) = false ∧ (s.ph (n : Nat)).rx = some q ∧ s.isSet (F.RAD_RX_CTRL_RESTART_EN (n : Nat)) = true ∧ p < q + s.restartMargin (n : Nat)) ∧
    (∃ (s : State) (n : Fin 3) (b : Bool), s.shapeOk = true ∧ (b = false ∨ n = 0) ∧ s.onAir (n : Nat) = false ∧ (s.ph (n : Nat)).rx = none) ∧
    (∃ (s : State) (n : Fin 3), s.shapeOk = true ∧ ((s.ph (n : Nat)).rx = none ∨ (s.ph (n : Nat)).falseRx = true)) ∧
    (∃ (s : State) (n : Fin 3) (b : Bool), s.shapeOk = true ∧ (b = false ∨ n = 0) ∧ s.onAir (n : Nat) = true) ∧
    (∃ (s : State) (n : Fin 3), s.shapeOk = true ∧ (s.ph (n : Nat)).rx.isSome = true ∧ (s.ph (n : Nat)).falseRx = false) ∧
    (∃ (s : State) (n : Fin 3), s.shapeOk = true ∧ s.rstate (n : Nat) = rRx ∧ s.onAir (n : Nat) = false ∧ (s.ph (n : Nat)).rx = none ∧ s.basebandUp (n : Nat) = true ∧ s.stopping 6 = false) ∧
    (∃ (s : State) (n : Fin 3), s.shapeOk = true ∧ n ≠ 0) ∧
    (∃ (s : State) (n : Fin 3) (c : SigCheck), s.shapeOk = true ∧ ((s.ph (n : Nat)).rx = none ∨ checkOn ((n : Nat)) c = false)) ∧
    (∃ (s : State) (n : Fin 3) (c : SigCheck), s.shapeOk = true ∧ (s.ph (n : Nat)).rx.isSome = true ∧ checkOn ((n : Nat)) c = true) ∧
    (∃ (s : State) (n : Fin 3), s.shapeOk = true ∧ s.rstate (n : Nat) ≠ rRx) :=
  ⟨⟨q1_7, 0, PhyForm.basic, 1, { keyId := 0, pn := 6, counter := 0, micOk := true }, hd 8 1 5 [] snap, 2, by decide +kernel⟩,
   ⟨q1_7, 0, PhyForm.basic, 1, { keyId := 0, pn := 6, counter := 0, micOk := true }, hd 208 0 5 [] [1#8], 2, by decide +kernel⟩,
   ⟨q1_7, 0, PhyForm.basic, 1, { keyId := 0, pn := 5, counter := 3, micOk := true }, hd 8 1 5 [] snap, 2, by decide +kernel⟩,
   ⟨q1_7, 0, PhyForm.basic, 1, { keyId := 0, pn := 6, counter := 3, micOk := false }, hd 8 1 5 [] snap, by decide +kernel⟩,
   ⟨q1_9, 0, PhyForm.basic, 1, hd 136 1 5 [3#8, 0#8] snap, 3, by decide +kernel⟩,
   ⟨q1_10, 0, 0, true, -6500, by decide +kernel⟩,
   ⟨q1_3, 0, 0, true, -6500, by decide +kernel⟩,
   ⟨q1_3, 0, PhyForm.basic, by decide +kernel⟩,
   ⟨q1_3, 0, f9, by decide +kernel⟩,
   ⟨q1_3, 0, PhyForm.basic, hd 136 1 5 [3#8, 0#8] snap, by decide +kernel⟩,
   ⟨q1_3, 0, -6500, true, -6500, by decide +kernel⟩,
   ⟨radio, 0, true, by decide +kernel⟩,
   ⟨radio, 0, by decide +kernel⟩,
   ⟨q1_1, 0, true, by decide +kernel⟩,
   ⟨q1_3, 0, by decide +kernel⟩,
   ⟨radio, 0, by decide +kernel⟩,
   ⟨radio, 1, by decide +kernel⟩,
   ⟨radio, 0, SigCheck.lsig, by decide +kernel⟩,
   ⟨q1_3, 0, SigCheck.lsig, by decide +kernel⟩,
   ⟨q1_1, 0, by decide +kernel⟩⟩
theorem witness_StippleMaps :
    (∃ (s : State) (n : Fin 3) (k : Fin 8) (w : Master) (v : Word), s.shapeOk = true ∧ (s.ph (n : Nat)).links.length = 8 ∧ s.gate w (A.RAD_STP_MAP_SEL (n : Nat)) = Gate.pass ∧ bit (BitVec.toNat v) 9 = false ∧ BitVec.toNat v % 8 = (k : Nat) ∧ s.linkOn (n : Nat) (k : Nat) = true) ∧
    (∃ (s : State) (n : Fin 3) (w : Master) (v : Word), s.shapeOk = true ∧ (s.ph (n : Nat)).links.length = 8 ∧ s.gate w (A.RAD_STP_MAP_SEL (n : Nat)) = Gate.pass ∧ bit (BitVec.toNat v) 8 = false) ∧
    (∃ (s : State) (n : Fin 3) (k : Fin 8), s.shapeOk = true ∧ (s.ph (n : Nat)).links.length = 8 ∧ (s.link (n : Nat) (k : Nat)).txMap = none ∧ (s.link (n : Nat) (k : Nat)).rxMap = none) ∧
    (∃ (s : State) (n : Fin 3) (k : Fin 8) (m : StpMap), s.shapeOk = true ∧ (s.ph (n : Nat)).links.length = 8 ∧ (s.link (n : Nat) (k : Nat)).rxMap = some m ∧ s.mapUnfit ((n : Nat)) m (s.link (n : Nat) (k : Nat)).rxAt = true) ∧
    (∃ (s : State) (n : Fin 3) (k : Fin 8) (m : StpMap), s.shapeOk = true ∧ (s.ph (n : Nat)).links.length = 8 ∧ (s.link (n : Nat) (k : Nat)).txMap = some m ∧ s.mapUnfit ((n : Nat)) m (s.link (n : Nat) (k : Nat)).txAt = true) ∧
    (∃ (s : State) (n : Fin 3) (k : Fin 8) (m : StpMap), s.shapeOk = true ∧ (s.ph (n : Nat)).links.length = 8 ∧ (s.link (n : Nat) (k : Nat)).rxPend = some m ∧ (s.link (n : Nat) (k : Nat)).accepted = false ∧ -2000000 ≤ stampDiff ↑s.t0 ↑m.act) ∧
    (∃ (s : State) (n : Fin 3) (k : Fin 8), s.shapeOk = true ∧ (s.ph (n : Nat)).links.length = 8 ∧ (s.link (n : Nat) (k : Nat)).accepted = true) ∧
    (∃ (s : State) (n : Fin 3) (k : Fin 8), s.shapeOk = true ∧ (s.ph (n : Nat)).links.length = 8 ∧ ((s.link (n : Nat) (k : Nat)).rxNew = none ∨ s.linkOn (n : Nat) (k : Nat) = false)) ∧
    (∃ (s : State) (n : Fin 3) (k : Fin 8) (m : StpMap), s.shapeOk = true ∧ (s.ph (n : Nat)).links.length = 8 ∧ s.linkOn (n : Nat) (k : Nat) = true ∧ (s.link (n : Nat) (k : Nat)).rxNew = some m) ∧
    (∃ (s : State) (n : Fin 3) (k : Fin 8) (m : StpMap), s.shapeOk = true ∧ (s.ph (n : Nat)).links.length = 8 ∧ s.linkOn (n : Nat) (k : Nat) = true ∧ s.recomputeDue (n : Nat) (k : Nat) = true ∧ s.mapCompute (n : Nat) (k : Nat) = some m ∧ Option.any (sameLoads m) (s.link (n : Nat) (k : Nat)).rxMap = true) ∧
    (∃ (s : State) (n : Fin 3) (k : Fin 8) (m : StpMap), s.shapeOk = true ∧ (s.ph (n : Nat)).links.length = 8 ∧ s.linkOn (n : Nat) (k : Nat) = true ∧ s.recomputeDue (n : Nat) (k : Nat) = true ∧ s.mapCompute (n : Nat) (k : Nat) = some m ∧ Option.any (sameLoads m) (s.link (n : Nat) (k : Nat)).rxMap = false) ∧
    (∃ (s : State) (n : Fin 3) (k : Fin 8), s.shapeOk = true ∧ (s.ph (n : Nat)).links.length = 8 ∧ (s.linkOn (n : Nat) (k : Nat) = false ∨ s.recomputeDue (n : Nat) (k : Nat) = false)) :=
  ⟨⟨(l2_.getD 1 up), 0, 1, Master.pcie, 1, by decide +kernel⟩,
   ⟨(l2_.getD 0 up), 0, Master.pcie, 0, by decide +kernel⟩,
   ⟨(l2_.getD 0 up), 0, 1, by decide +kernel⟩,
   ⟨(l2_.getD 7 up), 0, 1, m3, by decide +kernel⟩,
   ⟨(l2_.getD 7 up), 0, 1, m3, by decide +kernel⟩,
   ⟨(l2_.getD 4 up), 0, 1, m2, by decide +kernel⟩,
   ⟨(l2_.getD 5 up), 0, 1, by decide +kernel⟩,
   ⟨(l2_.getD 0 up), 0, 1, by decide +kernel⟩,
   ⟨(l2_.getD 3 up), 0, 1, m2, by decide +kernel⟩,
   ⟨(l2_.getD 15 up), 0, 1, m1, by decide +kernel⟩,
   ⟨(l2_.getD 14 up), 0, 1, m1, by decide +kernel⟩,
   ⟨(l2_.getD 0 up), 0, 1, by decide +kernel⟩⟩
theorem witness_StippleSpans :
    (∃ (s : State) (n : Fin 3) (k : Fin 8) (m : StpMap) (r : Run) (symbols : Fin 4096) (rest : Nat) (d : StpData) (off : Nat), s.shapeOk = true ∧ (s.ph (n : Nat)).links.length = 8 ∧ (s.gr (n : Nat)).run = some r ∧ r.kind = kSTP ∧ s.linkTo ((n : Nat)) r.peer = some (k : Nat) ∧ s.usableStart (n : Nat) + 8000 ≤ s.t0 ∧ s.stopping 6 = false ∧ s.mayStipple (n : Nat) (k : Nat) = true ∧ (symbols : Nat) ≠ 0 ∧ (s.link (n : Nat) (k : Nat)).txMap = some m ∧ 8 * d.bytes.length ≤ payloadBits m.loads m.rate (symbols : Nat) ∧ stippleNs m.nss (symbols : Nat) ≤ 5484000 ∧ s.t0 + stippleNs m.nss (symbols : Nat) + rest + 8000 ≤ s.usableEnd (n : Nat) ∧ s.spaced (n : Nat) = true ∧ d.mpdus = [] ∧ (s.link (n : Nat) (k : Nat)).soundDue = false ∧ s.admission (n : Nat) { tag := 0, dur := stippleNs m.nss (symbols : Nat), startBy := some s.t0, kind := TxKind.stp, form := PhyForm.basic, resp := rest } = Admission.start ∧ off ≠ A.RAD_STP_LINK_STATUS (n : Nat) (k : Nat)) ∧
    (∃ (s : State) (n : Fin 3) (k : Fin 8) (r : Run) (eht : Nat) (rest : Nat) (d : StpData), s.shapeOk = true ∧ (s.ph (n : Nat)).links.length = 8 ∧ (s.gr (n : Nat)).run = some r ∧ r.kind = kSTP ∧ s.linkTo ((n : Nat)) r.peer = some (k : Nat) ∧ s.usableStart (n : Nat) + 8000 ≤ s.t0 ∧ s.stopping 6 = false ∧ s.mayStipple (n : Nat) (k : Nat) = false ∧ eht ≤ 5484000 ∧ s.t0 + eht + rest + 8000 ≤ s.usableEnd (n : Nat) ∧ s.spaced (n : Nat) = true ∧ d.mpdus = [] ∧ (s.link (n : Nat) (k : Nat)).soundDue = false ∧ s.admission (n : Nat) { tag := 0, dur := eht, startBy := some s.t0, kind := TxKind.stp, form := PhyForm.basic, resp := rest } = Admission.start) ∧
    (∃ (s : State) (n : Fin 3) (g : BitVec 90) (j : Fin 8), s.shapeOk = true ∧ (s.ph (n : Nat)).links.length = 8 ∧ (s.ph (n : Nat)).rx.isSome = true ∧ (s.ph (n : Nat)).falseRx = false ∧ bits g.toNat 60 10 = s.get F.TRV_MEMBER_MEMBER ∧ s.linkTo ((n : Nat)) (bits g.toNat 50 10) = some (j : Nat) ∧ bit g.toNat 0 = false ∧ s.get (F.RAD_STP_LINK_VER_RX_VER (n : Nat) (j : Nat)) ≠ bits g.toNat 1 16) ∧
    (∃ (s : State) (n : Fin 3) (g : BitVec 90) (j : Fin 8), s.shapeOk = true ∧ (s.ph (n : Nat)).links.length = 8 ∧ (s.ph (n : Nat)).rx.isSome = true ∧ (s.ph (n : Nat)).falseRx = false ∧ bits g.toNat 60 10 = s.get F.TRV_MEMBER_MEMBER ∧ s.linkTo ((n : Nat)) (bits g.toNat 50 10) = some (j : Nat) ∧ bit g.toNat 0 = true) ∧
    (∃ (s : State) (n : Fin 3) (g : BitVec 90), s.shapeOk = true ∧ (s.ph (n : Nat)).links.length = 8 ∧ (s.ph (n : Nat)).rx.isSome = true ∧ (s.ph (n : Nat)).falseRx = false ∧ bits g.toNat 60 10 = s.get F.TRV_MEMBER_MEMBER ∧ s.linkTo ((n : Nat)) (bits g.toNat 50 10) = none ∧ bit g.toNat 0 = false) ∧
    (∃ (s : State) (n : Fin 3) (g : BitVec 90), s.shapeOk = true ∧ (s.ph (n : Nat)).links.length = 8 ∧ (s.ph (n : Nat)).rx.isSome = true ∧ (s.ph (n : Nat)).falseRx = false ∧ bits g.toNat 60 10 ≠ s.get F.TRV_MEMBER_MEMBER) ∧
    (∃ (s : State) (n : Fin 3) (k : Fin 8) (m : StpMap) (symbols : Fin 4096) (d : StpData), s.shapeOk = true ∧ (s.ph (n : Nat)).links.length = 8 ∧ s.mayStipple (n : Nat) (k : Nat) = true ∧ (s.link (n : Nat) (k : Nat)).txMap = some m ∧ payloadBits m.loads m.rate (symbols : Nat) < 8 * d.bytes.length) ∧
    (∃ (s : State) (n : Fin 3), s.shapeOk = true ∧ (s.ph (n : Nat)).links.length = 8 ∧ (s.gr (n : Nat)).run = none) ∧
    (∃ (s : State) (n : Fin 3) (k : Fin 8) (m : StpMap) (r : Run), s.shapeOk = true ∧ (s.ph (n : Nat)).links.length = 8 ∧ (s.gr (n : Nat)).run = some r ∧ r.kind = kSTP ∧ s.linkTo ((n : Nat)) r.peer = some (k : Nat) ∧ (s.link (n : Nat) (k : Nat)).rxPend = some m ∧ (s.link (n : Nat) (k : Nat)).accepted = true ∧ 0 ≤ stampDiff (↑r.first * ↑slotNs) ↑m.act) ∧
    (∃ (s : State) (n : Fin 3) (k : Fin 8) (m : StpMap) (r : Run), s.shapeOk = true ∧ (s.ph (n : Nat)).links.length = 8 ∧ (s.gr (n : Nat)).run = some r ∧ r.kind = kSTP ∧ s.linkTo ((n : Nat)) r.peer = some (k : Nat) ∧ (s.link (n : Nat) (k : Nat)).txPend = some m ∧ 0 ≤ stampDiff (↑r.first * ↑slotNs) ↑m.act) :=
  ⟨⟨(l3_.getD 24 up), 0, 1, m2, { kind := 6, spid := 0, borrowed := false, rest := 0, peer := 5, mlAlign := false, first := 0, len := 1000, guard := 0 }, 380, 0, { bytes := [1#8, 2#8], st := 1, mpdus := [] }, 0, by decide +kernel⟩,
   ⟨(l3_.getD 14 up), 0, 1, { kind := 6, spid := 0, borrowed := false, rest := 0, peer := 5, mlAlign := false, first := 0, len := 1000, guard := 0 }, 0, 0, { bytes := [1#8, 2#8], st := 1, mpdus := [] }, by decide +kernel⟩,
   ⟨(l3_.getD 27 up), 0, G 3 5 0 9 8, 1, by decide +kernel⟩,
   ⟨(l3_.getD 27 up), 0, G 3 5 1 9 8, 1, by decide +kernel⟩,
   ⟨(l3_.getD 27 up), 0, G 3 6 0 1 1, by decide +kernel⟩,
   ⟨(l3_.getD 27 up), 0, G 4 5 0 9 8, by decide +kernel⟩,
   ⟨(l3_.getD 11 up), 0, 1, m2, 0, { bytes := [1#8, 2#8], st := 1, mpdus := [] }, by decide +kernel⟩,
   ⟨(l3_.getD 13 up), 0, by decide +kernel⟩,
   ⟨(l3_.getD 5 up), 0, 1, m2, { kind := 6, spid := 0, borrowed := false, rest := 0, peer := 5, mlAlign := false, first := 0, len := 1000, guard := 0 }, by decide +kernel⟩,
   ⟨(l3_.getD 8 up), 0, 1, m1, { kind := 6, spid := 0, borrowed := false, rest := 0, peer := 5, mlAlign := false, first := 0, len := 1000, guard := 0 }, by decide +kernel⟩⟩
theorem witness_Measurements :
    (∃ (s : State) (n : Fin 3) (c : Nat) (d : Nat) (r : Run) (powers : List Nat) (i : Nat), s.shapeOk = true ∧ (s.ph (n : Nat)).meas = some (c, d) ∧ (s.gr (n : Nat)).run = some r ∧ r.kind = kQUI ∧ rStandby ≤ s.rstate (n : Nat) ∧ s.onAir (n : Nat) = false ∧ (s.ph (n : Nat)).rx = none ∧ powers.length = 16 * d ∧ s.usableStart (n : Nat) ≤ s.t0 ∧ s.t0 + 90000 + d * 64000 ≤ s.usableEnd (n : Nat) ∧ d ≠ 0 ∧ contourOfNumber ((n : Nat)) c = some i) ∧
    (∃ (s : State) (n : Fin 3) (c : Nat) (d : Nat) (r : Run) (powers : List Nat) (off : Nat), s.shapeOk = true ∧ (s.ph (n : Nat)).meas = some (c, d) ∧ (s.gr (n : Nat)).run = some r ∧ r.kind = kQUI ∧ rStandby ≤ s.rstate (n : Nat) ∧ s.onAir (n : Nat) = false ∧ (s.ph (n : Nat)).rx = none ∧ powers.length = 16 * d ∧ s.usableStart (n : Nat) ≤ s.t0 ∧ s.t0 + 90000 + d * 64000 ≤ s.usableEnd (n : Nat) ∧ off ≠ A.RAD_MEAS_CMD (n : Nat)) ∧
    (∃ (s : State) (m : Master) (k : Fin 64) (off : Nat), s.shapeOk = true ∧ s.gate m (A.CHN_SURVEY0 (k : Nat)) = Gate.pass ∧ off ≠ A.CHN_SURVEY0 (k : Nat) ∧ off ≠ A.CHN_SURVEY1 (k : Nat) ∧ off ≠ A.CHN_SURVEY2 (k : Nat) ∧ off ≠ A.CHN_SURVEY3 (k : Nat)) ∧
    (∃ (s : State) (n : Fin 3), s.shapeOk = true ∧ (s.ph (n : Nat)).meas = none) ∧
    (∃ (s : State), s.shapeOk = true ∧ s.trvUp = true ∧ s.dom = 3 ∧ s.windowIdle = true ∧ s.trv.slotLost = false ∧ s.trv.wurSlot = false ∧ kvGet s.trv.floor (s.get F.TRV_STATUS_CHANNEL) = none) ∧
    (∃ (s : State) (n : Fin 3) (c : Nat) (d : Nat) (powers : List Nat), s.shapeOk = true ∧ (s.ph (n : Nat)).meas = some (c, d) ∧ powers.length ≠ 16 * d) ∧
    (∃ (s : State) (n : Fin 3) (m : Master) (v : Word), s.shapeOk = true ∧ s.gate m (A.RAD_MEAS_CMD (n : Nat)) = Gate.pass ∧ s.isSet (F.RAD_MEAS_CMD_BUSY (n : Nat)) = false ∧ getField v 8 6 ≠ 0 ∧ (contourOfNumber ((n : Nat)) (getField v 0 8)).isSome = true) ∧
    (∃ (s : State) (n : Fin 3) (ch : Channel) (c : Nat) (i : Nat), s.shapeOk = true ∧ (n : Nat) < 3 ∧ (s.rad (n : Nat)).chan = some ch ∧ ch.subs.contains c = true ∧ s.rstate (n : Nat) = rRx ∧ s.onAir (n : Nat) = false ∧ (s.ph (n : Nat)).rx = none ∧ (s.rad (n : Nat)).step = none ∧ contourIndex ch.band c = some i) ∧
    (∃ (s : State) (n : Fin 3) (m : Master), s.shapeOk = true ∧ s.gate m (A.RAD_MEAS_CMD (n : Nat)) = Gate.pass ∧ s.isSet (F.RAD_MEAS_CMD_BUSY (n : Nat)) = true) ∧
    (∃ (s : State) (n : Fin 3), s.shapeOk = true ∧ (s.rad (n : Nat)).chan = none) ∧
    (∃ (s : State) (n : Fin 3) (i : Nat), s.shapeOk = true ∧ kvGet (s.ph (n : Nat)).floor i = none) ∧
    (∃ (s : State) (n : Fin 3) (i : Nat) (x : Nat) (l : Nat), s.shapeOk = true ∧ kvGet (s.ph (n : Nat)).floor i = some l ∧ above3Db x l = false) :=
  ⟨⟨q4_4, 0, 1, 1, runOf 0, List.replicate 16 7, 0, by decide +kernel⟩,
   ⟨q4_4, 0, 1, 1, runOf 0, List.replicate 16 7, 0, by decide +kernel⟩,
   ⟨radio, Master.pcie, 0, 0, by decide +kernel⟩,
   ⟨radio, 0, by decide +kernel⟩,
   ⟨q4_3, by decide +kernel⟩,
   ⟨q4_4, 0, 1, 1, [], by decide +kernel⟩,
   ⟨radio, 0, Master.pcie, 257, by decide +kernel⟩,
   ⟨radio, 0, { band := 0, subs := [1], width := 0 }, 1, 0, by decide +kernel⟩,
   ⟨q4_11, 0, Master.pcie, by decide +kernel⟩,
   ⟨q4_5, 0, by decide +kernel⟩,
   ⟨radio, 0, 0, by decide +kernel⟩,
   ⟨q4_7, 0, 0, 0, 2000, by decide +kernel⟩⟩
end W06

namespace W07
open Wit
def at' (ns : Nat) (s : State) : State := { s with tim := { s.tim with tb := s.tim.tb.map (fun b => { b with t := ns * unitsPerNs }) } }
def sm (s : State) : State := withLeg s [(0x48,2,1),(0x4A,2,1),(0x4C,2,0)]
def tb (t : List Nat) (s : State) : State := s.grMod 0 (fun g => { g with work := t, shadow := t })
def R : State := tb [1, 4, 4+16, 7+16] (sm radio)
def gr (k f c e : Nat) (loc : Nat := 0) : Grant := ⟨BitVec.ofNat 32 (9 + loc * 2^18 + k * 2^20), BitVec.ofNat 32 (f + c * 2^12), 0#32, BitVec.ofNat 32 e⟩
def gs : List Grant := [gr 4 2 1 0, gr 1 2 1 0, gr 0 0 1 0, gr 3 2 1 0 1, gr 3 2 1 1]
def rs : List State := [R, at' 256000 R, at' 512000 R, at' (4000*256000) R, (at' 512000 R).grMod 0 (fun g => {g with run := some (runOf 4)}), radio, withLeg radio [(0x48,2,0)], R.grMod 0 (fun g => {g with takeBack := true}),
  R.grMod 0 (fun g => {g with commitAt := some 0, marks := [1, 2], shadow := [1, 3, 3, 3]}), R.grMod 0 (fun g => {g with commitAt := some 0, marks := [1], shadow := [1, 1, 3, 3]})] ++ gs.map (fun g => R.grMod 0 (fun r => {r with pend := [g]}))
def l1_ : List State := rs
def lates (s : State) : State := { s with tim := { s.tim with now := s.tim.now + 50000 } }
def run (k : Nat) (s : State) : State := s.grMod 0 (fun g => { g with run := some { runOf k with len := 2 }, bcnLeft := [3] })
def bt (s : State) : State := (s.wr (A.RAD_BCN 0 (256*3)) (fieldWord 0 11 100 ||| fieldWord 11 10 40)).wr (A.RAD_BCN 0 (256*3+11)) 0x01030405#32
def pk (i : Nat) : Pkt := { Pkt.fresh [1,2] 0 with id := i }
def air (s : State) : State := { s with que := { s.que with air := [(0, 8, pk 5)], qs := [(8, [pk 6])] } }
def sta (s : State) : State := s.wr (A.STA_W0 1) (fieldWord 0 1 1 ||| fieldWord 1 3 7 ||| fieldWord 8 11 5 ||| fieldWord 20 1 1 ||| fieldWord 19 1 1)
def ul (s : State) : State := (sta s).put (F.STA_W3_UL_OFDMA 1) 1 |>.put (F.STA_W7_UL_BUF 1) 3
def l2_ : List State := List.map lates [radio, bt (run 1 radio), run 2 radio, air (run 2 radio), run 3 radio, run 3 (ul radio), run 4 radio, sta (run 4 radio), air radio, { sta radio with grt := { radio.grt with claims := [(1, 1, 1000000)] } }, {sta radio with grt := { radio.grt with claims := [(1, 0, 1000000)] } },
  ((ul (run 3 radio)).put (F.RAD_GRT_CTRL_BSRP_EN 0) 1), run 1 { radio with rfuse := {radio.rfuse with lock := false}}, (run 3 radio).put (F.RAD_GRT_CTRL_RA_RU 0) 3] ++ [bt (run 1 radio), run 2 radio]
def us (ms : List Mpdu) : PpduUser := ⟨1,0,1,5,100,ms⟩
def pp (l : List PpduUser) : Ppdu := ⟨4,0,false,l⟩
def rn (k rest len : Nat) : Run := { runOf k with rest := rest, len := len, first := 0 }
def rns : List Run := [rn 0 0 1, rn 0 1 1, rn 0 2 1, rn 7 3 100, rn 0 3 3, rn 4 0 2, rn 2 0 2]
def prot (s : State) : State := (sta s).put (F.RAD_GRT_CTRL_PROTECT_EN 0) 1
def P : State := prot (tb [2, 2, 5, 7] (sm radio))
def l3_ : List State := rns.map (fun r => R.grMod 0 (fun g => {g with run := some r})) ++ rns.map (fun r => P.grMod 0 (fun g => {g with run := some r})) ++ rns.map (fun r => (radio.setRadio 0 3).grMod 0 (fun g => {g with run := some r}))
def pend (k : Nat) (s : State) : State := s.grMod 0 (fun g => {g with pend := List.replicate k (gr 4 2 1 0)})
def gin (g : Grant) (s : State) : State := ((s.wr (A.RAD_GRT_GRANT_IN 0 0) g.w0).wr (A.RAD_GRT_GRANT_IN 0 1) g.w1).wr (A.RAD_GRT_GRANT_IN 0 2) g.w2
def de (s : State) : State := s.put (F.RAD_GRT_CTRL_DOMAIN_EN 0) 1
def q4_1 : State := sta R
def q4_2 : State := pend 256 (gin (gr 4 2 1 0) (de R))
def q4_3 : State := pend 3 (gin (gr 4 2 1 0) (de R))
def q4_5 : State := R.put (F.RAD_GRT_STATUS_COMMIT_BUSY 0) 1
def dm (d st mi : Nat) (got : Bool) (s : State := radio) : State := let s := ((s.put F.TRV_STATUS_DOMAIN d).put F.TRV_DATUM_STATE_STAGE st).put F.TRV_DATUM_STATE_MISSES mi
  { s.put (F.TRV_DATUM_REF_VALID 0) 1 with grt := { s.grt with hold := { s.grt.hold with got := got, lastBeacon := some 0 } } }
def dms : List State := [dm 3 0 0 true, dm 3 0 1 false, dm 3 0 2 false, (dm 3 0 3 false).put (F.TRV_DATUM_REF_VALID 2) 1, dm 1 0 0 true, dm 3 1 2 false, dm 2 2 2 false, dm 2 3 2 false, radio]
def late (ns : Nat) (s : State) : State := { s with tim := { s.tim with now := ns, offs := [3] } }
def l5_ : List State := dms ++ dms.map (late 2000000000) ++ dms.map (late 20000000000000) ++ dms.map (fun s => late 200000000 (s.put F.TRV_HOLD_CTRL_GUARD_MAX 1))
theorem witness_SlotEdges :
    (∃ (s : State) (n : Fin 3) (g : Grant), s.shapeOk = true ∧ s.sfSlots (n : Nat) ≠ 0 ∧ s.position ((n : Nat)) s.slotIndex = 0 ∧ s.slotIndex % 4000 = 0 ∧ s.grantsOk (n : Nat) = true ∧ (s.rad (n : Nat)).restart = false ∧ s.plt.applyLegend.contains (n : Nat) = false ∧ s.grt.hold.wHeld = none ∧ (∀ (c : Nat), c < 16 → (s.chain c).rejoin = false) ∧ (s.gr (n : Nat)).commitAt = none ∧ (s.gr (n : Nat)).takeBack = false ∧ (s.gr (n : Nat)).pend = [g] ∧ notLater g.epoch s.epoch = true) ∧
    (∃ (s : State) (n : Fin 3) (t : Nat), s.shapeOk = true ∧ s.sfSlots (n : Nat) ≠ 0 ∧ s.position ((n : Nat)) s.slotIndex = 0 ∧ (s.rad (n : Nat)).restart = false ∧ s.plt.applyLegend.contains (n : Nat) = false ∧ s.grt.hold.wHeld = none ∧ (∀ (c : Nat), c < 16 → (s.chain c).rejoin = false) ∧ (s.gr (n : Nat)).commitAt = some t ∧ t ≤ s.slotIndex * slotNs ∧ (s.gr (n : Nat)).takeBack = false ∧ (s.gr (n : Nat)).pend = []) ∧
    (∃ (s : State) (n : Fin 3), s.shapeOk = true ∧ s.sfSlots (n : Nat) ≠ 0 ∧ s.position ((n : Nat)) s.slotIndex = 0 ∧ (s.rad (n : Nat)).restart = false ∧ s.plt.applyLegend.contains (n : Nat) = false ∧ s.grt.hold.wHeld = none ∧ (∀ (c : Nat), c < 16 → (s.chain c).rejoin = false) ∧ (s.gr (n : Nat)).commitAt = none ∧ (s.gr (n : Nat)).pend = []) ∧
    (∃ (s : State) (n : Fin 3), s.shapeOk = true ∧ s.sfSlots (n : Nat) ≠ 0 ∧ s.position ((n : Nat)) s.slotIndex ≠ 0 ∧ s.isEdge ((n : Nat)) s.slotIndex = false ∧ ((n : Nat) ≠ 0 ∨ s.slotIndex % 4000 ≠ 0)) ∧
    (∃ (s : State) (n : Fin 3), s.shapeOk = true ∧ s.sfSlots (n : Nat) ≠ 0 ∧ s.position ((n : Nat)) s.slotIndex ≠ 0 ∧ s.isEdge ((n : Nat)) s.slotIndex = true ∧ ((n : Nat) ≠ 0 ∨ s.slotIndex % 4000 ≠ 0)) ∧
    (∃ (s : State) (n : Fin 3), s.shapeOk = true ∧ s.sfSlots (n : Nat) = 0) :=
  ⟨⟨(l1_.getD 10 up), 0, gr 4 2 1 0, by decide +kernel⟩,
   ⟨(l1_.getD 8 up), 0, 0, by decide +kernel⟩,
   ⟨(l1_.getD 0 up), 0, by decide +kernel⟩,
   ⟨(l1_.getD 1 up), 1, by decide +kernel⟩,
   ⟨(l1_.getD 1 up), 0, by decide +kernel⟩,
   ⟨(l1_.getD 6 up), 0, by decide +kernel⟩⟩
theorem witness_RunExchanges :
    (∃ (s : State) (n : Fin 3) (dur : Nat) (total : Nat) (p : Ppdu) (l : List Nat) (x : PpduUser) (m : Mpdu) (h : Nat) (i : Nat) (k : Pkt), s.shapeOk = true ∧ s.runKind (n : Nat) = kDLS ∧ s.ppduOk ((n : Nat)) p l = true ∧ s.usableStart (n : Nat) ≤ s.t0 ∧ s.t0 + total ≤ s.usableEnd (n : Nat) ∧ s.spaced (n : Nat) = true ∧ dur ≤ 5484000 ∧ dur ≤ total ∧ s.stopping 6 = false ∧ s.admission (n : Nat) { tag := 0, dur := dur, startBy := some s.t0, kind := TxKind.dls, form := PhyForm.basic, resp := total - dur } = Admission.start ∧ p.users = [x] ∧ x.mpdus = [m] ∧ s.heldMpdu ((n : Nat)) m.id = some (h, i, k) ∧ s.txKey ((n : Nat)) i k = TxKey.clear ∧ k.reason ≠ 15) ∧
    (∃ (s : State) (n : Fin 3) (dur : Nat) (total : Nat) (p : Ppdu) (l : List Nat) (x : PpduUser), s.shapeOk = true ∧ s.runKind (n : Nat) = kDLS ∧ s.ppduOk ((n : Nat)) p l = true ∧ s.usableStart (n : Nat) ≤ s.t0 ∧ s.t0 + total ≤ s.usableEnd (n : Nat) ∧ s.spaced (n : Nat) = true ∧ dur ≤ 5484000 ∧ dur ≤ total ∧ s.stopping 6 = false ∧ s.admission (n : Nat) { tag := 0, dur := dur, startBy := some s.t0, kind := TxKind.dls, form := PhyForm.basic, resp := total - dur } = Admission.start ∧ p.users = [x] ∧ x.mpdus = []) ∧
    (∃ (s : State) (n : Fin 3) (st : Fin 4096), s.shapeOk = true ∧ s.staValid (st : Nat) = true ∧ s.isSet (F.STA_W0_EMLSR (st : Nat)) = true ∧ bit (s.get (F.STA_W0_LINKS (st : Nat))) (n : Nat) = true ∧ s.stopping 6 = false ∧ List.find? (fun (c : Nat × Nat × Nat) => c.fst == (st : Nat) && decide (s.tim.now < c.snd.snd)) s.grt.claims = none ∧ s.admission (n : Nat) { tag := 0, dur := emlsrPadNs (s.get (F.STA_W3_EMLSR_PAD (st : Nat))), startBy := if s.runKind (n : Nat) = kCTN then none else some s.t0, kind := frameKind (s.runKind (n : Nat)), form := PhyForm.basic, resp := 0 } = Admission.start) ∧
    (∃ (s : State) (n : Fin 3) (dur : Nat) (total : Nat) (p : Ppdu), s.shapeOk = true ∧ s.runKind (n : Nat) = kCTN ∧ s.mediumFree (n : Nat) = true ∧ s.ppduOk ((n : Nat)) p [] = true ∧ p.users.length ≤ 1 ∧ (p.users.any fun (x : PpduUser) => x.mpdus == []) = false ∧ s.usableStart (n : Nat) ≤ s.t0 ∧ s.t0 + total ≤ s.usableEnd (n : Nat) ∧ s.spaced (n : Nat) = true ∧ dur ≤ 5484000 ∧ dur ≤ total ∧ s.stopping 6 = false ∧ s.admission (n : Nat) { tag := 0, dur := dur, startBy := none, kind := TxKind.contention, form := PhyForm.basic, resp := total - dur } = Admission.start) ∧
    (∃ (s : State) (n : Fin 3) (r : Run) (x : UltTimes), s.shapeOk = true ∧ (s.gr (n : Nat)).run = some r ∧ r.kind = kULT ∧ s.usableStart (n : Nat) ≤ s.t0 ∧ s.spaced (n : Nat) = true ∧ 0 < s.tbNs ((n : Nat)) x ∧ s.stopping 6 = false ∧ ((s.schedLimit ((n : Nat)) (s.ulPlan ((n : Nat)) r).snd).fst ≠ [] ∨ 0 < min (s.get (F.RAD_GRT_CTRL_RA_RU (n : Nat))) (ruCount ((Option.map (fun (c : Channel) => c.width) (s.rad (n : Nat)).chan).getD 0))) ∧ s.admission (n : Nat) { tag := 0, dur := x.trig, startBy := some s.t0, kind := TxKind.trigger, form := PhyForm.basic, resp := s.tbNs ((n : Nat)) x + 2 * sifsNs (n : Nat) + x.ack } = Admission.start) ∧
    (∃ (s : State) (n : Fin 3) (st : Fin 4096) (c : Nat × Nat × Nat), s.shapeOk = true ∧ List.find? (fun (c : Nat × Nat × Nat) => c.fst == (st : Nat) && decide (s.tim.now < c.snd.snd)) s.grt.claims = some c ∧ c.snd.fst ≠ (n : Nat)) ∧
    (∃ (s : State) (n : Fin 3) (q : Nat) (k : Pkt), s.shapeOk = true ∧ s.que.air = [((n : Nat), q, k)]) ∧
    (∃ (s : State) (n : Fin 3) (t : Nat), s.shapeOk = true ∧ (s.gr (n : Nat)).bcnLeft = [t]) ∧
    (∃ (s : State) (n : Fin 3) (x : UltTimes), s.shapeOk = true ∧ (s.runKind (n : Nat) ≠ kULT ∨ s.tbNs ((n : Nat)) x = 0)) ∧
    (∃ (s : State) (n : Fin 3) (total : Nat) (p : Ppdu), s.shapeOk = true ∧ ((shortenPpdu p (s.t0 + total - s.usableEnd (n : Nat))).users.any fun (x : PpduUser) => x.mpdus == []) = true) ∧
    (∃ (s : State) (n : Fin 3) (t : Nat) (d : Nat), s.shapeOk = true ∧ s.runKind (n : Nat) = kBCN ∧ (s.gr (n : Nat)).bcnLeft = [t] ∧ s.mayRadiate = true ∧ s.dutyFits ((n : Nat)) d = true ∧ s.stopping 6 = false ∧ s.beaconRefused ((n : Nat)) t = false ∧ max s.t0 (s.usableStart (n : Nat)) + d ≤ s.usableEnd (n : Nat) ∧ s.admissionAt (n : Nat) { tag := 0, dur := d, startBy := some (max s.t0 (s.usableStart (n : Nat))), kind := TxKind.beacon, form := PhyForm.basic, resp := 0 } (max s.t0 (s.usableStart (n : Nat))) = Admission.start) ∧
    (∃ (s : State) (n : Fin 3), s.shapeOk = true ∧ (s.runKind (n : Nat) ≠ kCTN ∨ s.mediumFree (n : Nat) = false)) ∧
    (∃ (s : State) (n : Fin 3) (p : Ppdu) (l : List Nat), s.shapeOk = true ∧ (s.runKind (n : Nat) ≠ kDLS ∨ s.ppduOk ((n : Nat)) p l = false)) ∧
    (∃ (s : State) (n : Fin 3) (t : Nat) (d : Nat), s.shapeOk = true ∧ s.runKind (n : Nat) = kBCN ∧ (s.gr (n : Nat)).bcnLeft = [t] ∧ (s.usableEnd (n : Nat) < max s.t0 (s.usableStart (n : Nat)) + d ∨ s.mayRadiate = true ∧ s.dutyFits ((n : Nat)) d = true ∧ s.beaconRefused ((n : Nat)) t = true)) ∧
    (∃ (s : State) (n : Fin 3), s.shapeOk = true ∧ s.runKind (n : Nat) ≠ kBCN) :=
  ⟨⟨(l2_.getD 3 up), 0, 0, 0, pp [us [{ id := 5, ns := 100, acked := true }]], [], us [{ id := 5, ns := 100, acked := true }], { id := 5, ns := 100, acked := true }, 0, 8, pk 5, by decide +kernel⟩,
   ⟨(l2_.getD 2 up), 0, 0, 0, pp [us []], [], us [], by decide +kernel⟩,
   ⟨(l2_.getD 5 up), 0, 1, by decide +kernel⟩,
   ⟨(l2_.getD 0 up), 0, 0, 0, pp [], by decide +kernel⟩,
   ⟨((l2_.getD 4 up).put (F.RAD_GRT_CTRL_RA_RU 0) 1), 0, { kind := 3, spid := 0, borrowed := false, rest := 0, peer := 0, mlAlign := false, first := 0, len := 2, guard := 0 }, { trig := 1000, need := 30000, ack := 2000 }, by decide +kernel, by decide +kernel, by decide +kernel, by decide +kernel, by decide +kernel, by decide +kernel, by decide +kernel, Or.inr (by decide +kernel), by decide +kernel⟩,
   ⟨(l2_.getD 9 up), 0, 1, (1, 1, 1000000), by decide +kernel⟩,
   ⟨(l2_.getD 3 up), 0, 8, pk 5, by decide +kernel⟩,
   ⟨(l2_.getD 1 up), 0, 3, by decide +kernel⟩,
   ⟨(l2_.getD 0 up), 0, { trig := 1000, need := 30000, ack := 2000 }, by decide +kernel⟩,
   ⟨(l2_.getD 0 up), 0, 0, pp [us []], by decide +kernel⟩,
   ⟨(l2_.getD 1 up), 0, 3, 0, by decide +kernel⟩,
   ⟨(l2_.getD 1 up), 0, by decide +kernel⟩,
   ⟨(l2_.getD 0 up), 0, pp [], [], by decide +kernel⟩,
   ⟨(l2_.getD 1 up), 0, 3, 600000, by decide +kernel⟩,
   ⟨(l2_.getD 0 up), 0, by decide +kernel⟩⟩
theorem witness_RestAndProtection :
    (∃ (s : State) (n : Fin 3) (r : Run) (dur : Nat), s.shapeOk = true ∧ (s.gr (n : Nat)).run = some r ∧ s.protects ((n : Nat)) r = true ∧ (s.gr (n : Nat)).ctsDone = false ∧ s.t0 + dur ≤ s.usableEnd (n : Nat) ∧ r.kind ≠ kCTN ∧ s.stopping 6 = false ∧ s.admission (n : Nat) { tag := 0, dur := dur, startBy := some s.t0, kind := TxKind.cts, form := PhyForm.basic, resp := 0 } = Admission.start) ∧
    (∃ (s : State) (n : Fin 3) (r : Run) (xo : Bool), s.shapeOk = true ∧ (s.gr (n : Nat)).run = some r ∧ (r.kind = kQUI ∨ r.kind = kINS) ∧ rSynthOn ≤ s.rstate (n : Nat) ∧ (s.rad (n : Nat)).tx = none ∧ 2 < restDepth r.rest (r.len * slotNs - (r.guard + s.guardNs (n : Nat))) xo) ∧
    (∃ (s : State) (n : Fin 3) (r : Run), s.shapeOk = true ∧ (s.gr (n : Nat)).run = some r ∧ s.protects ((n : Nat)) r = true ∧ (s.gr (n : Nat)).ctsDone = false ∧ r.kind = kCTN) ∧
    (∃ (s : State) (n : Fin 3) (r : Run), s.shapeOk = true ∧ (s.gr (n : Nat)).run = some r ∧ (s.protects ((n : Nat)) r = false ∨ (s.gr (n : Nat)).ctsDone = true)) ∧
    (∃ (s : State) (n : Fin 3) (r : Run) (dur : Nat), s.shapeOk = true ∧ (s.gr (n : Nat)).run = some r ∧ s.protects ((n : Nat)) r = true ∧ (s.gr (n : Nat)).ctsDone = false ∧ s.usableEnd (n : Nat) < s.t0 + dur) ∧
    (∃ (s : State) (n : Fin 3) (r : Run), s.shapeOk = true ∧ (s.gr (n : Nat)).run = some r ∧ r.kind ≠ kQUI ∧ r.kind ≠ kINS) :=
  ⟨⟨(l3_.getD 13 up), 0, rn 2 0 2, 0, by decide +kernel⟩,
   ⟨(l3_.getD 3 up), 0, rn 7 3 100, true, by decide +kernel⟩,
   ⟨(l3_.getD 12 up), 0, rn 4 0 2, by decide +kernel⟩,
   ⟨(l3_.getD 0 up), 0, rn 0 0 1, by decide +kernel⟩,
   ⟨(l3_.getD 12 up), 0, rn 4 0 2, 600000, by decide +kernel⟩,
   ⟨(l3_.getD 5 up), 0, rn 4 0 2, by decide +kernel⟩⟩
theorem witness_GraticuleWrites :
    (∃ (s : State) (m : Master) (n : Fin 3) (x : Fin 8192) (q : Nat), s.shapeOk = true ∧ s.gate m (A.RAD_SHADOW (n : Nat) (x : Nat)) = Gate.pass ∧ (x : Nat) / 2 < s.sfSlots (n : Nat) ∧ s.isSet (F.RAD_GRT_STATUS_COMMIT_BUSY (n : Nat)) = false ∧ q ≠ (x : Nat) / 2) ∧
    (∃ (s : State) (m : Master) (n : Fin 3) (x : Fin 8192), s.shapeOk = true ∧ s.gate m (A.RAD_SHADOW (n : Nat) (x : Nat)) = Gate.pass ∧ (x : Nat) / 2 < s.sfSlots (n : Nat) ∧ s.isSet (F.RAD_GRT_STATUS_COMMIT_BUSY (n : Nat)) = false ∧ (x : Nat) % 2 = 1) ∧
    (∃ (s : State) (m : Master) (n : Fin 3) (v : Word), s.shapeOk = true ∧ s.gate m (A.RAD_GRT_CTRL (n : Nat)) = Gate.pass ∧ 1 ≤ getField v 0 10 ∧ getField v 0 10 ≤ 512 ∧ getField v 10 4 ≤ 8 ∧ bit (BitVec.toNat v) 16 = false ∧ m ≠ Master.secondary) ∧
    (∃ (s : State) (m : Master) (n : Fin 3) (v : Word), s.shapeOk = true ∧ s.gate m (A.RAD_GRT_CTRL (n : Nat)) = Gate.pass ∧ 1 ≤ getField v 0 10 ∧ getField v 0 10 ≤ 512 ∧ getField v 10 4 ≤ 8 ∧ bit (BitVec.toNat v) 16 = false ∧ m = Master.secondary) ∧
    (∃ (s : State) (m : Master) (n : Fin 3) (v : Word), s.shapeOk = true ∧ s.gate m (A.RAD_GRT_CTRL (n : Nat)) = Gate.pass ∧ 1 ≤ getField v 0 10 ∧ getField v 0 10 ≤ 512 ∧ getField v 10 4 ≤ 8 ∧ bit (BitVec.toNat v) 16 = true) ∧
    (∃ (s : State) (m : Master) (n : Fin 3) (v : Word), s.shapeOk = true ∧ s.gate m (A.RAD_GRT_CTRL (n : Nat)) = Gate.pass ∧ (getField v 0 10 = 0 ∨ 512 < getField v 0 10 ∨ 8 < getField v 10 4)) ∧
    (∃ (s : State) (m : Master) (n : Fin 3) (x : Fin 8192), s.shapeOk = true ∧ s.gate m (A.RAD_SHADOW (n : Nat) (x : Nat)) = Gate.pass ∧ (x : Nat) / 2 < s.sfSlots (n : Nat) ∧ s.isSet (F.RAD_GRT_STATUS_COMMIT_BUSY (n : Nat)) = true) ∧
    (∃ (s : State) (m : Master) (n : Fin 3) (v : Word), s.shapeOk = true ∧ s.gate m (A.RAD_GRT_COMMIT (n : Nat)) = Gate.pass ∧ (BitVec.toNat v % 2 = 0 ∨ s.isSet (F.RAD_GRT_STATUS_COMMIT_BUSY (n : Nat)) = true)) ∧
    (∃ (s : State) (m : Master) (n : Fin 3) (v : Word), s.shapeOk = true ∧ s.gate m (A.RAD_GRT_COMMIT (n : Nat)) = Gate.pass ∧ BitVec.toNat v % 2 = 1 ∧ s.isSet (F.RAD_GRT_STATUS_COMMIT_BUSY (n : Nat)) = false) ∧
    (∃ (s : State) (m : Master) (n : Fin 3) (v : Word), s.shapeOk = true ∧ s.gate m (A.RAD_GRT_GRANT_IN ((n : Nat)) 3) = Gate.pass ∧ s.grantBad (n : Nat) { w0 := s.rd (A.RAD_GRT_GRANT_IN ((n : Nat)) 0), w1 := s.rd (A.RAD_GRT_GRANT_IN ((n : Nat)) 1), w2 := s.rd (A.RAD_GRT_GRANT_IN ((n : Nat)) 2), w3 := v } = false ∧ 256 ≤ (s.gr (n : Nat)).pend.length) ∧
    (∃ (s : State) (m : Master) (n : Fin 3) (v : Word), s.shapeOk = true ∧ s.gate m (A.RAD_GRT_GRANT_IN ((n : Nat)) 3) = Gate.pass ∧ s.grantBad (n : Nat) { w0 := s.rd (A.RAD_GRT_GRANT_IN ((n : Nat)) 0), w1 := s.rd (A.RAD_GRT_GRANT_IN ((n : Nat)) 1), w2 := s.rd (A.RAD_GRT_GRANT_IN ((n : Nat)) 2), w3 := v } = false ∧ (s.gr (n : Nat)).pend.length < 256) ∧
    (∃ (s : State) (m : Master) (n : Fin 3) (x : Fin 8192), s.shapeOk = true ∧ s.gate m (A.RAD_SHADOW (n : Nat) (x : Nat)) = Gate.pass ∧ s.sfSlots (n : Nat) ≤ (x : Nat) / 2) ∧
    (∃ (s : State) (m : Master) (n : Fin 3) (v : Word), s.shapeOk = true ∧ s.gate m (A.RAD_GRT_GRANT_IN ((n : Nat)) 3) = Gate.pass ∧ s.grantBad (n : Nat) { w0 := s.rd (A.RAD_GRT_GRANT_IN ((n : Nat)) 0), w1 := s.rd (A.RAD_GRT_GRANT_IN ((n : Nat)) 1), w2 := s.rd (A.RAD_GRT_GRANT_IN ((n : Nat)) 2), w3 := v } = true) ∧
    (∃ (s : State) (m : Master) (v : Word) (st : Fin 4096), s.shapeOk = true ∧ s.gate m (A.STA_W0 (st : Nat)) = Gate.pass ∧ getField v 0 1 = 0 ∧ s.staValid (st : Nat) = true ∧ s.que.flushing = []) ∧
    (∃ (s : State) (m : Master) (v : Word) (st : Fin 4096), s.shapeOk = true ∧ s.gate m (A.STA_W0 (st : Nat)) = Gate.pass ∧ getField v 0 1 = 1 ∧ s.stationBad ((st : Nat)) v = false ∧ s.staValid (st : Nat) = false) ∧
    (∃ (s : State) (m : Master) (v : Word) (st : Fin 4096), s.shapeOk = true ∧ s.gate m (A.STA_W0 (st : Nat)) = Gate.pass ∧ getField v 0 1 = 1 ∧ s.stationBad ((st : Nat)) v = true) :=
  ⟨⟨R, Master.pcie, 0, 0, 3, by decide +kernel⟩,
   ⟨R, Master.pcie, 0, 5, by decide +kernel⟩,
   ⟨R, Master.pcie, 0, 1, by decide +kernel⟩,
   ⟨R, Master.secondary, 0, 1, by decide +kernel⟩,
   ⟨R, Master.pcie, 0, 591107#32, by decide +kernel⟩,
   ⟨R, Master.pcie, 0, 0, by decide +kernel⟩,
   ⟨q4_5, Master.pcie, 0, 0, by decide +kernel⟩,
   ⟨R, Master.pcie, 0, 0, by decide +kernel⟩,
   ⟨R, Master.pcie, 0, 1, by decide +kernel⟩,
   ⟨q4_2, Master.pcie, 0, 0, by decide +kernel⟩,
   ⟨q4_3, Master.pcie, 0, 0, by decide +kernel⟩,
   ⟨R, Master.pcie, 0, 8, by decide +kernel⟩,
   ⟨R, Master.pcie, 0, 0, by decide +kernel⟩,
   ⟨q4_1, Master.pcie, 0, 1, by decide +kernel⟩,
   ⟨R, Master.pcie, 515#32, 0, by decide +kernel⟩,
   ⟨R, Master.pcie, 1, 0, by decide +kernel⟩⟩
theorem witness_Holdover :
    (∃ (s : State), s.isRoot = false ∧ 2 ≤ s.dom ∧ s.grt.hold.got = false ∧ 2 ≤ s.get F.TRV_DATUM_STATE_MISSES ∧ s.dstage = 0) ∧
    (∃ (s : State), s.isRoot = false ∧ 2 ≤ s.dom ∧ s.grt.hold.got = false ∧ s.get F.TRV_DATUM_STATE_MISSES < 2) ∧
    (∃ (s : State), s.isRoot = false ∧ 2 ≤ s.dom ∧ s.grt.hold.got = true) ∧
    (∃ (s : State), s.dstage = 1 ∧ s.guardMaxNum < s.guardNum ∧ s.wNum ≤ 256000 * nsPerS ∧ s.grt.hold.wHeld = none) ∧
    (∃ (s : State), (s.isRoot = true ∨ s.dom < 2)) ∧
    (∃ (s : State), s.dstage = 0) :=
  ⟨⟨(l5_.getD 2 up), by decide +kernel⟩,
   ⟨(l5_.getD 1 up), by decide +kernel⟩,
   ⟨(l5_.getD 0 up), by decide +kernel⟩,
   ⟨(l5_.getD 32 up), by decide +kernel⟩,
   ⟨(l5_.getD 4 up), by decide +kernel⟩,
   ⟨(l5_.getD 0 up), by decide +kernel⟩⟩
end W07

namespace W08
open Wit
def at' (ns : Nat) (s : State) : State := { s with tim := { s.tim with tb := s.tim.tb.map (fun b => { b with t := ns * unitsPerNs }) } }
def T0 : State := let s := (((radio.put F.TRV_STATUS_DOMAIN 3).put F.TRV_DKEY_STATUS_LOADED 3).putMap (2^40-1) 5).put F.TRV_MEMBER_MEMBER 9 |>.put F.TRV_STATUS_CHANNEL 39
  { s with trv := { s.trv with rest := false, mayTx := true } }
def tm (f : Trv → Trv) (s : State := T0) : State := s.trvMod f
def q1_2 : State := tm (fun t => {t with next := some (2^30-1, 70000, 0)})
def q1_4 : State := { T0 with chn := { T0.chn with trvNext := some 3, trvDown := true }}
def fr (type key src dst dom sess seq : Nat) (n : Nat := 40) : List Byte := let b := leBytes 1 type ++ leBytes 1 key ++ leBytes 2 src ++ leBytes 2 dst ++ [0,0] ++ leBytes 4 dom ++ leBytes 4 sess ++ leBytes 4 seq ++ leBytes 8 0; b ++ List.replicate (n - b.length - 16) 0#8 ++ (List.replicate 16 0#8)
def nb (s : State) (high w : Nat) : State := (((s.put (F.NBR_W0_VALID 5) 1).wr (A.NBR_SESSION 5) 77#32).wr (A.NBR_HIGH 5) (BitVec.ofNat 32 high)).wr (A.NBR_WINDOW_LO 5) (BitVec.ofNat 32 w)
def q2_5 : State := at' 400000 (nb T0 3 1)
def f1 (t : Nat) (d : Option Nat) (n : Nat) : TFrame := ⟨t, d, List.replicate n 1#8, none⟩
def fs : List TFrame := [f1 10 (some 5) 4, f1 3 none 20, f1 9 none 8, f1 2 (some 5) 4]
def qd (t : Nat) (l : List TFrame) (k : Option Nat := some 0) : State := at' t (tm (fun t => {t with queue := l, senseK := k}))
def blockd (s : State) : State := { s with rfuse := { s.rfuse with profiles := s.rfuse.profiles.set 0 (profGood [(0x39,1,40)]) } }
def dwl (s : State) : State := { s with rfuse := { s.rfuse with profiles := s.rfuse.profiles.set 0 (profGood [(0x34,2,2),(0x36,2,64)]) }, trv := { s.trv with dwell := (List.range 40).flatMap (fun k => List.replicate 3 (k, 0)) } }
def ref (s : State) : State := (s.put (F.TRV_DATUM_REF_VALID 0) 1).put (F.TRV_DATUM_REF_MEMBER 0) 5
def ex (n : Nat) (b : Bool) (sl : Nat := 8) : State := ref (tm (fun t => {t with exch := some ⟨n, if b then some (1,2,3) else none, sl⟩}))
def bcn (t : Nat) : State := let s := at' t ((T0.put F.TRV_CTRL_BCN_EN 1)); s.put F.TRV_CTRL_BCN_SLOT (beaconSlot s.trvSlot)
def late : Nat := 20*1250000 + 40000
def chans : State := ( (qd late fs).radMod 0 (fun x => {x with chan := some ⟨1,[36],0⟩}))
def l3_ : List State := [radio, T0, ref T0, at' late T0] ++ fs.map (fun f => qd late [f]) ++ [qd late fs, qd late fs (some 15), (qd late fs none).trvMod (fun t => { t with rxEnd := 10^12 }), qd late [f1 9 none 8] none, chans, qd (late+1200000) fs, blockd (qd late fs), dwl (qd late fs), tm (fun t => {t with seq := 2^32}) (qd late fs), ex 1 false, ex 1 true, ex 5 true, ex 1 true 7, ref (tm (fun t => {t with exchDone := true})), bcn (1250000*3+35000), bcn (1250000*3+35001), { bcn (1250000*3+35000) with trv := {(bcn 0).trv with bcnPeriod := some 0}}, ref (at' late (chans.trvMod (fun t => {t with queue := List.replicate 63 (f1 1 none 1)})))] ++ (List.range 8).map (fun k => (qd (1250000*(20+k)+40000) fs).radMod 0 (fun x => {x with chan := some ⟨1,[36],0⟩}))
def q4_2 : State := ref T0
def q4_5 : State := radio.put F.TRV_STATUS_DOMAIN 1
def q4_12 : State := { (radio.put F.TRV_STATUS_DOMAIN 1).put F.TRV_STATUS_SCAN_CH 39 with tim := { radio.tim with now := 10^10 } }
def wur (s : State) : State := (withLeg s [(0x1B,1,0x1F)]).put F.WUR_CTRL_EN 1 |>.put F.WUR_CTRL_WUR_ID 100 |>.put F.WUR_RDV_CTRL_PARTNER 7
def wp (s : State) (a b : Nat) : State := { s with rfuse := { s.rfuse with profiles := s.rfuse.profiles.set 0 (profGood [(0x3B,1,a),(0x3C,2,b)]) } }
def wf (ch : Nat) (l m : Bool) : WurFrame := ⟨ch, 100, m, l⟩
def wq (s : State) (l : List WurFrame) : State := s.trvMod (fun t => {t with wurQueue := l, rest := false})
def W : State := wur T0
def rdv (k : Nat) (t sp nx : Nat) (s : State := W) : State := (s.put F.WUR_RDV_STATUS_STATE k).trvMod (fun x => {x with rdvT := t, rdvSpan := sp, rdvNext := nx})
def nw (s : State) : State := { s with tim := { s.tim with now := 1000000 } }
def q5_1 : State := (nw (at' 1000000 W)).trvMod (fun t => { t with wurSlot := true, wurCh := W.get F.WUR_CTRL_CHANNEL, txUntil := 2000000 })
def q5_2 : State := nw (at' 1000000 W)
def q5_5 : State := nw ((at' 1000000 W).put F.WUR_CTRL_BCAST_WAKE 1)
def q5_7 : State := at' 30000 (wq (wp W 10 100) [wf 1 false false])
def q5_10 : State := (wq (wp W 10 100) [wf 13 false false]).put F.PWR_STATUS_STATE 2
def q5_15 : State := at' (10^12) (rdv 2 0 0 0)
def q5_21 : State := wq W [wf 13 false false]
def q5_25 : State := rdv 1 0 0 0
def q5_29 : State := rdv 3 0 5 0
def q5_33 : State := W.wr A.WUR_RDV_TIME_S 5#32
theorem witness_TraverseSlots :
    (∃ (s : State) (map : Nat) (version : Nat) (e : Nat), s.shapeOk = true ∧ s.trv.next = some (map, version, e) ∧ notLater e (slotEpoch s.trvSlot) = true ∧ map < 2 ^ 40) ∧
    (∃ (s : State), s.shapeOk = true ∧ 2 ≤ s.dom ∧ s.trv.next = none ∧ s.grt.hold.wHeld = none) ∧
    (∃ (s : State) (k : Fin 4), s.shapeOk = true ∧ s.chn.trvBack = false ∧ s.chn.trvNext = some (k : Nat)) :=
  ⟨⟨q1_2, 2 ^ 30 - 1, 70000, 0, by decide +kernel⟩,
   ⟨T0, by decide +kernel⟩,
   ⟨q1_4, 3, by decide +kernel⟩⟩
theorem witness_TraverseReceives :
    (∃ (s : State) (phy : BitVec 26) (bytes : List Byte) (ago : Nat), s.shapeOk = true ∧ TraverseHears s ∧ s.trv.slotLost = false ∧ phyOk phy.toNat = true ∧ bytes.length = phyLen phy.toNat ∧ s.inRxSpan ((phyLoad phy.toNat).frameNs (phyLen phy.toNat)) ago = true ∧ leAt (List.take (bytes.length - 16) bytes) 8 4 = BitVec.toNat (s.rd A.TRV_DOMAIN_ID) ∧ leAt (List.take (bytes.length - 16) bytes) 2 2 % 1024 ≠ s.get F.TRV_MEMBER_MEMBER ∧ (leAt (List.take (bytes.length - 16) bytes) 4 2 % 1024 = s.get F.TRV_MEMBER_MEMBER ∨ bit (leAt (List.take (bytes.length - 16) bytes) 4 2) 15 = true) ∧ s.keyLoadedAt (leAt (List.take (bytes.length - 16) bytes) 1 1 % 2) = true) ∧
    (∃ (s : State) (phy : BitVec 26) (bytes : List Byte) (ago : Nat), s.shapeOk = true ∧ TraverseHears s ∧ s.trv.slotLost = false ∧ phyOk phy.toNat = true ∧ bytes.length = phyLen phy.toNat ∧ s.inRxSpan ((phyLoad phy.toNat).frameNs (phyLen phy.toNat)) ago = true ∧ leAt (List.take (bytes.length - 16) bytes) 8 4 = BitVec.toNat (s.rd A.TRV_DOMAIN_ID) ∧ leAt (List.take (bytes.length - 16) bytes) 2 2 % 1024 ≠ s.get F.TRV_MEMBER_MEMBER ∧ (leAt (List.take (bytes.length - 16) bytes) 4 2 % 1024 = s.get F.TRV_MEMBER_MEMBER ∨ bit (leAt (List.take (bytes.length - 16) bytes) 4 2) 15 = true) ∧ (s.keyLoadedAt (leAt (List.take (bytes.length - 16) bytes) 1 1 % 2) = false ∨ ¬frameTag (s.domainKey (leAt (List.take (bytes.length - 16) bytes) 1 1 % 2)) (List.take (bytes.length - 16) bytes) = List.drop (bytes.length - 16) bytes)) ∧
    (∃ (s : State) (phy : BitVec 26) (bytes : List Byte) (ago : Nat), s.shapeOk = true ∧ TraverseHears s ∧ s.trv.slotLost = false ∧ phyOk phy.toNat = true ∧ bytes.length = phyLen phy.toNat ∧ s.inRxSpan ((phyLoad phy.toNat).frameNs (phyLen phy.toNat)) ago = true ∧ leAt (List.take (bytes.length - 16) bytes) 8 4 = BitVec.toNat (s.rd A.TRV_DOMAIN_ID) ∧ leAt (List.take (bytes.length - 16) bytes) 2 2 % 1024 = s.get F.TRV_MEMBER_MEMBER) ∧
    (∃ (s : State) (phy : BitVec 26) (bytes : List Byte) (ago : Nat), s.shapeOk = true ∧ TraverseHears s ∧ s.trv.slotLost = false ∧ phyOk phy.toNat = true ∧ bytes.length = phyLen phy.toNat ∧ s.inRxSpan ((phyLoad phy.toNat).frameNs (phyLen phy.toNat)) ago = true ∧ leAt (List.take (bytes.length - 16) bytes) 8 4 ≠ BitVec.toNat (s.rd A.TRV_DOMAIN_ID)) ∧
    (∃ (s : State) (phy : BitVec 26) (bytes : List Byte) (ago : Nat), s.shapeOk = true ∧ TraverseHears s ∧ s.trv.slotLost = false ∧ phyOk phy.toNat = true ∧ phyLen phy.toNat ≤ bytes.length ∧ s.inRxSpan ((phyLoad phy.toNat).frameNs (phyLen phy.toNat)) ago = false) ∧
    (∃ (s : State) (phy : BitVec 26) (bytes : List Byte), s.shapeOk = true ∧ TraverseHears s ∧ (s.trv.slotLost = true ∨ phyOk phy.toNat = false ∨ bytes.length < phyLen phy.toNat)) ∧
    (∃ (s : State), s.shapeOk = true ∧ s.dom = 0) :=
  ⟨⟨q2_5, 0x00d02c1#26, fr 1 0 5 9 0 77 4, 0, by decide +kernel⟩,
   ⟨(q2_5.put F.TRV_DKEY_STATUS_LOADED 0), 0x00d02c1#26, fr 1 0 5 9 0 77 4, 0, by decide +kernel, by decide +kernel, by decide +kernel, by decide +kernel, by decide +kernel, by decide +kernel, by decide +kernel, by decide +kernel, by decide +kernel, Or.inl (by decide +kernel)⟩,
   ⟨q2_5, 0x00d02c1#26, fr 1 0 9 9 0 77 4, 0, by decide +kernel⟩,
   ⟨q2_5, 0x00d02c1#26, fr 1 0 5 9 1 77 4, 0, by decide +kernel⟩,
   ⟨T0, 0x00d02c1#26, fr 1 0 5 9 0 77 4, 0, by decide +kernel⟩,
   ⟨T0, 0x00d02c1#26, [], by decide +kernel⟩,
   ⟨radio, by decide +kernel⟩⟩
theorem witness_TraverseSends :
    (∃ (s : State) (m : Nat) (e : Exchange), s.trv.exch = some e ∧ s.refMember = some m ∧ e.sent.isSome = true ∧ 8 ≤ e.slots ∧ e.tries < 5 ∧ s.trv.queue.length < 64) ∧
    (∃ (s : State) (m : Nat) (e : Exchange), s.trv.exch = some e ∧ s.refMember = some m ∧ e.sent.isSome = true ∧ 8 ≤ e.slots ∧ 5 ≤ e.tries) ∧
    (∃ (s : State) (m : Nat), s.refMember = some m ∧ s.isRoot = false ∧ 2 ≤ s.dom ∧ s.trv.mayTx = true ∧ s.trv.exch = none ∧ s.trv.exchDone = false ∧ s.trv.queue.length < 64) ∧
    (∃ (s : State), s.isSet F.TRV_CTRL_BCN_EN = true ∧ s.dom = 3 ∧ (s.dstage = 0 ∨ s.isRoot = true) ∧ s.trv.bcnPeriod ≠ some (refPeriod (s.trvSlot * trvSlotNs)) ∧ beaconSlot s.trvSlot = s.get F.TRV_CTRL_BCN_SLOT ∧ s.txGate = TxGate.go ∧ 35000 ≤ s.t0 % trvSlotNs ∧ s.t0 % trvSlotNs ≤ 35000 ∧ s.trv.seq < 2 ^ 32) ∧
    (∃ (s : State) (e : Exchange), s.trv.exch = some e ∧ (e.sent = none ∨ e.slots < 8)) ∧
    (∃ (s : State), s.trv.exch = none) ∧
    (∃ (s : State), (s.isRoot = true ∨ s.dom < 2 ∨ s.trv.mayTx = false ∨ s.trv.exchDone = true)) ∧
    (∃ (s : State), (s.isSet F.TRV_CTRL_BCN_EN = false ∨ s.dom ≠ 3)) ∧
    (∃ (s : State) (f : TFrame) (k : Nat), s.nextFrame = some f ∧ f.type ≠ 9 ∧ s.txGate = TxGate.go ∧ s.fitsNow ((s.frameLoad f).frameNs f.len) = true ∧ s.trv.seq < 2 ^ 32 ∧ s.trv.senseK = some k ∧ s.senseOk f k = true) ∧
    (∃ (s : State) (f : TFrame), s.nextFrame = some f ∧ s.txGate = TxGate.go ∧ s.fitsNow ((s.frameLoad f).frameNs f.len) = true ∧ s.trv.senseK = none ∧ (∀ (k : Nat), k < 16 → s.senseOk f k = false)) ∧
    (∃ (s : State), (s.nextFrame = none ∨ s.txGate = TxGate.no)) ∧
    (∃ (s : State) (f : TFrame), s.nextFrame = some f ∧ s.txGate = TxGate.dwell) ∧
    (∃ (s : State) (f : TFrame) (k : Nat), s.nextFrame = some f ∧ s.txGate = TxGate.go ∧ s.trv.senseK = some k ∧ s.senseOk f k = false) ∧
    (∃ (s : State) (f : TFrame), s.nextFrame = some f ∧ s.txGate = TxGate.blocked) :=
  ⟨⟨(l3_.getD 18 up), 5, { tries := 1, sent := some (1, 2, 3), slots := 8 }, by decide +kernel⟩,
   ⟨(l3_.getD 19 up), 5, { tries := 5, sent := some (1, 2, 3), slots := 8 }, by decide +kernel⟩,
   ⟨(l3_.getD 2 up), 5, by decide +kernel⟩,
   ⟨(l3_.getD 22 up), by decide +kernel⟩,
   ⟨(l3_.getD 17 up), { tries := 1, sent := none, slots := 8 }, by decide +kernel⟩,
   ⟨(l3_.getD 0 up), by decide +kernel⟩,
   ⟨(l3_.getD 0 up), by decide +kernel⟩,
   ⟨(l3_.getD 0 up), by decide +kernel⟩,
   ⟨(l3_.getD 5 up), f1 3 none 20, 0, by decide +kernel⟩,
   ⟨(l3_.getD 11 up), f1 9 none 8, by decide +kernel⟩,
   ⟨(l3_.getD 0 up), by decide +kernel⟩,
   ⟨(l3_.getD 15 up), f1 3 none 20, by decide +kernel⟩,
   ⟨(l3_.getD 4 up), f1 10 (some 5) 4, 0, by decide +kernel⟩,
   ⟨(l3_.getD 14 up), f1 3 none 20, by decide +kernel⟩⟩
theorem witness_TraverseWrites :
    (∃ (s : State) (m : Master) (n : Fin 2) (k : Fin 4) (off : Nat), s.gate m (A.TRV_DKEY (n : Nat) (k : Nat)) = Gate.pass ∧ s.trv.keys.length = 2 ∧ off ≠ A.TRV_DKEY_STATUS) ∧
    (∃ (s : State) (m : Master) (n : Fin 2) (k : Fin 4), s.gate m (A.TRV_DKEY (n : Nat) (k : Nat)) = Gate.pass ∧ s.trv.keys.length = 2 ∧ ((k : Nat) = 1 ∨ (k : Nat) = 2)) ∧
    (∃ (s : State) (m : Master) (n : Fin 2) (k : Fin 4), s.gate m (A.TRV_DKEY (n : Nat) (k : Nat)) = Gate.pass ∧ s.trv.keys.length = 2 ∧ (k : Nat) = 3) ∧
    (∃ (s : State) (m : Master) (n : Fin 2) (k : Fin 4), s.gate m (A.TRV_DKEY (n : Nat) (k : Nat)) = Gate.pass ∧ s.trv.keys.length = 2 ∧ (k : Nat) = 0) ∧
    (∃ (s : State) (m : Master) (v : Word), s.gate m A.TRV_HOST_TX = Gate.pass ∧ getField v 0 11 ≤ 1024 ∧ s.get F.TRV_HOST_TX_BUSY = 0 ∧ s.trv.queue.length < 64) ∧
    (∃ (s : State) (m : Master) (v : Word), s.gate m A.TRV_HOST_TX = Gate.pass ∧ 1024 < getField v 0 11) ∧
    (∃ (s : State) (m : Master) (v : Word), s.gate m A.TRV_CTRL = Gate.pass ∧ 1 ≤ s.dom ∧ getField v 21 7 ≠ 0 ∧ getField v 28 4 ≠ 0 ∧ s.trv.leaveLeft = 0 ∧ s.trv.mayTx = false) ∧
    (∃ (s : State) (m : Master) (v : Word), s.gate m A.TRV_CTRL = Gate.pass ∧ 2 ≤ s.dom ∧ getField v 21 7 ≠ 0 ∧ getField v 28 4 ≠ 0 ∧ s.trv.leaveLeft = 0 ∧ s.trv.mayTx = true) ∧
    (∃ (s : State), (s.dom ≠ 1 ∨ s.tim.now < s.trv.scanAt + 1000000000)) ∧
    (∃ (s : State), s.dom = 1 ∧ s.trv.scanAt + 1000000000 ≤ s.tim.now) ∧
    (∃ (s : State) (m : Master) (v : Word), s.gate m A.TRV_CTRL = Gate.pass ∧ s.dom = 0 ∧ getField v 21 7 ≠ 0 ∧ getField v 28 4 ≠ 0) ∧
    (∃ (s : State) (m : Master) (v : Word), s.gate m A.TRV_CTRL = Gate.pass ∧ (getField v 21 7 = 0 ∨ getField v 28 4 = 0)) ∧
    (∃ (s : State) (m : Master) (v : Word), s.gate m A.TRV_HOPMAP_NEXT_EPOCH = Gate.pass ∧ s.isRoot = true ∧ s.minHopset ≤ popcount 40 (BitVec.toNat (s.rd A.TRV_HOPMAP_NEXT_LO) + s.get F.TRV_HOPMAP_NEXT_HI_CHANNELS * 2 ^ 32) ∧ 4 ≤ sint 32 (BitVec.toNat v + 2 ^ 32 - s.epoch)) ∧
    (∃ (s : State) (m : Master), s.gate m A.TRV_HOPMAP_NEXT_EPOCH = Gate.pass ∧ s.isRoot = false) :=
  ⟨⟨radio, Master.pcie, 0, 0, 0, by decide +kernel⟩,
   ⟨radio, Master.pcie, 0, 1, by decide +kernel⟩,
   ⟨radio, Master.pcie, 0, 3, by decide +kernel⟩,
   ⟨radio, Master.pcie, 0, 0, by decide +kernel⟩,
   ⟨radio, Master.pcie, 0, by decide +kernel⟩,
   ⟨radio, Master.pcie, 4294967295#32, by decide +kernel⟩,
   ⟨q4_5, Master.pcie, 304087040#32, by decide +kernel⟩,
   ⟨T0, Master.pcie, 304087040#32, by decide +kernel⟩,
   ⟨radio, by decide +kernel⟩,
   ⟨q4_12, by decide +kernel⟩,
   ⟨radio, Master.pcie, 304087040#32, by decide +kernel⟩,
   ⟨radio, Master.pcie, 0, by decide +kernel⟩,
   ⟨radio, Master.pcie, 4, by decide +kernel⟩,
   ⟨q4_2, Master.pcie, by decide +kernel⟩⟩
theorem witness_WakeUps :
    (∃ (s : State) (f : WurFrame) (l : List WurFrame), s.trv.wurQueue = f :: l ∧ s.pwrState < 2 ∧ s.trvUp = true ∧ s.mayRadiate = true ∧ s.stopping 7 = false ∧ s.trv.slotLost = false ∧ s.trv.wurSlot = false ∧ s.trv.sentInSlot = false ∧ s.trv.txUntil ≤ s.t0 ∧ s.t0 % trvSlotNs ≤ txFrom ∧ (s.wurMasked f.ch = false ∨ (s.rad 0).tx = none) ∧ s.wurAllowed (wurNs (s.isSet F.WUR_CTRL_TX_RATE)) = true ∧ s.rdvState = 0 ∧ s.wurMasked f.ch = true) ∧
    (∃ (s : State) (f : WurFrame) (l : List WurFrame), s.trv.wurQueue = f :: l ∧ s.pwrState < 2 ∧ s.trvUp = true ∧ s.mayRadiate = true ∧ s.stopping 7 = false ∧ s.trv.slotLost = false ∧ s.trv.wurSlot = false ∧ s.trv.sentInSlot = false ∧ s.trv.txUntil ≤ s.t0 ∧ s.t0 % trvSlotNs ≤ txFrom ∧ (s.wurMasked f.ch = false ∨ (s.rad 0).tx = none) ∧ s.wurAllowed (wurNs (s.isSet F.WUR_CTRL_TX_RATE)) = false ∧ f.limited = false) ∧
    (∃ (s : State), (s.rdvState = 2 ∨ s.rdvState = 3) ∧ s.trv.rdvT + s.trv.rdvSpan + s.rdvWaitNs ≤ s.t0) ∧
    (∃ (s : State), s.rdvState < 2) ∧
    (∃ (s : State), s.rdvState = 3 ∧ s.trv.rdvNext ≤ s.t0 ∧ s.t0 < s.trv.rdvT + s.trv.rdvSpan + s.rdvWaitNs) ∧
    (∃ (s : State), s.rdvState ≠ 3) ∧
    (∃ (s : State) (m : Master) (v : Word), s.gate m A.WUR_RDV_CTRL = Gate.pass ∧ s.rdvState = 0 ∧ bit (BitVec.toNat v) 27 = false ∧ 1 ≤ getField v 22 4 ∧ getField v 22 4 ≤ 13 ∧ stampDiff ↑(BitVec.toNat (s.rd A.WUR_RDV_TIME_S) * nsPerS + s.get F.WUR_RDV_TIME_NS_NS) ↑s.t0 < 5000000) ∧
    (∃ (s : State) (m : Master) (v : Word), s.gate m A.WUR_RDV_CTRL = Gate.pass ∧ s.rdvState = 0 ∧ bit (BitVec.toNat v) 27 = false ∧ 1 ≤ getField v 22 4 ∧ getField v 22 4 ≤ 13 ∧ 5000000 ≤ stampDiff ↑(BitVec.toNat (s.rd A.WUR_RDV_TIME_S) * nsPerS + s.get F.WUR_RDV_TIME_NS_NS) ↑s.t0) ∧
    (∃ (s : State), s.rdvState ≠ 2) ∧
    (∃ (s : State), s.rdvState = 2 ∧ s.trv.rdvT + s.rdvWaitNs ≤ s.t0) ∧
    (∃ (s : State), (s.rdvState ≠ 1 ∨ s.t0 < s.trv.rdvT)) ∧
    (∃ (s : State), s.rdvState = 1 ∧ s.trv.rdvT ≤ s.t0) ∧
    (∃ (s : State) (m : Master), s.gate m A.WUR_RDV_CTRL = Gate.pass ∧ s.rdvState ≠ 0) ∧
    (∃ (s : State), s.trv.wurQueue = []) ∧
    (∃ (s : State), (s.trv.wurSlot = true ∨ s.trv.sentInSlot = true ∨ txFrom < s.t0 % trvSlotNs) ∧ s.pwrState < 2) ∧
    (∃ (s : State) (id : BitVec 12) (w : WurSender) (p : Nat) (ago : Nat), s.wurHolder w = some (p, ago) ∧ s.wurDrowned ago = false ∧ id.toNat ≠ s.get F.WUR_CTRL_WUR_ID) ∧
    (∃ (s : State) (w : WurSender) (p : Nat) (ago : Nat), s.wurHolder w = some (p, ago) ∧ s.wurDrowned ago = false ∧ s.isSet F.WUR_CTRL_BCAST_WAKE = true ∧ s.rdvState = 0) ∧
    (∃ (s : State) (f : WurFrame) (l : List WurFrame), s.trv.wurQueue = f :: l ∧ 2 ≤ s.pwrState ∧ f.limited = false) ∧
    (∃ (s : State) (id : BitVec 12) (w : WurSender) (p : Nat) (ago : Nat), s.wurHolder w = some (p, ago) ∧ s.wurDrowned ago = false ∧ id.toNat = s.get F.WUR_CTRL_WUR_ID ∧ s.rdvState = 0) ∧
    (∃ (s : State) (w : WurSender), (s.wurListens 0 = false ∨ w.atA = none) ∧ (s.wurListens 1 = false ∨ w.atB = none)) ∧
    (∃ (s : State) (w : WurSender) (p : Nat) (ago : Nat), s.wurHolder w = some (p, ago) ∧ s.wurDrowned ago = true) :=
  ⟨⟨q5_7, wf 1 false false, [], by decide +kernel⟩,
   ⟨q5_21, wf 13 false false, [], by decide +kernel⟩,
   ⟨q5_15, by decide +kernel⟩,
   ⟨radio, by decide +kernel⟩,
   ⟨q5_29, by decide +kernel⟩,
   ⟨radio, by decide +kernel⟩,
   ⟨radio, Master.pcie, 4194304#32, by decide +kernel⟩,
   ⟨q5_33, Master.pcie, 4194304#32, by decide +kernel⟩,
   ⟨radio, by decide +kernel⟩,
   ⟨q5_15, by decide +kernel⟩,
   ⟨radio, by decide +kernel⟩,
   ⟨q5_25, by decide +kernel⟩,
   ⟨q5_15, Master.pcie, by decide +kernel⟩,
   ⟨radio, by decide +kernel⟩,
   ⟨q5_1, by decide +kernel⟩,
   ⟨q5_2, 0, { member := 7, atA := some 100, atB := none }, 0, 100, by decide +kernel⟩,
   ⟨q5_5, { member := 7, atA := some 100, atB := none }, 0, 100, by decide +kernel⟩,
   ⟨q5_10, wf 13 false false, [], by decide +kernel⟩,
   ⟨q5_2, 100, { member := 7, atA := some 100, atB := none }, 0, 100, by decide +kernel⟩,
   ⟨radio, { member := 7, atA := some 100, atB := none }, by decide +kernel⟩,
   ⟨q5_1, { member := 7, atA := some 100, atB := none }, 0, 100, by decide +kernel⟩⟩
end W08

namespace W09
open Wit
def tb (n : Nat) (f : TimeBase → TimeBase) (s : State := live) : State := s.tbMod n f
def tim (f : Tim → Tim) (s : State := live) : State := { s with tim := f s.tim }
def srcs (s : State) : State := [1,0,0,2,3,4,5,6].zipIdx.foldl (fun (s : State) e => s.put (F.TB_STATUS_SOURCE e.2) e.1) s
def S : State := srcs live
def per (s : State) : State := s.wr A.TB_XO32K_PERIOD 2000000000#32
def on (s : State) : State := tim (fun t => {t with tclkOn := true}) s
def adj : List State := [S, tb 1 (fun b => {b with t := 5000, rate := 77777777, setPend := some 12345}) S, tb 1 (fun b => {b with t := tbWrap - 3, rate := -99999999, stepPend := some (-7)}) S, tb 1 (fun b => {b with t := tbWrap - 3, rate := -99999999, ratePend := some 5, slewPend := some 4}) S, tb 1 (fun b => {b with slew := 2^40, slewPend := some (-4)}) S, tb 0 (fun b => {b with t := 10, stepPend := some (-5), setPend := some 7}) S]
def l1_ : List State := adj.map (fun s => on (per (s.put F.PWR_CLK_STATUS_XO32K_OK 1))) ++ [tim (fun t => {t with tclkOn := false}) S] ++ adj.map on ++ adj.map (fun s => (per s).put F.PWR_CLK_STATUS_XO32K_OK 1) ++ adj.map (fun s => tim (fun t => {t with carried := true}) (per s))
def ptp (s : State) : State := (s.put F.TB_DATUM_CTRL_PTP_STEER 1).put (F.TB_CTRL_LOCKED 3) 1
def q2_2 : State := tim (fun t => {t with now := 10^10}) (ptp S)
def q2_5 : State := ((ptp S).put F.TRV_STATUS_DOMAIN 2).put (F.TRV_DATUM_REF_VALID 1) 1
def ce : CapEntry := ⟨true, false, 5, 2^40+7, 9⟩
def se : StampEntry := ⟨3, 2, 77, 5, 2^33+1, 8⟩
def cap (k : Nat) (s : State) : State := tim (fun t => {t with cap := t.cap.set 5 (List.replicate k ce), txq := t.txq.set 0 (List.replicate (4*k) se) |>.set 6 (List.replicate (8*k) se)}) s
def cc (v : Nat) (s : State) : State := (s.wr (A.CAP_CTRL 5) (BitVec.ofNat 32 v))
def rq (s : State) : State := tim (fun t => {t with stampReq := [(0,0,0,0), (6,3,5,65535), (0,3,0,0),(6,7,15,0)]}) s
def q3_1 : State := rq S
def q3_2 : State := rq (cap 1 S)
def q3_3 : State := rq (cap 4 S)
def q3_4 : State := cc 0x20 S
def q3_6 : State := cap 4 (cc 0x75 S)
def cm (out act arm period : Nat) (tgt : Nat) (j l : Bool) (s : State := S) : State := let s := (((s.wr (A.CMP_CTRL 5) 0#32).put (F.CMP_CTRL_OUTPUT 5) out).put (F.CMP_CTRL_ACTION 5) act).put (F.CMP_CTRL_ARM 5) arm |>.wr (A.CMP_PERIOD 5) (BitVec.ofNat 32 period)
  tim (fun t => {t with cmpTarget := t.cmpTarget.set 5 tgt, late := t.late.set 5 l, jumped := t.jumped.set 5 j, tb := t.tb.map (fun b => {b with t := 1000 * unitsPerNs})}) s
def sec1 (s : State) : State := tim (fun t => {t with tb := t.tb.map (fun b => {b with t := 1000000001 * unitsPerNs})}) s
def q4_1 : State := sec1 (S.put F.TB_PPS_CTRL_EN 1)
def q4_4 : State := (cm 5 1 1 7 500 false false).put F.PWR_MON_CTRL_EXT_TRIG 1
def q4_5 : State := cm 1 1 1 7 500 false false
def q4_7 : State := tim (fun t => {t with pps := true}) S
def q4_8 : State := cm 1 2 1 0 500 false false
def q4_9 : State := cm 4 2 1 0 500 false true
def q4_11 : State := cm 1 2 1 7 500 true false
def q4_15 : State := (cm 2 2 1 7 100 false false).wr (A.CMP_CTRL 3) ((cm 2 2 1 7 100 false false).rd (A.CMP_CTRL 5))
def cal (f : Tim → Tim) (l : Nat := 0) (s : State := S) : State := tim f (s.put F.CAL_CTRL_LEAP_NEXT l)
def o1 : StartOutcome := ⟨[], true, true, true, true, [], [], true, 1, false, true⟩
def q5_1 : State := cal (fun t => {t with calSec := 951782400, calSub := 77})
def q5_3 : State := cal (fun t => {t with calSet := some (100, 5)})
def q5_7 : State := on S
def q5_8 : State := cal (fun t => {t with calRuns := true, calSec := 2^48-1})
def q5_9 : State := cal (fun t => {t with calRuns := true, calSec := 86399}) 1 (S.put F.CAL_LEAP_AT0_S_LO 86400)
def q5_10 : State := cal (fun t => {t with calRuns := true, calSec := 86398}) 2 (S.put F.CAL_LEAP_AT0_S_LO 86400)
def q5_11 : State := cal (fun t => {t with calRuns := true, calSec := 86400, leapHold := true}) 1 (S.put F.CAL_LEAP_AT0_S_LO 86400)
def q5_13 : State := { cal (fun t => {t with calRuns := true, calSec := 5}) 0 (S.wr A.CAL_ALARM1 3#32) with pwr := { S.pwr with stage := .unpowered }}
def q5_14 : State := { S with pwr := { S.pwr with stage := .begun, vddio := true }}
theorem witness_TimeBasesTick :
    (∃ (s : State) (n : Fin 8), s.shapeOk = true ∧ s.tim.carried = true ∧ s.tbCounts (n : Nat) = true ∧ (s.tbAt (n : Nat)).setPend = none ∧ (s.tbAt (n : Nat)).stepPend = none ∧ (s.tbAt (n : Nat)).slew = 0 ∧ (s.tbAt (n : Nat)).ratePend = none) ∧
    (∃ (s : State) (n : Fin 8) (d : Int), s.shapeOk = true ∧ s.tim.carried = true ∧ s.tbCounts (n : Nat) = true ∧ (s.tbAt (n : Nat)).setPend = none ∧ (s.tbAt (n : Nat)).stepPend = some d ∧ (s.tbAt (n : Nat)).slew = 0 ∧ (s.tbAt (n : Nat)).ratePend = none) ∧
    (∃ (s : State) (n : Fin 8), s.shapeOk = true ∧ s.tim.carried = true ∧ s.tim.tclkOn = false ∧ s.tbCounts (n : Nat) = true ∧ (s.tbAt (n : Nat)).setPend = none ∧ (s.tbAt (n : Nat)).stepPend = none ∧ (s.tbAt (n : Nat)).slew = 0 ∧ (s.tbAt (n : Nat)).ratePend = none) ∧
    (∃ (s : State) (n : Fin 8) (d : Int), s.shapeOk = true ∧ s.tim.carried = true ∧ s.tim.tclkOn = false ∧ s.tbCounts (n : Nat) = true ∧ (s.tbAt (n : Nat)).setPend = none ∧ (s.tbAt (n : Nat)).stepPend = some d ∧ (s.tbAt (n : Nat)).slew = 0 ∧ (s.tbAt (n : Nat)).ratePend = none) ∧
    (∃ (s : State) (n : Fin 8), s.shapeOk = true ∧ s.tim.carried = false ∧ s.tim.tclkOn = true ∧ s.isSet F.PWR_CLK_STATUS_XO32K_OK = true ∧ s.tbCounts (n : Nat) = true ∧ (s.tbAt (n : Nat)).setPend = none ∧ (s.tbAt (n : Nat)).stepPend = none ∧ (s.tbAt (n : Nat)).slew = 0 ∧ (s.tbAt (n : Nat)).ratePend = none) ∧
    (∃ (s : State) (n : Fin 8) (d : Int), s.shapeOk = true ∧ s.tim.carried = false ∧ s.tim.tclkOn = true ∧ s.isSet F.PWR_CLK_STATUS_XO32K_OK = true ∧ s.tbCounts (n : Nat) = true ∧ (s.tbAt (n : Nat)).setPend = none ∧ (s.tbAt (n : Nat)).stepPend = some d ∧ (s.tbAt (n : Nat)).slew = 0 ∧ (s.tbAt (n : Nat)).ratePend = none) ∧
    (∃ (s : State) (n : Fin 8) (v : Nat), s.shapeOk = true ∧ s.tim.carried = true ∧ s.tbCounts (n : Nat) = true ∧ (s.tbAt (n : Nat)).setPend = some v) ∧
    (∃ (s : State) (n : Fin 8), s.shapeOk = true ∧ s.pending = [] ∧ s.hst.held = [] ∧ s.tim.tclkOn = true ∧ s.tim.carried = false ∧ s.tbCounts (n : Nat) = true ∧ (s.tbAt (n : Nat)).setPend = none ∧ (s.tbAt (n : Nat)).stepPend = none ∧ (s.tbAt (n : Nat)).slew = 0 ∧ (s.tbAt (n : Nat)).ratePend = none) ∧
    (∃ (s : State) (n : Fin 8) (d : Int), s.shapeOk = true ∧ s.pending = [] ∧ s.hst.held = [] ∧ s.tim.tclkOn = true ∧ s.tim.carried = false ∧ s.tbCounts (n : Nat) = true ∧ (s.tbAt (n : Nat)).setPend = none ∧ (s.tbAt (n : Nat)).stepPend = some d ∧ (s.tbAt (n : Nat)).slew = 0 ∧ (s.tbAt (n : Nat)).ratePend = none) ∧
    (∃ (s : State) (n : Fin 8) (v : Nat), s.shapeOk = true ∧ s.tim.carried = true ∧ s.tim.tclkOn = false ∧ s.tbCounts (n : Nat) = true ∧ (s.tbAt (n : Nat)).setPend = some v) ∧
    (∃ (s : State) (n : Fin 8) (v : Nat), s.shapeOk = true ∧ s.tim.carried = false ∧ s.tim.tclkOn = true ∧ s.isSet F.PWR_CLK_STATUS_XO32K_OK = true ∧ s.tbCounts (n : Nat) = true ∧ (s.tbAt (n : Nat)).setPend = some v) ∧
    (∃ (s : State) (n : Fin 8) (v : Nat), s.shapeOk = true ∧ s.pending = [] ∧ s.hst.held = [] ∧ s.tim.tclkOn = true ∧ s.tim.carried = false ∧ s.tbCounts (n : Nat) = true ∧ (s.tbAt (n : Nat)).setPend = some v) ∧
    (∃ (s : State) (n : Fin 8), s.shapeOk = true ∧ s.tim.carried = true ∧ s.tbCounts (n : Nat) = false) ∧
    (∃ (s : State) (n : Fin 8), s.shapeOk = true ∧ s.tim.carried = true ∧ s.tim.tclkOn = false ∧ s.tbCounts (n : Nat) = false) ∧
    (∃ (s : State) (n : Fin 8), s.shapeOk = true ∧ s.tim.carried = false ∧ s.tim.tclkOn = true ∧ s.isSet F.PWR_CLK_STATUS_XO32K_OK = true ∧ s.tbCounts (n : Nat) = false) ∧
    (∃ (s : State), s.shapeOk = true ∧ s.tim.carried = false) ∧
    (∃ (s : State), s.shapeOk = true ∧ s.tim.carried = false ∧ s.tim.tclkOn = false ∧ s.isSet F.PWR_CLK_STATUS_XO32K_OK = false) ∧
    (∃ (s : State) (n : Fin 8), s.shapeOk = true ∧ s.pending = [] ∧ s.hst.held = [] ∧ s.tim.tclkOn = true ∧ s.tim.carried = false ∧ s.tbCounts (n : Nat) = false) ∧
    (∃ (s : State), s.shapeOk = true ∧ s.tim.tclkOn = true) ∧
    (∃ (s : State), s.shapeOk = true ∧ s.tim.carried = false ∧ s.isSet F.PWR_CLK_STATUS_XO32K_OK = false) ∧
    (∃ (s : State), s.shapeOk = true ∧ s.tim.carried = true) :=
  ⟨⟨(l1_.getD 19 up), 0, by decide +kernel⟩,
   ⟨(l1_.getD 21 up), 1, -7, by decide +kernel⟩,
   ⟨(l1_.getD 19 up), 0, by decide +kernel⟩,
   ⟨(l1_.getD 21 up), 1, -7, by decide +kernel⟩,
   ⟨(l1_.getD 0 up), 0, by decide +kernel⟩,
   ⟨(l1_.getD 2 up), 1, -7, by decide +kernel⟩,
   ⟨(l1_.getD 20 up), 1, 12345, by decide +kernel⟩,
   ⟨(l1_.getD 0 up), 0, by decide +kernel⟩,
   ⟨(l1_.getD 2 up), 1, -7, by decide +kernel⟩,
   ⟨(l1_.getD 20 up), 1, 12345, by decide +kernel⟩,
   ⟨(l1_.getD 1 up), 1, 12345, by decide +kernel⟩,
   ⟨(l1_.getD 1 up), 1, 12345, by decide +kernel⟩,
   ⟨(l1_.getD 19 up), 4, by decide +kernel⟩,
   ⟨(l1_.getD 19 up), 4, by decide +kernel⟩,
   ⟨(l1_.getD 0 up), 4, by decide +kernel⟩,
   ⟨(l1_.getD 0 up), by decide +kernel⟩,
   ⟨(l1_.getD 6 up), by decide +kernel⟩,
   ⟨(l1_.getD 0 up), 4, by decide +kernel⟩,
   ⟨(l1_.getD 0 up), by decide +kernel⟩,
   ⟨(l1_.getD 6 up), by decide +kernel⟩,
   ⟨(l1_.getD 19 up), by decide +kernel⟩⟩
theorem witness_TimeAdjustments :
    (∃ (s : State) (k : Fin 8), s.shapeOk = true ∧ s.ptpInForce = true ∧ s.dom ≠ 0 ∧ s.isRoot = false ∧ k ≠ 0 ∧ s.get (F.TB_STATUS_SOURCE (k : Nat)) ≠ 1) ∧
    (∃ (s : State) (k : Fin 8), s.shapeOk = true ∧ s.ptpInForce = true ∧ s.dom ≠ 0 ∧ s.isRoot = false ∧ (k = 0 ∨ s.get (F.TB_STATUS_SOURCE (k : Nat)) = 1)) ∧
    (∃ (s : State) (m : Master) (n : Fin 8) (k : Fin 8), s.shapeOk = true ∧ s.gate m (A.TB_RATE_HI (n : Nat)) = Gate.pass ∧ s.tbAccepts ((n : Nat)) false = true ∧ k ≠ n) ∧
    (∃ (s : State) (m : Master) (n : Fin 8) (v : Word) (k : Fin 8), s.shapeOk = true ∧ s.gate m (A.TB_CTRL (n : Nat)) = Gate.pass ∧ 1 ≤ getField v 2 10 ∧ getField v 2 10 ≤ 1000 ∧ getField v 0 1 = 1 ∧ s.tbAccepts ((n : Nat)) true = true ∧ k ≠ n) ∧
    (∃ (s : State) (m : Master) (n : Fin 8) (v : Word) (off : Nat), s.shapeOk = true ∧ s.gate m (A.TB_CTRL (n : Nat)) = Gate.pass ∧ 1 ≤ getField v 2 10 ∧ getField v 2 10 ≤ 1000 ∧ getField v 0 1 = 1 ∧ s.tbAccepts ((n : Nat)) true = true ∧ off ≠ A.TB_CTRL (n : Nat)) ∧
    (∃ (s : State), s.shapeOk = true ∧ (s.ptpInForce = false ∨ s.dom = 0 ∨ s.isRoot = true)) ∧
    (∃ (s : State), s.shapeOk = true ∧ (s.baseOf 2 = none ∨ s.tim.now < s.tim.ptpAt + 4000000000)) ∧
    (∃ (s : State) (k : Nat), s.shapeOk = true ∧ s.baseOf 2 = some k ∧ s.tim.ptpAt + 4000000000 ≤ s.tim.now) ∧
    (∃ (s : State) (m : Master) (n : Fin 8), s.shapeOk = true ∧ s.gate m (A.TB_RATE_HI (n : Nat)) = Gate.pass ∧ s.tbAccepts ((n : Nat)) false = false) ∧
    (∃ (s : State) (m : Master) (n : Fin 8), s.shapeOk = true ∧ s.gate m (A.TB_SLEW (n : Nat)) = Gate.pass) ∧
    (∃ (s : State) (m : Master) (n : Fin 8) (v : Word), s.shapeOk = true ∧ s.gate m (A.TB_CTRL (n : Nat)) = Gate.pass ∧ (getField v 2 10 = 0 ∨ 1000 < getField v 2 10 ∨ getField v 0 1 = 1 ∧ s.tbAccepts ((n : Nat)) true = false)) ∧
    (∃ (s : State) (m : Master) (n : Fin 8), s.shapeOk = true ∧ s.gate m (A.TB_STEP_HI (n : Nat)) = Gate.pass) :=
  ⟨⟨q2_5, 1, by decide +kernel⟩,
   ⟨q2_5, 0, by decide +kernel⟩,
   ⟨live, Master.pcie, 0, 1, by decide +kernel⟩,
   ⟨live, Master.pcie, 0, 5, 1, by decide +kernel⟩,
   ⟨live, Master.pcie, 0, 5, 0, by decide +kernel⟩,
   ⟨live, by decide +kernel⟩,
   ⟨live, by decide +kernel⟩,
   ⟨q2_2, 3, by decide +kernel⟩,
   ⟨S, Master.pcie, 4, by decide +kernel⟩,
   ⟨live, Master.pcie, 0, by decide +kernel⟩,
   ⟨live, Master.pcie, 0, 0, by decide +kernel⟩,
   ⟨live, Master.pcie, 0, by decide +kernel⟩⟩
theorem witness_CapturesAndStamps :
    (∃ (s : State) (m : Master) (c : Fin 16) (e : CapEntry) (l : List CapEntry) (k : Fin 16), s.shapeOk = true ∧ s.gate m (A.CAP_DATA0 (c : Nat)) = Gate.pass ∧ s.tim.cap.getD (c : Nat) [] = e :: l ∧ k ≠ c) ∧
    (∃ (s : State) (m : Master) (q : Fin 7), s.shapeOk = true ∧ s.gate m (A.TXQ_HEAD0 (q : Nat)) = Gate.pass ∧ s.tim.txq.getD (q : Nat) [] = []) ∧
    (∃ (s : State) (m : Master) (q : Fin 7) (e : StampEntry) (l : List StampEntry), s.shapeOk = true ∧ s.gate m (A.TXQ_HEAD0 (q : Nat)) = Gate.pass ∧ s.tim.txq.getD (q : Nat) [] = e :: l) ∧
    (∃ (s : State) (q : Fin 7) (b : Fin 8) (attempt : Nat) (id : BitVec 16), s.shapeOk = true ∧ s.tim.stampReq.contains ((q : Nat), (b : Nat), min attempt 15, id.toNat) = true ∧ (s.tim.txq.getD (q : Nat) []).length < txqCap (q : Nat)) ∧
    (∃ (s : State) (q : Fin 7) (b : Fin 8) (attempt : Nat) (id : BitVec 16), s.shapeOk = true ∧ s.tim.stampReq.contains ((q : Nat), (b : Nat), min attempt 15, id.toNat) = true ∧ txqCap (q : Nat) ≤ (s.tim.txq.getD (q : Nat) []).length) ∧
    (∃ (s : State) (q : Fin 7) (b : Fin 8) (attempt : Nat) (id : BitVec 16), s.shapeOk = true ∧ s.tim.stampReq.contains ((q : Nat), (b : Nat), min attempt 15, id.toNat) = false) ∧
    (∃ (s : State) (m : Master) (c : Fin 16), s.shapeOk = true ∧ s.gate m (A.CAP_DATA0 (c : Nat)) = Gate.pass ∧ s.tim.cap.getD (c : Nat) [] = []) ∧
    (∃ (s : State) (m : Master) (c : Fin 16) (v : Word), s.shapeOk = true ∧ s.gate m (A.CAP_CTRL (c : Nat)) = Gate.pass ∧ getField v 0 5 = 9 ∧ (getField v 5 2 = 1 ∨ getField v 5 2 = 3) ∧ getField v 10 1 = 1 ∧ (s.tim.cap.getD (c : Nat) []).length < 4) ∧
    (∃ (s : State) (m : Master) (c : Fin 16) (v : Word), s.shapeOk = true ∧ s.gate m (A.CAP_CTRL (c : Nat)) = Gate.pass ∧ getField v 0 5 ≤ 21 ∧ getField v 10 1 = 0) ∧
    (∃ (s : State) (m : Master) (c : Fin 16) (v : Word), s.shapeOk = true ∧ s.gate m (A.CAP_CTRL (c : Nat)) = Gate.pass ∧ 21 < getField v 0 5) ∧
    (∃ (s : State) (c : Fin 16) (src : Fin 22) (rising : Bool), s.shapeOk = true ∧ s.get (F.CAP_CTRL_SOURCE (c : Nat)) = (src : Nat) ∧ edgeTaken (s.get (F.CAP_CTRL_EDGE (c : Nat))) rising = true ∧ (s.tim.cap.getD (c : Nat) []).length < 4) ∧
    (∃ (s : State) (c : Fin 16) (src : Fin 22) (rising : Bool), s.shapeOk = true ∧ s.get (F.CAP_CTRL_SOURCE (c : Nat)) = (src : Nat) ∧ edgeTaken (s.get (F.CAP_CTRL_EDGE (c : Nat))) rising = true ∧ 4 ≤ (s.tim.cap.getD (c : Nat) []).length) ∧
    (∃ (s : State) (c : Fin 16) (src : Fin 22) (rising : Bool), s.shapeOk = true ∧ (s.get (F.CAP_CTRL_SOURCE (c : Nat)) ≠ (src : Nat) ∨ edgeTaken (s.get (F.CAP_CTRL_EDGE (c : Nat))) rising = false)) :=
  ⟨⟨q3_2, Master.pcie, 5, ce, [], 0, by decide +kernel⟩,
   ⟨S, Master.pcie, 0, by decide +kernel⟩,
   ⟨q3_2, Master.pcie, 0, se, List.replicate 3 se, by decide +kernel⟩,
   ⟨q3_1, 0, 0, 0, 0, by decide +kernel⟩,
   ⟨q3_3, 0, 0, 0, 0, by decide +kernel⟩,
   ⟨S, 0, 0, 0, 0, by decide +kernel⟩,
   ⟨S, Master.pcie, 0, by decide +kernel⟩,
   ⟨S, Master.pcie, 0, 1065#32, by decide +kernel⟩,
   ⟨S, Master.pcie, 0, 0, by decide +kernel⟩,
   ⟨S, Master.pcie, 0, 22, by decide +kernel⟩,
   ⟨q3_4, 5, 0, true, by decide +kernel⟩,
   ⟨q3_6, 5, 21, true, by decide +kernel⟩,
   ⟨S, 0, 0, true, by decide +kernel⟩⟩
theorem witness_CompareUnits :
    (∃ (s : State) (c : Fin 16), s.tim.cmpTarget.length = 16 ∧ s.tim.late.length = 16 ∧ s.tim.jumped.length = 16 ∧ s.tim.tout.length = 4 ∧ s.tim.pulseEnd.length = 4 ∧ s.cmpArmed (c : Nat) = true ∧ s.cmpTarget (c : Nat) ≤ s.cmpTime (c : Nat) ∧ s.get (F.CMP_CTRL_OUTPUT (c : Nat)) ≤ 5 ∧ BitVec.toNat (s.rd (A.CMP_PERIOD (c : Nat))) ≠ 0 ∧ s.tim.jumped.getD ((c : Nat)) false = false) ∧
    (∃ (s : State) (c : Fin 16), s.tim.cmpTarget.length = 16 ∧ s.tim.late.length = 16 ∧ s.tim.jumped.length = 16 ∧ s.tim.tout.length = 4 ∧ s.tim.pulseEnd.length = 4 ∧ s.cmpArmed (c : Nat) = true ∧ s.cmpTarget (c : Nat) ≤ s.cmpTime (c : Nat) ∧ s.get (F.CMP_CTRL_OUTPUT (c : Nat)) ≤ 5 ∧ BitVec.toNat (s.rd (A.CMP_PERIOD (c : Nat))) ≠ 0 ∧ s.tim.jumped.getD ((c : Nat)) false = true) ∧
    (∃ (s : State), s.tim.cmpTarget.length = 16 ∧ s.tim.late.length = 16 ∧ s.tim.jumped.length = 16 ∧ s.tim.tout.length = 4 ∧ s.tim.pulseEnd.length = 4 ∧ s.tim.pps = true ∧ s.tim.ppsUntil ≤ s.tim.now) ∧
    (∃ (s : State) (c : Fin 16), s.tim.cmpTarget.length = 16 ∧ s.tim.late.length = 16 ∧ s.tim.jumped.length = 16 ∧ s.tim.tout.length = 4 ∧ s.tim.pulseEnd.length = 4 ∧ s.cmpArmed (c : Nat) = true ∧ s.cmpTarget (c : Nat) ≤ s.cmpTime (c : Nat) ∧ s.get (F.CMP_CTRL_OUTPUT (c : Nat)) ≤ 5 ∧ BitVec.toNat (s.rd (A.CMP_PERIOD (c : Nat))) = 0) ∧
    (∃ (s : State), s.tim.cmpTarget.length = 16 ∧ s.tim.late.length = 16 ∧ s.tim.jumped.length = 16 ∧ s.tim.tout.length = 4 ∧ s.tim.pulseEnd.length = 4 ∧ (s.tim.pps = false ∨ s.tim.now < s.tim.ppsUntil)) ∧
    (∃ (s : State), s.tim.cmpTarget.length = 16 ∧ s.tim.late.length = 16 ∧ s.tim.jumped.length = 16 ∧ s.tim.tout.length = 4 ∧ s.tim.pulseEnd.length = 4 ∧ s.isSet F.TB_PPS_CTRL_EN = true ∧ s.tim.pps = false ∧ s.ppsReached = true) ∧
    (∃ (s : State) (c : Fin 16), s.tim.cmpTarget.length = 16 ∧ s.tim.late.length = 16 ∧ s.tim.jumped.length = 16 ∧ s.tim.tout.length = 4 ∧ s.tim.pulseEnd.length = 4 ∧ s.cmpArmed (c : Nat) = true ∧ s.cmpTarget (c : Nat) ≤ s.cmpTime (c : Nat) ∧ s.get (F.CMP_CTRL_OUTPUT (c : Nat)) = 5 ∧ s.isSet F.PWR_MON_CTRL_EXT_TRIG = true) ∧
    (∃ (s : State) (c : Fin 16) (p : Fin 4), s.tim.cmpTarget.length = 16 ∧ s.tim.late.length = 16 ∧ s.tim.jumped.length = 16 ∧ s.tim.tout.length = 4 ∧ s.tim.pulseEnd.length = 4 ∧ s.cmpArmed (c : Nat) = true ∧ s.cmpTarget (c : Nat) ≤ s.cmpTime (c : Nat) ∧ s.get (F.CMP_CTRL_OUTPUT (c : Nat)) = (p : Nat) + 1 ∧ s.get (F.CMP_CTRL_ACTION (c : Nat)) = 1 ∧ s.cmpOverruled (c : Nat) = false) ∧
    (∃ (s : State) (c : Fin 16), s.tim.cmpTarget.length = 16 ∧ s.tim.late.length = 16 ∧ s.tim.jumped.length = 16 ∧ s.tim.tout.length = 4 ∧ s.tim.pulseEnd.length = 4 ∧ s.cmpArmed (c : Nat) = true ∧ s.cmpTarget (c : Nat) ≤ s.cmpTime (c : Nat) ∧ s.get (F.CMP_CTRL_OUTPUT (c : Nat)) ≤ 5 ∧ s.tim.late.getD ((c : Nat)) false = true) ∧
    (∃ (s : State), s.tim.cmpTarget.length = 16 ∧ s.tim.late.length = 16 ∧ s.tim.jumped.length = 16 ∧ s.tim.tout.length = 4 ∧ s.tim.pulseEnd.length = 4 ∧ (s.isSet F.TB_PPS_CTRL_EN = false ∨ s.tim.pps = true ∨ s.ppsReached = false)) ∧
    (∃ (s : State) (c : Fin 16), s.tim.cmpTarget.length = 16 ∧ s.tim.late.length = 16 ∧ s.tim.jumped.length = 16 ∧ s.tim.tout.length = 4 ∧ s.tim.pulseEnd.length = 4 ∧ s.get (F.CMP_CTRL_OUTPUT (c : Nat)) ≤ 4 ∧ s.cmpArmed (c : Nat) = true ∧ s.cmpTarget (c : Nat) ≤ s.cmpTime (c : Nat) ∧ 1 ≤ s.get (F.CMP_CTRL_OUTPUT (c : Nat)) ∧ s.cmpOverruled (c : Nat) = true) ∧
    (∃ (s : State) (c : Fin 16) (p : Fin 4), s.tim.cmpTarget.length = 16 ∧ s.tim.late.length = 16 ∧ s.tim.jumped.length = 16 ∧ s.tim.tout.length = 4 ∧ s.tim.pulseEnd.length = 4 ∧ s.cmpArmed (c : Nat) = true ∧ s.cmpTarget (c : Nat) ≤ s.cmpTime (c : Nat) ∧ s.get (F.CMP_CTRL_OUTPUT (c : Nat)) = (p : Nat) + 1 ∧ s.get (F.CMP_CTRL_ACTION (c : Nat)) = 2 ∧ s.cmpOverruled (c : Nat) = false) ∧
    (∃ (s : State) (m : Master) (c : Fin 16) (v : Word) (k : Fin 16), s.tim.cmpTarget.length = 16 ∧ s.tim.late.length = 16 ∧ s.tim.jumped.length = 16 ∧ s.tim.tout.length = 4 ∧ s.tim.pulseEnd.length = 4 ∧ s.gate m (A.CMP_TARGET0 (c : Nat)) = Gate.pass ∧ getField v 0 30 ≤ 999999999 ∧ k ≠ c) ∧
    (∃ (s : State) (m : Master) (c : Fin 16) (v : Word) (off : Nat), s.tim.cmpTarget.length = 16 ∧ s.tim.late.length = 16 ∧ s.tim.jumped.length = 16 ∧ s.tim.tout.length = 4 ∧ s.tim.pulseEnd.length = 4 ∧ s.gate m (A.CMP_TARGET0 (c : Nat)) = Gate.pass ∧ getField v 0 30 ≤ 999999999 ∧ off ≠ A.CMP_TARGET0 (c : Nat)) ∧
    (∃ (s : State) (c : Fin 16), s.tim.cmpTarget.length = 16 ∧ s.tim.late.length = 16 ∧ s.tim.jumped.length = 16 ∧ s.tim.tout.length = 4 ∧ s.tim.pulseEnd.length = 4 ∧ (s.cmpArmed (c : Nat) = false ∨ s.cmpTime (c : Nat) < s.cmpTarget (c : Nat))) ∧
    (∃ (s : State) (m : Master) (c : Fin 16) (v : Word), s.tim.cmpTarget.length = 16 ∧ s.tim.late.length = 16 ∧ s.tim.jumped.length = 16 ∧ s.tim.tout.length = 4 ∧ s.tim.pulseEnd.length = 4 ∧ s.gate m (A.CMP_TARGET0 (c : Nat)) = Gate.pass ∧ 999999999 < getField v 0 30) :=
  ⟨⟨q4_4, 5, by decide +kernel⟩,
   ⟨q4_11, 5, by decide +kernel⟩,
   ⟨q4_7, by decide +kernel⟩,
   ⟨q4_8, 5, by decide +kernel⟩,
   ⟨S, by decide +kernel⟩,
   ⟨q4_1, by decide +kernel⟩,
   ⟨q4_4, 5, by decide +kernel⟩,
   ⟨q4_5, 5, 0, by decide +kernel⟩,
   ⟨q4_9, 5, by decide +kernel⟩,
   ⟨S, by decide +kernel⟩,
   ⟨q4_15, 5, by decide +kernel⟩,
   ⟨q4_8, 5, 0, by decide +kernel⟩,
   ⟨S, Master.pcie, 5, 0, 13, by decide +kernel⟩,
   ⟨S, Master.pcie, 5, 0, 0, by decide +kernel⟩,
   ⟨S, 5, by decide +kernel⟩,
   ⟨S, Master.pcie, 5, 1000000000#32, by decide +kernel⟩⟩
theorem witness_CalendarClock :
    (∃ (s : State) (o : StartOutcome), s.pwr.stage = StartStage.begun ∧ s.pwr.regulators = true ∧ o.testMode = false ∧ o.badPhases = [] ∧ s.pwr.vddio = true ∧ s.tim.calRuns = false) ∧
    (∃ (s : State) (m : Master) (v : Word), s.gate m A.CAL_CTRL = Gate.pass ∧ getField v 2 2 ≠ 3 ∧ (getField v 2 2 = 0 ∨ s.leapAt % 86400 = 0) ∧ getField v 0 1 = 1 ∧ s.isSet F.CAL_STATUS_BUSY = false ∧ getField v 1 1 = 0) ∧
    (∃ (s : State), s.tim.calRuns = true ∧ s.tim.calSet = none ∧ s.tim.leapHold = false ∧ s.get F.CAL_CTRL_LEAP_NEXT = 2 ∧ (s.tim.calSec + 1) % 2 ^ 48 + 1 = s.leapAt) ∧
    (∃ (s : State), s.pwr.stage ≠ StartStage.unpowered) ∧
    (∃ (s : State), s.tim.calRuns = true ∧ s.tim.calSet = none ∧ s.tim.leapHold = false ∧ s.get F.CAL_CTRL_LEAP_NEXT = 1 ∧ (s.tim.calSec + 1) % 2 ^ 48 = s.leapAt) ∧
    (∃ (s : State), s.tim.calRuns = true ∧ s.tim.calSet = none ∧ s.tim.leapHold = true) ∧
    (∃ (s : State), s.pwr.stage = StartStage.unpowered) ∧
    (∃ (s : State), s.tim.calRuns = true ∧ s.tim.calSet = none ∧ s.tim.leapHold = false ∧ s.get F.CAL_CTRL_LEAP_NEXT = 0) ∧
    (∃ (s : State) (m : Master) (d : Word), s.gate m A.CAL_NOW0 = Gate.pass ∧ s.tim.leapHold = false ∧ calDate s.tim.calSec = some d) ∧
    (∃ (s : State), s.tim.calSet = none ∧ s.tim.calRuns = true ∧ s.tim.calSub < 32767) ∧
    (∃ (s : State), s.tim.tclkOn = true) ∧
    (∃ (s : State) (m : Master) (v : Word), s.gate m A.CAL_CTRL = Gate.pass ∧ (getField v 2 2 = 3 ∨ getField v 2 2 ≠ 0 ∧ s.leapAt % 86400 ≠ 0 ∨ getField v 0 1 = 1 ∧ s.isSet F.CAL_STATUS_BUSY = true)) ∧
    (∃ (s : State) (sec : Nat) (sub : Nat), s.tim.calSet = some (sec, sub)) :=
  ⟨⟨q5_14, o1, by decide +kernel⟩,
   ⟨S, Master.pcie, 1, by decide +kernel⟩,
   ⟨q5_10, by decide +kernel⟩,
   ⟨S, by decide +kernel⟩,
   ⟨q5_9, by decide +kernel⟩,
   ⟨q5_11, by decide +kernel⟩,
   ⟨q5_13, by decide +kernel⟩,
   ⟨q5_8, by decide +kernel⟩,
   ⟨q5_1, Master.pcie, 0x017487d0#32, by decide +kernel⟩,
   ⟨q5_8, by decide +kernel⟩,
   ⟨q5_7, by decide +kernel⟩,
   ⟨S, Master.pcie, 12, by decide +kernel⟩,
   ⟨q5_3, 100, 5, by decide +kernel⟩⟩
end W09

namespace W10
open Wit
def rg (s : State) (l : List (Nat × Nat)) : State := l.foldl (fun s e => s.wr e.1 (BitVec.ofNat 32 e.2)) s
def pth (f : Path → Path) (s : State := live) : State := { s with path := f s.path }
def B : State := [0, 2, 67].foldl (fun (s : State) k => (s.wr (A.HASH_FIELDS k) 0x1FF#32).wr (A.HASH_KEY k 0) 0x12345678#32) live
def ipc (h : List Byte) : List Byte := Machine.patch h 10 (beBytes 2 (65535 - onesSum h))
def ethh (ty : Nat) : List Byte := [2,0,0,0,0,1, 2,0,0,0,0,2] ++ beBytes 2 ty
def v4 (proto ttl frag : Nat) (pl : List Byte) : List Byte := ipc ([0x45#8, 0#8] ++ beBytes 2 (20 + pl.length) ++ [0#8,1#8] ++ beBytes 2 frag ++ beBytes 1 ttl ++ beBytes 1 proto ++ [0,0] ++ [10,0,0,1] ++ [10,0,1,2]) ++ pl
def udp (sp dp : Nat) (pl : List Byte) : List Byte := beBytes 2 sp ++ beBytes 2 dp ++ beBytes 2 (8 + pl.length) ++ [0,0] ++ pl
def fU : List Byte := ethh 0x800 ++ v4 17 64 0 (udp 1000 2000 (List.replicate 18 7#8))
def fU1 : List Byte := ethh 0x800 ++ v4 17 1 0 (udp 1000 2000 (List.replicate 18 7#8))
def fFr : List Byte := ethh 0x800 ++ v4 17 64 0x2000 (udp 1000 2000 (List.replicate 18 7#8))
def fArp : List Byte := ethh 0x806 ++ List.replicate 46 1#8
def fBad : List Byte := Machine.patch fU 24 [0xFF#8]
def fr (b : List Byte) (src : Nat) : Pkt := Pkt.fresh b src
def ing (l : List Pkt) (s : State) : State := pth (fun p => {p with ingress := l, nextId := 9}) s
def ps (s : State) (p : Pkt) (g : PktStage) (id : Nat := 3) : Pkt := { (s.parsed { p with id := id }).2 with stage := g }
def role (l : List Pkt) (s : State) : State := pth (fun p => {p with inRole := l, nextId := 9}) s
def p0 := fr fU 0
def pB := fr fBad 2
def pA := fr fArp 67
def rejD (s : State) : State := [0, 2, 67].foldl (fun (s : State) k => (s.put (F.PRS_DEFAULT_PARSE_FAIL k) 1).put (F.PRS_DEFAULT_NO_MATCH k) 1) s
def rule (x : Nat) (ver nh : Nat) (s : State := B) : State := rg s [(A.RULE_W13 x, ver), (A.RULE_W14 x, nh*65536), (A.RULE_W15 x, 1 + 8*5)]
def cls (s : State) (p : Pkt := p0) : State := role [ps s p .classify] s
def SS : List State := [B, ing [p0, pB, pA] B, ing [pA, pB, p0] (rejD B), ing [p0, pB] ({ B with flt := { B.flt with resetting := [(2,0,0)] } }),
  role [ps B p0 (.recirc true), ps B p0 (.recirc false) 4] B, cls B, cls (rejD B), cls B pA, cls (rule 0 0 0), cls (rule 0 1 0), cls (rule 0 2 0), cls (rule 0 3 77), cls (rule 255 3 77 (rule 3 2 0)), role [ps B p0 .egress, ps B p0 .flow 4] B]
def res (s : State) : State := pth (fun p => { p with inRole := p.inRole.map (fun k => { k with result := true }) }) s
def both (l : List State) : List State := l ++ l.map res
def l1_ : List State := both SS
def nh (h kind : Nat) (w : List Nat := []) (s : State := B) : State := rg s ((A.NH_W0 h, kind + w.headD 0) :: (w.tail.zipIdx.map (fun e => (A.NH_W0 h + 4*(e.2+1), e.1))))
def key0 := (ps B p0 .flow).key
def ce (nat : Bool) (n : Nat) : CacheEnt := ⟨12, nat, true, 3, h2 key0, 5#32, 99, n⟩
def pc (k : Nat) (i j : Nat) : PendCreate := ⟨k, key0, keySwap key0, i, j, (List.range 16).map (BitVec.ofNat 32), (List.range 16).map (fun x => BitVec.ofNat 32 (x*77))⟩
def fl (g : PktStage) (s : State := B) (p : Pkt := p0) : State := role [ps s p g] s
def rt (s : State) : State := pth (fun p => {p with routes4 := [(0x0A000100, 24, 6)]}) s
def trk (s : State) : State := s.put F.FLW_CTRL_TRACK_EN 1
def pn (p : Pkt) (n : Nat) (g : PktStage) : Pkt := {ps B p g with nexthop := n}
def fullT (s : State) : State := pth (fun p => {p with pend := (s.places key0).map (fun i => pc 50 i i) |>.map (fun c => {c with keyO := [], keyR := []})}) s
def S2 : List State := [fl .flow, fl .flow B (fr fFr 1), pth (fun p => {p with cache := [(h1 key0 % 65536, [ce true 6])]}) (fl .flow), (pth (fun p => {p with cache := [(h1 key0 % 65536, [ce false 6])]}) (fl .flow)).put F.FLW_STATUS_CACHE_ONLY 1,
  pth (fun p => {p with pend := [pc 44 1 2]}) (fl .flow), fl .route (rt B), fl .route (rt (trk B)), fl .route B pA, fl .route (rejD B) pA, fl .create (rt B), fl .create, pth (fun p => {p with pend := [pc 3 1 2]}) (fl (.await 3)), pth (fun p => {p with pend := [pc 44 1 2]}) (fl .create),
  fullT (fl .create),
  role [pn p0 6 .rewrite] B, role [pn p0 6 .rewrite] (nh 6 3 [5*131072]), role [pn pA 6 .rewrite] (nh 6 1 [8, 0x01020304, 0x90050607]), role [pn (fr fU1 0) 6 .rewrite] (nh 6 1 [8 + 2^21]), role [pn p0 6 .rewrite] (nh 6 1 [8 + 2^21]), role [pn (fr fU1 0) 6 .rewrite] ((nh 6 2 [7*32 + 2^21]).put (F.STA_W0_VALID 7) 1), role [ps B p0 (.done (.eth 1))] B, role [ps B p0 (.done (.eth 1)) 4, ps B p0 .flow 3] B ]
def l2_ : List State := both S2
def stg (s : State) (m : Nat) (b : List (Nat × Nat × List (Nat × Word))) : State := { s with hst := { s.hst with staging := b.map (fun e => ⟨.pcie, e.1, e.2.1, e.2.2⟩) } }
def q3_3 : State := stg live 0 [(0, 0, [(A.RULE_KEY 0 0, 1#32)])]
def q3_6 : State := nh 7 4 [] live
def pfxW (l : List Nat) (s : State := live) : State := l.zipIdx.foldl (fun s e => s.wr (A.RTE_PREFIX e.2) (BitVec.ofNat 32 e.1)) s
def vv (v6 len nh : Nat) : Word := BitVec.ofNat 32 (v6 * 4 + len * 8 + nh * 65536)
def P4 := pfxW [0x00000A0A] live
def rts (s : State) : State := pth (fun p => {p with routes4 := [(0x0A0A0000, 16, 6), (0x0A000000, 8, 1)], routes6 := [(0, 0, 9), (0x20010DB8 * 2^96, 32, 4)]}) s
def capLeg (v4 v6 : Nat) (s : State) : State := withLeg s [(0x58,4,v4),(0x5C,4,v6)]
def q4_3 : State := rts P4
def q4_5 : State := capLeg 2 2 (rts P4)
def q4_8 : State := pth (fun p => {p with cmd := some (9,300,70000)}) P4
def q4_10 : State := P4.put F.RTE_CMD_STATUS_BUSY 1
def ent (i peer : Nat) (o : Bool) (st : Bool := false) (s : State) : State :=
  s.flowWrite i ((wordsOfKey (if o then key0 else keySwap key0) (fieldWord 10 1 1 ||| fieldWord 13 1 (b2n st) ||| fieldWord 11 1 (b2n !o))) ++ freshTail peer none 0#32 0 3)
def two (st : Bool := false) (s : State := live) : State := ent 40 41 true st (ent 41 40 false st s)
def fi (i : Nat) (s : State) : State := s.wr A.FLW_CMD_INDEX (BitVec.ofNat 32 i)
def insW (s : State) : State := (((wordsOfKey key0 0#32) ++ freshTail 0 none 0#32 0 3).zipIdx).foldl (fun s e => s.wr (A.FLW_DATA e.2) e.1) ((((wordsOfKey (keySwap key0) 0#32) ++ freshTail 0 none 0#32 0 3).zipIdx).foldl (fun s e => s.wr (A.FLW_DATA (16+e.2)) e.1) s)
def tch (s : State) (k : List Byte := key0) : State := pth (fun p => {p with touches := [⟨40, k, 70, 0⟩, ⟨41, k, 1, 2⟩]}) s
def T0 : Touch := ⟨40, key0, 70, 0⟩
def q5_2 : State := fi 40 (two)
def q5_4 : State := insW live
def q5_5 : State := insW (ent (((insW live).freePlace key0 noIndex).getD 0) 3 true false live)
def q5_7 : State := (fi 40 (two)).put F.FLW_CMD_STATUS_BUSY 1
def q5_8 : State := (fi 40 (two)).put F.FLW_STATUS_CACHE_ONLY 1
def q5_9 : State := tch (two)
def q5_10 : State := tch live
def q5_13 : State := pth (fun p => {p with flushStatic := true}) ((two true).put F.FLW_STATUS_FLUSHING 1)
def S3b : List State := (both [cls B, fl .flow, fl .route (rt B), pth (fun p => {p with pend := [pc 3 1 2]}) (fl (.await 3)), role [ps B p0 .egress, ps B p0 .flow 4] B])
def qd (s : State) (n : Nat) (st : Option Nat := none) : State := let p := (s.pktAt 3).getD p0
  s.roleMod p.role (fun r => { r with queue := List.replicate n p.token, stall := st })
def qe (s : State) (n : Nat) (st : Option Nat := none) : State := let p := (s.pktAt 3).getD p0
  s.roleMod p.role (fun r => { r with queue := List.replicate n { p.token with again := true, pkt := none }, stall := st })
def l6_ : List State := S3b ++ S3b.map (qd · 1) ++ S3b.map (qe · 7) ++ [qe (fl .flow) 4096 (some 3), qe (fl .flow) 4096, qe (cls B) 4096, {fl .flow with dbg := {B.dbg with running := true}}]
theorem witness_PacketsEnter :
    (∃ (s : State) (k : Nat) (p : Pkt) (x : Nat), s.shapeOk = true ∧ s.pktAt k = some p ∧ s.intake 1 = true ∧ p.stage = PktStage.classify ∧ ResultIn s k p ∧ s.classify (ingressPartition p.source) false p = some x ∧ x < 16384 ∧ BitVec.toNat (s.rd (A.RULE_W13 x)) ≤ 3 ∧ s.rd (A.RULE_W13 x) = 0#32) ∧
    (∃ (s : State) (k : Nat) (p : Pkt) (x : Nat), s.shapeOk = true ∧ s.pktAt k = some p ∧ s.intake 1 = true ∧ p.stage = PktStage.classify ∧ ResultIn s k p ∧ s.classify (ingressPartition p.source) false p = some x ∧ x < 16384 ∧ BitVec.toNat (s.rd (A.RULE_W13 x)) ≤ 3 ∧ s.rd (A.RULE_W13 x) = 3#32) ∧
    (∃ (s : State) (k : Nat) (p : Pkt) (x : Nat), s.shapeOk = true ∧ s.pktAt k = some p ∧ s.intake 1 = true ∧ p.stage = PktStage.classify ∧ ResultIn s k p ∧ s.classify (ingressPartition p.source) false p = some x ∧ x < 16384 ∧ BitVec.toNat (s.rd (A.RULE_W13 x)) ≤ 3 ∧ s.rd (A.RULE_W13 x) = 2#32) ∧
    (∃ (s : State) (k : Nat) (p : Pkt) (x : Nat), s.shapeOk = true ∧ s.pktAt k = some p ∧ s.intake 1 = true ∧ p.stage = PktStage.classify ∧ ResultIn s k p ∧ s.classify (ingressPartition p.source) false p = some x ∧ x < 16384 ∧ BitVec.toNat (s.rd (A.RULE_W13 x)) ≤ 3 ∧ s.rd (A.RULE_W13 x) = 1#32) ∧
    (∃ (s : State) (k : Nat) (p : Pkt), s.shapeOk = true ∧ s.pktAt k = some p ∧ s.intake 1 = true ∧ p.stage = PktStage.classify ∧ ResultIn s k p ∧ s.classify (ingressPartition p.source) false p = none ∧ p.source < 68 ∧ s.get (F.PRS_DEFAULT_NO_MATCH p.source) = 0) ∧
    (∃ (s : State) (k : Nat) (p : Pkt), s.shapeOk = true ∧ s.pktAt k = some p ∧ s.intake 1 = true ∧ p.stage = PktStage.classify ∧ ResultIn s k p ∧ s.classify (ingressPartition p.source) false p = none ∧ p.source < 68 ∧ s.get (F.PRS_DEFAULT_NO_MATCH p.source) = 1) ∧
    (∃ (s : State) (src : Fin 68) (p : Pkt) (q : Pkt) (c : Nat), s.shapeOk = true ∧ List.find? (fun (x : Pkt) => x.source == (src : Nat)) s.path.ingress = some p ∧ s.intake 0 = true ∧ s.parserUp = true ∧ (4 ≤ (src : Nat) ∨ s.stopping 8 = false) ∧ s.parsed ({ p with id := s.path.nextId } : Pkt) = (c, q) ∧ 1 ≤ c ∧ c ≤ 16 ∧ (∀ (x : Pkt), x ∈ s.path.inRole → x.id < s.path.nextId) ∧ s.get (F.PRS_DEFAULT_PARSE_FAIL (src : Nat)) = 0) ∧
    (∃ (s : State) (src : Fin 68) (p : Pkt) (q : Pkt) (c : Nat), s.shapeOk = true ∧ List.find? (fun (x : Pkt) => x.source == (src : Nat)) s.path.ingress = some p ∧ s.intake 0 = true ∧ s.parserUp = true ∧ (4 ≤ (src : Nat) ∨ s.stopping 8 = false) ∧ s.parsed ({ p with id := s.path.nextId } : Pkt) = (c, q) ∧ 1 ≤ c ∧ c ≤ 16 ∧ (∀ (x : Pkt), x ∈ s.path.inRole → x.id < s.path.nextId) ∧ s.get (F.PRS_DEFAULT_PARSE_FAIL (src : Nat)) = 1) ∧
    (∃ (s : State) (k : Nat) (p : Pkt), s.shapeOk = true ∧ s.pktAt k = some p ∧ s.intake 1 = true ∧ p.stage = PktStage.egress ∧ ResultIn s k p ∧ s.classify 2 true p = none) ∧
    (∃ (s : State) (k : Nat) (p : Pkt) (d : Bool) (q : Pkt), s.shapeOk = true ∧ s.pktAt k = some p ∧ p.stage = PktStage.recirc d ∧ s.pktToken k = false ∧ s.parserUp = true ∧ s.parsed ({ p with bytes := if d = true then p.decapped else p.bytes, pass := p.pass + 1 } : Pkt) = (0, q) ∧ s.isSet (F.ENG_ROLE_AT_SHED (q.role - 1)) = false ∧ (s.role q.role).queue.length < 4096) ∧
    (∃ (s : State) (k : Nat) (p : Pkt), s.shapeOk = true ∧ s.pktAt k = some p ∧ p.stage = PktStage.flow) ∧
    (∃ (s : State) (src : Fin 68) (p : Pkt) (q : Pkt), s.shapeOk = true ∧ List.find? (fun (x : Pkt) => x.source == (src : Nat)) s.path.ingress = some p ∧ s.intake 0 = true ∧ s.parserUp = true ∧ (4 ≤ (src : Nat) ∨ s.stopping 8 = false) ∧ s.parsed ({ p with id := s.path.nextId } : Pkt) = (0, q) ∧ s.isSet (F.ENG_ROLE_AT_SHED (q.role - 1)) = false ∧ (s.role q.role).queue.length < 4096) ∧
    (∃ (s : State) (k : Nat) (p : Pkt), s.shapeOk = true ∧ s.pktAt k = some p ∧ p.stage = PktStage.classify) ∧
    (∃ (s : State), s.shapeOk = true ∧ s.intake 0 = false) ∧
    (∃ (s : State) (src : Fin 68), s.shapeOk = true ∧ List.find? (fun (x : Pkt) => x.source == (src : Nat)) s.path.ingress = none) :=
  ⟨⟨(l1_.getD 22 up), 3, (((l1_.getD 22 up).pktAt 3).getD p0), 0, by decide +kernel⟩,
   ⟨(l1_.getD 25 up), 3, (((l1_.getD 25 up).pktAt 3).getD p0), 0, by decide +kernel⟩,
   ⟨(l1_.getD 24 up), 3, (((l1_.getD 24 up).pktAt 3).getD p0), 0, by decide +kernel⟩,
   ⟨(l1_.getD 23 up), 3, (((l1_.getD 23 up).pktAt 3).getD p0), 0, by decide +kernel⟩,
   ⟨(l1_.getD 19 up), 3, (((l1_.getD 19 up).pktAt 3).getD p0), by decide +kernel⟩,
   ⟨(l1_.getD 20 up), 3, (((l1_.getD 20 up).pktAt 3).getD p0), by decide +kernel⟩,
   ⟨(l1_.getD 1 up), 2, (((l1_.getD 1 up).path.ingress.find? (fun x => x.source == 2)).getD p0), ((l1_.getD 1 up).parsed { (((l1_.getD 1 up).path.ingress.find? (fun x => x.source == 2)).getD p0) with id := (l1_.getD 1 up).path.nextId }).2, 4, by decide +kernel⟩,
   ⟨(l1_.getD 2 up), 2, (((l1_.getD 2 up).path.ingress.find? (fun x => x.source == 2)).getD p0), ((l1_.getD 2 up).parsed { (((l1_.getD 2 up).path.ingress.find? (fun x => x.source == 2)).getD p0) with id := (l1_.getD 2 up).path.nextId }).2, 4, by decide +kernel⟩,
   ⟨(l1_.getD 27 up), 3, (((l1_.getD 27 up).pktAt 3).getD p0), by decide +kernel⟩,
   ⟨(l1_.getD 4 up), 3, (((l1_.getD 4 up).pktAt 3).getD p0), true, ((l1_.getD 4 up).parsed { (((l1_.getD 4 up).pktAt 3).getD p0) with bytes := if true then (((l1_.getD 4 up).pktAt 3).getD p0).decapped else (((l1_.getD 4 up).pktAt 3).getD p0).bytes, pass := (((l1_.getD 4 up).pktAt 3).getD p0).pass + 1 }).2, by decide +kernel⟩,
   ⟨(l1_.getD 13 up), 4, (((l1_.getD 13 up).pktAt 4).getD p0), by decide +kernel⟩,
   ⟨(l1_.getD 1 up), 0, (((l1_.getD 1 up).path.ingress.find? (fun x => x.source == 0)).getD p0), ((l1_.getD 1 up).parsed { (((l1_.getD 1 up).path.ingress.find? (fun x => x.source == 0)).getD p0) with id := (l1_.getD 1 up).path.nextId }).2, by decide +kernel⟩,
   ⟨(l1_.getD 5 up), 3, (((l1_.getD 5 up).pktAt 3).getD p0), by decide +kernel⟩,
   ⟨(l1_.getD 3 up), by decide +kernel⟩,
   ⟨(l1_.getD 0 up), 0, by decide +kernel⟩⟩
theorem witness_PacketsLeaveRole :
    (∃ (s : State) (k : Nat) (p : Pkt) (d : Dest), s.pktAt k = some p ∧ s.pktToken k = false ∧ p.stage = PktStage.rewrite ∧ s.nhDest p.nexthop = some d ∧ (∀ (q : Nat), d ≠ Dest.host q) ∧ p.rcd.l3 ≠ 0 ∧ getField (s.nhWord p.nexthop 0) 21 1 = 1 ∧ beNat (p.rcd.field 10 1) ≤ 1) ∧
    (∃ (s : State) (k : Nat) (p : Pkt) (i : Nat) (j : Nat), s.pktAt k = some p ∧ s.intake 3 = true ∧ s.pktToken k = false ∧ p.stage = PktStage.create ∧ s.pendFor p.key = none ∧ s.lookup k p.key = none ∧ s.path.pend.length < 1024 ∧ p.nat = none ∧ s.cacheOnly = false ∧ s.frozen = false ∧ s.freePlace p.key noIndex = some i ∧ s.freePlace (keySwap p.key) i = some j) ∧
    (∃ (s : State) (k : Nat) (p : Pkt), s.pktAt k = some p ∧ s.intake 3 = true ∧ s.pktToken k = false ∧ p.stage = PktStage.create ∧ s.pendFor p.key = none ∧ s.lookup k p.key = none ∧ s.path.pend.length < 1024 ∧ p.nat = none ∧ s.cacheOnly = false ∧ s.frozen = false ∧ s.freePlace p.key noIndex = none) ∧
    (∃ (s : State) (k : Nat) (p : Pkt) (d : Dest), s.pktAt k = some p ∧ s.pktToken k = false ∧ p.stage = PktStage.done d ∧ (s.path.inRole.any fun (q : Pkt) => decide (q.id < k) && q.source == p.source && q.entry == p.entry && q.role == p.role) = false) ∧
    (∃ (s : State) (k : Nat) (p : Pkt) (d : Dest), s.pktAt k = some p ∧ s.pktToken k = false ∧ p.stage = PktStage.done d ∧ (s.path.inRole.any fun (q : Pkt) => decide (q.id < k) && q.source == p.source && q.entry == p.entry && q.role == p.role) = true) ∧
    (∃ (s : State) (k : Nat) (p : Pkt) (c : PendCreate), s.pktAt k = some p ∧ s.intake 3 = true ∧ s.frozen = false ∧ p.stage = PktStage.await k ∧ ResultIn s k p ∧ List.find? (fun (c : PendCreate) => c.creator == k) s.path.pend = some c ∧ s.cacheOnly = false ∧ c.wordsO.length = 16 ∧ c.wordsR.length = 16 ∧ c.idxO ≠ c.idxR) ∧
    (∃ (s : State) (k : Nat) (p : Pkt) (e : Nat), s.pktAt k = some p ∧ s.pktToken k = false ∧ p.stage = PktStage.rewrite ∧ s.nhDest p.nexthop = some (Dest.eth e) ∧ p.rcd.l3 = 0) ∧
    (∃ (s : State) (k : Nat) (p : Pkt), s.pktAt k = some p ∧ p.stage ≠ PktStage.rewrite) ∧
    (∃ (s : State) (k : Nat) (p : Pkt) (q : Nat), s.pktAt k = some p ∧ s.pktToken k = false ∧ p.stage = PktStage.rewrite ∧ s.nhDest p.nexthop = some (Dest.host q)) ∧
    (∃ (s : State) (k : Nat) (p : Pkt), s.pktAt k = some p ∧ s.pktToken k = false ∧ p.stage = PktStage.rewrite ∧ s.nhDest p.nexthop = none) ∧
    (∃ (s : State) (k : Nat) (p : Pkt) (key : List Byte), s.pktAt k = some p ∧ s.intake 3 = true ∧ p.stage = PktStage.flow ∧ ResultIn s k p ∧ p.fragment = false ∧ s.dramGone = false ∧ p.lookupKey = some key ∧ s.pendFor key = none ∧ List.find? (fun (c : CacheEnt) => c.sig == h2 key) (s.cacheSet key) = none ∧ s.tableFind key = none) ∧
    (∃ (s : State) (k : Nat) (p : Pkt), s.pktAt k = some p ∧ s.intake 2 = true ∧ p.stage = PktStage.route ∧ ResultIn s k p ∧ p.rcd.l3 = 0 ∧ s.get (F.PRS_DEFAULT_NO_MATCH p.source) = 0 ∧ p.source < 68) ∧
    (∃ (s : State) (k : Nat) (p : Pkt) (nh : Nat), s.pktAt k = some p ∧ s.intake 2 = true ∧ p.stage = PktStage.route ∧ ResultIn s k p ∧ p.rcd.l3 ≠ 0 ∧ s.routeOf (decide (p.rcd.l3 = 2)) (addrOf (decide (p.rcd.l3 = 2)) (p.rcd.field 7 16)) = some nh) ∧
    (∃ (s : State) (k : Nat) (p : Pkt) (key : List Byte) (c : CacheEnt), s.pktAt k = some p ∧ s.intake 3 = true ∧ p.stage = PktStage.flow ∧ ResultIn s k p ∧ p.fragment = false ∧ s.dramGone = false ∧ p.lookupKey = some key ∧ s.pendFor key = none ∧ List.find? (fun (c : CacheEnt) => c.sig == h2 key) (s.cacheSet key) = some c) ∧
    (∃ (s : State) (k : Nat) (p : Pkt) (key : List Byte) (c : PendCreate), s.pktAt k = some p ∧ s.intake 3 = true ∧ p.stage = PktStage.flow ∧ ResultIn s k p ∧ p.fragment = false ∧ s.dramGone = false ∧ p.lookupKey = some key ∧ s.pendFor key = some c) ∧
    (∃ (s : State) (k : Nat) (p : Pkt), s.pktAt k = some p ∧ p.stage ≠ PktStage.route) ∧
    (∃ (s : State) (k : Nat) (p : Pkt), s.pktAt k = some p ∧ p.stage ≠ PktStage.flow) ∧
    (∃ (s : State) (k : Nat) (p : Pkt), s.pktAt k = some p ∧ s.intake 3 = true ∧ p.stage = PktStage.flow ∧ ResultIn s k p ∧ p.fragment = true ∧ p.nat = none) :=
  ⟨⟨(l2_.getD 17 up), 3, (((l2_.getD 17 up).pktAt 3).getD p0), Sys2Proof.Machine.Dest.eth 1, by decide +kernel, by decide +kernel, by decide +kernel, by decide +kernel, (fun _ h => nomatch h), by decide +kernel, by decide +kernel, by decide +kernel⟩,
   ⟨(l2_.getD 9 up), 3, (((l2_.getD 9 up).pktAt 3).getD p0), 888, 756, by decide +kernel⟩,
   ⟨(l2_.getD 13 up), 3, (((l2_.getD 13 up).pktAt 3).getD p0), by decide +kernel⟩,
   ⟨(l2_.getD 20 up), 3, (((l2_.getD 20 up).pktAt 3).getD p0), Sys2Proof.Machine.Dest.eth 1, by decide +kernel⟩,
   ⟨(l2_.getD 21 up), 4, (((l2_.getD 21 up).pktAt 4).getD p0), Sys2Proof.Machine.Dest.eth 1, by decide +kernel⟩,
   ⟨(l2_.getD 33 up), 3, (((l2_.getD 33 up).pktAt 3).getD p0), (pc 3 1 2), by decide +kernel⟩,
   ⟨(l2_.getD 16 up), 3, (((l2_.getD 16 up).pktAt 3).getD p0), 1, by decide +kernel⟩,
   ⟨(l2_.getD 0 up), 3, (((l2_.getD 0 up).pktAt 3).getD p0), by decide +kernel⟩,
   ⟨(l2_.getD 15 up), 3, (((l2_.getD 15 up).pktAt 3).getD p0), 5, by decide +kernel⟩,
   ⟨(l2_.getD 14 up), 3, (((l2_.getD 14 up).pktAt 3).getD p0), by decide +kernel⟩,
   ⟨(l2_.getD 22 up), 3, (((l2_.getD 22 up).pktAt 3).getD p0), [0x00#8, 0x00#8, 0x00#8, 0x00#8, 0x00#8, 0x00#8, 0x00#8, 0x00#8, 0x00#8, 0x00#8, 0xff#8, 0xff#8, 0x0a#8, 0x00#8, 0x00#8, 0x01#8, 0x00#8, 0x00#8, 0x00#8, 0x00#8, 0x00#8, 0x00#8, 0x00#8, 0x00#8, 0x00#8, 0x00#8, 0xff#8, 0xff#8, 0x0a#8, 0x00#8, 0x01#8, 0x02#8, 0x03#8, 0xe8#8, 0x07#8, 0xd0#8, 0x11#8, 0x01#8, 0x00#8, 0x00#8], by decide +kernel⟩,
   ⟨(l2_.getD 29 up), 3, (((l2_.getD 29 up).pktAt 3).getD p0), by decide +kernel⟩,
   ⟨(l2_.getD 27 up), 3, (((l2_.getD 27 up).pktAt 3).getD p0), 6, by decide +kernel⟩,
   ⟨(l2_.getD 24 up), 3, (((l2_.getD 24 up).pktAt 3).getD p0), [0x00#8, 0x00#8, 0x00#8, 0x00#8, 0x00#8, 0x00#8, 0x00#8, 0x00#8, 0x00#8, 0x00#8, 0xff#8, 0xff#8, 0x0a#8, 0x00#8, 0x00#8, 0x01#8, 0x00#8, 0x00#8, 0x00#8, 0x00#8, 0x00#8, 0x00#8, 0x00#8, 0x00#8, 0x00#8, 0x00#8, 0xff#8, 0xff#8, 0x0a#8, 0x00#8, 0x01#8, 0x02#8, 0x03#8, 0xe8#8, 0x07#8, 0xd0#8, 0x11#8, 0x01#8, 0x00#8, 0x00#8], (ce true 6), by decide +kernel⟩,
   ⟨(l2_.getD 26 up), 3, (((l2_.getD 26 up).pktAt 3).getD p0), [0x00#8, 0x00#8, 0x00#8, 0x00#8, 0x00#8, 0x00#8, 0x00#8, 0x00#8, 0x00#8, 0x00#8, 0xff#8, 0xff#8, 0x0a#8, 0x00#8, 0x00#8, 0x01#8, 0x00#8, 0x00#8, 0x00#8, 0x00#8, 0x00#8, 0x00#8, 0x00#8, 0x00#8, 0x00#8, 0x00#8, 0xff#8, 0xff#8, 0x0a#8, 0x00#8, 0x01#8, 0x02#8, 0x03#8, 0xe8#8, 0x07#8, 0xd0#8, 0x11#8, 0x01#8, 0x00#8, 0x00#8], (pc 44 1 2), by decide +kernel⟩,
   ⟨(l2_.getD 0 up), 3, (((l2_.getD 0 up).pktAt 3).getD p0), by decide +kernel⟩,
   ⟨(l2_.getD 5 up), 3, (((l2_.getD 5 up).pktAt 3).getD p0), by decide +kernel⟩,
   ⟨(l2_.getD 23 up), 3, (((l2_.getD 23 up).pktAt 3).getD p0), by decide +kernel⟩⟩
theorem witness_ResultsAreTokens :
    (∃ (s : State) (k : Nat) (p : Pkt) (c : Instr) (off : Nat), s.shapeOk = true ∧ s.pktAt k = some p ∧ (∀ (n : Nat), s.intake n = true) ∧ s.frozen = false ∧ s.pktToken k = false ∧ p.result = false ∧ s.isSet (F.ENG_ROLE_AT_SHED (p.role - 1)) = false ∧ 5 ≤ p.role ∧ p.role ≤ 8 ∧ (s.role p.role).queue.length < 4096 ∧ (c = Instr.pktClassify k ∧ (p.stage = PktStage.classify ∨ p.stage = PktStage.egress) ∨ c = Instr.flowLookup k ∧ p.stage = PktStage.flow ∨ c = Instr.routeLookup k ∧ p.stage = PktStage.route ∨ c = Instr.flowCreate k true ∧ p.stage = PktStage.await k) ∧ off ≠ A.ENG_QUEUE_PEAK (p.role - 1)) ∧
    (∃ (s : State) (k : Nat) (p : Pkt), s.shapeOk = true ∧ s.pktAt k = some p ∧ (∀ (n : Nat), s.intake n = true) ∧ s.frozen = false ∧ s.pktToken k = false ∧ p.result = false ∧ p.stage = PktStage.flow ∧ s.isSet (F.ENG_ROLE_AT_SHED (p.role - 1)) = false ∧ 5 ≤ p.role ∧ p.role ≤ 8 ∧ 4096 ≤ (s.role p.role).queue.length ∧ (s.role p.role).stopped = false ∧ (s.role p.role).stall ≠ none) ∧
    (∃ (s : State) (k : Nat) (p : Pkt), s.shapeOk = true ∧ s.pktAt k = some p ∧ (∀ (n : Nat), s.intake n = true) ∧ s.frozen = false ∧ s.pktToken k = true) :=
  ⟨⟨(l6_.getD 0 up), 3, (((l6_.getD 0 up).pktAt 3).getD p0), Sys2Proof.Instr.pktClassify 3, 3, by decide +kernel, by decide +kernel, (fun x => by trivial), by decide +kernel, by decide +kernel, by decide +kernel, by decide +kernel, by decide +kernel, by decide +kernel, by decide +kernel, by decide +kernel, by decide +kernel⟩,
   ⟨(l6_.getD 30 up), 3, (((l6_.getD 30 up).pktAt 3).getD p0), by decide +kernel, by decide +kernel, (fun x => by trivial), by decide +kernel, by decide +kernel, by decide +kernel, by decide +kernel, by decide +kernel, by decide +kernel, by decide +kernel, by decide +kernel, by decide +kernel, by decide +kernel⟩,
   ⟨(l6_.getD 10 up), 3, (((l6_.getD 10 up).pktAt 3).getD p0), by decide +kernel, by decide +kernel, (fun x => by trivial), by decide +kernel, by decide +kernel⟩⟩
theorem witness_ClassifierTables :
    (∃ (s : State) (m : Master) (v : Word) (q : Fin 4) (k : Fin 4) (e : Fin 8) (off : Nat), s.gate m (A.CLS_PROFILE (q : Nat) (k : Nat) (e : Nat)) = Gate.pass ∧ getField v 12 5 ≤ 16 ∧ getField v 8 4 + getField v 12 5 ≤ fieldLen (getField v 0 8) ∧ (List.map (fun (x : Nat × Nat × Nat) => x.snd.snd) ((s.fieldsWrite (A.CLS_PROFILE (q : Nat) (k : Nat) (e : Nat)) v).extracts (q : Nat) (k : Nat))).sum ≤ 24 ∧ off ≠ A.CLS_PROFILE (q : Nat) (k : Nat) (e : Nat)) ∧
    (∃ (s : State) (m : Master) (v : Word) (x : Fin 16384), s.gate m (A.RULE_W15 (x : Nat)) = Gate.pass ∧ (x : Nat) < s.ruleCount ∧ s.isSet (F.RULE_W15_VALID (x : Nat)) = false ∧ getField v 0 1 = 1) ∧
    (∃ (s : State) (m : Master) (v : Word) (i : Fin 256) (j : Nat), s.gate m (A.CLS_RANGE_W1 (i : Nat)) = Gate.pass ∧ (fieldLen (getField v 0 8) = 1 ∨ fieldLen (getField v 0 8) = 2) ∧ j ≠ (i : Nat)) ∧
    (∃ (s : State) (m : Master) (x : Fin 16384) (w : Fin 12) (val : Word), s.gate m (A.RULE_W15 (x : Nat)) = Gate.pass ∧ (x : Nat) < s.ruleCount ∧ s.stagedFor m 0 (x : Nat) = [(A.RULE_KEY (x : Nat) (w : Nat), val)]) ∧
    (∃ (s : State) (m : Master) (h : Fin 65536) (off : Nat), s.gate m (A.NH_W3 (h : Nat)) = Gate.pass ∧ s.stagedFor m 1 (h : Nat) = [] ∧ s.get (F.NH_W0_KIND (h : Nat)) ≠ 4 ∧ off ≠ A.NH_W3 (h : Nat)) ∧
    (∃ (s : State) (m : Master) (v : Word) (i : Fin 256), s.gate m (A.CLS_RANGE_W1 (i : Nat)) = Gate.pass ∧ fieldLen (getField v 0 8) ≠ 1 ∧ fieldLen (getField v 0 8) ≠ 2) ∧
    (∃ (s : State) (m : Master) (v : Word) (q : Fin 4) (k : Fin 4) (e : Fin 8), s.gate m (A.CLS_PROFILE (q : Nat) (k : Nat) (e : Nat)) = Gate.pass ∧ getField v 12 5 ≠ 0 ∧ fieldLen (getField v 0 8) < getField v 8 4 + getField v 12 5) ∧
    (∃ (s : State) (m : Master) (h : Fin 65536), s.gate m (A.NH_W3 (h : Nat)) = Gate.pass ∧ s.stagedFor m 1 (h : Nat) = [] ∧ s.get (F.NH_W0_KIND (h : Nat)) = 4 ∧ (getField (s.rd (A.NH_W1 (h : Nat))) 16 7 = 0 ∨ 64 < getField (s.rd (A.NH_W1 (h : Nat))) 16 7)) ∧
    (∃ (s : State) (m : Master) (x : Fin 16384) (w : Fin 15), s.gate m (6291456 + 64 * (x : Nat) + 4 * (w : Nat)) = Gate.pass ∧ (x : Nat) < s.ruleCount ∧ s.stagingOf m 0 = none) ∧
    (∃ (s : State) (m : Master) (x : Fin 16384), s.gate m (A.RULE_W15 (x : Nat)) = Gate.pass ∧ s.ruleCount ≤ (x : Nat)) ∧
    (∃ (s : State) (m : Master) (x : Fin 16384) (w : Fin 15), s.gate m (6291456 + 64 * (x : Nat) + 4 * (w : Nat)) = Gate.pass ∧ s.ruleCount ≤ (x : Nat)) :=
  ⟨⟨live, Master.pcie, 0, 0, 0, 0, 0, by decide +kernel⟩,
   ⟨live, Master.pcie, 1, 0, by decide +kernel⟩,
   ⟨live, Master.pcie, 4104#32, 0, 7, by decide +kernel⟩,
   ⟨q3_3, Master.pcie, 0, 0, 1, by decide +kernel⟩,
   ⟨live, Master.pcie, 0, 0, by decide +kernel⟩,
   ⟨live, Master.pcie, 0, 0, by decide +kernel⟩,
   ⟨live, Master.pcie, 4294967295#32, 0, 0, 0, by decide +kernel⟩,
   ⟨q3_6, Master.pcie, 7, by decide +kernel⟩,
   ⟨live, Master.pcie, 0, 0, by decide +kernel⟩,
   ⟨live, Master.pcie, 16383, by decide +kernel⟩,
   ⟨live, Master.pcie, 16383, 0, by decide +kernel⟩⟩
theorem witness_RouteCommands :
    (∃ (s : State) (m : Master) (v : Word), s.gate m A.RTE_CMD = Gate.pass ∧ s.isSet F.RTE_CMD_STATUS_BUSY = false ∧ getField v 3 8 ≤ addrBits (decide (getField v 2 1 = 1)) ∧ prefixHeld s v % 2 ^ (addrBits (decide (getField v 2 1 = 1)) - getField v 3 8) = 0 ∧ longest (List.filter (fun (r : Nat × Nat × Nat) => decide (r.snd.fst ≤ getField v 3 8) && covers (decide (getField v 2 1 = 1)) (prefixHeld s v) r) (s.routes (decide (getField v 2 1 = 1)))) = none) ∧
    (∃ (s : State) (m : Master) (v : Word) (r : Nat × Nat × Nat), s.gate m A.RTE_CMD = Gate.pass ∧ s.isSet F.RTE_CMD_STATUS_BUSY = false ∧ getField v 3 8 ≤ addrBits (decide (getField v 2 1 = 1)) ∧ prefixHeld s v % 2 ^ (addrBits (decide (getField v 2 1 = 1)) - getField v 3 8) = 0 ∧ longest (List.filter (fun (r : Nat × Nat × Nat) => decide (r.snd.fst ≤ getField v 3 8) && covers (decide (getField v 2 1 = 1)) (prefixHeld s v) r) (s.routes (decide (getField v 2 1 = 1)))) = some r) ∧
    (∃ (s : State) (m : Master) (v : Word), s.gate m A.RTE_CMD = Gate.pass ∧ s.isSet F.RTE_CMD_STATUS_BUSY = false ∧ getField v 3 8 ≤ addrBits (decide (getField v 2 1 = 1)) ∧ prefixHeld s v % 2 ^ (addrBits (decide (getField v 2 1 = 1)) - getField v 3 8) = 0 ∧ ((s.routes (decide (getField v 2 1 = 1))).any fun (r : Nat × Nat × Nat) => r.fst == prefixHeld s v && r.snd.fst == getField v 3 8) = false) ∧
    (∃ (s : State) (m : Master) (v : Word), s.gate m A.RTE_CMD = Gate.pass ∧ s.isSet F.RTE_CMD_STATUS_BUSY = false ∧ getField v 3 8 ≤ addrBits (decide (getField v 2 1 = 1)) ∧ prefixHeld s v % 2 ^ (addrBits (decide (getField v 2 1 = 1)) - getField v 3 8) = 0 ∧ ((s.routes (decide (getField v 2 1 = 1))).any fun (r : Nat × Nat × Nat) => r.fst == prefixHeld s v && r.snd.fst == getField v 3 8) = true) ∧
    (∃ (s : State) (m : Master) (v : Word), s.gate m A.RTE_CMD = Gate.pass ∧ s.isSet F.RTE_CMD_STATUS_BUSY = false ∧ getField v 3 8 ≤ addrBits (decide (getField v 2 1 = 1)) ∧ prefixHeld s v % 2 ^ (addrBits (decide (getField v 2 1 = 1)) - getField v 3 8) = 0 ∧ ((s.routes (decide (getField v 2 1 = 1))).any fun (r : Nat × Nat × Nat) => r.fst == prefixHeld s v && r.snd.fst == getField v 3 8) = false ∧ s.routeCap (decide (getField v 2 1 = 1)) ≤ (s.routes (decide (getField v 2 1 = 1))).length) ∧
    (∃ (s : State) (m : Master) (v : Word), s.gate m A.RTE_CMD = Gate.pass ∧ s.isSet F.RTE_CMD_STATUS_BUSY = false ∧ getField v 3 8 ≤ addrBits (decide (getField v 2 1 = 1)) ∧ prefixHeld s v % 2 ^ (addrBits (decide (getField v 2 1 = 1)) - getField v 3 8) = 0 ∧ ((s.routes (decide (getField v 2 1 = 1))).any fun (r : Nat × Nat × Nat) => r.fst == prefixHeld s v && r.snd.fst == getField v 3 8) = false ∧ (s.routes (decide (getField v 2 1 = 1))).length < s.routeCap (decide (getField v 2 1 = 1)) ∧ nodesUsed (decide (getField v 2 1 = 1)) (s.routes (decide (getField v 2 1 = 1)) ++ [(prefixHeld s v, getField v 3 8, getField v 16 16)]) ≤ s.nodePool (decide (getField v 2 1 = 1))) ∧
    (∃ (s : State) (m : Master) (r : Nat × Nat × Nat), s.gate m A.RTE_CMD = Gate.pass ∧ s.intake 2 = true ∧ s.frozen = false ∧ s.path.cmd = some r) ∧
    (∃ (s : State) (m : Master), s.gate m A.RTE_CMD = Gate.pass ∧ s.path.cmd = none) ∧
    (∃ (s : State) (m : Master) (v : Word), s.gate m A.RTE_CMD = Gate.pass ∧ s.isSet F.RTE_CMD_STATUS_BUSY = false ∧ ¬(getField v 3 8 ≤ addrBits (decide (getField v 2 1 = 1)) ∧ prefixHeld s v % 2 ^ (addrBits (decide (getField v 2 1 = 1)) - getField v 3 8) = 0)) ∧
    (∃ (s : State) (m : Master), s.gate m A.RTE_CMD = Gate.pass ∧ s.isSet F.RTE_CMD_STATUS_BUSY = true) :=
  ⟨⟨live, Master.pcie, vv 0 16 7, by decide +kernel⟩,
   ⟨q4_3, Master.pcie, vv 0 16 7, (168427520, 16, 6), by decide +kernel⟩,
   ⟨live, Master.pcie, vv 0 16 7, by decide +kernel⟩,
   ⟨q4_3, Master.pcie, vv 0 16 7, by decide +kernel⟩,
   ⟨q4_5, Master.pcie, vv 0 32 7, by decide +kernel⟩,
   ⟨live, Master.pcie, vv 0 16 7, by decide +kernel⟩,
   ⟨q4_8, Master.pcie, (9, 300, 70000), by decide +kernel⟩,
   ⟨live, Master.pcie, by decide +kernel⟩,
   ⟨live, Master.pcie, vv 0 33 0, by decide +kernel⟩,
   ⟨q4_10, Master.pcie, by decide +kernel⟩⟩
theorem witness_FlowCommands :
    (∃ (s : State) (m : Master), s.gate m A.FLW_CMD = Gate.pass ∧ s.intake 3 = true ∧ s.frozen = false ∧ s.flowEngineUp = true ∧ s.cacheOnly = false ∧ s.isSet F.FLW_STATUS_FLUSHING = true ∧ s.path.flushStatic = true ∧ s.dramOk = true) ∧
    (∃ (s : State) (m : Master), s.gate m A.FLW_CMD = Gate.pass ∧ s.intake 3 = true ∧ s.frozen = false ∧ s.flowEngineUp = true ∧ s.cacheOnly = false ∧ s.isSet F.FLW_STATUS_FLUSHING = false ∧ (∀ (i : Nat), i ∈ s.flowsInUse → s.flowStale i = false)) ∧
    (∃ (s : State) (m : Master) (i : Nat) (j : Nat), s.gate m A.FLW_CMD = Gate.pass ∧ s.isSet F.FLW_CMD_STATUS_BUSY = false ∧ s.cacheOnly = false ∧ s.keyTaken (keyOfWords (List.map (fun (i : Nat) => s.rd (A.FLW_DATA i)) (List.range 16))) = false ∧ s.keyTaken (keyOfWords (List.map (fun (i : Nat) => s.rd (A.FLW_DATA (16 + i))) (List.range 16))) = false ∧ s.freePlace (keyOfWords (List.map (fun (i : Nat) => s.rd (A.FLW_DATA i)) (List.range 16))) noIndex = some i ∧ s.freePlace (keyOfWords (List.map (fun (i : Nat) => s.rd (A.FLW_DATA (16 + i))) (List.range 16))) i = some j ∧ i < 33554432 ∧ j < 33554432) ∧
    (∃ (s : State) (m : Master) (t : Touch) (rest : List Touch), s.gate m A.FLW_CMD = Gate.pass ∧ s.intake 3 = true ∧ s.frozen = false ∧ s.path.touches = t :: rest ∧ s.cacheOnly = false ∧ s.flowValid t.idx = true ∧ keyOfWords (s.flowWords t.idx) = t.key) ∧
    (∃ (s : State) (m : Master) (t : Touch) (rest : List Touch), s.gate m A.FLW_CMD = Gate.pass ∧ s.intake 3 = true ∧ s.frozen = false ∧ s.path.touches = t :: rest ∧ s.flowValid t.idx = false) ∧
    (∃ (s : State) (m : Master), s.gate m A.FLW_CMD = Gate.pass ∧ s.isSet F.FLW_CMD_STATUS_BUSY = false ∧ s.cacheOnly = false ∧ (s.keyTaken (keyOfWords (List.map (fun (i : Nat) => s.rd (A.FLW_DATA i)) (List.range 16))) = true ∨ s.keyTaken (keyOfWords (List.map (fun (i : Nat) => s.rd (A.FLW_DATA (16 + i))) (List.range 16))) = true)) ∧
    (∃ (s : State) (m : Master), s.gate m A.FLW_CMD = Gate.pass ∧ s.isSet F.FLW_CMD_STATUS_BUSY = false ∧ s.cacheOnly = false ∧ s.flowValid (s.get F.FLW_CMD_INDEX_INDEX) = true) ∧
    (∃ (s : State) (m : Master), s.gate m A.FLW_CMD = Gate.pass ∧ s.isSet F.FLW_CMD_STATUS_BUSY = false ∧ s.cacheOnly = false ∧ s.flowValid (s.get F.FLW_CMD_INDEX_INDEX) = false) ∧
    (∃ (s : State) (m : Master), s.gate m A.FLW_CMD = Gate.pass ∧ s.path.touches = []) ∧
    (∃ (s : State) (m : Master), s.gate m A.FLW_CMD = Gate.pass ∧ s.isSet F.FLW_CMD_STATUS_BUSY = false) ∧
    (∃ (s : State) (m : Master), s.gate m A.FLW_CMD = Gate.pass ∧ s.isSet F.FLW_CMD_STATUS_BUSY = false ∧ s.cacheOnly = true) ∧
    (∃ (s : State) (m : Master), s.gate m A.FLW_CMD = Gate.pass ∧ s.isSet F.FLW_CMD_STATUS_BUSY = true) :=
  ⟨⟨q5_13, Master.pcie, by decide +kernel⟩,
   ⟨live, Master.pcie, by decide +kernel⟩,
   ⟨q5_4, Master.pcie, 888, 756, by decide +kernel⟩,
   ⟨q5_9, Master.pcie, T0, [{ idx := 41, key := key0, len := 1, flags := 2 }], by decide +kernel⟩,
   ⟨q5_10, Master.pcie, T0, [{ idx := 41, key := key0, len := 1, flags := 2 }], by decide +kernel⟩,
   ⟨q5_5, Master.pcie, by decide +kernel⟩,
   ⟨q5_2, Master.pcie, by decide +kernel⟩,
   ⟨live, Master.pcie, by decide +kernel⟩,
   ⟨live, Master.pcie, by decide +kernel⟩,
   ⟨live, Master.pcie, by decide +kernel⟩,
   ⟨q5_8, Master.pcie, by decide +kernel⟩,
   ⟨q5_7, Master.pcie, by decide +kernel⟩⟩
end W10

namespace W11
open Wit
def pth (f : Path → Path) (s : State := live) : State := { s with path := f s.path }
def qm (f : Que → Que) (s : State := live) : State := { s with que := f s.que }
def pk (n : Nat) (sp : Bool := false) : Pkt := { Pkt.fresh (List.replicate n 2#8) 1 with spilled := sp, id := n }
def dn (p : Pkt) (d : Dest) : Pkt := { p with stage := .done d }
def toq (l : List Pkt) (s : State := live) : State := pth (fun p => {p with toQueue := l}) s
def buf (s : State) : State := (List.range 52).foldl (fun (s : State) i => (s.wr (A.QREC_W1 (32768 + i)) 2000#32).wr (A.QREC_W0 (32768+i)) 1#32) ((s.put F.QSC_BUF_TOTAL_CELLS 4000))
def L0 : State := buf live
def qs (l : List (Nat × List Pkt)) (s : State := L0) : State := l.foldl (fun s e => s.setQue e.1 e.2) s
def sta (st : Nat) (s : State := L0) : State := ((s.put (F.STA_W0_VALID st) 1).put (F.STA_W0_LINKS st) 1).wr (A.STA_W7 st) 0xFFFFFF#32
def spl (s : State) : State := ((s.put F.QSC_SPILL_CTRL_SPILL_ON 0xFFFF).put F.QSC_SPILL_CTRL_HEAD_KEEP 0)
def Ps : List Pkt := [dn (pk 100) (.eth 1), dn (pk 300) (.host 3), dn (pk 60) (.sta 5), dn (pk 60) (.group 2 15)]
def q1_2 : State := toq [(Ps.getD 0 (pk 1))] L0
def q1_4 : State := toq [(Ps.getD 2 (pk 1))] L0
def q1_6 : State := toq [(Ps.getD 2 (pk 1))] (qm (fun q => {q with flushing := [5]}) (sta 5))
def q1_7 : State := toq [(Ps.getD 0 (pk 1))] (L0.put F.QSC_BUF_TOTAL_CELLS 0)
def q1_10 : State := toq [(Ps.getD 0 (pk 1))] ({(qs [(32776, [pk 100, pk 300 true])] L0) with que := {(qs [(32776, [pk 100, pk 300 true])] L0).que with spillGone := true}})
def q1_12 : State := toq [(Ps.getD 0 (pk 1))] (L0.wr (A.QREC_W1 32776) 10#32)
def q1_13 : State := toq [(Ps.getD 0 (pk 1))] ((qs [(32776, [pk 100, pk 300 true])] (spl (withLeg L0 [(0x56,2,16)]))))
def port (p : Nat) (s : State := L0) : State := s.put (F.ETH_STATUS_LINK p) 1
def D (k : Nat) (nm : Option Nat) (b : List Nat) : DrawReq := ⟨k, b.length, b, 0, [], 0, nm, 0⟩
def onRun (k : Nat) (s : State) : State := (List.range 3).foldl (fun s n => (s.grMod n (fun g => { g with run := some (runOf k), groupLeft := [15] })).put (F.CHN_RADIO_STATE_CHAINS n) 2) s
def strictW (s : State) : State := s.wr (A.QREC_W0 (32768 + 15)) 0x2001#32
def ring (r : Nat) (s : State) : State := ({ s with hst := {s.hst with pcieUp := true} } : State).wr (A.HDM_RING_CTRL r) (fieldWord 0 1 1 ||| fieldWord 1 4 6) |>.put (F.HDM_RING_IDX_TAIL r) 5
def staS : State := (qs [(40, [pk 100, pk 60]), (47, [pk 3])] (List.range 8 |>.foldl (fun s t => (s.wr (A.QREC_W0 (40 + t)) 1#32)) (((sta 5).put (F.QSC_RAD_DEF_RATE 0) 1000).wr (A.QREC_W0 (staNode 5)) 1#32))).put (F.RAD_GRT_CTRL_SCHED_MAX 0) 8
def l2_ : List State := [live, L0, port 1, qs [(32776, [pk 100]), (32783, [pk 300, pk 100])] (port 1), qs [(32776, [pk 100]), (32783, [pk 300, pk 100])] (strictW (port 1)), qs [(32803, [pk 100, pk 60])] (ring 19 L0), qs [(32816 + 47, [pk 100, pk 60]), (32816+15, [pk 300])] (radio.put (F.QSC_RAD_DEF_RATE 2) 1000 |>.put (F.QSC_RAD_DEF_RATE 0) 1000), staS,
   qs [(32776, [pk 100 true])] (port 1), qs [(32803, [{pk 100 with bad := true}, pk 60])] (ring 19 L0)] ++ [onRun 1 (qs [(32816 + 47, [pk 100, pk 60]), (32816+15, [pk 300])] (radio.put (F.QSC_RAD_DEF_RATE 2) 1000 |>.put (F.QSC_RAD_DEF_RATE 0) 1000)), onRun 2 staS, (onRun 2 staS).put (F.RAD_GRT_CTRL_SCHED_MAX 0) 0]
theorem witness_QueueArrivals :
    (∃ (s : State) (st : Fin 4096), s.que.flushing.contains (st : Nat) = true ∧ s.que.flushing = [(st : Nat)]) ∧
    (∃ (s : State) (p : Pkt) (d : Dest), s.intake 4 = true ∧ List.find? (fun (p : Pkt) => !s.mustWait p) s.path.toQueue = some p ∧ p.stage = PktStage.done d ∧ (∀ (st : Nat), d ≠ Dest.sta st) ∧ s.queueFor p d < 32864 ∧ pktBytes (s.que' (s.queueFor p d)) + p.bytes.length ≤ s.limit (s.queueFor p d) ∧ s.placeFor (s.queueFor p d) p = Place.drop) ∧
    (∃ (s : State) (p : Pkt) (d : Dest), s.intake 4 = true ∧ List.find? (fun (p : Pkt) => !s.mustWait p) s.path.toQueue = some p ∧ p.stage = PktStage.done d ∧ (∀ (st : Nat), d ≠ Dest.sta st) ∧ s.queueFor p d < 32864 ∧ pktBytes (s.que' (s.queueFor p d)) + p.bytes.length ≤ s.limit (s.queueFor p d) ∧ s.placeFor (s.queueFor p d) p = Place.spill) ∧
    (∃ (s : State) (p : Pkt) (d : Dest), s.intake 4 = true ∧ List.find? (fun (p : Pkt) => !s.mustWait p) s.path.toQueue = some p ∧ p.stage = PktStage.done d ∧ (∀ (st : Nat), d ≠ Dest.sta st) ∧ s.queueFor p d < 32864 ∧ pktBytes (s.que' (s.queueFor p d)) + p.bytes.length ≤ s.limit (s.queueFor p d) ∧ s.placeFor (s.queueFor p d) p = Place.chip) ∧
    (∃ (s : State) (i : Fin 32864) (p : Pkt) (rest : List Pkt), s.queueRuns (i : Nat) = true ∧ s.frozen = false ∧ List.drop (List.takeWhile (fun (x : Pkt) => !x.spilled) (s.que' (i : Nat))).length (s.que' (i : Nat)) = p :: rest ∧ pktBytes (List.takeWhile (fun (x : Pkt) => !x.spilled) (s.que' (i : Nat))) < s.headKeep ∧ cellsOf p ≤ s.cellsFree ∧ s.allocatorLost = false) ∧
    (∃ (s : State) (st : Fin 4096), s.que.flushing.contains (st : Nat) = false) ∧
    (∃ (s : State) (p : Pkt) (d : Dest), s.intake 4 = true ∧ List.find? (fun (p : Pkt) => !s.mustWait p) s.path.toQueue = some p ∧ p.stage = PktStage.done d ∧ (∀ (st : Nat), d ≠ Dest.sta st) ∧ s.queueFor p d < 32864 ∧ s.limit (s.queueFor p d) < pktBytes (s.que' (s.queueFor p d)) + p.bytes.length) ∧
    (∃ (s : State) (i : Fin 32864), ((∀ (p : Pkt), p ∈ s.que' (i : Nat) → p.spilled = false) ∨ s.queueRuns (i : Nat) = false ∨ s.frozen = true)) ∧
    (∃ (s : State) (p : Pkt) (st : Nat), s.intake 4 = true ∧ List.find? (fun (p : Pkt) => !s.mustWait p) s.path.toQueue = some p ∧ p.stage = PktStage.done (Dest.sta st) ∧ (s.staValid st = false ∨ s.que.flushing.contains st = true)) ∧
    (∃ (s : State), List.find? (fun (p : Pkt) => !s.mustWait p) s.path.toQueue = none) :=
  ⟨⟨q1_6, 5, by decide +kernel⟩,
   ⟨q1_7, dn (pk 100) (Dest.eth 1), Dest.eth 1, by decide +kernel, by decide +kernel, by decide +kernel, (fun _ h => nomatch h), by decide +kernel, by decide +kernel, by decide +kernel⟩,
   ⟨q1_13, dn (pk 100) (Dest.eth 1), Dest.eth 1, by decide +kernel, by decide +kernel, by decide +kernel, (fun _ h => nomatch h), by decide +kernel, by decide +kernel, by decide +kernel⟩,
   ⟨q1_2, dn (pk 100) (Dest.eth 1), Dest.eth 1, by decide +kernel, by decide +kernel, by decide +kernel, (fun _ h => nomatch h), by decide +kernel, by decide +kernel, by decide +kernel⟩,
   ⟨q1_10, 32776, pk 300 true, [], by decide +kernel⟩,
   ⟨live, 5, by decide +kernel⟩,
   ⟨q1_12, dn (pk 100) (Dest.eth 1), Dest.eth 1, by decide +kernel, by decide +kernel, by decide +kernel, (fun _ h => nomatch h), by decide +kernel, by decide +kernel⟩,
   ⟨live, 32776, by decide +kernel⟩,
   ⟨q1_4, dn (pk 60) (Dest.sta 5), 5, by decide +kernel⟩,
   ⟨live, by decide +kernel⟩⟩
theorem witness_Dequeues :
    (∃ (s : State) (n : Fin 3) (d : DrawReq) (st : Nat) (t : Nat) (ps : List Pkt), s.shapeOk = true ∧ d.kind = 2 ∧ s.drawFits ((n : Nat)) d = true ∧ s.qscRuns (s.qscOf (n : Nat)) = true ∧ s.shaperAllows (radioRoot (n : Nat)) = true ∧ s.drawUsers ((n : Nat)) d (s.schedRoom (n : Nat)) (List.filter (fun (x : Nat) => s.drawEligible ((n : Nat)) d x) s.stations) (List.take (min d.users (s.userMax (n : Nat))) d.budget) = [(st, t, ps)] ∧ (∀ (x : Pkt), x ∈ ps → x.bad = false) ∧ t < 8 ∧ st < 4096) ∧
    (∃ (s : State) (p : Fin 4) (c : Nat) (strict : Bool) (x : Pkt) (l : List Pkt) (i : Nat), s.shapeOk = true ∧ s.portSends (p : Nat) = true ∧ s.qscRuns (s.qscOf (3 + (p : Nat))) = true ∧ (s.flatSelect (ethRoot (p : Nat)) (32768 + 8 * (p : Nat)) 8 fun (c : Nat) => !s.paused ((p : Nat)) c) = some (c, strict) ∧ c < 8 ∧ s.que' (32768 + 8 * (p : Nat) + c) = x :: l ∧ x.bad = false ∧ s.isSet (F.ETH_MACSEC_CTRL_EN (p : Nat)) = false ∧ i ≠ 32768 + 8 * (p : Nat) + c) ∧
    (∃ (s : State) (n : Fin 3) (d : DrawReq) (t : Fin 16), s.shapeOk = true ∧ d.kind = 1 ∧ d.named = some (t : Nat) ∧ s.drawFits ((n : Nat)) d = true ∧ s.qscRuns (s.qscOf (n : Nat)) = true ∧ (s.gr (n : Nat)).groupLeft.contains (t : Nat) = true ∧ s.shaperAllows (32816 + 16 * (n : Nat) + (t : Nat)) = true ∧ fitting (s.get (F.QSC_RAD_MPDU_BYTES (n : Nat))) ((List.take (min d.users (s.userMax (n : Nat))) d.budget).headD 0 * max 1 (s.get (F.QSC_RAD_DEF_RATE (n : Nat))) / 16) (s.que' (32816 + 16 * (n : Nat) + (t : Nat))) ≠ [] ∧ (∀ (x : Pkt), x ∈ fitting (s.get (F.QSC_RAD_MPDU_BYTES (n : Nat))) ((List.take (min d.users (s.userMax (n : Nat))) d.budget).headD 0 * max 1 (s.get (F.QSC_RAD_DEF_RATE (n : Nat))) / 16) (s.que' (32816 + 16 * (n : Nat) + (t : Nat))) → x.bad = false)) ∧
    (∃ (s : State) (n : Fin 3) (d : DrawReq) (st : Nat), s.shapeOk = true ∧ s.drawFits ((n : Nat)) d = true ∧ (d.kind = 2 ∨ d.kind = 3) ∧ s.schedRoom (n : Nat) = 0 ∧ (s.gr (n : Nat)).served.contains st = false) ∧
    (∃ (s : State) (q : Nat) (strict : Bool) (x : Pkt) (l : List Pkt), s.shapeOk = true ∧ s.qscRuns (s.qscOf 7) = true ∧ (s.flatSelect hostRoot 32800 16 fun (q : Nat) => decide (0 < s.ringOwned (16 + q)) && s.isSet (F.HDM_RING_CTRL_EN (16 + q)) && !s.que.toHost.any fun (e : Nat × Pkt × Nat) => e.fst == q) = some (q, strict) ∧ q < 16 ∧ s.que' (32800 + q) = x :: l ∧ x.bad = false) ∧
    (∃ (s : State) (n : Fin 3) (d : DrawReq), s.shapeOk = true ∧ (s.drawFits ((n : Nat)) d = false ∨ s.qscRuns (s.qscOf (n : Nat)) = false)) ∧
    (∃ (s : State) (p : Fin 4), s.shapeOk = true ∧ s.headReady (32768 + 8 * (p : Nat) + 7) = true ∧ s.strict (32768 + 8 * (p : Nat) + 7) = true ∧ s.paused ((p : Nat)) 7 = false ∧ s.shaperAllows (32768 + 8 * (p : Nat) + 7) = true ∧ s.shaperAllows (ethRoot (p : Nat)) = true) ∧
    (∃ (s : State) (p : Fin 4), s.shapeOk = true ∧ (s.portSends (p : Nat) = false ∨ s.qscRuns (s.qscOf (3 + (p : Nat))) = false)) :=
  ⟨⟨(l2_.getD 11 up), 0, D 2 none [60000], 5, 0, [pk 100, pk 60], by decide +kernel⟩,
   ⟨(l2_.getD 3 up), 1, 0, false, pk 100, [], 0, by decide +kernel⟩,
   ⟨(l2_.getD 10 up), 0, D 1 (some 15) [60000], 15, by decide +kernel⟩,
   ⟨(l2_.getD 12 up), 0, D 2 none [60000], 0, by decide +kernel⟩,
   ⟨(l2_.getD 5 up), 3, false, pk 100, [pk 60], by decide +kernel⟩,
   ⟨(l2_.getD 0 up), 0, D 1 (some 15) [60000], by decide +kernel⟩,
   ⟨(l2_.getD 4 up), 1, by decide +kernel⟩,
   ⟨(l2_.getD 0 up), 1, by decide +kernel⟩⟩
end W11

namespace W12
open Wit
def pth (f : Path → Path) (s : State := live) : State := { s with path := f s.path }
def qm (f : Que → Que) (s : State := live) : State := { s with que := f s.que }
def tm (n : Nat) (s : State) : State := { s with tim := {s.tim with now := n, tclkNs := n} }
def bk (r b : Nat) (v : Bool) (t : Int) (l : Nat) : Bucket := ⟨r, b, v, t, l⟩
def mtt (w14 rule : Nat) (pol : List (Nat × Bucket)) (s : State := live) : State := qm (fun q => {q with policers := pol}) (pth (fun p => {p with inRole := [{ Pkt.fresh (List.replicate 100 3#8) 5 with id := 3, stage := .meter true 32#32 (BitVec.ofNat 32 w14) rule }]}) s)
def Sx : List State := [live, tm 5000000000 live, qm (fun q => {q with shapers := [(1, bk 100 200 true 9999999 4), (8191, bk 3 500 true (-5) 9)], policers := [(7, bk 5 400 true 50 100), (40000, bk 5 400 false 50 100)], armed := [32864, 32871, 32865]}) (tm 5000000 live),
  mtt 7 9 [(7, bk 5 400 true 50 0)], mtt 7 9 [(7, bk 5 400 true (100*65536) 0)], mtt 7 9 [(7, bk 5 400 false (100*65536) 0)], mtt 7 9 [(7, bk 2000000 400 true 0 4)] (tm 9000000 live), pth (fun p => {p with inRole := [{ Pkt.fresh (List.replicate 100 3#8) 5 with id := 3, stage := .flow}]}) live,
  live.wr (A.QREC_W0 40961) 77#32, live.wr (A.POL_W0 65535) 99#32, up] ++ [mtt 7 9 [(7, bk 5 400 true 50 0)] up] ++ [mtt 7 9 [(7, bk 5 400 true 50 0)], mtt 7 9 [(7, bk 5 400 true (100*65536) 0)], mtt 7 9 [(7, bk 5 400 false (100*65536) 0)]].map (fun s => pth (fun p => {p with inRole := p.inRole.map (fun k => {k with result := true})}) s)
def l1_ : List State := Sx
def ep (p : Nat) (f : Port → Port := id) (s : State := live) : State := { (((s.put (F.ETH_STATUS_LINK p) 1).put (F.ETH_MAXLEN_LEN p) 1522)) with ports := modAt s.ports p f }
def fcs (f : List Byte) : List Byte := f ++ leBytes 4 (crc32 f)
def fB : List Byte := fcs (List.replicate 6 0xFF#8 ++ List.replicate 6 2#8 ++ [8, 0] ++ List.replicate 50 0#8)
def fO : List Byte := fcs ([2,2,2,2,2,2] ++ List.replicate 6 2#8 ++ [8, 0] ++ List.replicate 50 0#8)
def fP (q : Nat) : List Byte := fcs ([1, 0x80#8, 0xC2#8, 0, 0, 1] ++ List.replicate 6 2#8 ++ [0x88#8, 8, 0, 1] ++ beBytes 2 q ++ List.replicate 44 0#8)
def ing (n : Nat) (p : Nat) (s : State) : State := pth (fun x => {x with ingress := [Pkt.fresh (List.replicate n 0#8) p, Pkt.fresh (List.replicate 60 0#8) 67]}) s
def pfc (en xon xoff : Nat) (s : State) : State := (((s.put (F.ETH_PFC_TX_EN 1) en).put (F.ETH_PFC_THR_XON 1) xon).put (F.ETH_PFC_THR_XOFF 1) xoff).put (F.ETH_PFC_TIME 1) 77
def pau (c : Nat) (a b : Nat) (x : Port) : Port := { x with pause := x.pause.set c (some (a, b)) }
def S2 : List State := [live, ep 1, ep 1 (fun x => {x with lost := true}), (ep 1).put (F.ETH_CTRL_PAUSE_RX 1) 1, ing 262144 1 (ep 1), tm 500 (ep 1 (pau 7 100 400)), tm 300 ((ep 1 (pau 7 100 400)).put (F.ETH_CTRL_PAUSE_RX 1) 1), tm 300 ((ep 1 (pau 7 100 400))),
  ing 3000 1 (pfc 0x81 1 2 (ep 1)), ing 3000 1 (pfc 0x81 1 2 (ep 1 (fun x => {x with above := true}))), ing 1 1 (pfc 0x81 1 2 (ep 1 (fun x => {x with above := true}))), ing 2048 1 (pfc 0x81 2 2 (ep 1 (fun x => {x with above := true}))), ing 1 1 (pfc 0x81 1 2 (ep 1 )), radio, withLeg (ep 1 (s := radio)) [(0x18,1,5),(0x19,1,5)], withLeg radio [(0x18,1,0x11),(0x19,1,0x11)], (ep 1).wr (A.ETH_CTRL 1) 0x88#32, (ep 1).put (F.ETH_MACSEC_CTRL_EN 1) 1, ing 0 1 (pfc 0 1 2 (ep 1 (fun x => {x with above := true})))] ++ [tm 50000000 (ing 3000 1 (pfc 0x81 1 2 (ep 1 (fun x => {x with above := true}))))]
def l2_ : List State := S2
def hs (f : Hst → Hst) (s : State := live) : State := { s with hst := f s.hst }
def ring (r : Nat) (tail : Nat := 5) (s : State := live) : State := (hs (fun h => {h with pcieUp := true}) s).wr (A.HDM_RING_CTRL r) (fieldWord 0 1 1 ||| fieldWord 1 4 6 ||| fieldWord 5 6 9) |>.put (F.HDM_RING_IDX_TAIL r) tail
def p9 : Pkt := Pkt.fresh (List.replicate 100 1#8) 3
def th (q k : Nat) (s : State) : State := qm (fun x => {x with toHost := [(q, p9, k)]}) s
def ev1 : EvtRec := ⟨0x123456, 7, 999, 12⟩
def fr60 : List Byte := List.replicate 12 2#8 ++ [0x88#8, 0xB5#8] ++ List.replicate 60 1#8
def q3_1 : State := ring 0
def q3_5 : State := th 15 0 (ring 31)
def q3_6 : State := th 15 1 (ring 31)
def q3_11 : State := hs (fun h => {h with evtWait := [ev1, {ev1 with bit := 3}]}) (ring 32)
def q3_14 : State := hs (fun h => {h with pcieUp := true, vecs := h.vecs.set 63 ⟨3, some 77⟩}) (((tm 80 live).wr (A.MSIX_TABLE (4*63+3)) 0#32).put (F.HDM_VEC_COUNT 63) 3)
def q3_15 : State := hs (fun h => {h with pcieUp := true, vecs := h.vecs.set 63 ⟨300, some 77⟩}) (((tm 80 live).put (F.HDM_VEC_COUNT 63) 4 ).put (F.HDM_VEC_HOLDOFF 63) 5)
theorem witness_ShapersAndPolicers :
    (∃ (s : State) (q : Fin 2) (k : Nat) (b : Bucket), s.qscRuns (q : Nat) = true ∧ kvGet s.que.shapers k = some b) ∧
    (∃ (s : State) (q : Fin 2) (p : Nat), s.qscRuns (q : Nat) = true ∧ p / 32768 ≠ (q : Nat)) ∧
    (∃ (s : State) (q : Fin 2) (p : Nat) (b : Bucket), s.qscRuns (q : Nat) = true ∧ p / 32768 = (q : Nat) ∧ kvGet s.que.policers p = some b) ∧
    (∃ (s : State) (r : Fin 8), s.que.armed.contains (32864 + (r : Nat)) = true ∧ s.shapeOk = true ∧ (s.role (9 + s.qscOf (splitBit (r : Nat)))).queue.length < 4096 ∧ (∀ (t : Token), t ∈ (s.role (9 + s.qscOf (splitBit (r : Nat)))).queue → t.timer ≠ some (32864 + (r : Nat)))) ∧
    (∃ (s : State) (m : Master) (v : Word) (i : Fin 40960) (off : Nat), s.gate m (A.QREC_W0 (i : Nat) + 4 * ↑0) = Gate.pass ∧ (i : Nat) < 32768 ∧ 1 ≤ getField v 0 13 ∧ getField v 0 13 ≤ 4096 ∧ getField v 13 1 = 0 ∧ off ≠ A.QREC_W0 (i : Nat)) ∧
    (∃ (s : State) (m : Master) (v : Word) (p : Fin 65536) (j : Nat), s.gate m (A.POL_W1 (p : Nat)) = Gate.pass ∧ getField v 24 1 = 1 ∧ 64 ≤ getField v 0 24 ∧ (s.policer (p : Nat)).valid = false ∧ j ≠ (p : Nat)) ∧
    (∃ (s : State) (k : Nat) (x : Pkt) (w14 : Word) (rule : Nat), s.pktAt k = some x ∧ x.stage = PktStage.meter true (32#32) w14 rule ∧ s.qscRuns (getField w14 0 16 / 32768) = true ∧ ResultIn s k x ∧ (s.policer (getField w14 0 16)).valid = true ∧ ((s.policer (getField w14 0 16)).refill s.usClock).tokens < ↑(x.bytes.length * 65536)) ∧
    (∃ (s : State) (k : Nat) (x : Pkt) (w14 : Word) (rule : Nat), s.pktAt k = some x ∧ x.stage = PktStage.meter true (32#32) w14 rule ∧ s.qscRuns (getField w14 0 16 / 32768) = true ∧ ResultIn s k x ∧ (s.policer (getField w14 0 16)).valid = true ∧ ↑(x.bytes.length * 65536) ≤ ((s.policer (getField w14 0 16)).refill s.usClock).tokens) ∧
    (∃ (s : State) (r : Fin 8), s.que.armed.contains (32864 + (r : Nat)) = false) ∧
    (∃ (s : State) (m : Master) (v : Word) (k : Fin 8192) (j : Nat), s.gate m (A.QREC_W1 (40960 + (k : Nat))) = Gate.pass ∧ (k : Nat) ≠ 0 ∧ 64 ≤ getField v 0 24 ∧ j ≠ (k : Nat)) ∧
    (∃ (s : State) (k : Nat) (x : Pkt) (w14 : Word) (rule : Nat), s.pktAt k = some x ∧ x.stage = PktStage.meter true (32#32) w14 rule ∧ s.qscRuns (getField w14 0 16 / 32768) = true ∧ ResultIn s k x ∧ (s.policer (getField w14 0 16)).valid = false) ∧
    (∃ (s : State) (k : Nat) (x : Pkt) (egress : Bool) (w13 : Word) (w14 : Word) (rule : Nat), s.pktAt k = some x ∧ x.stage = PktStage.meter egress w13 w14 rule ∧ s.qscRuns (getField w14 0 16 / 32768) = false) ∧
    (∃ (s : State) (q : Fin 2), s.qscRuns (q : Nat) = false) ∧
    (∃ (s : State) (m : Master) (v : Word) (k : Fin 8192), s.gate m (A.QREC_W1 (40960 + (k : Nat))) = Gate.pass ∧ (k : Nat) ≠ 0 ∧ getField v 0 24 < 64) ∧
    (∃ (s : State) (m : Master) (v : Word) (p : Fin 65536), s.gate m (A.POL_W1 (p : Nat)) = Gate.pass ∧ getField v 24 1 = 0) ∧
    (∃ (s : State) (m : Master) (v : Word) (p : Fin 65536), s.gate m (A.POL_W1 (p : Nat)) = Gate.pass ∧ getField v 24 1 = 1 ∧ getField v 0 24 < 64) ∧
    (∃ (s : State) (k : Nat) (x : Pkt), s.pktAt k = some x ∧ x.stage = PktStage.flow) ∧
    (∃ (s : State) (m : Master) (i : Fin 40960), s.gate m (A.QREC_W0 (i : Nat) + 4 * ↑0) = Gate.pass ∧ 32864 ≤ (i : Nat) ∧ (i : Nat) < 32872) ∧
    (∃ (s : State) (m : Master) (i : Fin 40960), s.gate m (A.QREC_W0 (i : Nat) + 4 * ↑0) = Gate.pass ∧ 32872 ≤ (i : Nat) ∧ (i : Nat) < 36864) ∧
    (∃ (s : State) (m : Master) (v : Word) (i : Fin 40960), s.gate m (A.QREC_W0 (i : Nat) + 4 * ↑0) = Gate.pass ∧ (i : Nat) < 32816 ∧ (getField v 0 13 = 0 ∨ 4096 < getField v 0 13)) ∧
    (∃ (s : State) (m : Master) (k : Fin 8192), s.gate m (A.QREC_W1 (40960 + (k : Nat))) = Gate.pass ∧ (k : Nat) = 0) ∧
    (∃ (s : State) (m : Master) (i : Fin 40960), s.gate m (A.QREC_W0 (i : Nat) + 4 * ↑1) = Gate.pass ∧ (i : Nat) < 32864) :=
  ⟨⟨(l1_.getD 2 up), 0, 1, bk 100 200 true 9999999 4, by decide +kernel⟩,
   ⟨(l1_.getD 0 up), 0, 40000, by decide +kernel⟩,
   ⟨(l1_.getD 2 up), 0, 7, bk 5 400 true 50 100, by decide +kernel⟩,
   ⟨(l1_.getD 2 up), 0, by decide +kernel⟩,
   ⟨(l1_.getD 0 up), Master.pcie, 1, 0, 3, by decide +kernel⟩,
   ⟨(l1_.getD 0 up), Master.pcie, 4294967295#32, 0, 3, by decide +kernel⟩,
   ⟨(l1_.getD 12 up), 3, (fun (k : Pkt) => { id := k.id, bytes := k.bytes, source := k.source, pass := k.pass, station := k.station, macsec := k.macsec, stamp := k.stamp, rcd := k.rcd, hash := k.hash, entry := k.entry, role := k.role, hostQ := k.hostQ, ecls := k.ecls, icls := k.icls, fcls := k.fcls, noFlow := k.noFlow, nat := k.nat, nexthop := k.nexthop, xlate := k.xlate, reason := k.reason, detail := k.detail, rule := k.rule, txStamp := k.txStamp, protect := k.protect, mgmt := k.mgmt, stage := k.stage, spilled := k.spilled, bad := k.bad, result := true }) (have __src := Pkt.fresh (List.replicate 100 3#8) 5; { id := 3, bytes := __src.bytes, source := __src.source, pass := __src.pass, station := __src.station, macsec := __src.macsec, stamp := __src.stamp, rcd := __src.rcd, hash := __src.hash, entry := __src.entry, role := __src.role, hostQ := __src.hostQ, ecls := __src.ecls, icls := __src.icls, fcls := __src.fcls, noFlow := __src.noFlow, nat := __src.nat, nexthop := __src.nexthop, xlate := __src.xlate, reason := __src.reason, detail := __src.detail, rule := __src.rule, txStamp := __src.txStamp, protect := __src.protect, mgmt := __src.mgmt, stage := PktStage.meter true (32#32) (7#32) 9, spilled := __src.spilled, bad := __src.bad, result := __src.result }), 7, 9, by decide +kernel⟩,
   ⟨(l1_.getD 13 up), 3, (fun (k : Pkt) => { id := k.id, bytes := k.bytes, source := k.source, pass := k.pass, station := k.station, macsec := k.macsec, stamp := k.stamp, rcd := k.rcd, hash := k.hash, entry := k.entry, role := k.role, hostQ := k.hostQ, ecls := k.ecls, icls := k.icls, fcls := k.fcls, noFlow := k.noFlow, nat := k.nat, nexthop := k.nexthop, xlate := k.xlate, reason := k.reason, detail := k.detail, rule := k.rule, txStamp := k.txStamp, protect := k.protect, mgmt := k.mgmt, stage := k.stage, spilled := k.spilled, bad := k.bad, result := true }) (have __src := Pkt.fresh (List.replicate 100 3#8) 5; { id := 3, bytes := __src.bytes, source := __src.source, pass := __src.pass, station := __src.station, macsec := __src.macsec, stamp := __src.stamp, rcd := __src.rcd, hash := __src.hash, entry := __src.entry, role := __src.role, hostQ := __src.hostQ, ecls := __src.ecls, icls := __src.icls, fcls := __src.fcls, noFlow := __src.noFlow, nat := __src.nat, nexthop := __src.nexthop, xlate := __src.xlate, reason := __src.reason, detail := __src.detail, rule := __src.rule, txStamp := __src.txStamp, protect := __src.protect, mgmt := __src.mgmt, stage := PktStage.meter true (32#32) (7#32) 9, spilled := __src.spilled, bad := __src.bad, result := __src.result }), 7, 9, by decide +kernel⟩,
   ⟨(l1_.getD 0 up), 0, by decide +kernel⟩,
   ⟨(l1_.getD 0 up), Master.pcie, 4096, 1, 3, by decide +kernel⟩,
   ⟨(l1_.getD 14 up), 3, (fun (k : Pkt) => { id := k.id, bytes := k.bytes, source := k.source, pass := k.pass, station := k.station, macsec := k.macsec, stamp := k.stamp, rcd := k.rcd, hash := k.hash, entry := k.entry, role := k.role, hostQ := k.hostQ, ecls := k.ecls, icls := k.icls, fcls := k.fcls, noFlow := k.noFlow, nat := k.nat, nexthop := k.nexthop, xlate := k.xlate, reason := k.reason, detail := k.detail, rule := k.rule, txStamp := k.txStamp, protect := k.protect, mgmt := k.mgmt, stage := k.stage, spilled := k.spilled, bad := k.bad, result := true }) (have __src := Pkt.fresh (List.replicate 100 3#8) 5; { id := 3, bytes := __src.bytes, source := __src.source, pass := __src.pass, station := __src.station, macsec := __src.macsec, stamp := __src.stamp, rcd := __src.rcd, hash := __src.hash, entry := __src.entry, role := __src.role, hostQ := __src.hostQ, ecls := __src.ecls, icls := __src.icls, fcls := __src.fcls, noFlow := __src.noFlow, nat := __src.nat, nexthop := __src.nexthop, xlate := __src.xlate, reason := __src.reason, detail := __src.detail, rule := __src.rule, txStamp := __src.txStamp, protect := __src.protect, mgmt := __src.mgmt, stage := PktStage.meter true (32#32) (7#32) 9, spilled := __src.spilled, bad := __src.bad, result := __src.result }), 7, 9, by decide +kernel⟩,
   ⟨(l1_.getD 11 up), 3, have __src := Pkt.fresh (List.replicate 100 3#8) 5; { id := 3, bytes := __src.bytes, source := __src.source, pass := __src.pass, station := __src.station, macsec := __src.macsec, stamp := __src.stamp, rcd := __src.rcd, hash := __src.hash, entry := __src.entry, role := __src.role, hostQ := __src.hostQ, ecls := __src.ecls, icls := __src.icls, fcls := __src.fcls, noFlow := __src.noFlow, nat := __src.nat, nexthop := __src.nexthop, xlate := __src.xlate, reason := __src.reason, detail := __src.detail, rule := __src.rule, txStamp := __src.txStamp, protect := __src.protect, mgmt := __src.mgmt, stage := PktStage.meter true (32#32) (7#32) 9, spilled := __src.spilled, bad := __src.bad, result := __src.result }, true, 32, 7, 9, by decide +kernel⟩,
   ⟨(l1_.getD 10 up), 0, by decide +kernel⟩,
   ⟨(l1_.getD 0 up), Master.pcie, 0, 1, by decide +kernel⟩,
   ⟨(l1_.getD 0 up), Master.pcie, 0, 0, by decide +kernel⟩,
   ⟨(l1_.getD 0 up), Master.pcie, 16777279#32, 0, by decide +kernel⟩,
   ⟨(l1_.getD 7 up), 3, have __src := Pkt.fresh (List.replicate 100 3#8) 5; { id := 3, bytes := __src.bytes, source := __src.source, pass := __src.pass, station := __src.station, macsec := __src.macsec, stamp := __src.stamp, rcd := __src.rcd, hash := __src.hash, entry := __src.entry, role := __src.role, hostQ := __src.hostQ, ecls := __src.ecls, icls := __src.icls, fcls := __src.fcls, noFlow := __src.noFlow, nat := __src.nat, nexthop := __src.nexthop, xlate := __src.xlate, reason := __src.reason, detail := __src.detail, rule := __src.rule, txStamp := __src.txStamp, protect := __src.protect, mgmt := __src.mgmt, stage := PktStage.flow, spilled := __src.spilled, bad := __src.bad, result := __src.result }, by decide +kernel⟩,
   ⟨(l1_.getD 0 up), Master.pcie, 32864, by decide +kernel⟩,
   ⟨(l1_.getD 0 up), Master.pcie, 32872, by decide +kernel⟩,
   ⟨(l1_.getD 0 up), Master.pcie, 0, 0, by decide +kernel⟩,
   ⟨(l1_.getD 0 up), Master.pcie, 0, by decide +kernel⟩,
   ⟨(l1_.getD 0 up), Master.pcie, 0, by decide +kernel⟩⟩
theorem witness_EthernetPorts :
    (∃ (s : State) (p : Fin 4) (m : Master) (v : Word), s.shapeOk = true ∧ s.gate m (A.ETH_CTRL (p : Nat)) = Gate.pass ∧ (getField v 5 2 = 0 ∨ getField v 5 2 = 1 ∧ s.portMode (p : Nat) ≤ 2 ∨ getField v 5 2 = 2 ∧ s.portMode (p : Nat) = 1) ∧ (s.rd (A.ETH_CTRL (p : Nat)) ^^^ v) &&& 248#32 ≠ 0#32) ∧
    (∃ (s : State) (p : Fin 4) (raw : List Byte), s.shapeOk = true ∧ s.linkUp (p : Nat) = true ∧ (s.port (p : Nat)).lost = false ∧ 64 ≤ raw.length ∧ raw.length ≤ s.get (F.ETH_MAXLEN_LEN (p : Nat)) ∧ leNat (List.drop (raw.length - 4) raw) = crc32 (List.take (raw.length - 4) raw) ∧ beAt (List.take (raw.length - 4) raw) 12 2 ≠ 34824 ∧ s.isSet (F.ETH_MACSEC_CTRL_EN (p : Nat)) = false ∧ s.filterPasses ((p : Nat)) (List.take 6 (List.take (raw.length - 4) raw)) = true ∧ s.isSecondary ((p : Nat)) (List.take (raw.length - 4) raw) = false ∧ s.fifoLevel (p : Nat) + (List.take (raw.length - 4) raw).length ≤ 262144) ∧
    (∃ (s : State) (p : Fin 4) (raw : List Byte), s.shapeOk = true ∧ s.linkUp (p : Nat) = true ∧ (s.port (p : Nat)).lost = false ∧ 64 ≤ raw.length ∧ raw.length ≤ s.get (F.ETH_MAXLEN_LEN (p : Nat)) ∧ leNat (List.drop (raw.length - 4) raw) = crc32 (List.take (raw.length - 4) raw) ∧ beAt (List.take (raw.length - 4) raw) 12 2 ≠ 34824 ∧ s.isSet (F.ETH_MACSEC_CTRL_EN (p : Nat)) = false ∧ s.filterPasses ((p : Nat)) (List.take 6 (List.take (raw.length - 4) raw)) = true ∧ s.isSecondary ((p : Nat)) (List.take (raw.length - 4) raw) = false ∧ 262144 < s.fifoLevel (p : Nat) + (List.take (raw.length - 4) raw).length) ∧
    (∃ (s : State) (p : Fin 4) (m : Master) (v : Word), s.shapeOk = true ∧ s.gate m (A.ETH_CTRL (p : Nat)) = Gate.pass ∧ (getField v 5 2 = 0 ∨ getField v 5 2 = 1 ∧ s.portMode (p : Nat) ≤ 2 ∨ getField v 5 2 = 2 ∧ s.portMode (p : Nat) = 1) ∧ (s.rd (A.ETH_CTRL (p : Nat)) ^^^ v) &&& 248#32 = 0#32) ∧
    (∃ (s : State) (p : Fin 4) (r : Bool), s.shapeOk = true ∧ r = true ∧ (s.linkUp (p : Nat) = true ∨ (s.port (p : Nat)).cut = true)) ∧
    (∃ (s : State) (p : Fin 4) (raw : List Byte), s.shapeOk = true ∧ s.linkUp (p : Nat) = true ∧ (s.port (p : Nat)).lost = false ∧ 64 ≤ raw.length ∧ raw.length ≤ s.get (F.ETH_MAXLEN_LEN (p : Nat)) ∧ leNat (List.drop (raw.length - 4) raw) = crc32 (List.take (raw.length - 4) raw) ∧ beAt (List.take (raw.length - 4) raw) 12 2 = 34824 ∧ beAt (List.take (raw.length - 4) raw) 14 2 = 1 ∧ s.filterPasses ((p : Nat)) (List.take 6 (List.take (raw.length - 4) raw)) = true ∧ s.isSet (F.ETH_CTRL_PAUSE_RX (p : Nat)) = true ∧ beAt (List.take (raw.length - 4) raw) 16 2 ≠ 0 ∧ (s.port (p : Nat)).pause.length = 8) ∧
    (∃ (s : State) (p : Fin 4) (raw : List Byte), s.shapeOk = true ∧ s.linkUp (p : Nat) = true ∧ (s.port (p : Nat)).lost = false ∧ 64 ≤ raw.length ∧ raw.length ≤ s.get (F.ETH_MAXLEN_LEN (p : Nat)) ∧ leNat (List.drop (raw.length - 4) raw) = crc32 (List.take (raw.length - 4) raw) ∧ beAt (List.take (raw.length - 4) raw) 12 2 ≠ 34824 ∧ s.isSet (F.ETH_MACSEC_CTRL_EN (p : Nat)) = false ∧ s.filterPasses ((p : Nat)) (List.take 6 (List.take (raw.length - 4) raw)) = false) ∧
    (∃ (s : State) (p : Fin 4) (m : Master) (v : Word), s.shapeOk = true ∧ s.gate m (A.ETH_CTRL (p : Nat)) = Gate.pass ∧ (getField v 5 2 = 3 ∨ getField v 5 2 = 2 ∧ s.portMode (p : Nat) ≠ 1 ∨ getField v 5 2 = 1 ∧ 3 ≤ s.portMode (p : Nat))) ∧
    (∃ (s : State) (p : Fin 4), s.shapeOk = true ∧ s.ballsTaken = false ∧ s.portMode (p : Nat) ≠ 0 ∧ (s.port (p : Nat)).lost = false ∧ (s.func (3 + (p : Nat))).on = true ∧ (s.func (3 + (p : Nat))).stopping = false) ∧
    (∃ (s : State) (p : Fin 4), s.shapeOk = true ∧ s.fifoLevel (p : Nat) < s.get (F.ETH_PFC_THR_XON (p : Nat)) * 1024 ∧ (s.port (p : Nat)).above = true ∧ s.get (F.ETH_PFC_TX_EN (p : Nat)) ≠ 0 ∧ s.linkUp (p : Nat) = true) ∧
    (∃ (s : State) (p : Fin 4), s.shapeOk = true ∧ (s.portMode (p : Nat) = 0 ∨ (s.port (p : Nat)).lost = true)) ∧
    (∃ (s : State) (p : Fin 4) (raw : List Byte), s.shapeOk = true ∧ s.linkUp (p : Nat) = true ∧ (s.port (p : Nat)).lost = false ∧ 64 ≤ raw.length ∧ raw.length ≤ s.get (F.ETH_MAXLEN_LEN (p : Nat)) ∧ leNat (List.drop (raw.length - 4) raw) ≠ crc32 (List.take (raw.length - 4) raw)) ∧
    (∃ (s : State) (p : Fin 4), s.shapeOk = true ∧ s.get (F.ETH_PFC_THR_XON (p : Nat)) * 1024 < s.fifoLevel (p : Nat) ∧ (s.port (p : Nat)).above = true ∧ (s.port (p : Nat)).sentAt + s.pfcHalf (p : Nat) ≤ s.tim.now ∧ s.get (F.ETH_PFC_TX_EN (p : Nat)) ≠ 0 ∧ s.linkUp (p : Nat) = true) ∧
    (∃ (s : State) (p : Fin 4), s.shapeOk = true ∧ (s.port (p : Nat)).above = false) ∧
    (∃ (s : State) (p : Fin 4) (raw : List Byte), s.shapeOk = true ∧ s.linkUp (p : Nat) = true ∧ (s.port (p : Nat)).lost = false ∧ 64 ≤ raw.length ∧ s.get (F.ETH_MAXLEN_LEN (p : Nat)) < raw.length) ∧
    (∃ (s : State) (p : Fin 4), s.shapeOk = true ∧ s.tim.now < (s.port (p : Nat)).sentAt + s.pfcHalf (p : Nat)) ∧
    (∃ (s : State) (p : Fin 4), s.shapeOk = true ∧ s.get (F.ETH_PFC_THR_XOFF (p : Nat)) * 1024 < s.fifoLevel (p : Nat) ∧ (s.port (p : Nat)).above = false ∧ s.get (F.ETH_PFC_TX_EN (p : Nat)) ≠ 0 ∧ s.linkUp (p : Nat) = true) ∧
    (∃ (s : State) (p : Fin 4) (raw : List Byte), s.shapeOk = true ∧ s.linkUp (p : Nat) = true ∧ (s.port (p : Nat)).lost = false ∧ raw.length < 64) ∧
    (∃ (s : State) (p : Fin 4), s.shapeOk = true ∧ (s.fifoLevel (p : Nat) ≤ s.get (F.ETH_PFC_THR_XOFF (p : Nat)) * 1024 ∨ (s.port (p : Nat)).above = true)) ∧
    (∃ (s : State) (p : Fin 4) (c : Fin 8) (a : Nat) (b : Nat), s.shapeOk = true ∧ (s.port (p : Nat)).pause.getD ((c : Nat)) none = some (a, b) ∧ b ≤ s.tim.now) ∧
    (∃ (s : State) (p : Fin 4) (c : Fin 8) (a : Nat) (b : Nat), s.shapeOk = true ∧ (s.port (p : Nat)).pause.getD ((c : Nat)) none = some (a, b) ∧ s.tim.now < b) ∧
    (∃ (s : State) (p : Fin 4), s.shapeOk = true ∧ (s.linkUp (p : Nat) = false ∨ (s.port (p : Nat)).lost = true)) :=
  ⟨⟨(l2_.getD 0 up), 1, Master.pcie, 0, by decide +kernel⟩,
   ⟨(l2_.getD 1 up), 1, fB, by decide +kernel⟩,
   ⟨(pth (fun x => {x with ingress := List.replicate 513 (Pkt.fresh (List.replicate 512 0#8) 1)}) (l2_.getD 1 up)), 1, fB, by decide +kernel⟩,
   ⟨(l2_.getD 16 up), 1, Master.pcie, 136#32, by decide +kernel⟩,
   ⟨(l2_.getD 1 up), 1, true, by decide +kernel⟩,
   ⟨(l2_.getD 3 up), 1, fP 4660, by decide +kernel⟩,
   ⟨(l2_.getD 1 up), 1, fO, by decide +kernel⟩,
   ⟨(l2_.getD 0 up), 1, Master.pcie, 96#32, by decide +kernel⟩,
   ⟨(l2_.getD 13 up), 1, by decide +kernel⟩,
   ⟨(l2_.getD 10 up), 1, by decide +kernel⟩,
   ⟨(l2_.getD 2 up), 1, by decide +kernel⟩,
   ⟨(l2_.getD 1 up), 1, fB ++ [0], by decide +kernel⟩,
   ⟨(l2_.getD 19 up), 1, by decide +kernel⟩,
   ⟨(l2_.getD 0 up), 1, by decide +kernel⟩,
   ⟨(l2_.getD 1 up), 1, List.replicate 1523 0#8, by decide +kernel⟩,
   ⟨(l2_.getD 0 up), 1, by decide +kernel⟩,
   ⟨(l2_.getD 8 up), 1, by decide +kernel⟩,
   ⟨(l2_.getD 1 up), 1, [], by decide +kernel⟩,
   ⟨(l2_.getD 0 up), 1, by decide +kernel⟩,
   ⟨(l2_.getD 5 up), 1, 7, 100, 400, by decide +kernel⟩,
   ⟨(l2_.getD 6 up), 1, 7, 100, 400, by decide +kernel⟩,
   ⟨(l2_.getD 0 up), 1, by decide +kernel⟩⟩
theorem witness_HostRings :
    (∃ (s : State) (w : Fin 64) (n : Nat) (t : Nat), s.hst.vecs.getD (w : Nat) { count := 0, since := none } = { count := n, since := some t } ∧ s.hst.pcieUp = true ∧ (s.get (F.HDM_VEC_COUNT (w : Nat)) ≤ n ∨ t + s.get (F.HDM_VEC_HOLDOFF (w : Nat)) * 1000 ≤ s.tim.now) ∧ s.vecMasked (w : Nat) = false) ∧
    (∃ (s : State) (w : Fin 64) (n : Nat) (t : Nat), s.hst.vecs.getD (w : Nat) { count := 0, since := none } = { count := n, since := some t } ∧ s.hst.pcieUp = true ∧ (s.get (F.HDM_VEC_COUNT (w : Nat)) ≤ n ∨ t + s.get (F.HDM_VEC_HOLDOFF (w : Nat)) * 1000 ≤ s.tim.now) ∧ s.vecMasked (w : Nat) = true) ∧
    (∃ (s : State) (w : Fin 64) (n : Nat), s.hst.vecs.getD (w : Nat) { count := 0, since := none } = { count := n, since := none }) ∧
    (∃ (s : State) (r : Fin 16) (w2 : Word) (data : Option (List Byte)) (d : List Byte), s.intake 9 = true ∧ 1 ≤ s.ringOwned (r : Nat) ∧ getField w2 14 1 = 0 ∧ data = some d ∧ getField w2 19 2 = 0 ∧ getField w2 25 1 = 0 ∧ getField w2 26 1 = 0 ∧ 14 ≤ (slice d 0 (getField w2 0 14)).length ∧ (slice d 0 (getField w2 0 14)).length ≤ 9216) ∧
    (∃ (s : State) (r : Fin 33), s.isSet (F.HDM_RING_CTRL_EN (r : Nat)) = true ∧ s.ringBegun (r : Nat) = false) ∧
    (∃ (s : State), (s.hst.evtWait = [] ∨ s.ringOwned 32 = 0)) ∧
    (∃ (s : State) (r : Fin 16) (d : Word × Word × Word × Word) (ds : List (Word × Word × Word × Word)) (b : List Byte), s.intake 9 = true ∧ frameDescs (d :: ds) = d :: ds ∧ ds.length < s.ringOwned (r : Nat) ∧ getField d.snd.snd.fst 19 2 = 0 ∧ getField d.snd.snd.fst 25 1 = 0 ∧ getField d.snd.snd.fst 26 1 = 0 ∧ 14 ≤ (slice b 0 (List.map (fun (x : Word × Word × Word × Word) => getField x.snd.snd.fst 0 14) (d :: ds)).sum).length ∧ (slice b 0 (List.map (fun (x : Word × Word × Word × Word) => getField x.snd.snd.fst 0 14) (d :: ds)).sum).length ≤ 9216) ∧
    (∃ (s : State) (m : Master) (v : Word) (r : Fin 33), s.gate m (A.HDM_RING_CTRL (r : Nat)) = Gate.pass ∧ getField v 1 4 = s.get (F.HDM_RING_CTRL_LOG2_SIZE (r : Nat)) ∧ 6 ≤ getField v 1 4 ∧ s.isSet (F.HDM_RING_CTRL_EN (r : Nat)) = true ∧ s.ringBegun (r : Nat) = false) ∧
    (∃ (s : State) (m : Master) (v : Word) (r : Fin 33), s.gate m (A.HDM_RING_CTRL (r : Nat)) = Gate.pass ∧ getField v 1 4 = s.get (F.HDM_RING_CTRL_LOG2_SIZE (r : Nat)) ∧ 6 ≤ getField v 1 4 ∧ s.isSet (F.HDM_RING_CTRL_EN (r : Nat)) = true ∧ s.ringBegun (r : Nat) = true) ∧
    (∃ (s : State) (e : EvtRec) (rest : List EvtRec), s.hst.evtWait = e :: rest ∧ s.ringOwned 32 ≠ 0) ∧
    (∃ (s : State) (q : Fin 16) (p : Pkt) (c : Word), s.intake 9 = true ∧ List.find? (fun (e : Nat × Pkt × Nat) => e.fst == (q : Nat)) s.que.toHost = some ((q : Nat), p, 0) ∧ 1 ≤ s.ringOwned (16 + (q : Nat)) ∧ p.bytes ≠ [] ∧ p.bytes.length ≤ getField c 0 14) ∧
    (∃ (s : State) (off : Nat), s.sec.sealJob = none ∧ 4063232 ≤ off ∧ off < 4194304 ∧ off ≠ A.HDM_SEC_CTRL ∧ off ≠ A.HDM_SEC_LAST_SEQ) ∧
    (∃ (s : State) (r : Fin 33), s.isSet (F.HDM_RING_CTRL_EN (r : Nat)) = false) ∧
    (∃ (s : State) (r : Fin 16) (w2 : Word) (data : Option (List Byte)) (d : List Byte), s.intake 9 = true ∧ 1 ≤ s.ringOwned (r : Nat) ∧ getField w2 14 1 = 0 ∧ data = some d ∧ (slice d 0 (getField w2 0 14)).length < 14) ∧
    (∃ (s : State) (r : Fin 16) (w2 : Word) (data : Option (List Byte)), s.intake 9 = true ∧ 1 ≤ s.ringOwned (r : Nat) ∧ getField w2 14 1 = 0 ∧ data = none) ∧
    (∃ (s : State) (off : Nat), s.sec.sealJob = none ∧ off < 4063232) ∧
    (∃ (s : State) (q : Fin 16), List.find? (fun (e : Nat × Pkt × Nat) => e.fst == (q : Nat)) s.que.toHost = none) ∧
    (∃ (s : State) (m : Master) (v : Word) (r : Fin 33), s.gate m (A.HDM_RING_CTRL (r : Nat)) = Gate.pass ∧ 6 ≤ getField v 1 4 ∧ s.isSet (F.HDM_RING_CTRL_STOPPED (r : Nat)) = true ∧ s.isSet (F.HDM_RING_CTRL_EN (r : Nat)) = false) ∧
    (∃ (s : State) (q : Nat) (p : Pkt) (k : Nat), s.sec.sealJob = none ∧ s.que.toHost = [(q, p, k)]) ∧
    (∃ (s : State) (m : Master) (v : Word) (r : Fin 33), s.gate m (A.HDM_RING_CTRL (r : Nat)) = Gate.pass ∧ 6 ≤ getField v 1 4 ∧ s.isSet (F.HDM_RING_CTRL_STOPPED (r : Nat)) = false ∧ getField v 1 4 ≠ s.get (F.HDM_RING_CTRL_LOG2_SIZE (r : Nat))) ∧
    (∃ (s : State) (r : Fin 16) (ds : List (Word × Word × Word × Word)), (frameDescs ds = [] ∨ s.ringOwned (r : Nat) < (frameDescs ds).length)) ∧
    (∃ (s : State) (m : Master) (v : Word) (r : Fin 33), s.gate m (A.HDM_RING_IDX (r : Nat)) = Gate.pass ∧ getField v 0 16 < 2 ^ s.get (F.HDM_RING_CTRL_LOG2_SIZE (r : Nat))) ∧
    (∃ (s : State) (m : Master) (v : Word) (r : Fin 33), s.gate m (A.HDM_RING_IDX (r : Nat)) = Gate.pass ∧ 2 ^ s.get (F.HDM_RING_CTRL_LOG2_SIZE (r : Nat)) ≤ getField v 0 16) ∧
    (∃ (s : State) (m : Master) (v : Word) (r : Fin 33), s.gate m (A.HDM_RING_CTRL (r : Nat)) = Gate.pass ∧ getField v 1 4 < 6) :=
  ⟨⟨q3_14, 63, 3, 77, by decide +kernel⟩,
   ⟨q3_15, 63, 300, 77, by decide +kernel⟩,
   ⟨live, 0, 0, by decide +kernel⟩,
   ⟨q3_1, 0, 511#32, some fr60, fr60, by decide +kernel⟩,
   ⟨q3_1, 0, by decide +kernel⟩,
   ⟨live, by decide +kernel⟩,
   ⟨q3_1, 0, (1, 2, 16448, 0), [(1, 2, 3, 4)], fr60, by decide +kernel⟩,
   ⟨q3_1, Master.pcie, 12#32, 0, by decide +kernel⟩,
   ⟨q3_6, Master.pcie, 12#32, 31, by decide +kernel⟩,
   ⟨q3_11, ev1, [{ off := 1193046, bit := 3, ns := 999, sec := 12 }], by decide +kernel⟩,
   ⟨q3_5, 15, p9, 511#32, by decide +kernel⟩,
   ⟨live, 4063240, by decide +kernel⟩,
   ⟨live, 0, by decide +kernel⟩,
   ⟨q3_1, 0, 0, some fr60, fr60, by decide +kernel⟩,
   ⟨q3_1, 0, 0, none, by decide +kernel⟩,
   ⟨live, 0, by decide +kernel⟩,
   ⟨live, 0, by decide +kernel⟩,
   ⟨live, Master.pcie, 12#32, 0, by decide +kernel⟩,
   ⟨q3_5, 15, p9, 0, by decide +kernel⟩,
   ⟨q3_1, Master.pcie, 511#32, 0, by decide +kernel⟩,
   ⟨live, 0, [], by decide +kernel⟩,
   ⟨live, Master.pcie, 0, 0, by decide +kernel⟩,
   ⟨live, Master.pcie, 511#32, 0, by decide +kernel⟩,
   ⟨live, Master.pcie, 0, 0, by decide +kernel⟩⟩
end W12

namespace W13
open Wit
def mm (f : Mem → Mem) (s : State := live) : State := { s with mem := f s.mem }
def pk (n : Nat) (sp : Bool := false) : Pkt := { Pkt.fresh (List.replicate n 2#8) 1 with spilled := sp, id := n }
def tm (n : Nat) (s : State) : State := { s with tim := {s.tim with now := n, tclkNs := n} }
def qs (l : List (Nat × List Pkt)) (s : State := live) : State := l.foldl (fun s e => s.setQue e.1 e.2) s
def tk : Token := ⟨none, 1, 2, none, 0, [], none, false⟩
def lines : List (Nat × BitVec 512) := [(0, 1#512), (1024, 2#512), (3*1024+5, 3#512)]
def ret (s : State) : State := let s : State := { s with eng := { s.eng with engines := s.eng.engines.map (fun e => { e with sp := lines }) } }; (mm (fun m => {m with retained := some [(1, 0), (1, 3), (12, 15)]}) s).put F.PWR_STATUS_STATE 5
def q1_2 : State := mm (fun m => {m with cellErr := [(200, 5)]}) (tm 1000 (qs [(3, [pk 100, pk 60])]))
def q1_4 : State := live.roleMod 1 (fun r => {r with queue := [tk, {tk with source := 9}]})
def q1_7 : State := ret live
def F' (s : State) : State := s.put F.DRC_STATUS_TRAINED 1
def dr (p a : Nat) (d : Option (List Byte)) (t : Nat := 0) : DReq := ⟨p, a, d, t⟩
def w64 : List Byte := List.replicate 64 9#8
def flt (l : List DReq) (s : State := F' live) : State := mm (fun m => {m with flight := l}) s
def rq (l : List DReq) (s : State := F' live) : State := mm (fun m => {m with reqs := l}) s
def big (s : State) : State := tm 10000000 s
def q2_1 : State := F' live
def q2_2 : State := live.put F.DRC_STATUS_DEBT0 4
def q2_5 : State := big (rq [dr 3 64 none, dr 0 0x10000000 none] (live.put F.DRC_STATUS_DEBT1 1))
def q2_7 : State := big (rq [dr 3 64 (some w64), dr 0 0x10000040 (some w64)])
def q2_10 : State := mm (fun m => {m with cool := [1, 1]}) (live.put F.DRC_STATUS_HOT1 1)
def q2_12 : State := big (flt [dr 3 64 none, dr 0 0x10000000 none])
def q2_13 : State := big ((flt [dr 3 64 none, dr 0 0x10000000 none]).put F.DRC_CTRL_FREEZE_EN 1)
def frz (c : Nat) (s : State) : State := (s.put F.DRC_STATUS_FROZEN 1).put F.DRC_STATUS_FREEZE_CAUSE c
def q3_1 : State := frz 1 live
def q3_3 : State := frz 2 (mm (fun m => {m with failing := some (dr 0 0x10000000 (some [3,0,0,0]))}) live)
def q3_4 : State := live.put F.DRC_STATUS_LOST0 1
def q3_6 : State := live.put F.DRC_CTRL_FREEZE_EN 1
def q3_7 : State := tm 5000 (mm (fun m => {m with alerts := [(0,4000),(0,3000),(0,1),(1,4)], rows := [((0,1,2),0),((1,3,3),9999000)]}) live)
theorem witness_MemoryErrors :
    (∃ (s : State) (banks : List (Nat × Nat)) (r : Fin 12), s.shapeOk = true ∧ s.pwr.stage = StartStage.up ∧ s.mem.retained = some banks ∧ s.pwrState = 5 ∧ s.servingRole ((r : Nat) + 1) = true ∧ s.counterproof = true) ∧
    (∃ (s : State) (banks : List (Nat × Nat)) (e : Fin 14), s.shapeOk = true ∧ s.pwr.stage = StartStage.up ∧ s.mem.retained = some banks ∧ s.pwrState = 5 ∧ s.estate (e : Nat) ≠ eServing) ∧
    (∃ (s : State) (banks : List (Nat × Nat)) (e : Fin 14), s.shapeOk = true ∧ s.pwr.stage = StartStage.up ∧ s.mem.retained = some banks ∧ s.pwrState = 5 ∧ s.estate (e : Nat) = eServing) ∧
    (∃ (s : State) (banks : List (Nat × Nat)) (r : Fin 12) (n : Fin 16), s.shapeOk = true ∧ s.pwr.stage = StartStage.up ∧ s.mem.retained = some banks ∧ s.pwrState = 5 ∧ banks.contains ((r : Nat) + 1, (n : Nat)) = true) ∧
    (∃ (s : State) (bank : Fin 256) (t : Nat), s.shapeOk = true ∧ s.pwr.stage = StartStage.up ∧ 148 ≤ (bank : Nat) ∧ kvGet s.mem.cellErr (bank : Nat) = some t ∧ s.tim.now < t + 1000000000 ∧ s.mem.fenced.contains (bank : Nat) = false) ∧
    (∃ (s : State), s.shapeOk = true ∧ s.pwr.stage = StartStage.up ∧ s.mem.retained = none) ∧
    (∃ (s : State) (bank : Fin 256), s.shapeOk = true ∧ s.pwr.stage = StartStage.up ∧ ((bank : Nat) < 148 ∨ kvGet s.mem.cellErr (bank : Nat) = none)) ∧
    (∃ (s : State) (i : Fin 49152), s.shapeOk = true ∧ s.pwr.stage = StartStage.up ∧ (i : Nat) < 40960) ∧
    (∃ (s : State) (r : Fin 12) (k : Nat) (t : Token), s.shapeOk = true ∧ s.pwr.stage = StartStage.up ∧ (s.role ((r : Nat) + 1)).queue[k]? = some t ∧ t.pkt = none) ∧
    (∃ (s : State) (page : Fin 2048), s.shapeOk = true ∧ s.pwr.stage = StartStage.up ∧ (s.plt.badPages.any fun (b : Nat × Nat) => b.fst == (page : Nat)) = false) :=
  ⟨⟨q1_7, [(1, 0), (1, 3), (12, 15)], 0, by decide +kernel⟩,
   ⟨q1_7, [(1, 0), (1, 3), (12, 15)], 12, by decide +kernel⟩,
   ⟨q1_7, [(1, 0), (1, 3), (12, 15)], 0, by decide +kernel⟩,
   ⟨q1_7, [(1, 0), (1, 3), (12, 15)], 0, 0, by decide +kernel⟩,
   ⟨q1_2, 200, 5, by decide +kernel⟩,
   ⟨live, by decide +kernel⟩,
   ⟨live, 7, by decide +kernel⟩,
   ⟨live, 0, by decide +kernel⟩,
   ⟨q1_4, 0, 0, tk, by decide +kernel⟩,
   ⟨live, 0, by decide +kernel⟩⟩
theorem witness_DramCommands :
    (∃ (s : State) (port : Fin 10) (r : DReq) (good : Bool), s.isSet F.DRC_STATUS_FROZEN = false ∧ List.find? (fun (r : DReq) => r.port == (port : Nat)) s.mem.flight = some r ∧ s.pwr.stage = StartStage.up ∧ (134217728 ≤ r.addr ∨ good = false ∨ s.lostSc (1 - s.scOf r.addr) = true) ∧ s.isSet F.DRC_CTRL_FREEZE_EN = false) ∧
    (∃ (s : State) (port : Fin 10) (r : DReq) (good : Bool), s.isSet F.DRC_STATUS_FROZEN = false ∧ List.find? (fun (r : DReq) => r.port == (port : Nat)) s.mem.flight = some r ∧ s.pwr.stage = StartStage.up ∧ (134217728 ≤ r.addr ∨ good = false ∨ s.lostSc (1 - s.scOf r.addr) = true) ∧ s.isSet F.DRC_CTRL_FREEZE_EN = true) ∧
    (∃ (s : State) (sc : Fin 2) (arrived : List DramReq) (ready : List Nat) (r : DReq) (bs : List Byte) (a : Nat), s.isSet F.DRC_STATUS_FROZEN = false ∧ s.isSet F.DRC_STATUS_TRAINED = true ∧ ({ s with mem := { s.mem with reqs := s.mem.reqs ++ List.map (fun (r : DramReq) => { port := ↑r.port, addr := r.addr / 64 * 64, data := r.data, at_ := s.tim.now }) arrived } } : State).dramChoice ((sc : Nat)) ready = some r ∧ r.data = some bs ∧ r.addr % 64 = 0 ∧ (a < r.addr ∨ r.addr + 64 ≤ a) ∧ (134217728 ≤ r.addr ∨ a < s.mirrorOf r.addr ∨ s.mirrorOf r.addr + 64 ≤ a)) ∧
    (∃ (s : State) (sc : Fin 2) (arrived : List DramReq) (ready : List Nat) (r : DReq) (bs : List Byte), s.isSet F.DRC_STATUS_FROZEN = false ∧ s.isSet F.DRC_STATUS_TRAINED = true ∧ ({ s with mem := { s.mem with reqs := s.mem.reqs ++ List.map (fun (r : DramReq) => { port := ↑r.port, addr := r.addr / 64 * 64, data := r.data, at_ := s.tim.now }) arrived } } : State).dramChoice ((sc : Nat)) ready = some r ∧ r.data = some bs ∧ r.addr % 64 = 0 ∧ r.addr < 134217728) ∧
    (∃ (s : State) (port : Fin 10) (r : DReq), s.isSet F.DRC_STATUS_FROZEN = false ∧ List.find? (fun (r : DReq) => r.port == (port : Nat)) s.mem.flight = some r ∧ s.dramTarget (port : Nat) < s.tim.now - r.at_) ∧
    (∃ (s : State) (port : Fin 10) (r : DReq), s.isSet F.DRC_STATUS_FROZEN = false ∧ List.find? (fun (r : DReq) => r.port == (port : Nat)) s.mem.flight = some r ∧ r.addr < 134217728 ∧ s.lostSc (1 - s.scOf r.addr) = false) ∧
    (∃ (s : State) (sc : Fin 2) (arrived : List DramReq) (ready : List Nat) (r : DReq), s.isSet F.DRC_STATUS_FROZEN = false ∧ s.isSet F.DRC_STATUS_TRAINED = true ∧ ({ s with mem := { s.mem with reqs := s.mem.reqs ++ List.map (fun (r : DramReq) => { port := ↑r.port, addr := r.addr / 64 * 64, data := r.data, at_ := s.tim.now }) arrived } } : State).dramChoice ((sc : Nat)) ready = some r ∧ r.data = none) ∧
    (∃ (s : State) (sc : Fin 2) (hot : Bool) (tooHot : Bool), (hot = true ∨ tooHot = true) ∧ s.isSet (hotFld (sc : Nat)) = false ∧ tooHot = true) ∧
    (∃ (s : State) (sc : Fin 2) (arrived : List DramReq) (ready : List Nat), (s.isSet F.DRC_STATUS_FROZEN = true ∨ s.isSet F.DRC_STATUS_TRAINED = false ∨ ({ s with mem := { s.mem with reqs := s.mem.reqs ++ List.map (fun (r : DramReq) => { port := ↑r.port, addr := r.addr / 64 * 64, data := r.data, at_ := s.tim.now }) arrived } } : State).dramChoice ((sc : Nat)) ready = none)) ∧
    (∃ (s : State) (port : Fin 10), (s.isSet F.DRC_STATUS_FROZEN = true ∨ List.find? (fun (r : DReq) => r.port == (port : Nat)) s.mem.flight = none)) ∧
    (∃ (s : State) (sc : Fin 2), s.mem.cool.getD ((sc : Nat)) 0 = 0) ∧
    (∃ (s : State) (sc : Fin 2), 1 ≤ s.mem.cool.getD ((sc : Nat)) 0) ∧
    (∃ (s : State) (sc : Fin 2), s.get (debtFld (sc : Nat)) < 4 ∧ s.urgentFor (sc : Nat) = false) ∧
    (∃ (s : State) (sc : Fin 2), s.get (debtFld (sc : Nat)) < 4 ∧ s.urgentFor (sc : Nat) = true) ∧
    (∃ (s : State) (sc : Fin 2), 4 ≤ s.get (debtFld (sc : Nat))) :=
  ⟨⟨q2_12, 0, dr 0 268435456 none, true, by decide +kernel⟩,
   ⟨q2_13, 0, dr 0 268435456 none, true, by decide +kernel⟩,
   ⟨q2_1, 1, (fun (a : DramReq) => [a]) { port := 0, addr := 268435520, data := some w64 }, [0], dr 0 268435520 (some w64), w64, 0, by decide +kernel⟩,
   ⟨q2_7, 1, [], [0], dr 3 64 (some w64), w64, by decide +kernel⟩,
   ⟨q2_12, 0, dr 0 268435456 none, by decide +kernel⟩,
   ⟨q2_12, 3, dr 3 64 none, by decide +kernel⟩,
   ⟨q2_1, 1, [{ port := 3, addr := 64, data := none }], [0], dr 3 64 none, by decide +kernel⟩,
   ⟨live, 0, true, true, by decide +kernel⟩,
   ⟨live, 0, [], [], by decide +kernel⟩,
   ⟨live, 0, by decide +kernel⟩,
   ⟨live, 0, by decide +kernel⟩,
   ⟨q2_10, 0, by decide +kernel⟩,
   ⟨live, 0, by decide +kernel⟩,
   ⟨q2_5, 0, by decide +kernel⟩,
   ⟨q2_2, 0, by decide +kernel⟩⟩
theorem witness_DramLosses :
    (∃ (s : State) (sc : Fin 2), s.pwr.stage = StartStage.up ∧ s.isSet F.DRC_CTRL_FREEZE_EN = false ∧ s.isSet F.DRC_STATUS_FROZEN = false ∧ (List.filter (fun (a : Nat × Nat) => a.fst == (sc : Nat) && decide (s.tim.now < a.snd + 100000)) s.mem.alerts).length < 3) ∧
    (∃ (s : State) (sc : Fin 2), s.pwr.stage = StartStage.up ∧ s.isSet F.DRC_CTRL_FREEZE_EN = false ∧ s.isSet F.DRC_STATUS_FROZEN = false ∧ 3 ≤ (List.filter (fun (a : Nat × Nat) => a.fst == (sc : Nat) && decide (s.tim.now < a.snd + 100000)) s.mem.alerts).length) ∧
    (∃ (s : State) (m : Master) (v : Word) (r : DReq), s.pwr.stage = StartStage.up ∧ s.gate m A.DRC_CTRL = Gate.pass ∧ getField v 1 1 = 1 ∧ s.isSet F.DRC_STATUS_FROZEN = true ∧ s.get F.DRC_STATUS_FREEZE_CAUSE = 2 ∧ s.mem.failing = some r ∧ r.port < 10) ∧
    (∃ (s : State) (m : Master) (v : Word), s.pwr.stage = StartStage.up ∧ s.gate m A.DRC_CTRL = Gate.pass ∧ getField v 1 1 = 1 ∧ s.isSet F.DRC_STATUS_FROZEN = true ∧ s.get F.DRC_STATUS_FREEZE_CAUSE = 1) ∧
    (∃ (s : State) (m : Master) (v : Word), s.pwr.stage = StartStage.up ∧ s.gate m A.DRC_CTRL = Gate.pass ∧ (getField v 1 1 = 0 ∨ s.isSet F.DRC_STATUS_FROZEN = false)) ∧
    (∃ (s : State), s.pwr.stage = StartStage.up ∧ s.isSet F.DRC_STATUS_FROZEN = true) ∧
    (∃ (s : State), s.pwr.stage = StartStage.up ∧ s.isSet F.DRC_CTRL_FREEZE_EN = true ∧ s.isSet F.DRC_STATUS_FROZEN = false) ∧
    (∃ (s : State) (line : Fin 268435456), s.pwr.stage = StartStage.up ∧ s.isSet F.DRC_STATUS_FROZEN = false ∧ 2097152 ≤ (line : Nat)) ∧
    (∃ (s : State), s.pwr.stage = StartStage.up ∧ s.isSet F.DRC_STATUS_FROZEN = false) ∧
    (∃ (s : State) (sc : Fin 2), s.pwr.stage = StartStage.up ∧ s.lostSc (sc : Nat) = true) ∧
    (∃ (s : State) (sc : Fin 2), s.pwr.stage = StartStage.up ∧ s.lostSc (sc : Nat) = false) :=
  ⟨⟨live, 0, by decide +kernel⟩,
   ⟨q3_7, 0, by decide +kernel⟩,
   ⟨q3_3, Master.pcie, 2, dr 0 268435456 (some [3, 0, 0, 0]), by decide +kernel⟩,
   ⟨q3_1, Master.pcie, 2, by decide +kernel⟩,
   ⟨live, Master.pcie, 0, by decide +kernel⟩,
   ⟨q3_1, by decide +kernel⟩,
   ⟨q3_6, by decide +kernel⟩,
   ⟨live, 2097152, by decide +kernel⟩,
   ⟨live, by decide +kernel⟩,
   ⟨q3_4, 0, by decide +kernel⟩,
   ⟨live, 0, by decide +kernel⟩⟩
end W13

namespace W14
open Wit
def sc (f : Sec → Sec) (s : State := live) : State := { s with sec := f s.sec }
def qm (f : Que → Que) (s : State := live) : State := { s with que := f s.que }
def tm (n : Nat) (s : State) : State := { s with tim := {s.tim with now := n, tclkNs := n} }
def pk (n : Nat) : Pkt := Pkt.fresh (List.replicate n 2#8) 1
def ks (cip : Nat) (pn : Nat) : KeySlot := { KeySlot.blank with valid := true, cipher := cip, pn := pn, radio := 1, bss := 2 }
def fn (s : State) : State := { s with pwr := { s.pwr with funcs := s.pwr.funcs.map (fun f => { f with on := true }) } }
def stg (s : State) : State := (List.range 8).foldl (fun s w => s.wr (A.KEY_STAGE w) 0x11223344#32) ((s.wr A.KEY_PN_LO 5#32).wr A.KEY_AUX 0x23FFF#32)
def k (l : List (Nat × Nat × KeySlot)) (s : State := live) : State := l.foldl (fun s e => s.setSlot e.1 e.2.1 e.2.2) s
def cmd (c i cip : Nat) : Word := BitVec.ofNat 32 (c * 8 + i * 32 + cip * 2^18 + 5 * 2^22)
def HQ (s : State) : State := qm (fun q => {q with air := [(0, 8*9, pk 5), (1, 8*10+3, pk 6), (2, 32800, pk 7)]}) (((s.put (F.STA_W2_KEY_VALID 9) 1).put (F.STA_W2_KEY 9) 77).put (F.STA_W2_KEY_VALID 10) 1)
def q1_3 : State := HQ (fn (stg (k [(0, 77, ks 1 1), (0, 0, ks 4 3), (1, 5, ks 1 1), (1, 6, {ks 3 1 with tx := true}), (1, 63, {ks 6 1 with tx := true}), (2,0, ks 11 1)])))
def q1_4 : State := fn (k [(0,0, ks 1 (2^48-1)), (0,5, ks 2 (2^48/16*15-1)), (0, 63, { ks 3 5 with exhausted := true}), (2, 0, ks 9 (2^32-1)), (2,5, ks 12 (2^64-1)), (2,63, ks 10 (2^28*15-1)), (1,0, {ks 1 (2^48-1) with near := true})])
def q1_5 : State := (let s := fn live; { s.put F.PWR_STATUS_STOPPING 1 with pwr := { (s.put F.PWR_STATUS_STOPPING 1).pwr with asked := 11 } })
def job (d : Bool) (tag : List Byte := []) : SealJob := ⟨d, [1,2], [3], 2, 3, 0x1000, tag⟩
def own (n : Nat) (s : State := fn live) : State := s.wr A.SEAL_OWNER (BitVec.ofNat 32 n)
def sl (s : State) : State := (List.range 8).foldl (fun (s : State) w => s.wr (A.SEAL_KEY w) 7#32) ((s.wr (A.SEAL_IV 0) 6#32).wr (A.SEAL_TAG 3) 5#32)
def q2_2 : State := sl (own 5)
def q2_4 : State := tm (10^8) (sl (own 5))
def q2_6 : State := sc (fun x => {x with sealJob := some (job false)}) (sl (own 5))
def q2_9 : State := sc (fun x => {x with sealJob := some (job true), sealRelease := true}) (sl (own 5))
def q2_11 : State := (let s := own 5; { s.put F.PWR_STATUS_STOPPING 1 with pwr := { (s.put F.PWR_STATUS_STOPPING 1).pwr with asked := 11 } })
def W (op slot key : Nat) : Word := BitVec.ofNat 32 (op + slot * 4 + key * 65536)
def q3_1 : State := (live.custSlotPut 0 1).custSlotPut 1 2
def q3_3 : State := live.put F.KEY_FUSE_STATUS_BUSY 1
def q3_4 : State := live.put F.PLT_ACTIVE_ROLLBACK_VALUE 9
def q3_7 : State := sc (fun x => {x with fuse := some (1, 3, List.replicate 32 7#8)})
def q3_8 : State := sc (fun x => {x with fuse := some (2, 1, [1,2,3])}) (live.custSlotPut 1 1)
def q3_9 : State := sc (fun x => {x with fuse := some (3, 0, [1,2,3])})
def q3_10 : State := live.put F.KEY_ATT_STATUS_BUSY 1
def q3_11 : State := sc (fun x => {x with signing := some (List.replicate 144 1#8)})
theorem witness_KeyCommands :
    (∃ (s : State) (m : Master) (v : Word) (j : Nat), s.gate m A.KEY_CMD = Gate.pass ∧ s.stopping 2 = false ∧ getField v 3 2 = 1 ∧ getField v 5 13 < 64 ∧ (s.slot 1 (getField v 5 13)).valid = true ∧ j < 64 ∧ j ≠ getField v 5 13 ∧ (s.slot 1 j).valid = true ∧ (s.slot 1 j).radio = (s.slot 1 (getField v 5 13)).radio ∧ (s.slot 1 j).bss = (s.slot 1 (getField v 5 13)).bss ∧ isBip (s.slot 1 j).cipher = isBip (s.slot 1 (getField v 5 13)).cipher) ∧
    (∃ (s : State) (m : Master) (v : Word) (d : Nat) (j : Nat), s.gate m A.KEY_CMD = Gate.pass ∧ s.stopping 2 = false ∧ getField v 3 2 < 3 ∧ getField v 5 13 < classSize (getField v 3 2) ∧ cipherOf (getField v 3 2) (getField v 18 4) = true ∧ d * 8192 + j ≠ getField v 3 2 * 8192 + getField v 5 13) ∧
    (∃ (s : State) (m : Master) (v : Word), s.gate m A.KEY_CMD = Gate.pass ∧ s.stopping 2 = false ∧ getField v 3 2 < 3 ∧ getField v 5 13 < classSize (getField v 3 2) ∧ getField v 3 2 = 0) ∧
    (∃ (s : State) (m : Master) (v : Word), s.gate m A.KEY_CMD = Gate.pass ∧ s.stopping 2 = false ∧ getField v 3 2 < 3 ∧ getField v 5 13 < classSize (getField v 3 2) ∧ getField v 3 2 ≠ 0) ∧
    (∃ (s : State) (m : Master) (v : Word), s.gate m A.KEY_CMD = Gate.pass ∧ s.stopping 2 = false ∧ getField v 3 2 = 1 ∧ getField v 5 13 < 64 ∧ (s.slot 1 (getField v 5 13)).valid = false) ∧
    (∃ (s : State) (m : Master) (v : Word), s.gate m A.KEY_CMD = Gate.pass ∧ s.stopping 2 = false ∧ getField v 3 2 = 0 ∧ (s.slot 0 (getField v 5 13)).valid = true) ∧
    (∃ (s : State) (m : Master) (v : Word), s.gate m A.KEY_CMD = Gate.pass ∧ s.stopping 2 = false ∧ getField v 3 2 = 1) ∧
    (∃ (s : State) (m : Master) (c : Fin 3) (i : Fin 8192), s.gate m A.KEY_CMD = Gate.pass ∧ (s.slot (c : Nat) (i : Nat)).sends = true ∧ (s.slot (c : Nat) (i : Nat)).pn < lastPn (s.slot (c : Nat) (i : Nat)).cipher ∧ (s.slot (c : Nat) (i : Nat)).near = false ∧ (s.slot (c : Nat) (i : Nat)).pn + 1 < (lastPn (s.slot (c : Nat) (i : Nat)).cipher + 1) / 16 * 15) ∧
    (∃ (s : State) (m : Master) (c : Fin 3) (i : Fin 8192), s.gate m A.KEY_CMD = Gate.pass ∧ (s.slot (c : Nat) (i : Nat)).sends = true ∧ (s.slot (c : Nat) (i : Nat)).pn < lastPn (s.slot (c : Nat) (i : Nat)).cipher ∧ (s.slot (c : Nat) (i : Nat)).near = false ∧ (lastPn (s.slot (c : Nat) (i : Nat)).cipher + 1) / 16 * 15 ≤ (s.slot (c : Nat) (i : Nat)).pn + 1) ∧
    (∃ (s : State) (m : Master) (v : Word), s.gate m A.KEY_CMD = Gate.pass ∧ s.stopping 2 = false ∧ getField v 3 2 < 3 ∧ getField v 5 13 < classSize (getField v 3 2)) ∧
    (∃ (s : State) (m : Master) (v : Word), s.gate m A.KEY_CMD = Gate.pass ∧ s.stopping 2 = false ∧ getField v 3 2 < 3 ∧ classSize (getField v 3 2) ≤ getField v 5 13) ∧
    (∃ (s : State) (m : Master) (v : Word), s.gate m A.KEY_CMD = Gate.pass ∧ s.stopping 2 = false ∧ getField v 3 2 < 3 ∧ getField v 5 13 < classSize (getField v 3 2) ∧ cipherOf (getField v 3 2) (getField v 18 4) = false) ∧
    (∃ (s : State) (m : Master) (v : Word), s.gate m A.KEY_CMD = Gate.pass ∧ s.stopping 2 = false ∧ getField v 3 2 = 3) ∧
    (∃ (s : State) (m : Master) (c : Fin 3) (i : Fin 8192), s.gate m A.KEY_CMD = Gate.pass ∧ (i : Nat) < classSize (c : Nat)) ∧
    (∃ (s : State) (m : Master) (c : Fin 3) (i : Fin 8192), s.gate m A.KEY_CMD = Gate.pass ∧ classSize (c : Nat) ≤ (i : Nat)) ∧
    (∃ (s : State) (m : Master) (c : Fin 3) (i : Fin 8192), s.gate m A.KEY_CMD = Gate.pass ∧ (s.slot (c : Nat) (i : Nat)).sends = true ∧ (s.slot (c : Nat) (i : Nat)).pn = lastPn (s.slot (c : Nat) (i : Nat)).cipher) ∧
    (∃ (s : State) (m : Master) (c : Fin 3) (i : Fin 8192), s.gate m A.KEY_CMD = Gate.pass ∧ (s.slot (c : Nat) (i : Nat)).sends = false) ∧
    (∃ (s : State) (m : Master), s.gate m A.KEY_CMD = Gate.pass ∧ s.stopping 2 = true) :=
  ⟨⟨q1_3, Master.pcie, cmd 1 5 5, 6, by decide +kernel⟩,
   ⟨live, Master.pcie, cmd 0 0 1, 0, 5, by decide +kernel⟩,
   ⟨live, Master.pcie, cmd 0 0 1, by decide +kernel⟩,
   ⟨live, Master.pcie, cmd 1 63 8, by decide +kernel⟩,
   ⟨live, Master.pcie, cmd 1 63 8, by decide +kernel⟩,
   ⟨q1_3, Master.pcie, cmd 0 0 1, by decide +kernel⟩,
   ⟨live, Master.pcie, cmd 1 63 8, by decide +kernel⟩,
   ⟨q1_3, Master.pcie, 0, 0, by decide +kernel⟩,
   ⟨q1_4, Master.pcie, 0, 5, by decide +kernel⟩,
   ⟨live, Master.pcie, cmd 0 0 1, by decide +kernel⟩,
   ⟨live, Master.pcie, cmd 1 64 8, by decide +kernel⟩,
   ⟨live, Master.pcie, cmd 2 0 8, by decide +kernel⟩,
   ⟨live, Master.pcie, cmd 3 0 0, by decide +kernel⟩,
   ⟨live, Master.pcie, 0, 0, by decide +kernel⟩,
   ⟨live, Master.pcie, 1, 64, by decide +kernel⟩,
   ⟨q1_4, Master.pcie, 0, 0, by decide +kernel⟩,
   ⟨live, Master.pcie, 0, 0, by decide +kernel⟩,
   ⟨q1_5, Master.pcie, by decide +kernel⟩⟩
theorem witness_SealEngine :
    (∃ (s : State) (j : SealJob) (aad : List Byte) (input : List Byte), s.sec.sealJob = some j ∧ s.sec.sealRelease = false ∧ j.decrypt = true ∧ (Config.gcmDecrypt j.key j.iv (slice aad 0 j.aadLen) (slice input 0 j.inLen)).snd = j.tag) ∧
    (∃ (s : State) (j : SealJob), s.sec.sealJob = some j ∧ s.sec.sealRelease = false ∧ j.decrypt = false) ∧
    (∃ (s : State) (m : Master), s.gate m A.SEAL_CMD = Gate.pass ∧ s.stopping 3 = false ∧ s.sealOn = true ∧ (s.get F.SEAL_OWNER_OWNER = 0 ∨ s.sec.sealJob ≠ none)) ∧
    (∃ (s : State) (m : Master), s.gate m A.SEAL_CMD = Gate.pass ∧ s.stopping 3 = false ∧ s.sealOn = true ∧ s.get F.SEAL_OWNER_OWNER ≠ 0 ∧ s.sec.sealJob = none) ∧
    (∃ (s : State) (m : Master) (tag : Fin 65536) (off : Nat), s.gate m A.SEAL_LOCK = Gate.pass ∧ tag ≠ 0 ∧ s.get F.SEAL_OWNER_OWNER = 0 ∧ off ≠ A.SEAL_OWNER) ∧
    (∃ (s : State) (m : Master) (tag : Fin 65536), s.gate m A.SEAL_LOCK = Gate.pass ∧ tag ≠ 0 ∧ s.get F.SEAL_OWNER_OWNER = (tag : Nat) ∧ s.sec.sealJob ≠ none) ∧
    (∃ (s : State) (j : SealJob), s.sec.sealJob = some j ∧ s.sec.sealRelease = true) ∧
    (∃ (s : State) (m : Master) (w : Fin 8), s.gate m (A.SEAL_KEY (w : Nat)) = Gate.pass) ∧
    (∃ (s : State) (m : Master) (tag : Fin 65536), s.gate m A.SEAL_LOCK = Gate.pass ∧ tag ≠ 0 ∧ s.get F.SEAL_OWNER_OWNER = (tag : Nat) ∧ s.sec.sealJob = none) ∧
    (∃ (s : State) (m : Master), s.gate m A.SEAL_CMD = Gate.pass ∧ (s.stopping 3 = true ∨ s.sealOn = false)) ∧
    (∃ (s : State) (m : Master) (tag : Fin 65536), s.gate m A.SEAL_LOCK = Gate.pass ∧ s.get F.SEAL_OWNER_OWNER ≠ (tag : Nat)) ∧
    (∃ (s : State), s.sec.sealJob = none) ∧
    (∃ (s : State) (m : Master), s.gate m A.SEAL_LOCK = Gate.pass ∧ s.get F.SEAL_OWNER_OWNER ≠ 0) ∧
    (∃ (s : State), s.get F.SEAL_OWNER_OWNER ≠ 0 ∧ s.sec.sealJob = none ∧ s.sec.sealAt + 100000000 ≤ s.tim.now) ∧
    (∃ (s : State), (s.sec.sealJob ≠ none ∨ s.tim.now < s.sec.sealAt + 100000000)) :=
  ⟨⟨(sc (fun x => {x with sealJob := some (job true ((Config.gcmDecrypt [1,2] [3] (slice [1,2,3] 0 2) (slice [1,2,3] 0 3)).2))}) (sl (own 5))), job true ((Config.gcmDecrypt [1,2] [3] (slice [1,2,3] 0 2) (slice [1,2,3] 0 3)).2), [1,2,3], [1,2,3], rfl, by decide +kernel, rfl, rfl⟩,
   ⟨q2_6, job false, by decide +kernel⟩,
   ⟨live, Master.pcie, by decide +kernel⟩,
   ⟨q2_2, Master.pcie, by decide +kernel⟩,
   ⟨live, Master.pcie, 5, 0, by decide +kernel⟩,
   ⟨q2_6, Master.pcie, 5, by decide +kernel⟩,
   ⟨q2_9, job true, by decide +kernel⟩,
   ⟨live, Master.pcie, 0, by decide +kernel⟩,
   ⟨q2_2, Master.pcie, 5, by decide +kernel⟩,
   ⟨q2_11, Master.pcie, by decide +kernel⟩,
   ⟨live, Master.pcie, 5, by decide +kernel⟩,
   ⟨live, by decide +kernel⟩,
   ⟨q2_2, Master.pcie, by decide +kernel⟩,
   ⟨q2_4, by decide +kernel⟩,
   ⟨live, by decide +kernel⟩⟩
theorem witness_FusesAndAttestation :
    (∃ (s : State) (m : Master) (v : Word), s.gate m A.KEY_FUSE_CTRL = Gate.pass ∧ s.stopping 4 = false ∧ s.isSet F.KEY_FUSE_STATUS_BUSY = false ∧ getField v 16 16 = 38464 ∧ s.get F.KEY_ROLLBACK_VALUE < 64 ∧ s.get F.KEY_ROLLBACK_VALUE + 1 ≤ s.get F.PLT_ACTIVE_ROLLBACK_VALUE) ∧
    (∃ (s : State) (m : Master) (v : Word), s.gate m A.KEY_FUSE_CTRL = Gate.pass ∧ s.stopping 4 = false ∧ s.isSet F.KEY_FUSE_STATUS_BUSY = false ∧ getField v 16 16 = 38464 ∧ (s.get F.KEY_ROLLBACK_VALUE = 64 ∨ s.get F.PLT_ACTIVE_ROLLBACK_VALUE < s.get F.KEY_ROLLBACK_VALUE + 1)) ∧
    (∃ (s : State) (m : Master) (v : Word), s.gate m A.KEY_FUSE_CTRL = Gate.pass ∧ s.stopping 4 = false ∧ s.isSet F.KEY_FUSE_STATUS_BUSY = false ∧ getField v 16 16 = 38464 ∧ (s.custSlot (getField v 2 2) ≠ 1 ∨ s.get F.PLT_ACTIVE_SIGNER_SIGNER = getField v 2 2 + 1)) ∧
    (∃ (s : State) (m : Master) (v : Word), s.gate m A.KEY_FUSE_CTRL = Gate.pass ∧ s.stopping 4 = false ∧ s.isSet F.KEY_FUSE_STATUS_BUSY = false ∧ getField v 16 16 = 38464 ∧ s.custSlot (getField v 2 2) = 1 ∧ s.get F.PLT_ACTIVE_SIGNER_SIGNER ≠ getField v 2 2 + 1) ∧
    (∃ (s : State) (m : Master), s.gate m A.KEY_ATT_CTRL = Gate.pass ∧ s.stopping 4 = false ∧ s.isSet F.KEY_ATT_STATUS_BUSY = false) ∧
    (∃ (s : State) (m : Master) (v : Word), s.gate m A.KEY_FUSE_CTRL = Gate.pass ∧ s.stopping 4 = false ∧ s.isSet F.KEY_FUSE_STATUS_BUSY = false ∧ getField v 16 16 = 38464 ∧ s.custSlot (getField v 2 2) ≠ 0) ∧
    (∃ (s : State) (m : Master), s.gate m A.KEY_ATT_CTRL = Gate.pass ∧ s.stopping 4 = false ∧ s.isSet F.KEY_ATT_STATUS_BUSY = true) ∧
    (∃ (s : State) (m : Master) (v : Word), s.gate m A.KEY_FUSE_CTRL = Gate.pass ∧ s.stopping 4 = false ∧ s.isSet F.KEY_FUSE_STATUS_BUSY = false ∧ getField v 16 16 = 38464 ∧ s.custSlot (getField v 2 2) = 0) ∧
    (∃ (s : State), s.sec.signing = none) ∧
    (∃ (s : State) (st : List Byte), s.sec.signing = some st ∧ st.length = 144) ∧
    (∃ (s : State) (m : Master) (v : Word), s.gate m A.KEY_FUSE_CTRL = Gate.pass ∧ s.stopping 4 = false ∧ s.isSet F.KEY_FUSE_STATUS_BUSY = false ∧ getField v 16 16 ≠ 38464) ∧
    (∃ (s : State), s.sec.fuse = none) ∧
    (∃ (s : State) (slot : Nat) (hash : List Byte), s.sec.fuse = some (3, slot, hash) ∧ s.get F.KEY_ROLLBACK_VALUE < 64) ∧
    (∃ (s : State) (m : Master), s.gate m A.KEY_FUSE_CTRL = Gate.pass ∧ s.stopping 4 = false ∧ s.isSet F.KEY_FUSE_STATUS_BUSY = true) ∧
    (∃ (s : State) (slot : Fin 4) (hash : List Byte), s.sec.fuse = some (2, (slot : Nat), hash)) ∧
    (∃ (s : State) (slot : Fin 4) (hash : List Byte), s.sec.fuse = some (1, (slot : Nat), hash)) :=
  ⟨⟨q3_4, Master.pcie, W 0 0 38464, by decide +kernel⟩,
   ⟨live, Master.pcie, W 0 0 38464, by decide +kernel⟩,
   ⟨live, Master.pcie, W 0 0 38464, by decide +kernel⟩,
   ⟨q3_1, Master.pcie, W 0 0 38464, by decide +kernel⟩,
   ⟨live, Master.pcie, by decide +kernel⟩,
   ⟨q3_1, Master.pcie, W 0 0 38464, by decide +kernel⟩,
   ⟨q3_10, Master.pcie, by decide +kernel⟩,
   ⟨live, Master.pcie, W 0 0 38464, by decide +kernel⟩,
   ⟨live, by decide +kernel⟩,
   ⟨q3_11, List.replicate 144 1#8, by decide +kernel⟩,
   ⟨live, Master.pcie, W 0 3 38465, by decide +kernel⟩,
   ⟨live, by decide +kernel⟩,
   ⟨q3_9, 0, [1, 2, 3], by decide +kernel⟩,
   ⟨q3_3, Master.pcie, by decide +kernel⟩,
   ⟨q3_8, 1, [1, 2, 3], by decide +kernel⟩,
   ⟨q3_7, 3, List.replicate 32 7#8, by decide +kernel⟩⟩
theorem witness_CheckUnits :
    (∃ (s : State) (m : Master) (n : Fin 4) (k : Fin 4) (j : Fin 4), s.shapeOk = true ∧ s.gate m (A.CK_CTRL (n : Nat) + 4 * (k : Nat)) = Gate.pass ∧ n ≠ 3 ∧ j ≠ n) ∧
    (∃ (s : State) (m : Master) (n : Fin 4) (size : Fin 3) (k : Fin 4), s.shapeOk = true ∧ s.gate m (A.CK_DATA8 (n : Nat) + 4 * (size : Nat)) = Gate.pass ∧ n ≠ 3 ∧ k ≠ n) ∧
    (∃ (s : State) (m : Master) (n : Fin 4), s.shapeOk = true ∧ s.gate m (A.CK_VALUE (n : Nat)) = Gate.pass ∧ n = 3) ∧
    (∃ (s : State) (m : Master) (n : Fin 4), s.shapeOk = true ∧ s.gate m (A.CK_VALUE (n : Nat)) = Gate.pass ∧ n ≠ 3) ∧
    (∃ (s : State) (m : Master) (n : Fin 4) (k : Fin 4), s.shapeOk = true ∧ s.gate m (A.CK_CTRL (n : Nat) + 4 * (k : Nat)) = Gate.pass ∧ n = 3) ∧
    (∃ (s : State) (m : Master) (n : Fin 4), s.shapeOk = true ∧ s.gate m (A.CK_CTRL (n : Nat)) = Gate.pass ∧ n ≠ 3) ∧
    (∃ (s : State) (m : Master) (n : Fin 4), s.shapeOk = true ∧ s.gate m (A.CK_RESULT (n : Nat)) = Gate.pass) ∧
    (∃ (s : State) (m : Master) (n : Fin 4), s.shapeOk = true ∧ s.gate m (A.CK_CTRL (n : Nat)) = Gate.pass ∧ n = 3) ∧
    (∃ (s : State) (m : Master) (n : Fin 4) (size : Fin 3), s.shapeOk = true ∧ s.gate m (A.CK_DATA8 (n : Nat) + 4 * (size : Nat)) = Gate.pass ∧ n = 3) :=
  ⟨⟨live, Master.pcie, 0, 0, 1, by decide +kernel⟩,
   ⟨live, Master.pcie, 0, 0, 1, by decide +kernel⟩,
   ⟨live, Master.pcie, 3, by decide +kernel⟩,
   ⟨live, Master.pcie, 0, by decide +kernel⟩,
   ⟨live, Master.pcie, 3, 0, by decide +kernel⟩,
   ⟨live, Master.pcie, 0, by decide +kernel⟩,
   ⟨live, Master.pcie, 0, by decide +kernel⟩,
   ⟨live, Master.pcie, 3, by decide +kernel⟩,
   ⟨live, Master.pcie, 3, 0, by decide +kernel⟩⟩
end W14

namespace W15
open Wit
def goodBlock : List Byte := zeroBlock
def rec9 : State := { up with upd := { up.upd with openSize := 3*4096, regionS := [(0,goodBlock),(1,goodBlock),(2,goodBlock)] } }
def withWin (s : State) (b : List Byte) : State := (indexed (leWords 1024 b)).foldl (fun (s:State) e => s.wr (A.PLT_MBX_BLOCK e.1) e.2) s
def hdr : List Byte := 
  let c := leBytes 4 0x544C5059 ++ leBytes 2 1 ++ leBytes 2 256 ++ leBytes 4 77 ++ leBytes 2 3 ++ leBytes 2 0 ++ leBytes 4 12288 ++ leBytes 4 4092 ++ leBytes 4 256 ++ leBytes 2 13 ++ leBytes 2 32 ++ leBytes 4 0x9640 ++ leBytes 2 1
  let c := c ++ List.replicate (4092 - c.length) 0#8
  c ++ leBytes 4 (crc32c c)
def SS0 : List State := [ up, up.put F.PLT_STAGE_STATE 1, (withWin (rec9.put F.PLT_STAGE_STATE 1) goodBlock).wr A.PLT_MBX_ARG 4096#32,
  (withWin ({ rec9 with upd := {rec9.upd with regionS := []}}.put F.PLT_STAGE_STATE 1) goodBlock).wr A.PLT_MBX_ARG 4096#32,
  (withWin (rec9.put F.PLT_STAGE_STATE 1) goodBlock).wr A.PLT_MBX_ARG 0#32,
  (withWin ({ rec9 with upd := {rec9.upd with regionS := []}}.put F.PLT_STAGE_STATE 1) hdr).wr A.PLT_MBX_ARG 0#32,
  (withWin ((rec9.put F.PLT_STAGE_STATE 1).put F.KEY_ROLLBACK_VALUE 5) hdr).wr A.PLT_MBX_ARG 0#32,
  (rec9.put F.PLT_STAGE_STATE 1).put F.PLT_STAGE_BLOCKS 3,
  up.put F.PLT_STAGE_STATE 3, (up.put F.PLT_STAGE_STATE 3).put F.PLT_STAGE_COPY_PENDING 1,
  { (up.put F.PLT_STAGE_STATE 3).put F.PLT_STAGE_COPY_PENDING 1 with upd := {up.upd with copying := true, inForce := some ⟨5,1,0,2,0,3,[],[],[]⟩, regionS := [(0,goodBlock),(1,goodBlock),(2,goodBlock)]}},
  up.put F.PLT_MBX_STATUS_BUSY 1, (up.put F.PWR_STATUS_STOPPING 1 : State), { (up.put F.PWR_STATUS_STOPPING 1) with pwr := {up.pwr with asked := 5}},
  up.wr A.PLT_MBX_ARG 12288#32, (up.wr A.PLT_MBX_ARG 12288#32).put F.PLT_STAGE_STATE 4, (up.wr A.PLT_MBX_ARG 12289#32),
  { up with upd := {up.upd with op := some (.openErase 3)}}, { up with upd := {up.upd with op := some (.program 0 hdr)}}, { up with upd := {up.upd with op := some (.program 2 hdr)}},
  { up with upd := {up.upd with op := some .cancel}}, { up with upd := {up.upd with op := some .record}},
  { rec9 with upd := {rec9.upd with proving := true}}, ({ rec9 with upd := {rec9.upd with proving := true}}).put F.PLT_STATUS_STATE 5,
  { up with plt := {up.plt with fromS := true}} ]
def rcC : List Byte := patch (List.replicate 512 0#8 ++ legD) [(0x1C,2,1),(256,1,1),(264,4,512),(268,4,512)]
def rcS : State := let s := (List.range 12).foldl (fun (s : State) c => s.put (F.ENG_ROLE_AT_SHED c) 1) (live.put F.PLT_STAGE_STATE 3)
  { s with upd := { s.upd with regionS := [(0, rcC)], inForce := some ⟨5,1,0,2,0,3,[],[],[]⟩ } }
def l1_ : List State := SS0 ++ [rcS, rcS.put F.ENG_RECUT_CTRL_ALLOW_SINGLE_BLANK 1]
def bad4 : List Byte := List.replicate 4096 0#8
def q2_1 : State := { up with upd := {up.upd with op := some (.openErase 3)}}
def q2_2 : State := { up with upd := {up.upd with op := some (.program 0 bad4)}}
def q2_4 : State := { up with upd := {up.upd with op := some .cancel}}
def q2_5 : State := { up with upd := {up.upd with op := some .record}}
def q2_6 : State := { up with upd := {up.upd with proving := true}}
theorem witness_MailboxCommands :
    (∃ (s : State) (m : Master), MbxReady s m ∧ s.isSet F.PLT_STAGE_COPY_PENDING = true ∧ s.upd.copying = false) ∧
    (∃ (s : State) (m : Master), MbxReady s m ∧ s.isSet F.PLT_STAGE_COPY_PENDING = true ∧ s.upd.copying = true) ∧
    (∃ (s : State) (m : Master) (c : Nat) (l : List Nat), MbxReady s m ∧ s.stage = 3 ∧ s.recutRefusal s.contentS = 0 ∧ s.moveOrder s.contentS = c :: l ∧ 1 ≤ c ∧ c ≤ 12) ∧
    (∃ (s : State) (m : Master), MbxReady s m ∧ s.isSet F.PLT_STAGE_COPY_PENDING = false) ∧
    (∃ (s : State) (m : Master), MbxReady s m ∧ s.stage ≠ 0 ∧ s.sInUse = false) ∧
    (∃ (s : State) (m : Master), MbxReady s m ∧ s.stage = 1 ∧ s.get F.PLT_STAGE_BLOCKS = s.upd.openSize / 4096) ∧
    (∃ (s : State) (m : Master), MbxReady s m ∧ s.stage = 1 ∧ s.get F.PLT_STAGE_BLOCKS ≠ s.upd.openSize / 4096) ∧
    (∃ (s : State) (m : Master), MbxReady s m ∧ s.stage = 3 ∧ s.recutRefusal s.contentS ≠ 0) ∧
    (∃ (s : State) (m : Master), MbxReady s m ∧ (s.stage = 0 ∨ s.sInUse = true)) ∧
    (∃ (s : State) (m : Master), MbxReady s m ∧ s.stage = 1 ∧ (BitVec.toNat (s.rd A.PLT_MBX_ARG) % 4096 ≠ 0 ∨ s.upd.openSize ≤ BitVec.toNat (s.rd A.PLT_MBX_ARG))) ∧
    (∃ (s : State) (m : Master), MbxReady s m ∧ (s.stage = 0 ∨ s.stage = 3 ∨ s.stage = 4) ∧ s.sInUse = false ∧ BitVec.toNat (s.rd A.PLT_MBX_ARG) % 4096 = 0 ∧ blockCountOk (BitVec.toNat (s.rd A.PLT_MBX_ARG) / 4096) = true) ∧
    (∃ (s : State) (m : Master), MbxReady s m ∧ (s.stage = 0 ∨ s.stage = 3 ∨ s.stage = 4) ∧ s.sInUse = false ∧ (BitVec.toNat (s.rd A.PLT_MBX_ARG) % 4096 ≠ 0 ∨ blockCountOk (BitVec.toNat (s.rd A.PLT_MBX_ARG) / 4096) = false)) ∧
    (∃ (s : State) (m : Master), MbxReady s m ∧ s.stage ≠ 3) ∧
    (∃ (s : State) (m : Master), MbxReady s m ∧ s.stage ≠ 1) ∧
    (∃ (s : State) (m : Master) (c : Instr), c ∈ [Instr.mbxOpen m, Instr.mbxBlock m, Instr.mbxProof m, Instr.mbxRecut m, Instr.mbxCancel m, Instr.mbxCopy m] ∧ s.gate m A.PLT_MBX_CMD = Gate.pass ∧ s.isSet F.PLT_MBX_STATUS_BUSY = false ∧ s.stopping 5 = true) ∧
    (∃ (s : State) (m : Master), MbxReady s m ∧ (s.stage = 1 ∨ s.stage = 2 ∨ s.sInUse = true)) ∧
    (∃ (s : State) (m : Master) (c : Instr), c ∈ [Instr.mbxOpen m, Instr.mbxBlock m, Instr.mbxProof m, Instr.mbxRecut m, Instr.mbxCancel m, Instr.mbxCopy m] ∧ s.gate m A.PLT_MBX_CMD = Gate.pass ∧ s.isSet F.PLT_MBX_STATUS_BUSY = true) :=
  ⟨⟨(l1_.getD 9 up), Master.pcie, by decide +kernel⟩,
   ⟨(l1_.getD 10 up), Master.pcie, by decide +kernel⟩,
   ⟨(l1_.getD 25 up), Master.pcie, 1, [2, 3, 4, 5, 6, 7, 8, 9, 10, 11, 12], by decide +kernel⟩,
   ⟨(l1_.getD 0 up), Master.pcie, by decide +kernel⟩,
   ⟨(l1_.getD 1 up), Master.pcie, by decide +kernel⟩,
   ⟨(l1_.getD 1 up), Master.pcie, by decide +kernel⟩,
   ⟨(rec9.put F.PLT_STAGE_STATE 1), Master.pcie, by decide +kernel⟩,
   ⟨(l1_.getD 8 up), Master.pcie, by decide +kernel⟩,
   ⟨(l1_.getD 0 up), Master.pcie, by decide +kernel⟩,
   ⟨(l1_.getD 1 up), Master.pcie, by decide +kernel⟩,
   ⟨(l1_.getD 14 up), Master.pcie, by decide +kernel⟩,
   ⟨(l1_.getD 0 up), Master.pcie, by decide +kernel⟩,
   ⟨(l1_.getD 0 up), Master.pcie, by decide +kernel⟩,
   ⟨(l1_.getD 0 up), Master.pcie, by decide +kernel⟩,
   ⟨(l1_.getD 13 up), Master.pcie, Instr.mbxOpen Master.pcie, by decide +kernel⟩,
   ⟨(l1_.getD 1 up), Master.pcie, by decide +kernel⟩,
   ⟨(l1_.getD 11 up), Master.pcie, Instr.mbxOpen Master.pcie, by decide +kernel⟩⟩
theorem witness_MailboxEnds :
    (∃ (s : State) (f : Nat × Nat), s.upd.proving = true ∧ s.proofCheck = some f) ∧
    (∃ (s : State), (s.upd.copying = false ∨ s.stopping 5 = true)) ∧
    (∃ (s : State), s.upd.proving = false) ∧
    (∃ (s : State), s.upd.op = some FlashOp.record) ∧
    (∃ (s : State), s.upd.op = some FlashOp.cancel) ∧
    (∃ (s : State) (i : Nat) (b : List Byte), s.upd.op = some (FlashOp.program i b)) ∧
    (∃ (s : State) (n : Nat), s.upd.op = some (FlashOp.openErase n)) ∧
    (∃ (s : State), s.upd.op = none) :=
  ⟨⟨q2_6, (3, 0), by decide +kernel⟩,
   ⟨up, by decide +kernel⟩,
   ⟨up, by decide +kernel⟩,
   ⟨q2_5, by decide +kernel⟩,
   ⟨q2_4, by decide +kernel⟩,
   ⟨q2_2, 0, bad4, by decide +kernel⟩,
   ⟨q2_1, 3, by decide +kernel⟩,
   ⟨up, by decide +kernel⟩⟩
def winOf (s : State) (ws : List Word) (u : Word) : State :=
  ((indexed ws).foldl (fun (s : State) e => s.wr (A.PLT_MBX_BLOCK e.1) e.2) s).wr (A.PLT_MBX_BLOCK 1023) u
def hd : List Byte :=
  leBytes 4 0x544C5059 ++ leBytes 2 1 ++ leBytes 2 256 ++ leBytes 4 77 ++ leBytes 2 3 ++ leBytes 2 0 ++ leBytes 4 12288 ++ leBytes 4 4092 ++ leBytes 4 256 ++ leBytes 2 13 ++
    leBytes 2 32 ++ leBytes 4 0x9640 ++ leBytes 2 1 ++ [0, 0]
def hdBlock : List Byte := padded hd 990604406
theorem hd_ok : blockOk hdBlock = true := by
  rw [hdBlock, padded_ok hd (crcRun 0x1EDC6F41 hd 0xFFFFFFFF) _ 990604406 _ (by decide) rfl (by decide +kernel) rfl (by decide +kernel) (by decide)]; rfl
def wa : State := (winOf (rec9.put F.PLT_STAGE_STATE 1) [] 2805094510#32).wr A.PLT_MBX_ARG 4096#32
def wb : State := (winOf (({ rec9 with upd := { rec9.upd with regionS := [] } } : State).put F.PLT_STAGE_STATE 1) [] 2805094510#32).wr A.PLT_MBX_ARG 4096#32
def wc : State := (winOf ((rec9.put F.PLT_STAGE_STATE 1).put F.KEY_ROLLBACK_VALUE 5) (leWords 10 hd) 990604406#32).wr A.PLT_MBX_ARG 0#32
def wd : State := (winOf (rec9.put F.PLT_STAGE_STATE 1) [] 2805094510#32).wr A.PLT_MBX_ARG 0#32
def we : State := rec9.put F.PLT_STAGE_STATE 1
theorem wa_win : wa.mbxWindow = zeroBlock := window_padded wa 0 [] _ (by decide) (by decide +kernel) (by decide +kernel) rfl (by decide +kernel)
theorem wb_win : wb.mbxWindow = zeroBlock := window_padded wb 0 [] _ (by decide) (by decide +kernel) (by decide +kernel) rfl (by decide +kernel)
theorem wc_win : wc.mbxWindow = hdBlock := window_padded wc 10 hd _ (by decide) (by decide +kernel) (by decide +kernel) rfl (by decide +kernel)
theorem wd_win : wd.mbxWindow = zeroBlock := window_padded wd 0 [] _ (by decide) (by decide +kernel) (by decide +kernel) rfl (by decide +kernel)
theorem we_win : we.mbxWindow = padded [] 0 := window_padded we 0 [] _ (by decide) (by decide +kernel) (by decide +kernel) rfl (by decide +kernel)
theorem witness_MailboxBlockAgain : ∃ (s : State) (m : Master) (x : List Byte), MbxReady s m ∧ s.stage = 1 ∧ BitVec.toNat (s.rd A.PLT_MBX_ARG) % 4096 = 0 ∧ BitVec.toNat (s.rd A.PLT_MBX_ARG) < s.upd.openSize ∧ blockOk s.mbxWindow = true ∧ (if BitVec.toNat (s.rd A.PLT_MBX_ARG) / 4096 = 0 then headerCheck (List.take 4092 s.mbxWindow) (s.get F.GLB_ID_REVISION) (s.upd.openSize / 4096) else none) = none ∧ (BitVec.toNat (s.rd A.PLT_MBX_ARG) / 4096 = 0 → s.get F.KEY_ROLLBACK_VALUE ≤ leAt s.mbxWindow 12 2) ∧ kvGet s.upd.regionS (BitVec.toNat (s.rd A.PLT_MBX_ARG) / 4096) = some x :=
  ⟨wa, Master.pcie, zeroBlock, by decide +kernel, by decide +kernel, by decide +kernel, by decide +kernel, by rw [wa_win]; exact zeroBlock_ok,
    if_neg (by decide +kernel), fun h => absurd h (by decide +kernel), by rw [show (wa.rd A.PLT_MBX_ARG).toNat / 4096 = 1 by decide +kernel]; rfl⟩
theorem witness_MailboxBlockNew : ∃ (s : State) (m : Master), MbxReady s m ∧ s.stage = 1 ∧ BitVec.toNat (s.rd A.PLT_MBX_ARG) % 4096 = 0 ∧ BitVec.toNat (s.rd A.PLT_MBX_ARG) < s.upd.openSize ∧ blockOk s.mbxWindow = true ∧ (if BitVec.toNat (s.rd A.PLT_MBX_ARG) / 4096 = 0 then headerCheck (List.take 4092 s.mbxWindow) (s.get F.GLB_ID_REVISION) (s.upd.openSize / 4096) else none) = none ∧ (BitVec.toNat (s.rd A.PLT_MBX_ARG) / 4096 = 0 → s.get F.KEY_ROLLBACK_VALUE ≤ leAt s.mbxWindow 12 2) ∧ kvGet s.upd.regionS (BitVec.toNat (s.rd A.PLT_MBX_ARG) / 4096) = none :=
  ⟨wb, Master.pcie, by decide +kernel, by decide +kernel, by decide +kernel, by decide +kernel, by rw [wb_win]; exact zeroBlock_ok,
    if_neg (by decide +kernel), fun h => absurd h (by decide +kernel), by decide +kernel⟩
theorem witness_MailboxBlockRollback : ∃ (s : State) (m : Master), MbxReady s m ∧ s.stage = 1 ∧ BitVec.toNat (s.rd A.PLT_MBX_ARG) % 4096 = 0 ∧ BitVec.toNat (s.rd A.PLT_MBX_ARG) < s.upd.openSize ∧ blockOk s.mbxWindow = true ∧ (if BitVec.toNat (s.rd A.PLT_MBX_ARG) / 4096 = 0 then headerCheck (List.take 4092 s.mbxWindow) (s.get F.GLB_ID_REVISION) (s.upd.openSize / 4096) else none) = none ∧ BitVec.toNat (s.rd A.PLT_MBX_ARG) / 4096 = 0 ∧ leAt s.mbxWindow 12 2 < s.get F.KEY_ROLLBACK_VALUE :=
  ⟨wc, Master.pcie, by decide +kernel, by decide +kernel, by decide +kernel, by decide +kernel, by rw [wc_win]; exact hd_ok,
    by rw [wc_win, if_pos (by decide +kernel)]; decide +kernel, by decide +kernel, by rw [wc_win]; decide +kernel⟩
theorem witness_MailboxBlockHeader : ∃ (s : State) (m : Master) (f : Nat × Nat), MbxReady s m ∧ s.stage = 1 ∧ BitVec.toNat (s.rd A.PLT_MBX_ARG) % 4096 = 0 ∧ BitVec.toNat (s.rd A.PLT_MBX_ARG) < s.upd.openSize ∧ blockOk s.mbxWindow = true ∧ (if BitVec.toNat (s.rd A.PLT_MBX_ARG) / 4096 = 0 then headerCheck (List.take 4092 s.mbxWindow) (s.get F.GLB_ID_REVISION) (s.upd.openSize / 4096) else none) = some f :=
  ⟨wd, Master.pcie, (2, 0), by decide +kernel, by decide +kernel, by decide +kernel, by decide +kernel, by rw [wd_win]; exact zeroBlock_ok,
    by rw [wd_win, if_pos (by decide +kernel)]; decide +kernel⟩
theorem witness_MailboxBlockBad : ∃ (s : State) (m : Master), MbxReady s m ∧ s.stage = 1 ∧ BitVec.toNat (s.rd A.PLT_MBX_ARG) % 4096 = 0 ∧ BitVec.toNat (s.rd A.PLT_MBX_ARG) < s.upd.openSize ∧ blockOk s.mbxWindow = false :=
  ⟨we, Master.pcie, by decide +kernel, by decide +kernel, by decide +kernel, by decide +kernel, by rw [we_win, zeros_ok _ (by decide)]; rfl⟩
def copying : State :=
  { (up.put F.PLT_STAGE_STATE 3).put F.PLT_STAGE_COPY_PENDING 1 with upd := { up.upd with copying := true, inForce := some ⟨5,1,7,2,0,1,[],[9],[]⟩, regionS := [(0, zeroBlock)] } }
theorem copying_ok : ∀ (i : Nat), i < copying.bootRec.sBlocks → blockOk ((regionBlocks copying.upd.regionS copying.bootRec.sBlocks).getD i []) = true := by
  intro i hi
  have h0 : i = 0 := by
    have : copying.bootRec.sBlocks = 1 := rfl
    omega
  subst h0
  exact zeroBlock_ok
theorem witness_MailboxCopyTorn : ∃ (s : State) (i : Nat), s.upd.copying = true ∧ s.stopping 5 = false ∧ (∀ (i : Nat), i < s.bootRec.sBlocks → blockOk ((regionBlocks s.upd.regionS s.bootRec.sBlocks).getD i []) = true) ∧ i < s.bootRec.sBlocks := ⟨copying, 0, rfl, by decide +kernel, copying_ok, by decide⟩
theorem witness_MailboxCopyWhole : ∃ (s : State) (b : Nat), s.upd.copying = true ∧ s.stopping 5 = false ∧ (∀ (i : Nat), i < s.bootRec.sBlocks → blockOk ((regionBlocks s.upd.regionS s.bootRec.sBlocks).getD i []) = true) ∧ b < s.bootRec.sBlocks := ⟨copying, 0, rfl, by decide +kernel, copying_ok, by decide⟩
end W15

namespace W16
open Wit
def hm (f : Hst → Hst) (s : State) : State := { s with hst := f s.hst }
def pm (f : Pwr → Pwr) (s : State) : State := { s with pwr := f s.pwr }
def st (n tgt asked : Nat) (s : State := radio) : State := pm (fun p => {p with asked := asked}) ((((s.put F.PWR_STATUS_STATE n).put F.PWR_STATUS_TARGET tgt)).put F.PWR_STATUS_STOPPING (if n = 1 ∨ n = 2 then 1 else 0))
def en (v : Nat) (s : State) : State := s.wr A.PWR_WAKE_EN (BitVec.ofNat 32 v)
def ok (s : State) : State := (s.put F.PWR_CLK_STATUS_XO32K_OK 1)
def q1_1 : State := ok radio
def q1_3 : State := (ok radio).put F.DRC_STATUS_FROZEN 1
def q1_5 : State := { ok radio with eng := { radio.eng with running := some (⟨0, .takeover, 2, 3, 4⟩, 3) } }
def q1_7 : State := (ok radio).put F.PLT_STATUS_STATE 3
def q1_8 : State := st 1 2 3
def q1_9 : State := st 2 2 11
def q1_13 : State := (ok radio).put F.ENG_RECUT_STATUS_PHASE 1
def wk : List State := [st 1 1 1, st 1 2 1, st 1 2 1 (pm (fun p => {p with noHost := true}) radio), st 1 2 3, st 1 2 3 { radio with sec := { radio.sec with sealJob := some ⟨true, [], [], 0, 0, 0, []⟩ } }, st 1 3 9, st 1 3 9 (radio.roleMod 2 (fun r => {r with queue := [⟨none, 1, 2, none, 0, [], none, false⟩]})), st 1 2 10, st 1 2 10 (radio.put F.DRC_STATUS_DEBT1 2), st 1 1 6, st 1 1 1 { radio with que := { radio.que with toHost := [(3, Pkt.fresh [1,2,3] 4, 1)] } }, st 2 1 11, st 2 1 11 (en 0xFF radio), st 2 2 11 (en 4 (radio.put F.CAL_STATUS_ALARM 1)), st 2 1 11 (en 0x10 (hm (fun h => {h with held := [(.pcie, 0, none)]}) radio)), st 3 1 0, st 3 2 0, st 3 3 0, st 4 1 0 (en 0xFF radio), st 5 1 0, st 5 2 0]
def l2_ : List State := wk
def sl (n : Nat) (s : State) : State := (List.range 3).foldl (fun s i => s.setRadio i n) s
def w2 : List State := [st 3 1 0, st 3 2 0, st 3 2 0 (sl 1 radio), st 3 2 0 ({radio with tim := {radio.tim with carried := true}}), st 3 3 0 (en 0xAB radio), pm (fun p => {p with stage := .off, offWake := 0xFF}) live, pm (fun p => {p with stage := .off, offWake := 4}) (live.put F.CAL_STATUS_ALARM 1), pm (fun p => {p with stage := .off, offWake := 0}) (live.put F.CAL_STATUS_ALARM 1),
  st 4 1 0 (en 0xFF radio), st 4 2 0 (pm (fun p => {p with edges := [6,7]}) (en 0x20 radio)), st 4 2 0 radio, st 1 1 4 (en 1 radio), st 5 1 0, st 5 2 0, st 5 2 0 (sl 1 ({ radio with mem := { radio.mem with retained := some [(1,0)] }, tim := {radio.tim with tclkOn := true}})), st 5 2 0 { radio with que := { radio.que with toHost := [(3, Pkt.fresh [1,2,3] 4, 1)] } }, st 5 2 0 (pm (fun p => {p with heldFunc := some 0#32}) radio), st 5 1 0 (pm (fun p => {p with heldFunc := some 0#32}) radio), radio]
def later (n : Nat) (s : State) : State := { s with tim := { s.tim with now := s.pwr.wakeAt + n } }
def l3_ : List State := w2 ++ w2.map (later 44000) ++ w2.map (later 2499000)
def fs (o stp sta : Bool) (l : Option Bool) : FuncState := ⟨o, sta, stp, l⟩
def fset (i : Nat) (f : FuncState) (s : State := radio) : State := pm (fun p => {p with funcs := p.funcs.set i f}) s
def q4_1 : State := fset 0 (fs true true false none)
def q4_2 : State := fset 2 (fs false false true none)
def q4_6 : State := fset 3 (fs true true false none) (radio.put (F.ETH_STATUS_LINK 0) 1)
def q4_7 : State := fset 6 (fs false false false none)
def q4_10 : State := radio.put F.PWR_STATUS_STOPPING 1
theorem witness_PowerRequests :
    (∃ (s : State) (m : Master) (off : Nat), s.gate m A.PWR_CMD = Gate.pass ∧ s.pwrState = 0 ∧ keptAtReset off = false ∧ off ≠ F.PWR_RESET_CAUSE_RESTART.off ∧ off ≠ A.PWR_CLK_STATUS) ∧
    (∃ (s : State) (m : Master), s.gate m A.PWR_CMD = Gate.pass ∧ s.recutLive = false ∧ s.eng.running = none ∧ s.eng.waiting = [] ∧ s.inService = true ∧ s.isSet F.DRC_STATUS_FROZEN = false) ∧
    (∃ (s : State) (m : Master), s.gate m A.PWR_CMD = Gate.pass ∧ s.recutLive = false ∧ s.eng.running = none ∧ s.eng.waiting = [] ∧ s.inService = true ∧ s.isSet F.DRC_STATUS_FROZEN = true) ∧
    (∃ (s : State) (m : Master), s.gate m A.PWR_CMD = Gate.pass ∧ s.pwrState ≠ 0 ∧ s.pwrState ≠ 1) ∧
    (∃ (s : State) (m : Master), s.gate m A.PWR_CMD = Gate.pass ∧ s.recutLive = false ∧ s.eng.running = none ∧ s.eng.waiting = [] ∧ s.inService = false) ∧
    (∃ (s : State) (m : Master), s.gate m A.PWR_CMD = Gate.pass ∧ s.pwrState = 1) ∧
    (∃ (s : State) (m : Master), s.gate m A.PWR_CMD = Gate.pass ∧ s.pwrState ≠ 0) ∧
    (∃ (s : State) (m : Master) (key : BitVec 16), s.gate m A.PWR_CMD = Gate.pass ∧ key ≠ 38464#16) ∧
    (∃ (s : State) (m : Master) (nh : Bool) (e : Instr × Nat), s.gate m A.PWR_CMD = Gate.pass ∧ e ∈ [(Instr.pwrSleep m, 1), (Instr.pwrDeep m nh, 2), (Instr.pwrOff m nh 38464#16, 3)] ∧ s.pwrState = 0 ∧ s.pwrRefusal ≠ 0) ∧
    (∃ (s : State) (m : Master) (nh : Bool) (e : Instr × Nat), s.gate m A.PWR_CMD = Gate.pass ∧ e ∈ [(Instr.pwrSleep m, 1), (Instr.pwrDeep m nh, 2), (Instr.pwrOff m nh 38464#16, 3)] ∧ s.pwrState = 0 ∧ s.pwrRefusal = 0) ∧
    (∃ (s : State) (m : Master), s.gate m A.PWR_CMD = Gate.pass ∧ s.recutLive = false ∧ (s.eng.running.isSome = true ∨ s.eng.waiting ≠ [])) ∧
    (∃ (s : State) (m : Master) (nh : Bool) (e : Instr × Nat), s.gate m A.PWR_CMD = Gate.pass ∧ e ∈ [(Instr.pwrSleep m, 1), (Instr.pwrDeep m nh, 2), (Instr.pwrOff m nh 38464#16, 3)] ∧ s.pwrState ≠ 0) ∧
    (∃ (s : State) (m : Master), s.gate m A.PWR_CMD = Gate.pass ∧ s.recutLive = true) :=
  ⟨⟨radio, Master.pcie, 1, by decide +kernel⟩,
   ⟨radio, Master.pcie, by decide +kernel⟩,
   ⟨q1_3, Master.pcie, by decide +kernel⟩,
   ⟨q1_9, Master.pcie, by decide +kernel⟩,
   ⟨q1_7, Master.pcie, by decide +kernel⟩,
   ⟨q1_8, Master.pcie, by decide +kernel⟩,
   ⟨q1_8, Master.pcie, by decide +kernel⟩,
   ⟨radio, Master.pcie, 38465, by decide +kernel⟩,
   ⟨radio, Master.pcie, true, (Instr.pwrSleep Master.pcie, 1), by decide +kernel⟩,
   ⟨q1_1, Master.pcie, true, (Instr.pwrSleep Master.pcie, 1), by decide +kernel⟩,
   ⟨q1_5, Master.pcie, by decide +kernel⟩,
   ⟨q1_8, Master.pcie, true, (Instr.pwrSleep Master.pcie, 1), by decide +kernel⟩,
   ⟨q1_13, Master.pcie, by decide +kernel⟩⟩
theorem witness_PowerHandshake :
    (∃ (s : State) (wakeN : Bool) (fault : Bool) (c : Nat), s.pwrState = 2 ∧ s.wakeSource (s.get F.PWR_STATUS_TARGET) wakeN fault false = some c) ∧
    (∃ (s : State), s.pwrState = 2 ∧ bit (BitVec.toNat (s.rd A.PWR_WAKE_EN)) 0 = true) ∧
    (∃ (s : State) (wakeN : Bool) (fault : Bool), s.pwrState = 2 ∧ s.wakeSource (s.get F.PWR_STATUS_TARGET) wakeN fault false = none) ∧
    (∃ (s : State), s.pwrState = 1 ∧ s.pwr.asked = 1 ∧ s.waitsD3 = true ∧ s.dmaRuns = false) ∧
    (∃ (s : State), s.pwrState ≠ 2) ∧
    (∃ (s : State), s.pwrState = 1 ∧ (s.pwr.asked ≠ 1 ∨ s.dmaRuns = true)) ∧
    (∃ (s : State), s.pwrState = 1 ∧ s.pwr.asked = 9 ∧ (s.eng.roles.any fun (r : Role) => r.queue != []) = true) ∧
    (∃ (s : State) (d3hot : Bool), s.pwrState = 1 ∧ ({ s with hst := ({ s.hst with d3hot := d3hot } : Hst) } : State).clusterDelays s.pwr.asked = false ∧ s.pwr.asked < 10) ∧
    (∃ (s : State), s.pwrState = 1 ∧ s.pwr.asked = 1 ∧ 2 ≤ s.get F.PWR_STATUS_TARGET ∧ s.pwr.noHost = false) ∧
    (∃ (s : State), s.pwrState = 1 ∧ s.pwr.asked = 3 ∧ s.sec.sealJob.isSome = true) ∧
    (∃ (s : State) (d3hot : Bool), s.pwrState = 1 ∧ ({ s with hst := ({ s.hst with d3hot := d3hot } : Hst) } : State).clusterDelays s.pwr.asked = false ∧ s.pwr.asked = 10) ∧
    (∃ (s : State) (d3hot : Bool), s.pwrState = 1 ∧ ({ s with hst := ({ s.hst with d3hot := d3hot } : Hst) } : State).clusterDelays s.pwr.asked = true) ∧
    (∃ (s : State), s.pwrState ≠ 1) :=
  ⟨⟨(l2_.getD 11 up), true, true, 1, by decide +kernel⟩,
   ⟨(l2_.getD 11 up), by decide +kernel⟩,
   ⟨(l2_.getD 11 up), false, false, by decide +kernel⟩,
   ⟨(l2_.getD 1 up), by decide +kernel⟩,
   ⟨(l2_.getD 0 up), by decide +kernel⟩,
   ⟨(l2_.getD 3 up), by decide +kernel⟩,
   ⟨(l2_.getD 6 up), by decide +kernel⟩,
   ⟨(l2_.getD 0 up), true, by decide +kernel⟩,
   ⟨(l2_.getD 1 up), by decide +kernel⟩,
   ⟨(l2_.getD 4 up), by decide +kernel⟩,
   ⟨(l2_.getD 7 up), true, by decide +kernel⟩,
   ⟨(l2_.getD 1 up), false, by decide +kernel⟩,
   ⟨(l2_.getD 11 up), by decide +kernel⟩⟩
theorem witness_PowerStates :
    (∃ (s : State) (n : Fin 3), s.pwrState = 5 ∧ s.hst.held = [] ∧ s.get F.PWR_STATUS_TARGET = 2 ∧ s.pwr.wakeAt + 2499000 ≤ s.tim.now ∧ s.rstate (n : Nat) = 1) ∧
    (∃ (s : State), s.pwrState = 3 ∧ s.get F.PWR_STATUS_TARGET = 2 ∧ s.tim.carried = false) ∧
    (∃ (s : State) (off : Nat), s.pwr.stage = StartStage.off ∧ s.isSet F.CAL_STATUS_ALARM = true ∧ bit s.pwr.offWake 2 = true ∧ keptAtReset off = false ∧ off ≠ F.PWR_RESET_CAUSE_OFF_WAKE.off ∧ off ≠ A.PWR_CLK_STATUS) ∧
    (∃ (s : State) (eng : Bool) (pkt : Bool), s.pwrState = 5 ∧ s.hst.held = [] ∧ s.get F.PWR_STATUS_TARGET = 1 ∧ s.pwr.wakeAt + 44000 ≤ s.tim.now ∧ (eng = false ∨ pkt = false)) ∧
    (∃ (s : State) (off : Nat), s.pwrState = 3 ∧ s.get F.PWR_STATUS_TARGET = 3 ∧ keptAtReset off = false ∧ off ≠ A.PWR_CLK_STATUS) ∧
    (∃ (s : State) (off : Nat), s.pwr.stage = StartStage.off ∧ bit s.pwr.offWake 0 = true ∧ keptAtReset off = false ∧ off ≠ F.PWR_RESET_CAUSE_OFF_WAKE.off ∧ off ≠ A.PWR_CLK_STATUS) ∧
    (∃ (s : State) (n : Fin 3), s.pwrState = 3 ∧ s.get F.PWR_STATUS_TARGET = 1 ∧ 2 < s.rstate (n : Nat)) ∧
    (∃ (s : State) (wakeN : Bool) (fault : Bool) (c : Nat), s.pwr.stage ≠ StartStage.off ∧ s.pwrState = 1 ∧ s.wakeSource (s.get F.PWR_STATUS_TARGET) wakeN fault false = some c) ∧
    (∃ (s : State) (wakeN : Bool) (fault : Bool), s.pwr.stage ≠ StartStage.off ∧ (s.pwrState = 0 ∨ s.pwrState = 2 ∨ s.pwrState = 3 ∨ s.pwrState = 5 ∨ s.pwrState = 4 ∧ s.wakeSource (s.get F.PWR_STATUS_TARGET) wakeN fault true = none)) ∧
    (∃ (s : State) (wakeN : Bool) (fault : Bool) (c : Nat), s.pwr.stage ≠ StartStage.off ∧ s.pwrState = 4 ∧ s.wakeSource (s.get F.PWR_STATUS_TARGET) wakeN fault true = some c) ∧
    (∃ (s : State), s.pwr.stage = StartStage.off ∧ (s.isSet F.CAL_STATUS_ALARM = false ∨ bit s.pwr.offWake 2 = false)) ∧
    (∃ (s : State), (s.pwrState ≠ 5 ∨ s.tim.now < s.pwr.wakeAt + 44000 ∨ s.get F.PWR_STATUS_TARGET = 2 ∧ s.tim.now < s.pwr.wakeAt + 2499000)) ∧
    (∃ (s : State), s.pwrState ≠ 3) :=
  ⟨⟨(l3_.getD 52 up), 0, by decide +kernel⟩,
   ⟨(l3_.getD 1 up), by decide +kernel⟩,
   ⟨(l3_.getD 6 up), 1, by decide +kernel⟩,
   ⟨(l3_.getD 31 up), true, false, by decide +kernel⟩,
   ⟨(l3_.getD 4 up), 1, by decide +kernel⟩,
   ⟨(l3_.getD 5 up), 1, by decide +kernel⟩,
   ⟨(l3_.getD 0 up), 0, by decide +kernel⟩,
   ⟨(l3_.getD 11 up), true, true, 1, by decide +kernel⟩,
   ⟨(l3_.getD 0 up), true, true, by decide +kernel⟩,
   ⟨(l3_.getD 8 up), true, true, 1, by decide +kernel⟩,
   ⟨(l3_.getD 5 up), by decide +kernel⟩,
   ⟨(l3_.getD 0 up), by decide +kernel⟩,
   ⟨(l3_.getD 5 up), by decide +kernel⟩⟩
theorem witness_PowerFunctions :
    (∃ (s : State) (m : Master) (v : Word) (i : Fin 8), s.shapeOk = true ∧ s.pwr.funcs.length = 8 ∧ s.gate m A.PWR_FUNC = Gate.pass ∧ s.isSet F.PWR_STATUS_STOPPING = false ∧ (s.func (i : Nat)).stopping = false ∧ (s.func (i : Nat)).starting = false ∧ (s.func (i : Nat)).on = true ∧ bit (BitVec.toNat v % 256 &&& s.funcMask) (i : Nat) = false) ∧
    (∃ (s : State) (m : Master) (v : Word) (i : Fin 8), s.shapeOk = true ∧ s.pwr.funcs.length = 8 ∧ s.gate m A.PWR_FUNC = Gate.pass ∧ s.isSet F.PWR_STATUS_STOPPING = false ∧ (s.func (i : Nat)).stopping = false ∧ (s.func (i : Nat)).starting = false ∧ (s.func (i : Nat)).on = false ∧ bit (BitVec.toNat v % 256 &&& s.funcMask) (i : Nat) = true) ∧
    (∃ (s : State) (m : Master) (v : Word) (i : Fin 8), s.shapeOk = true ∧ s.pwr.funcs.length = 8 ∧ s.gate m A.PWR_FUNC = Gate.pass ∧ s.isSet F.PWR_STATUS_STOPPING = false ∧ (s.func (i : Nat)).stopping = false ∧ (s.func (i : Nat)).starting = false ∧ (s.func (i : Nat)).on = bit (BitVec.toNat v % 256 &&& s.funcMask) (i : Nat)) ∧
    (∃ (s : State) (m : Master) (i : Fin 8), s.shapeOk = true ∧ s.pwr.funcs.length = 8 ∧ s.gate m A.PWR_FUNC = Gate.pass ∧ s.isSet F.PWR_STATUS_STOPPING = false ∧ (s.func (i : Nat)).stopping = false ∧ (s.func (i : Nat)).starting = true) ∧
    (∃ (s : State) (m : Master) (i : Fin 8), s.shapeOk = true ∧ s.pwr.funcs.length = 8 ∧ s.gate m A.PWR_FUNC = Gate.pass ∧ s.isSet F.PWR_STATUS_STOPPING = false ∧ (s.func (i : Nat)).stopping = true) ∧
    (∃ (s : State) (i : Fin 8), s.shapeOk = true ∧ s.pwr.funcs.length = 8 ∧ (s.func (i : Nat)).stopping = true ∧ s.funcBusy (i : Nat) = false ∧ 3 ≤ (i : Nat) ∧ (i : Nat) < 7) ∧
    (∃ (s : State) (i : Fin 8), s.shapeOk = true ∧ s.pwr.funcs.length = 8 ∧ (s.func (i : Nat)).stopping = true ∧ s.funcBusy (i : Nat) = false ∧ (i : Nat) < 3) ∧
    (∃ (s : State) (m : Master), s.shapeOk = true ∧ s.pwr.funcs.length = 8 ∧ s.gate m A.PWR_FUNC = Gate.pass ∧ s.isSet F.PWR_STATUS_STOPPING = true) ∧
    (∃ (s : State) (i : Fin 8), s.shapeOk = true ∧ s.pwr.funcs.length = 8 ∧ (s.func (i : Nat)).stopping = false ∧ (s.func (i : Nat)).starting = true) ∧
    (∃ (s : State) (i : Fin 8), s.shapeOk = true ∧ s.pwr.funcs.length = 8 ∧ ((s.func (i : Nat)).stopping = false ∧ (s.func (i : Nat)).starting = false ∨ (s.func (i : Nat)).stopping = true ∧ s.funcBusy (i : Nat) = true)) :=
  ⟨⟨radio, Master.pcie, 0, 0, by decide +kernel⟩,
   ⟨q4_7, Master.pcie, 255#32, 6, by decide +kernel⟩,
   ⟨radio, Master.pcie, 255#32, 0, by decide +kernel⟩,
   ⟨q4_2, Master.pcie, 2, by decide +kernel⟩,
   ⟨q4_1, Master.pcie, 0, by decide +kernel⟩,
   ⟨q4_6, 3, by decide +kernel⟩,
   ⟨q4_1, 0, by decide +kernel⟩,
   ⟨q4_10, Master.pcie, by decide +kernel⟩,
   ⟨q4_2, 2, by decide +kernel⟩,
   ⟨radio, 0, by decide +kernel⟩⟩
end W16

namespace W17
open Wit
def pm (f : Pwr → Pwr) (s : State) : State := { s with pwr := f s.pwr }
def fm (f : Flt → Flt) (s : State := radio) : State := { s with flt := f s.flt }
def bad (l : List (Nat × Nat)) (s : State := radio) : State := pm (fun p => {p with badPhases := l}) s
def q1_1 : State := bad [(0,1)]
def q1_2 : State := bad [(2,1),(5,0)]
def q1_6 : State := radio.put F.PWR_CLK_STATUS_XO32K_OK 1
def rst (l : List (Nat × Nat × Nat)) (s : State := radio) : State := let s := fm (fun f => {f with resetting := l}) s; match l with | (r,c,u) :: _ => ((s.put F.GLB_FLT_STATUS_PRESENT 1).wr A.GLB_FLT_PRESENT_LOC (s.clusterLoc r c u)) | _ => s
def q2_1 : State := rst [(2,8,5)]
def q2_4 : State := rst [(2,9,5)]
def q2_5 : State := rst [(2,11,0)]
def q2_9 : State := rst [(3,2,0)] (radio.radMod 2 (fun x => {x with permanent := 1}))
def q2_10 : State := rst [(3,3,0)]
def q2_11 : State := rst [(4,4,4)]
def q2_17 : State := { radio with hst := { radio.hst with pcieUp := true } }
def q3_1 : State := fm (fun f => {f with fencedLanes := [0,1]})
def q3_3 : State := (fm (fun f => {f with fencedLanes := (List.range 48).filter (fun x => !f.trafficLanes.contains x)})).put F.GLB_FLT_DLK_LANES 40
theorem witness_SupplyAndClockFaults :
    (∃ (s : State), s.pwr.stage = StartStage.up ∧ s.tim.carried = false) ∧
    (∃ (s : State), s.pwr.stage = StartStage.up ∧ s.tim.carried = false ∧ s.isSet F.PWR_CLK_STATUS_XO32K_OK = true) ∧
    (∃ (s : State) (r : Fin 6) (off : Nat), s.pwr.stage = StartStage.up ∧ 0 < s.railBad (r : Nat) ∧ keptAtReset off = false ∧ off ≠ A.PWR_CLK_STATUS) ∧
    (∃ (s : State) (r : Fin 6) (ph : Fin 6), s.pwr.stage = StartStage.up ∧ (ph : Nat) < railPhases (r : Nat) ∧ s.pwr.badPhases.contains ((r : Nat), (ph : Nat)) = false ∧ s.railBad (r : Nat) ≠ 0 ∧ s.railBad (r : Nat) + 1 = railPhases (r : Nat)) ∧
    (∃ (s : State) (r : Fin 6) (ph : Fin 6), s.pwr.stage = StartStage.up ∧ (ph : Nat) < railPhases (r : Nat) ∧ s.pwr.badPhases.contains ((r : Nat), (ph : Nat)) = false ∧ (s.railBad (r : Nat) + 1 < railPhases (r : Nat) ∨ s.railBad (r : Nat) = 0)) ∧
    (∃ (s : State) (r : Fin 6), (s.pwr.stage ≠ StartStage.up ∨ s.railBad (r : Nat) = 0)) ∧
    (∃ (s : State), s.pwr.stage ≠ StartStage.up) ∧
    (∃ (s : State) (r : Fin 6) (ph : Fin 6), (s.pwr.stage ≠ StartStage.up ∨ railPhases (r : Nat) ≤ (ph : Nat) ∨ s.pwr.badPhases.contains ((r : Nat), (ph : Nat)) = true)) :=
  ⟨⟨radio, by decide +kernel⟩,
   ⟨q1_6, by decide +kernel⟩,
   ⟨q1_1, 0, A.TB_XO32K_PERIOD, by decide +kernel⟩,
   ⟨q1_2, 2, 0, by decide +kernel⟩,
   ⟨radio, 0, 0, by decide +kernel⟩,
   ⟨radio, 0, by decide +kernel⟩,
   ⟨State.reset, by decide +kernel⟩,
   ⟨radio, 1, 4, by decide +kernel⟩⟩
theorem witness_ClusterFaults :
    (∃ (s : State) (c : Cluster) (pass : Bool) (u0 : Nat), s.shapeOk = true ∧ List.find? (fun (e : Nat × Nat × Nat) => e.fst == ↑c.region + 2 && e.snd.fst == ↑c.code) s.flt.resetting = some ((c.region : Nat) + 2, (c.code : Nat), u0) ∧ s.isSet F.GLB_FLT_STATUS_PRESENT = true ∧ s.rd A.GLB_FLT_PRESENT_LOC = s.clusterLoc (↑c.region + 2) (↑c.code) u0 ∧ (pass = false ∨ (s.flt.recent.any fun (e : Nat × Nat × Nat) => e.fst == ↑c.region + 2 && e.snd.fst == ↑c.code && decide (s.tim.now < e.snd.snd + 1000000000)) = true) ∧ ↑c.region + 2 = 3 ∧ ↑c.code < 3 ∧ 1 ≤ (s.rad ↑c.code).permanent) ∧
    (∃ (s : State) (c : Cluster) (pass : Bool) (u0 : Nat), s.shapeOk = true ∧ List.find? (fun (e : Nat × Nat × Nat) => e.fst == ↑c.region + 2 && e.snd.fst == ↑c.code) s.flt.resetting = some ((c.region : Nat) + 2, (c.code : Nat), u0) ∧ s.isSet F.GLB_FLT_STATUS_PRESENT = true ∧ s.rd A.GLB_FLT_PRESENT_LOC = s.clusterLoc (↑c.region + 2) (↑c.code) u0 ∧ (pass = false ∨ (s.flt.recent.any fun (e : Nat × Nat × Nat) => e.fst == ↑c.region + 2 && e.snd.fst == ↑c.code && decide (s.tim.now < e.snd.snd + 1000000000)) = true) ∧ ↑c.region + 2 = 4 ∧ ↑c.code = 4 ∧ u0 = 4) ∧
    (∃ (s : State) (c : Cluster) (pass : Bool) (u0 : Nat), s.shapeOk = true ∧ List.find? (fun (e : Nat × Nat × Nat) => e.fst == ↑c.region + 2 && e.snd.fst == ↑c.code) s.flt.resetting = some ((c.region : Nat) + 2, (c.code : Nat), u0) ∧ s.isSet F.GLB_FLT_STATUS_PRESENT = true ∧ s.rd A.GLB_FLT_PRESENT_LOC = s.clusterLoc (↑c.region + 2) (↑c.code) u0 ∧ (pass = false ∨ (s.flt.recent.any fun (e : Nat × Nat × Nat) => e.fst == ↑c.region + 2 && e.snd.fst == ↑c.code && decide (s.tim.now < e.snd.snd + 1000000000)) = true) ∧ ↑c.region + 2 = 2 ∧ ↑c.code = 9 ∧ 4 ≤ u0) ∧
    (∃ (s : State) (c : Cluster) (pass : Bool) (u0 : Nat), s.shapeOk = true ∧ List.find? (fun (e : Nat × Nat × Nat) => e.fst == ↑c.region + 2 && e.snd.fst == ↑c.code) s.flt.resetting = some ((c.region : Nat) + 2, (c.code : Nat), u0) ∧ s.isSet F.GLB_FLT_STATUS_PRESENT = true ∧ s.rd A.GLB_FLT_PRESENT_LOC = s.clusterLoc (↑c.region + 2) (↑c.code) u0 ∧ (pass = false ∨ (s.flt.recent.any fun (e : Nat × Nat × Nat) => e.fst == ↑c.region + 2 && e.snd.fst == ↑c.code && decide (s.tim.now < e.snd.snd + 1000000000)) = true) ∧ ↑c.region + 2 = 3 ∧ ↑c.code = 3) ∧
    (∃ (s : State) (c : Cluster) (pass : Bool) (u0 : Nat), s.shapeOk = true ∧ List.find? (fun (e : Nat × Nat × Nat) => e.fst == ↑c.region + 2 && e.snd.fst == ↑c.code) s.flt.resetting = some ((c.region : Nat) + 2, (c.code : Nat), u0) ∧ s.isSet F.GLB_FLT_STATUS_PRESENT = true ∧ s.rd A.GLB_FLT_PRESENT_LOC = s.clusterLoc (↑c.region + 2) (↑c.code) u0 ∧ (pass = false ∨ (s.flt.recent.any fun (e : Nat × Nat × Nat) => e.fst == ↑c.region + 2 && e.snd.fst == ↑c.code && decide (s.tim.now < e.snd.snd + 1000000000)) = true) ∧ ↑c.region + 2 = 2 ∧ ↑c.code = 11 ∧ s.pwr.funcs.length = 8) ∧
    (∃ (s : State) (c : Cluster) (pass : Bool) (u0 : Nat), s.shapeOk = true ∧ List.find? (fun (e : Nat × Nat × Nat) => e.fst == ↑c.region + 2 && e.snd.fst == ↑c.code) s.flt.resetting = some ((c.region : Nat) + 2, (c.code : Nat), u0) ∧ s.isSet F.GLB_FLT_STATUS_PRESENT = true ∧ s.rd A.GLB_FLT_PRESENT_LOC = s.clusterLoc (↑c.region + 2) (↑c.code) u0 ∧ (pass = false ∨ (s.flt.recent.any fun (e : Nat × Nat × Nat) => e.fst == ↑c.region + 2 && e.snd.fst == ↑c.code && decide (s.tim.now < e.snd.snd + 1000000000)) = true) ∧ ↑c.region + 2 = 2 ∧ ↑c.code = 8) ∧
    (∃ (s : State) (c : Cluster) (pass : Bool) (u0 : Nat), s.shapeOk = true ∧ List.find? (fun (e : Nat × Nat × Nat) => e.fst == ↑c.region + 2 && e.snd.fst == ↑c.code) s.flt.resetting = some ((c.region : Nat) + 2, (c.code : Nat), u0) ∧ s.isSet F.GLB_FLT_STATUS_PRESENT = true ∧ s.rd A.GLB_FLT_PRESENT_LOC = s.clusterLoc (↑c.region + 2) (↑c.code) u0 ∧ pass = true ∧ (s.flt.recent.any fun (e : Nat × Nat × Nat) => e.fst == ↑c.region + 2 && e.snd.fst == ↑c.code && decide (s.tim.now < e.snd.snd + 1000000000)) = false) ∧
    (∃ (s : State) (c : Cluster), s.shapeOk = true ∧ s.pwr.stage = StartStage.up ∧ (s.flt.resetting.any fun (e : Nat × Nat × Nat) => e.fst == ↑c.region + 2 && e.snd.fst == ↑c.code) = false ∧ ↑c.region + 2 = 3 ∧ ↑c.code < 3) ∧
    (∃ (s : State) (lane : Fin 4), s.shapeOk = true ∧ s.pwr.stage = StartStage.up ∧ s.hst.pcieUp = true ∧ s.dead 9 (lane : Nat) = false ∧ s.ballsTaken = false) ∧
    (∃ (s : State) (lane : Fin 4), s.shapeOk = true ∧ (s.pwr.stage ≠ StartStage.up ∨ s.hst.pcieUp = false ∨ s.dead 9 (lane : Nat) = true)) ∧
    (∃ (s : State) (c : Cluster), s.shapeOk = true ∧ List.find? (fun (e : Nat × Nat × Nat) => e.fst == ↑c.region + 2 && e.snd.fst == ↑c.code) s.flt.resetting = none) ∧
    (∃ (s : State) (c : Cluster), s.shapeOk = true ∧ (s.pwr.stage ≠ StartStage.up ∨ (s.flt.resetting.any fun (e : Nat × Nat × Nat) => e.fst == ↑c.region + 2 && e.snd.fst == ↑c.code) = true)) :=
  ⟨⟨q2_9, { region := 1, code := 2 }, false, 0, by decide +kernel⟩,
   ⟨q2_11, { region := 2, code := 4 }, false, 4, by decide +kernel⟩,
   ⟨q2_4, { region := 0, code := 9 }, false, 5, by decide +kernel⟩,
   ⟨q2_10, { region := 1, code := 3 }, false, 0, by decide +kernel⟩,
   ⟨q2_5, { region := 0, code := 11 }, false, 0, by decide +kernel⟩,
   ⟨q2_1, { region := 0, code := 8 }, false, 5, by decide +kernel⟩,
   ⟨q2_1, { region := 0, code := 8 }, true, 5, by decide +kernel⟩,
   ⟨radio, { region := 1, code := 0 }, by decide +kernel⟩,
   ⟨q2_17, 0, by decide +kernel⟩,
   ⟨radio, 0, by decide +kernel⟩,
   ⟨radio, { region := 0, code := 8 }, by decide +kernel⟩,
   ⟨q2_1, { region := 0, code := 8 }, by decide +kernel⟩⟩
theorem witness_LanesAndMonitors :
    (∃ (s : State) (vin : BitVec 12) (t0 : BitVec 10) (t1 : BitVec 10), s.pwr.stage = StartStage.up ∧ s.answers = true ∧ 1360 ≤ vin.toNat ∧ vin.toNat ≤ 2740 ∧ -76 ≤ sint 10 t0.toNat ∧ sint 10 t0.toNat ≤ 216 ∧ -76 ≤ sint 10 t1.toNat ∧ sint 10 t1.toNat ≤ 216) ∧
    (∃ (s : State) (off : Nat), s.pwr.stage = StartStage.up ∧ s.answers = true ∧ ¬off ∈ [A.PWR_MON_SUPPLY, A.PWR_MON_TEMP, A.PWR_MON_PEAK, A.GLB_FLT_STATUS]) ∧
    (∃ (s : State) (lane : Fin 48) (c : Nat), s.pwr.stage = StartStage.up ∧ s.flt.fencedLanes.contains (lane : Nat) = false ∧ s.flt.trafficLanes.contains (lane : Nat) = true ∧ List.find? (fun (x : Nat) => !((lane : Nat) :: s.flt.fencedLanes).contains x && !(List.filter (fun (x : Nat) => x != (lane : Nat)) s.flt.trafficLanes).contains x) (List.range 48) = none ∧ s.get F.GLB_FLT_DLK_LANES - 1 < 40 ∧ s.lastChain = some c) ∧
    (∃ (s : State) (vin : BitVec 12) (t0 : BitVec 10) (t1 : BitVec 10), s.pwr.stage = StartStage.up ∧ s.answers = true ∧ (vin.toNat < 1350 ∨ 2750 < vin.toNat ∨ sint 10 t0.toNat < -80 ∨ 220 < sint 10 t0.toNat ∨ sint 10 t1.toNat < -80 ∨ 220 < sint 10 t1.toNat)) ∧
    (∃ (s : State) (t0 : BitVec 10) (t1 : BitVec 10), s.pwr.stage = StartStage.up ∧ s.answers = true ∧ sint 10 (s.get F.PWR_MON_PEAK_TJ_MAX) < max (sint 10 t0.toNat) (sint 10 t1.toNat)) ∧
    (∃ (s : State) (lane : Fin 48) (x : Nat), s.pwr.stage = StartStage.up ∧ s.flt.fencedLanes.contains (lane : Nat) = false ∧ s.flt.trafficLanes.contains (lane : Nat) = true ∧ List.find? (fun (x : Nat) => !((lane : Nat) :: s.flt.fencedLanes).contains x && !(List.filter (fun (x : Nat) => x != (lane : Nat)) s.flt.trafficLanes).contains x) (List.range 48) = some x) ∧
    (∃ (s : State) (lane : Fin 48), s.pwr.stage = StartStage.up ∧ s.flt.fencedLanes.contains (lane : Nat) = false ∧ s.flt.trafficLanes.contains (lane : Nat) = false) ∧
    (∃ (s : State) (lane : Fin 48), (s.pwr.stage ≠ StartStage.up ∨ s.flt.fencedLanes.contains (lane : Nat) = true)) ∧
    (∃ (s : State), (s.pwr.stage ≠ StartStage.up ∨ s.answers = false)) :=
  ⟨⟨radio, 1360, 0, 0, by decide +kernel⟩,
   ⟨radio, 0, by decide +kernel⟩,
   ⟨q3_3, 0, 15, by decide +kernel⟩,
   ⟨radio, 1349, 0, 0, by decide +kernel⟩,
   ⟨radio, 0, 0, by decide +kernel⟩,
   ⟨radio, 0, 44, by decide +kernel⟩,
   ⟨radio, 47, by decide +kernel⟩,
   ⟨q3_1, 0, by decide +kernel⟩,
   ⟨State.reset, by decide +kernel⟩⟩
end W17

namespace W18
open Wit
def dm (f : Dbg → Dbg) (s : State := radio) : State := { s with dbg := f s.dbg }
def ss (f : Dbg → Dbg := id) (s : State := radio) : State := dm (fun d => f {d with session := true}) s
def tk (n : Nat) : Token := ⟨some n, 1, 2, none, 0, [1,2,3], none, false⟩
def q1_3 : State := dm (fun d => {d with instr := .extest})
def q1_5 : State := ss (fun d => {d with halted := some 3, haltRole := 2, shadow := [tk 1], bps := d.bps.set 3 [⟨1,2,3⟩]})
def tm (n : Nat) (s : State) : State := { s with tim := {s.tim with now := n} }
def q2_1 : State := dm (fun d => {d with fails := 4})
def q2_3 : State := dm (fun d => {d with chal := some ⟨[1,2,3], 5, false⟩})
def q2_4 : State := tm (60000000006) (dm (fun d => {d with chal := some ⟨[1,2,3], 5, false⟩}))
def q2_7 : State := dm (fun d => {d with verifying := [(List.replicate 7900 1#8, [])]})
def hl (f : Dbg → Dbg := id) (s : State := radio) : State := { ss (fun d => f {d with halted := some 3, haltRole := 4, shadow := [tk 1, tk 2]}) (s.setEngine 3 5 4 0) with out := [] }
def bp : List Breakpoint := [⟨1, 1, 1⟩, ⟨2, 3, 0xFF⟩, ⟨3,0,0⟩]
def R1 : TokenRun := ⟨[(0, 5#512), (16383, 6#512)], [[1,2]], [(3, 4, 5)]⟩
def q3_1 : State := ss id (radio.setEngine 12 5 0 0)
def q3_6 : State := hl (fun d => {d with bps := d.bps.set 3 bp})
def q3_7 : State := hl (fun d => {d with shadow := [tk 1]})
def acc (op space e addr : Nat) (v : Nat := 0x12345678) : BitVec 80 := BitVec.ofNat 80 (op + space*4 + e * 16 + addr * 256 + v * 2^48)
def dr (s : State) : State := (s.put F.DRC_CONFIG_CAPACITY_MIB 8192).put F.DRC_STATUS_TRAINED 1
def q4_2 : State := ss id (dr radio)
def q4_7 : State := ss id ((dr radio).put F.DRC_STATUS_FROZEN 1)
def q4_8 : State := ss id State.reset
theorem witness_TestPort :
    (∃ (s : State) (e : Fin 14), s.shapeOk = true ∧ s.dbg.session = true ∧ s.dbg.halted = some (e : Nat) ∧ s.eng.waiting = [] ∧ s.eng.running = none) ∧
    (∃ (s : State), s.dbg.session = false) ∧
    (∃ (s : State), s.dbg.session = true ∧ s.dbg.halted = none) ∧
    (∃ (s : State), s.dbg.session = true ∧ s.ballsTaken = false) ∧
    (∃ (s : State), s.ballsTaken = true) ∧
    (∃ (s : State), s.ballsTaken = false) :=
  ⟨⟨q1_5, 3, by decide +kernel⟩,
   ⟨radio, by decide +kernel⟩,
   ⟨ss, by decide +kernel⟩,
   ⟨ss, by decide +kernel⟩,
   ⟨q1_3, by decide +kernel⟩,
   ⟨radio, by decide +kernel⟩⟩
theorem witness_Unlocking :
    (∃ (s : State) (r : List Byte) (c : List Byte) (l : List (List Byte × List Byte)), s.dbg.verifying = (r, c) :: l) ∧
    (∃ (s : State) (r : List Byte) (l : List (List Byte × List Byte)), s.dbg.verifying = (r, []) :: l) ∧
    (∃ (s : State), s.dbg.verifying = []) ∧
    (∃ (s : State) (c : Challenge), s.dbg.chal = some c ∧ c.used = false ∧ s.tim.now ≤ c.at_ + 60000000000) ∧
    (∃ (s : State) (c : Challenge), s.dbg.chal = some c ∧ (c.used = true ∨ c.at_ + 60000000000 < s.tim.now)) ∧
    (∃ (s : State), s.dbg.fails < 4) ∧
    (∃ (s : State), 4 ≤ s.dbg.fails) :=
  ⟨⟨q2_7, List.replicate 7900 1#8, [], [], by decide +kernel⟩,
   ⟨q2_7, List.replicate 7900 1#8, [], by decide +kernel⟩,
   ⟨radio, by decide +kernel⟩,
   ⟨q2_3, { bytes := [1, 2, 3], at_ := 5, used := false }, by decide +kernel⟩,
   ⟨q2_4, { bytes := [1, 2, 3], at_ := 5, used := false }, by decide +kernel⟩,
   ⟨radio, by decide +kernel⟩,
   ⟨q2_1, by decide +kernel⟩⟩
theorem witness_Stylus :
    (∃ (s : State) (e : Fin 14) (t : Token) (l : List Token) (run : TokenRun), s.shapeOk = true ∧ s.dbg.session = true ∧ s.dbg.halted = some (e : Nat) ∧ s.dbg.running = false ∧ s.dbg.shadow = t :: l ∧ s.dbg.capture = [] ∧ run.outputs.length ≤ 16) ∧
    (∃ (s : State) (e : Fin 14) (t : Token) (l : List Token) (run : TokenRun), s.shapeOk = true ∧ s.dbg.session = true ∧ s.dbg.halted = some (e : Nat) ∧ s.dbg.running = false ∧ s.dbg.shadow = t :: l ∧ List.find? (fun (b : Nat × Breakpoint) => b.snd.hits t run) (indexed (s.dbg.bps.getD (e : Nat) [])) = none) ∧
    (∃ (s : State) (e : Fin 14) (t : Token) (l : List Token) (run : TokenRun) (b : Nat × Breakpoint), s.shapeOk = true ∧ s.dbg.session = true ∧ s.dbg.halted = some (e : Nat) ∧ s.dbg.running = false ∧ s.dbg.shadow = t :: l ∧ List.find? (fun (b : Nat × Breakpoint) => b.snd.hits t run) (indexed (s.dbg.bps.getD (e : Nat) [])) = some b) ∧
    (∃ (s : State) (e : Fin 14) (t : Token) (run : TokenRun), s.shapeOk = true ∧ s.dbg.session = true ∧ s.dbg.halted = some (e : Nat) ∧ s.dbg.shadow = [t] ∧ List.find? (fun (b : Nat × Breakpoint) => b.snd.hits t run) (indexed (s.dbg.bps.getD (e : Nat) [])) = none) ∧
    (∃ (s : State) (e : Fin 14), s.shapeOk = true ∧ s.dbg.session = true ∧ s.dbg.halted = some (e : Nat) ∧ (∀ (c : Nat), 5 ≤ c → c ≤ 8 → s.isSet (F.ENG_ROLE_AT_SHED (c - 1)) = false ∧ (s.role c).stopped = false)) ∧
    (∃ (s : State), s.shapeOk = true ∧ s.dbg.session = true ∧ s.dbg.halted = none) ∧
    (∃ (s : State), s.shapeOk = true ∧ s.dbg.session = true ∧ 2 ≤ s.blanks.length ∧ s.recutLive = false ∧ s.eng.running = none ∧ s.eng.waiting = [] ∧ s.pwrState = 0 ∧ s.dbg.halted = none) ∧
    (∃ (s : State) (e : BitVec 4) (w : Nat), s.shapeOk = true ∧ s.dbg.session = true ∧ s.haltRefusal e.toNat = 0 ∧ 1 ≤ s.erole e.toNat ∧ s.erole e.toNat ≤ 12 ∧ preferred (s.rolePref (s.erole e.toNat)) s.blanks = some w) ∧
    (∃ (s : State), s.shapeOk = true ∧ s.dbg.session = true ∧ (s.dbg.running = true ∨ s.dbg.halted = none ∨ s.dbg.shadow = [])) ∧
    (∃ (s : State), s.shapeOk = true ∧ s.dbg.session = true ∧ 2 ≤ s.blanks.length ∧ (s.recutLive = true ∨ s.eng.running.isSome = true ∨ s.eng.waiting ≠ [] ∨ s.pwrState ≠ 0 ∨ s.dbg.halted.isSome = true)) ∧
    (∃ (s : State), s.shapeOk = true ∧ s.dbg.session = true ∧ s.blanks.length < 2) ∧
    (∃ (s : State) (e : BitVec 4), s.shapeOk = true ∧ s.dbg.session = true ∧ s.haltRefusal e.toNat ≠ 0) ∧
    (∃ (s : State), s.shapeOk = true ∧ s.dbg.session = false) :=
  ⟨⟨hl, 3, tk 1, [tk 2], R1, by decide +kernel⟩,
   ⟨hl, 3, tk 1, [tk 2], R1, by decide +kernel⟩,
   ⟨q3_6, 3, tk 1, [tk 2], R1, (0, { kind := 1, value := 0x0000000000000001#64, mask := 0x0000000000000001#64 }), by decide +kernel⟩,
   ⟨q3_7, 3, tk 1, R1, by decide +kernel⟩,
   ⟨hl, 3, by decide +kernel, by decide +kernel, by decide +kernel, (fun x h1 h2 => by
             have hx : x = 5 ∨ x = 6 ∨ x = 7 ∨ x = 8 := by omega
             rcases hx with rfl | rfl | rfl | rfl <;> decide +kernel)⟩,
   ⟨q3_1, by decide +kernel⟩,
   ⟨ss, by decide +kernel⟩,
   ⟨ss, 0, 12, by decide +kernel⟩,
   ⟨q3_1, by decide +kernel⟩,
   ⟨hl, by decide +kernel⟩,
   ⟨q3_1, by decide +kernel⟩,
   ⟨q3_1, 0, by decide +kernel⟩,
   ⟨radio, by decide +kernel⟩⟩
theorem witness_StylusAccess :
    (∃ (s : State) (w : BitVec 80) (a : Nat), s.shapeOk = true ∧ s.dbg.session = true ∧ (bits w.toNat 0 2 = 1 ∨ bits w.toNat 0 2 = 2) ∧ bits w.toNat 2 2 = 2 ∧ bits w.toNat 8 40 % 4 = 0 ∧ bits w.toNat 8 40 < s.get F.DRC_CONFIG_CAPACITY_MIB * 2 ^ 20 ∧ s.isSet F.DRC_STATUS_FROZEN = false ∧ bits w.toNat 0 2 = 2 ∧ 134217728 ≤ bits w.toNat 8 40 ∧ (a < bits w.toNat 8 40 ∨ bits w.toNat 8 40 + 4 ≤ a)) ∧
    (∃ (s : State) (w : BitVec 80) (i : Nat), s.shapeOk = true ∧ s.dbg.session = true ∧ (bits w.toNat 0 2 = 1 ∨ bits w.toNat 0 2 = 2) ∧ bits w.toNat 2 2 = 1 ∧ bits w.toNat 0 2 = 2 ∧ bits w.toNat 4 4 < 14 ∧ bits w.toNat 8 40 < 1048576 ∧ s.dbg.halted = some (bits w.toNat 4 4) ∧ bits w.toNat 8 40 % 4 = 0 ∧ i ≠ bits w.toNat 8 40 / 64) ∧
    (∃ (s : State) (w : BitVec 80) (o : DramRead), s.shapeOk = true ∧ s.dbg.session = true ∧ (bits w.toNat 0 2 = 1 ∨ bits w.toNat 0 2 = 2) ∧ bits w.toNat 2 2 = 2 ∧ bits w.toNat 8 40 % 4 = 0 ∧ bits w.toNat 8 40 < s.get F.DRC_CONFIG_CAPACITY_MIB * 2 ^ 20 ∧ s.isSet F.DRC_STATUS_FROZEN = false ∧ bits w.toNat 0 2 = 1 ∧ o = DramRead.clean) ∧
    (∃ (s : State) (w : BitVec 80), s.shapeOk = true ∧ s.dbg.session = true ∧ (bits w.toNat 0 2 = 1 ∨ bits w.toNat 0 2 = 2) ∧ bits w.toNat 2 2 = 3 ∧ bits w.toNat 0 2 = 1 ∧ bits w.toNat 8 40 < 1024 ∧ bits w.toNat 8 40 % 4 = 0 ∧ s.dbg.halted = some (bits w.toNat 4 4)) ∧
    (∃ (s : State) (w : BitVec 80), s.shapeOk = true ∧ s.dbg.session = true ∧ (bits w.toNat 0 2 = 1 ∨ bits w.toNat 0 2 = 2) ∧ bits w.toNat 2 2 = 3 ∧ bits w.toNat 0 2 = 2 ∧ bits w.toNat 8 40 < 1024 ∧ bits w.toNat 8 40 % 4 = 0 ∧ s.dbg.halted = some (bits w.toNat 4 4)) ∧
    (∃ (s : State) (w : BitVec 80), s.shapeOk = true ∧ s.dbg.session = true ∧ (bits w.toNat 0 2 = 1 ∨ bits w.toNat 0 2 = 2) ∧ bits w.toNat 2 2 = 2 ∧ bits w.toNat 8 40 % 4 = 0 ∧ bits w.toNat 8 40 < s.get F.DRC_CONFIG_CAPACITY_MIB * 2 ^ 20 ∧ s.isSet F.DRC_STATUS_FROZEN = true) ∧
    (∃ (s : State) (w : BitVec 80), s.shapeOk = true ∧ s.dbg.session = true ∧ (bits w.toNat 0 2 = 1 ∨ bits w.toNat 0 2 = 2) ∧ bits w.toNat 2 2 = 1 ∧ bits w.toNat 0 2 = 2 ∧ bits w.toNat 4 4 < 14 ∧ bits w.toNat 8 40 < 1048576 ∧ s.dbg.halted ≠ some (bits w.toNat 4 4) ∧ bits w.toNat 8 40 % 4 = 0) ∧
    (∃ (s : State) (w : BitVec 80), s.shapeOk = true ∧ s.dbg.session = true ∧ (bits w.toNat 0 2 = 1 ∨ bits w.toNat 0 2 = 2) ∧ bits w.toNat 2 2 = 3 ∧ (1024 ≤ bits w.toNat 8 40 ∨ s.dbg.halted ≠ some (bits w.toNat 4 4))) ∧
    (∃ (s : State) (w : BitVec 80) (collide : Bool), s.shapeOk = true ∧ s.dbg.session = true ∧ (bits w.toNat 0 2 = 1 ∨ bits w.toNat 0 2 = 2) ∧ bits w.toNat 2 2 = 0 ∧ bits w.toNat 0 2 = 2 ∧ bits w.toNat 8 40 = A.PLT_MBX_ARG ∧ s.gate Master.stylus (bits w.toNat 8 40) = Gate.pass ∧ s.isSet F.PLT_MBX_STATUS_BUSY = false ∧ collide = true ∧ s.dbg.halted = none) ∧
    (∃ (s : State) (w : BitVec 80) (collide : Bool), s.shapeOk = true ∧ s.dbg.session = true ∧ (bits w.toNat 0 2 = 1 ∨ bits w.toNat 0 2 = 2) ∧ bits w.toNat 2 2 = 0 ∧ bits w.toNat 0 2 = 2 ∧ bits w.toNat 8 40 = A.PLT_MBX_ARG ∧ s.gate Master.stylus (bits w.toNat 8 40) = Gate.pass ∧ s.isSet F.PLT_MBX_STATUS_BUSY = false ∧ (collide = false ∨ s.dbg.halted.isSome = true)) ∧
    (∃ (s : State) (w : BitVec 80), s.shapeOk = true ∧ s.dbg.session = true ∧ (bits w.toNat 0 2 = 1 ∨ bits w.toNat 0 2 = 2) ∧ bits w.toNat 2 2 = 1 ∧ bits w.toNat 0 2 = 1 ∧ bits w.toNat 4 4 < 14 ∧ bits w.toNat 8 40 < 1048576 ∧ bits w.toNat 8 40 % 4 = 0) ∧
    (∃ (s : State) (w : BitVec 80), s.shapeOk = true ∧ s.dbg.session = true ∧ (bits w.toNat 0 2 = 1 ∨ bits w.toNat 0 2 = 2) ∧ bits w.toNat 2 2 = 2 ∧ s.get F.DRC_CONFIG_CAPACITY_MIB * 2 ^ 20 ≤ bits w.toNat 8 40) ∧
    (∃ (s : State) (w : BitVec 80), s.shapeOk = true ∧ s.dbg.session = true ∧ (bits w.toNat 0 2 = 1 ∨ bits w.toNat 0 2 = 2) ∧ bits w.toNat 2 2 = 0 ∧ bits w.toNat 0 2 = 1 ∧ bits w.toNat 8 40 = A.GLB_ID ∧ s.answers = true ∧ s.latched Master.stylus (bits w.toNat 8 40) = none) ∧
    (∃ (s : State) (w : BitVec 80), s.shapeOk = true ∧ s.dbg.session = true ∧ (bits w.toNat 0 2 = 1 ∨ bits w.toNat 0 2 = 2) ∧ bits w.toNat 2 2 = 1 ∧ (14 ≤ bits w.toNat 4 4 ∨ 1048576 ≤ bits w.toNat 8 40)) ∧
    (∃ (s : State) (w : BitVec 80), s.shapeOk = true ∧ s.dbg.session = true ∧ (bits w.toNat 0 2 = 1 ∨ bits w.toNat 0 2 = 2) ∧ bits w.toNat 2 2 = 0 ∧ bits w.toNat 8 40 % 4 = 0 ∧ bits w.toNat 8 40 < 16777216 ∧ forbiddenTo Master.stylus (bits w.toNat 8 40) = false ∧ s.answers = false) ∧
    (∃ (s : State) (w : BitVec 80), s.shapeOk = true ∧ s.dbg.session = true ∧ (bits w.toNat 0 2 = 1 ∨ bits w.toNat 0 2 = 2) ∧ bits w.toNat 2 2 = 0 ∧ bits w.toNat 8 40 % 4 = 0 ∧ bits w.toNat 8 40 < 16777216 ∧ forbiddenTo Master.stylus (bits w.toNat 8 40) = true) ∧
    (∃ (s : State) (w : BitVec 80), s.shapeOk = true ∧ s.dbg.session = true ∧ (bits w.toNat 0 2 = 1 ∨ bits w.toNat 0 2 = 2) ∧ bits w.toNat 2 2 = 0 ∧ 16777216 ≤ bits w.toNat 8 40) ∧
    (∃ (s : State) (w : BitVec 80), s.shapeOk = true ∧ s.dbg.session = true ∧ (bits w.toNat 0 2 = 1 ∨ bits w.toNat 0 2 = 2) ∧ bits w.toNat 8 40 % 4 ≠ 0) ∧
    (∃ (s : State) (w : BitVec 80), s.shapeOk = true ∧ s.dbg.session = true ∧ (bits w.toNat 0 2 = 0 ∨ bits w.toNat 0 2 = 3)) ∧
    (∃ (s : State), s.shapeOk = true ∧ s.dbg.session = false) :=
  ⟨⟨q4_2, acc 2 2 0 268435456, 0, by decide +kernel⟩,
   ⟨hl, acc 2 1 3 1028, 0, by decide +kernel⟩,
   ⟨q4_2, acc 1 2 0 268435456, DramRead.clean, by decide +kernel⟩,
   ⟨hl, acc 1 3 3 64, by decide +kernel⟩,
   ⟨hl, acc 2 3 3 64, by decide +kernel⟩,
   ⟨q4_7, acc 1 2 0 268435456, by decide +kernel⟩,
   ⟨ss, acc 2 1 3 1028, by decide +kernel⟩,
   ⟨ss, acc 1 3 3 1024, by decide +kernel⟩,
   ⟨ss, acc 2 0 0 A.PLT_MBX_ARG, true, by decide +kernel⟩,
   ⟨ss, acc 2 0 0 A.PLT_MBX_ARG, false, by decide +kernel⟩,
   ⟨ss, acc 1 1 3 1024, by decide +kernel⟩,
   ⟨ss, acc 1 2 0 8589934592, by decide +kernel⟩,
   ⟨ss, acc 1 0 0 A.GLB_ID, by decide +kernel⟩,
   ⟨ss, acc 1 1 14 0, by decide +kernel⟩,
   ⟨q4_8, acc 1 0 0 A.GLB_ID, by decide +kernel⟩,
   ⟨ss, acc 2 0 0 524288, by decide +kernel⟩,
   ⟨ss, acc 2 0 0 16777216, by decide +kernel⟩,
   ⟨ss, acc 1 0 0 2, by decide +kernel⟩,
   ⟨ss, acc 0 0 0 0, by decide +kernel⟩,
   ⟨radio, by decide +kernel⟩⟩
end W18

namespace W19
open Wit
def pm (f : Pwr → Pwr) (s : State) : State := { s with pwr := f s.pwr }
def dm (f : Dbg → Dbg) (s : State := radio) : State := { s with dbg := f s.dbg }
def q4_1 : State := pm (fun p => {p with stage := .off}) radio
def q4_2 : State := ((radio.put F.PWR_STATUS_STATE 4).put F.PWR_STATUS_TARGET 1)
def q4_4 : State := live.put F.PLT_STATUS_STATE 2
def q5_1 : State := dm (fun d => {d with halted := some 3})
def rqf (seq n off code : Nat) (v : Nat) : List Byte := List.replicate 6 0#8 ++ [1,2,3,4,5,6] ++ beBytes 2 0x88B5 ++ leBytes 4 seq ++ leBytes 1 n ++ [0,0,0] ++ leBytes 3 off ++ leBytes 1 code ++ leBytes 4 v ++ List.replicate 34 0#8
def sw (l : List (List Byte × Bool)) (s : State := radio) : State := { s with hst := { s.hst with secWait := l } }
def reqs : List (List Byte × Bool) := [(rqf 5 1 A.GLB_ID 1 0, false), (rqf 5 1 A.GLB_ID 1 0, true), (rqf 5 1 A.PLT_MBX_ARG 2 77, true), (rqf 0 1 0 1 0, true), (rqf 5 0 0 1 0, true), (rqf 5 1 0x380000 2 0x98, true), (rqf 5 1 0x50000 1 3, true), (rqf 5 1 0x50000 2 3, true), (rqf 5 1 0x80000 2 3, true), (rqf 5 1 0xC0000 1 3, true), (rqf 5 1 0x104 3 3, true), ((rqf 5 1 0x104 1 3).take 29, true), (rqf 0x80000000 1 0x104 1 3, true), (rqf 5 1 A.QSC_SPILL_CTRL 2 0x12345, false)]
def l7_ : List State := reqs.map (fun r => sw [r]) ++ reqs.map (fun r => sw [r] (radio.put F.HDM_SEC_CTRL_REQUIRE_MACSEC 1)) ++ [radio, sw reqs (((radio.put F.PWR_STATUS_STATE 4).put F.PWR_STATUS_TARGET 1)), sw [reqs.getD 4 ([], true), (rqf 5 1 A.GLB_ID 1 0, false)], sw reqs State.reset, sw reqs (pm (fun p => {p with stage := .off}) radio)]
theorem witness_RegisterFields :
    (∃ (s : State) (m : Master) (off : Nat) (v : Word) (r : RegSpec) (f : FieldSpec), off % 4 = 0 ∧ storesOnly off = true ∧ s.gate m off = Gate.pass ∧ regAt off = some r ∧ r.legal v = true ∧ crossLegal off v = true ∧ f ∈ r.fields ∧ (f.acc = Acc.ro ∨ f.acc = Acc.rc ∨ f.acc = Acc.pl)) ∧
    (∃ (s : State) (m : Master) (off : Nat) (v : Word) (r : RegSpec) (f : FieldSpec), off % 4 = 0 ∧ storesOnly off = true ∧ s.gate m off = Gate.pass ∧ regAt off = some r ∧ r.legal v = true ∧ crossLegal off v = true ∧ f ∈ r.fields ∧ f.acc = Acc.w1c) ∧
    (∃ (s : State) (m : Master) (off : Nat) (v : Word) (r : RegSpec) (o : Nat), off % 4 = 0 ∧ storesOnly off = true ∧ s.gate m off = Gate.pass ∧ regAt off = some r ∧ r.legal v = true ∧ crossLegal off v = true ∧ o ≠ off) ∧
    (∃ (s : State) (m : Master) (off : Nat) (v : Word) (r : RegSpec) (f : FieldSpec), off % 4 = 0 ∧ storesOnly off = true ∧ s.gate m off = Gate.pass ∧ regAt off = some r ∧ r.legal v = true ∧ crossLegal off v = true ∧ f ∈ r.fields ∧ f.acc = Acc.rw) ∧
    (∃ (s : State) (m : Master) (off : Nat) (v : Word) (r : RegSpec), off % 4 = 0 ∧ storesOnly off = true ∧ s.gate m off = Gate.pass ∧ regAt off = some r ∧ (r.legal v = false ∨ crossLegal off v = false)) :=
  ⟨⟨radio, Master.pcie, 0, 0, { base := 0, n1 := 1, s1 := 0, n2 := 1, s2 := 0, n3 := 1, s3 := 0, fields := [FieldSpec.full 0 16 Acc.ro 38464, FieldSpec.full 16 4 Acc.ro 0], reject := 0 }, FieldSpec.full 0 16 Acc.ro 38464, by decide +kernel⟩,
   ⟨radio, Master.pcie, 256, 0, { base := 256, n1 := 1, s1 := 0, n2 := 1, s2 := 0, n3 := 1, s3 := 0, fields := [FieldSpec.full 0 1 Acc.ro 0, FieldSpec.full 1 1 Acc.w1c 0, FieldSpec.full 2 1 Acc.ro 0, FieldSpec.full 3 1 Acc.ro 0, FieldSpec.full 4 1 Acc.ro 0, FieldSpec.full 5 1 Acc.ro 0, FieldSpec.full 6 1 Acc.ro 0, FieldSpec.full 7 1 Acc.ro 0, FieldSpec.full 8 1 Acc.ro 0, FieldSpec.full 9 1 Acc.ro 0, FieldSpec.full 10 1 Acc.ro 0, FieldSpec.full 11 1 Acc.ro 0, FieldSpec.full 12 1 Acc.ro 0], reject := 0 }, FieldSpec.full 1 1 Acc.w1c 0, by decide +kernel⟩,
   ⟨radio, Master.pcie, 0, 0, { base := 0, n1 := 1, s1 := 0, n2 := 1, s2 := 0, n3 := 1, s3 := 0, fields := [FieldSpec.full 0 16 Acc.ro 38464, FieldSpec.full 16 4 Acc.ro 0], reject := 0 }, 64, by decide +kernel⟩,
   ⟨radio, Master.pcie, 3145728, 0, { base := 3145728, n1 := 8, s1 := 4, n2 := 1, s2 := 0, n3 := 1, s3 := 0, fields := [FieldSpec.full 0 3 Acc.rw 0, FieldSpec.full 4 3 Acc.rw 0, FieldSpec.full 8 3 Acc.rw 0, FieldSpec.full 12 3 Acc.rw 0, FieldSpec.full 16 3 Acc.rw 0, FieldSpec.full 20 3 Acc.rw 0, FieldSpec.full 24 3 Acc.rw 0, FieldSpec.full 28 3 Acc.rw 0], reject := A.QSC_WRITE_REJECT }, FieldSpec.full 0 3 Acc.rw 0, by decide +kernel⟩,
   ⟨radio, Master.pcie, 3145760, 256#32, { base := 3145760, n1 := 4, s1 := 4, n2 := 1, s2 := 0, n3 := 1, s3 := 0, fields := [FieldSpec.full 0 9 Acc.rw 20], reject := A.QSC_WRITE_REJECT }, by decide +kernel⟩⟩
theorem witness_RegisterReads :
    (∃ (s : State) (m : Master) (off : Nat) (r : RegSpec) (b : Master) (o : Nat), off % 4 = 0 ∧ plainRead off = true ∧ s.gate m off = Gate.pass ∧ s.latched m off = none ∧ regAt off = some r ∧ r.isRc = true ∧ upperWords off = [] ∧ s.gate b off = Gate.pass ∧ s.latched b off = none ∧ decide (off < 65536) = true ∧ off ≠ A.GLB_FLT_STATUS ∧ o ≠ off) ∧
    (∃ (s : State) (m : Master) (off : Nat) (r : RegSpec) (o : Nat), off % 4 = 0 ∧ plainRead off = true ∧ s.gate m off = Gate.pass ∧ s.latched m off = none ∧ regAt off = some r ∧ r.isRc = true ∧ upperWords off = [] ∧ o ≠ off) ∧
    (∃ (s : State) (m : Master) (off : Nat) (o : Nat), off % 4 = 0 ∧ plainRead off = true ∧ s.gate m off = Gate.pass ∧ s.latched m off = none ∧ upperWords off ≠ [] ∧ o ∈ upperWords off ∧ plainRead o = true ∧ o % 4 = 0) ∧
    (∃ (s : State) (m : Master) (off : Nat) (b : Master), off % 4 = 0 ∧ plainRead off = true ∧ s.gate m off = Gate.pass ∧ s.latched m off = none ∧ upperWords off ≠ [] ∧ b ≠ m) ∧
    (∃ (s : State) (m : Master) (off : Nat) (r : RegSpec), off % 4 = 0 ∧ plainRead off = true ∧ s.gate m off = Gate.pass ∧ s.latched m off = none ∧ regAt off = some r ∧ r.isRc = false ∧ upperWords off = []) :=
  ⟨⟨radio, Master.pcie, 72, { base := 72, n1 := 1, s1 := 0, n2 := 1, s2 := 0, n3 := 1, s3 := 0, fields := [FieldSpec.full 0 32 Acc.rc 0], reject := 0 }, Master.pcie, 65600, by decide +kernel⟩,
   ⟨radio, Master.pcie, 65600, { base := 65600, n1 := 1, s1 := 0, n2 := 1, s2 := 0, n3 := 1, s3 := 0, fields := [FieldSpec.full 0 32 Acc.rc 0], reject := 0 }, 131684, by decide +kernel⟩,
   ⟨radio, Master.pcie, 131072, 131076, by decide +kernel⟩,
   ⟨radio, Master.pcie, 131072, Master.secondary, by decide +kernel⟩,
   ⟨radio, Master.pcie, A.GLB_ID, { base := 0, n1 := 1, s1 := 0, n2 := 1, s2 := 0, n3 := 1, s3 := 0, fields := [FieldSpec.full 0 16 Acc.ro 38464, FieldSpec.full 16 4 Acc.ro 0], reject := 0 }, by decide +kernel⟩⟩
theorem witness_UnmappedAccesses : ∃ (s : State) (m : Master) (off : Nat), off % 4 = 0 ∧ reservedRange off = true ∧ s.gate m off = Gate.pass ∧ s.latched m off = none :=
  ⟨radio, Master.pcie, 327680, by decide +kernel⟩
theorem witness_Bar2Accesses : ∃ (s : State) (off : Nat), off % 4 = 0 ∧ 16777216 ≤ off ∧ off < 83886080 ∧ s.answers = true ∧ s.asleep = false :=
  ⟨radio, 16777216, by decide +kernel⟩
theorem witness_AccessGate :
    (∃ (s : State) (m : Master) (off : Nat), off % 4 = 0 ∧ off < 16777216 ∧ s.answers = true ∧ s.asleep = false ∧ s.inService = true ∧ forbiddenTo m off = true) ∧
    (∃ (s : State) (off : Nat), off % 4 = 0 ∧ off < 16777216 ∧ s.answers = true ∧ s.asleep = false ∧ s.inService = false ∧ 131072 ≤ off ∧ ¬(196608 ≤ off ∧ off < 262144)) ∧
    (∃ (s : State) (m : Master) (off : Nat), off % 4 = 0 ∧ off < 16777216 ∧ s.answers = true ∧ s.asleep = true ∧ m = Master.pcie ∧ ¬(65536 ≤ off ∧ off < 131072)) ∧
    (∃ (s : State) (off : Nat), off % 4 = 0 ∧ off < 16777216 ∧ s.answers = false) :=
  ⟨⟨radio, Master.secondary, 196608, by decide +kernel⟩,
   ⟨q4_4, 131072, by decide +kernel⟩,
   ⟨q4_2, Master.pcie, 0, by decide +kernel⟩,
   ⟨q4_1, 0, by decide +kernel⟩⟩
theorem witness_WriteCollisions :
    (∃ (s : State) (off : Nat), off % 4 = 0 ∧ off < 5242880 ∧ s.gate Master.pcie off = Gate.pass ∧ s.gate Master.secondary off = Gate.pass ∧ s.gate Master.stylus off = Gate.pass ∧ s.dbg.halted = none) ∧
    (∃ (s : State) (off : Nat), off % 4 = 0 ∧ off < 5242880 ∧ s.gate Master.pcie off = Gate.pass ∧ s.gate Master.secondary off = Gate.pass ∧ s.gate Master.stylus off = Gate.pass ∧ s.dbg.halted.isSome = true) :=
  ⟨⟨radio, 65536, by decide +kernel⟩,
   ⟨q5_1, 65536, by decide +kernel⟩⟩
theorem witness_SecondaryRequests :
    (∃ (s : State) (cs : List Bool) (f : List Byte) (ms : Bool) (l : List (List Byte × Bool)), s.hst.secWait = (f, ms) :: l ∧ s.answers = true ∧ s.asleep = false ∧ (s.isSet F.HDM_SEC_CTRL_REQUIRE_MACSEC = false ∨ ms = true) ∧ 0 < sint 32 (leAt f 14 4 + 2 ^ 32 - BitVec.toNat (s.rd A.HDM_SEC_LAST_SEQ)) ∧ leAt f 18 1 = 1 ∧ 30 ≤ f.length ∧ leAt f 25 1 = 2 ∧ leAt f 22 3 % 4 = 0 ∧ s.gate Master.secondary (leAt f 22 3) = Gate.pass ∧ (regAt (leAt f 22 3)).isSome = true ∧ cs.headD false = true ∧ s.dbg.halted = none ∧ leAt f 22 3 < 5242880) ∧
    (∃ (s : State) (f : List Byte) (ms : Bool) (l : List (List Byte × Bool)), s.hst.secWait = (f, ms) :: l ∧ s.answers = true ∧ s.asleep = false ∧ (s.isSet F.HDM_SEC_CTRL_REQUIRE_MACSEC = false ∨ ms = true) ∧ 0 < sint 32 (leAt f 14 4 + 2 ^ 32 - BitVec.toNat (s.rd A.HDM_SEC_LAST_SEQ)) ∧ leAt f 18 1 = 1 ∧ 30 ≤ f.length ∧ (leAt f 25 1 = 1 ∨ leAt f 25 1 = 2) ∧ secondaryForbidden (leAt f 22 3) = true) ∧
    (∃ (s : State) (f : List Byte) (ms : Bool) (l : List (List Byte × Bool)), s.hst.secWait = (f, ms) :: l ∧ s.answers = true ∧ s.asleep = false ∧ (s.isSet F.HDM_SEC_CTRL_REQUIRE_MACSEC = false ∨ ms = true) ∧ 0 < sint 32 (leAt f 14 4 + 2 ^ 32 - BitVec.toNat (s.rd A.HDM_SEC_LAST_SEQ)) ∧ leAt f 18 1 = 1 ∧ 30 ≤ f.length ∧ leAt f 25 1 = 2 ∧ s.gate Master.secondary (leAt f 22 3) = Gate.pass ∧ regAt (leAt f 22 3) = none) ∧
    (∃ (s : State) (f : List Byte) (ms : Bool) (l : List (List Byte × Bool)), s.hst.secWait = (f, ms) :: l ∧ s.answers = true ∧ s.asleep = false ∧ (s.isSet F.HDM_SEC_CTRL_REQUIRE_MACSEC = false ∨ ms = true) ∧ 0 < sint 32 (leAt f 14 4 + 2 ^ 32 - BitVec.toNat (s.rd A.HDM_SEC_LAST_SEQ)) ∧ leAt f 18 1 = 1 ∧ 30 ≤ f.length ∧ leAt f 25 1 ≠ 1 ∧ leAt f 25 1 ≠ 2) ∧
    (∃ (s : State) (cs : List Bool) (f : List Byte) (ms : Bool) (l : List (List Byte × Bool)), s.hst.secWait = (f, ms) :: l ∧ s.answers = true ∧ s.asleep = false ∧ (s.isSet F.HDM_SEC_CTRL_REQUIRE_MACSEC = false ∨ ms = true) ∧ 0 < sint 32 (leAt f 14 4 + 2 ^ 32 - BitVec.toNat (s.rd A.HDM_SEC_LAST_SEQ)) ∧ leAt f 18 1 = 1 ∧ 30 ≤ f.length ∧ leAt f 25 1 = 2 ∧ leAt f 22 3 % 4 = 0 ∧ s.gate Master.secondary (leAt f 22 3) = Gate.pass ∧ (regAt (leAt f 22 3)).isSome = true ∧ cs.headD false = false) ∧
    (∃ (s : State) (f : List Byte) (ms : Bool) (l : List (List Byte × Bool)), s.hst.secWait = (f, ms) :: l ∧ s.answers = true ∧ s.asleep = false ∧ (s.isSet F.HDM_SEC_CTRL_REQUIRE_MACSEC = false ∨ ms = true) ∧ 0 < sint 32 (leAt f 14 4 + 2 ^ 32 - BitVec.toNat (s.rd A.HDM_SEC_LAST_SEQ)) ∧ leAt f 18 1 = 1 ∧ 30 ≤ f.length ∧ leAt f 25 1 = 1 ∧ s.gate Master.secondary (leAt f 22 3) = Gate.pass ∧ regAt (leAt f 22 3) = none) ∧
    (∃ (s : State) (f : List Byte) (ms : Bool) (l : List (List Byte × Bool)), s.hst.secWait = (f, ms) :: l ∧ s.answers = true ∧ s.asleep = false ∧ (s.isSet F.HDM_SEC_CTRL_REQUIRE_MACSEC = false ∨ ms = true) ∧ 0 < sint 32 (leAt f 14 4 + 2 ^ 32 - BitVec.toNat (s.rd A.HDM_SEC_LAST_SEQ)) ∧ leAt f 18 1 = 1 ∧ 30 ≤ f.length ∧ leAt f 25 1 = 1 ∧ leAt f 22 3 = A.GLB_ID ∧ s.latched Master.secondary (leAt f 22 3) = none) ∧
    (∃ (s : State) (f : List Byte) (ms : Bool) (l : List (List Byte × Bool)), s.hst.secWait = (f, ms) :: l ∧ s.answers = true ∧ s.asleep = false ∧ (s.isSet F.HDM_SEC_CTRL_REQUIRE_MACSEC = true ∧ ms = false ∨ sint 32 (leAt f 14 4 + 2 ^ 32 - BitVec.toNat (s.rd A.HDM_SEC_LAST_SEQ)) ≤ 0 ∨ leAt f 18 1 = 0 ∨ 64 < leAt f 18 1 ∨ f.length < 22 + 8 * leAt f 18 1)) ∧
    (∃ (s : State), (s.hst.secWait = [] ∨ s.answers = false ∨ s.asleep = true)) :=
  ⟨⟨(l7_.getD 5 up), [true], (fun (x : List Byte × Bool) => x.fst) (rqf 5 1 3670016 2 152, true), true, [], by decide +kernel⟩,
   ⟨(l7_.getD 2 up), (fun (x : List Byte × Bool) => x.fst) (rqf 5 1 A.PLT_MBX_ARG 2 77, true), true, [], by decide +kernel⟩,
   ⟨(l7_.getD 7 up), (fun (x : List Byte × Bool) => x.fst) (rqf 5 1 327680 2 3, true), true, [], by decide +kernel⟩,
   ⟨(l7_.getD 10 up), (fun (x : List Byte × Bool) => x.fst) (rqf 5 1 260 3 3, true), true, [], by decide +kernel⟩,
   ⟨(l7_.getD 5 up), [], (fun (x : List Byte × Bool) => x.fst) (rqf 5 1 3670016 2 152, true), true, [], by decide +kernel⟩,
   ⟨(l7_.getD 6 up), (fun (x : List Byte × Bool) => x.fst) (rqf 5 1 327680 1 3, true), true, [], by decide +kernel⟩,
   ⟨(l7_.getD 1 up), (fun (x : List Byte × Bool) => x.fst) (rqf 5 1 A.GLB_ID 1 0, false), true, [], by decide +kernel⟩,
   ⟨(l7_.getD 0 up), (fun (x : List Byte × Bool) => x.fst) (rqf 5 1 A.GLB_ID 1 0, false), false, [], by decide +kernel⟩,
   ⟨(l7_.getD 28 up), by decide +kernel⟩⟩
end W19
end

section
/-! The gaps of the register map: the ranges that R331 reserves hold no register, and the decoding of a write or a read finds nothing there (R332). -/

namespace Sys2Proof.Machine

/-! ### The place of a register -/

/-- The offset of the last repetition of a register. -/
def RegSpec.last (r : RegSpec) : Nat := r.base + (r.n1 - 1) * r.s1 + (r.n2 - 1) * r.s2 + (r.n3 - 1) * r.s3

theorem RegSpec.base_le_of_at {r : RegSpec} {off : Nat} (h : (r.at off).isSome = true) : r.base ≤ off := by
  refine Nat.le_of_not_lt fun hlt => ?_
  rw [RegSpec.at, if_pos hlt] at h
  cases h

theorem RegSpec.le_last_of_at {r : RegSpec} {off : Nat} (h : (r.at off).isSome = true) : off ≤ r.last := by
  have hbase := RegSpec.base_le_of_at h
  simp only [RegSpec.at, if_neg (Nat.not_lt.mpr hbase), Option.isSome_ite] at h
  obtain ⟨hrest, hi, hj, hk⟩ := h
  have hi := Nat.mul_le_mul_right r.s1 (Nat.le_sub_one_of_lt hi)
  have hj := Nat.mul_le_mul_right r.s2 (Nat.le_sub_one_of_lt hj)
  have hk := Nat.mul_le_mul_right r.s3 (Nat.le_sub_one_of_lt hk)
  unfold RegSpec.last
  omega

/-- No register lies at an offset that every register of its block ends before or begins after. -/
theorem regAt_eq_none {off : Nat} (h : ∀ r ∈ blockRegs off, r.last < off ∨ off < r.base) : regAt off = none := by
  unfold regAt
  split
  · rfl
  · refine List.find?_eq_none.mpr fun r hr hat => ?_
    have hlast := RegSpec.le_last_of_at hat
    have hbase := RegSpec.base_le_of_at hat
    have := h r hr
    omega

theorem hit_eq_none {off base stride n : Nat} (hs : 0 < stride) (h : off < base ∨ base + n * stride ≤ off) : hit off base stride n = none := by
  refine if_neg fun ⟨hbase, _, hn⟩ => ?_
  have := (Nat.div_lt_iff_lt_mul hs).mp hn
  omega

/-! ### The reserved ranges -/

theorem reservedRange_iff {off : Nat} : reservedRange off = true ↔
    (0x50000 ≤ off ∧ off < 0x80000) ∨ (0xA0000 ≤ off ∧ off < 0xC0000) ∨ (0xD0000 ≤ off ∧ off < 0x100000) ∨ (0x428000 ≤ off ∧ off < 0x500000) ∨
      (0x732000 ≤ off ∧ off < 0x800000) ∨ (0x8C0000 ≤ off ∧ off < 0x900000) ∨ (0xA00000 ≤ off ∧ off < 0x1000000) := by
  simp only [reservedRange, Bool.or_eq_true, decide_eq_true_eq, or_assoc]

/-- The reserved ranges between the tables lie outside every table. -/
theorem tablesRegs_avoid_gaps : ∀ r ∈ tablesRegs, (r.last < 0x428000 ∨ 0x500000 ≤ r.base) ∧ (r.last < 0x732000 ∨ 0x800000 ≤ r.base) ∧
    (r.last < 0x8C0000 ∨ 0x900000 ≤ r.base) ∧ r.last < 0xA00000 := by
  decide

section
variable {off : Nat} (hres : reservedRange off = true)
include hres

theorem lt_bar0Size_of_reserved : off < bar0Size := by
  have := reservedRange_iff.mp hres
  unfold bar0Size
  omega

theorem ne_of_reserved {a : Nat} (ha : reservedRange a = false) : off ≠ a := by
  rintro rfl
  exact absurd hres (by simp [ha])

theorem not_contains_of_reserved {l : List Nat} (hl : ∀ a ∈ l, reservedRange a = false) : ¬l.contains off = true := by
  rw [List.contains_iff_mem]
  exact fun hmem => ne_of_reserved hres (hl off hmem) rfl

/-- A reserved range below the tables belongs to no block; one above lies between two tables. -/
theorem blockRegs_of_reserved : blockRegs off = [] ∨ 0x428000 ≤ off ∧ blockRegs off = tablesRegs := by
  have hoff := reservedRange_iff.mp hres
  unfold blockRegs
  iterate 17 rw [if_neg (by omega)]
  split
  · exact .inr ⟨by omega, rfl⟩
  · exact .inl rfl

theorem regAt_of_reserved : regAt off = none := by
  refine regAt_eq_none fun r hr => ?_
  have hoff := reservedRange_iff.mp hres
  obtain hnone | ⟨htab, hblock⟩ := blockRegs_of_reserved hres
  · simp [hnone] at hr
  · obtain ⟨hnbr, hprf, hrec, hpol⟩ := tablesRegs_avoid_gaps r (hblock ▸ hr)
    omega

theorem wholeWord_of_reserved : wholeWord off = false := by
  have hoff := reservedRange_iff.mp hres
  have : ¬(0x8A0010 ≤ off ∧ off < 0x8C0000) := by omega
  simp [wholeWord, this]

theorem upperWords_of_reserved : upperWords off = [] := by
  have hoff := reservedRange_iff.mp hres
  unfold upperWords
  rw [if_neg (by omega), if_neg (by omega), if_neg (not_contains_of_reserved hres (by decide)), if_neg (not_contains_of_reserved hres (by decide)),
    if_neg (not_contains_of_reserved hres (by decide)), if_neg (not_contains_of_reserved hres (by decide)), if_neg (ne_of_reserved hres (by decide)),
    if_neg (ne_of_reserved hres (by decide))]
  iterate 6 rw [if_neg (by omega)]

theorem plainRead_of_reserved : plainRead off = true := by
  have hoff := reservedRange_iff.mp hres
  simp only [plainRead, Bool.and_eq_true, Option.isNone_iff_eq_none, bne_iff_ne, decide_eq_true_eq]
  exact ⟨⟨⟨⟨⟨⟨hit_eq_none (by decide) (by omega), hit_eq_none (by decide) (by omega)⟩, hit_eq_none (by decide) (by omega)⟩,
    hit_eq_none (by decide) (by omega)⟩, ne_of_reserved hres (by decide)⟩, ne_of_reserved hres (by decide)⟩, lt_bar0Size_of_reserved hres⟩

/-! ### What decodes there -/

theorem State.shown_of_reserved (s : State) : s.shown off = 0#32 := by
  simp [State.shown, wholeWord_of_reserved hres, regAt_of_reserved hres]

theorem State.tableWrite_of_reserved (s : State) (v : Word) : s.tableWrite off v = s.bump A.GLB_UNMAPPED_WRITE := by
  simp [State.tableWrite, regAt_of_reserved hres]

theorem State.keyBlockWrite_of_reserved (s : State) (v : Word) : s.keyBlockWrite off v = s.tableWrite off v := by
  have hoff := reservedRange_iff.mp hres
  unfold State.keyBlockWrite
  rw [if_neg (ne_of_reserved hres (by decide)), if_neg (ne_of_reserved hres (by decide)), if_neg (ne_of_reserved hres (by decide)),
    hit_eq_none (by decide) (by omega)]
  simp [ne_of_reserved hres (a := A.SEAL_LOCK) (by decide), ne_of_reserved hres (a := A.SEAL_CMD) (by decide), regAt_of_reserved hres]

theorem State.tablesWrite_of_reserved (s : State) (m : Master) (v : Word) : s.tablesWrite m off v = s.tableWrite off v := by
  have hoff := reservedRange_iff.mp hres
  unfold State.tablesWrite
  iterate 6 rw [if_neg (by omega)]

/-- R332: whichever block's writes an offset of a reserved range is given to, they find no register. -/
theorem State.regWrite_of_reserved (s : State) (m : Master) (v : Word) : s.regWrite m off v = s.bump A.GLB_UNMAPPED_WRITE := by
  have hoff := reservedRange_iff.mp hres
  rw [← State.tableWrite_of_reserved hres s v]
  unfold State.regWrite
  iterate 5 rw [if_neg (by omega)]
  by_cases hkey : off < 0xC0000
  · rw [if_pos hkey, State.keyBlockWrite_of_reserved hres]
  by_cases hlow : off < 0x100000
  · rw [if_neg hkey, if_neg (by omega), if_pos hlow]
  · iterate 11 rw [if_neg (by omega)]
    exact State.tablesWrite_of_reserved hres s m v

end

end Sys2Proof.Machine
end

section
/-! An access by any master before it reaches a register: the verdict of the gate and what each verdict leaves (R14, R329, R420, R479). -/

namespace Sys2Proof.Machine

/-! ### The gate's verdict -/

theorem State.gate_of_not_answers {s : State} (m : Master) (off : Nat) (h : s.answers = false) : s.gate m off = .dead := by
  simp [State.gate, h]

theorem State.gate_of_asleep {s : State} {off : Nat} (ha : s.answers = true) (hs : s.asleep = true) (hoff : inPwr off = false) :
    s.gate .pcie off = .held := by
  simp [State.gate, ha, hs, hoff]

theorem State.gate_of_not_inService {s : State} (m : Master) {off : Nat} (ha : s.answers = true) (hs : s.asleep = false)
    (hserv : s.inService = false) (hoff : openEarly off = false) : s.gate m off = .early := by
  simp [State.gate, ha, hs, hserv, hoff]

theorem State.gate_of_forbiddenTo {s : State} {m : Master} {off : Nat} (ha : s.answers = true) (hs : s.asleep = false)
    (hserv : s.inService = true) (hforb : forbiddenTo m off = true) : s.gate m off = .forbidden := by
  simp [State.gate, ha, hs, hserv, hforb]

/-! ### The commands of an access, and BAR0 -/

theorem exec_registerWrite_alone (s : State) (m : Master) (off : Nat) (v : Word) :
    exec (.registerWrite m off v ⟨none, 0⟩) s = .next (s.busWrite m off v) := by
  have hv : lessEvents off v 0#32 = v := by
    rw [lessEvents, BitVec.zero_and, BitVec.not_zero, BitVec.and_allOnes]
  exact congrArg (fun w => Host.Outcome.next (s.busWrite m off w)) hv

theorem exec_readClear_alone (s : State) (m : Master) (off : Nat) : exec (.readClear m off none) s = .next (s.busRead m off false) := rfl

theorem exec_latchingRead (s : State) (m : Master) (off : Nat) : exec (.latchingRead m off) s = .next (s.busRead m off false) := rfl

theorem exec_unmappedAccess_write (s : State) (m : Master) (off : Nat) (v : Word) :
    exec (.unmappedAccess m off (some v)) s = .next (s.busWrite m off v) := rfl

theorem exec_unmappedAccess_read (s : State) (m : Master) (off : Nat) :
    exec (.unmappedAccess m off none) s = .next (s.busRead m off false) := rfl

theorem inBar2_of_lt {off : Nat} (h : off < bar0Size) : inBar2 off = false := by
  rw [inBar2, decide_eq_false (Nat.not_le.mpr h), Bool.false_and]

section
variable {s : State} {m : Master} {off : Nat} (hbar : off < bar0Size)
include hbar

theorem State.busWrite_of_lt (v : Word) :
    s.busWrite m off v = s.hostWrite m off v (fun s => if off % 4 = 0 then s.regWrite m off v else s.bump A.GLB_UNMAPPED_WRITE) := by
  simp [State.busWrite, inBar2_of_lt hbar]

theorem State.busRead_of_lt (keep : Bool) : s.busRead m off keep = s.hostRead m off (fun s => s.regRead m off keep) := by
  simp [State.busRead, inBar2_of_lt hbar]

/-! ### What each verdict leaves of a write and of a read -/

theorem State.busWrite_of_dead (v : Word) (h : s.gate m off = .dead) : s.busWrite m off v = s := by
  simp [State.busWrite_of_lt hbar, State.hostWrite, h]

theorem State.busRead_of_dead (keep : Bool) (h : s.gate m off = .dead) : s.busRead m off keep = s := by
  simp [State.busRead_of_lt hbar, State.hostRead, h]

theorem State.busWrite_of_forbidden (v : Word) (h : s.gate m off = .forbidden) : s.busWrite m off v = s := by
  simp [State.busWrite_of_lt hbar, State.hostWrite, h]

theorem State.busRead_of_forbidden (keep : Bool) (h : s.gate m off = .forbidden) : s.busRead m off keep = s := by
  simp [State.busRead_of_lt hbar, State.hostRead, h]

theorem State.busWrite_of_held (v : Word) (h : s.gate m off = .held) : s.busWrite m off v = s.hold m off (some v) := by
  simp [State.busWrite_of_lt hbar, State.hostWrite, State.hold, h]

theorem State.busRead_of_held (keep : Bool) (h : s.gate m off = .held) : s.busRead m off keep = s.hold m off none := by
  simp [State.busRead_of_lt hbar, State.hostRead, State.hold, h]

theorem State.busWrite_of_early (v : Word) (h : s.gate m off = .early) : s.busWrite m off v = s.bump A.PLT_STRUCT_REJECT := by
  simp [State.busWrite_of_lt hbar, State.hostWrite, h]

theorem State.busRead_of_early (keep : Bool) (h : s.gate m off = .early) : s.busRead m off keep = s.answer m off 0#32 := by
  simp [State.busRead_of_lt hbar, State.hostRead, h]

theorem State.busWrite_of_pass (v : Word) (hal : off % 4 = 0) (h : s.gate m off = .pass) : s.busWrite m off v = s.regWrite m off v := by
  simp [State.busWrite_of_lt hbar, State.hostWrite, h, hal]

theorem State.busRead_of_pass (keep : Bool) (h : s.gate m off = .pass) : s.busRead m off keep = s.regRead m off keep := by
  simp [State.busRead_of_lt hbar, State.hostRead, h]

end

/-! ### Reads that reach no register -/

theorem State.readClears_of_regAt_none {s : State} {off : Nat} (h : regAt off = none) : s.readClears off = s := by
  simp [State.readClears, h]

/-- A read that has no effect of its own, latches nothing and meets no latch answers the word shown (R7, R10). -/
theorem State.regRead_of_plainRead {s : State} {m : Master} {off : Nat} (keep : Bool) (hplain : plainRead off = true)
    (hlatch : s.latched m off = none) (hup : upperWords off = []) :
    s.regRead m off keep = if keep then s.answer m off (s.shown off) else (s.answer m off (s.shown off)).readClears off := by
  simp only [plainRead, Bool.and_eq_true, Option.isNone_iff_eq_none, bne_iff_ne, decide_eq_true_eq] at hplain
  obtain ⟨⟨⟨⟨⟨⟨hcap, htxq⟩, hchk⟩, hchk'⟩, hcal⟩, hrng⟩, -⟩ := hplain
  simp [State.regRead, hcap, htxq, hchk, hchk', hcal, hrng, hlatch, hup]

theorem State.regRead_of_reserved {s : State} {m : Master} {off : Nat} (hres : reservedRange off = true) (hlatch : s.latched m off = none) :
    s.regRead m off false = s.answer m off 0#32 := by
  rw [State.regRead_of_plainRead false (plainRead_of_reserved hres) hlatch (upperWords_of_reserved hres), State.shown_of_reserved hres]
  exact State.readClears_of_regAt_none (regAt_of_reserved hres)

/-! ### The rules -/

/-- R14, R329, R420, R479: the gate's verdict decides the access. -/
theorem accessGateRules : AccessGateRules := by
  intro s m off v _ hbar
  have hwrite := exec_registerWrite_alone s m off v
  have hread := exec_readClear_alone s m off
  refine ⟨fun ha => ?dead, fun ha hs hm hpwr => ?held, fun ha hs hserv hlo hplt => ?early, fun ha hs hserv hforb => ?forbidden,
    fun o => ?secondary, fun o => rfl⟩
  case dead =>
    have hgate := State.gate_of_not_answers m off ha
    rw [hwrite, hread, State.busWrite_of_dead hbar v hgate, State.busRead_of_dead hbar false hgate]
    exact ⟨rfl, rfl⟩
  case held =>
    subst hm
    have hgate := State.gate_of_asleep ha hs (off := off) (by simpa [inPwr] using hpwr)
    rw [hwrite, hread, State.busWrite_of_held hbar v hgate, State.busRead_of_held hbar false hgate]
    exact ⟨rfl, rfl⟩
  case early =>
    have hopen : openEarly off = false := by
      simp only [openEarly, Bool.or_eq_false_iff, Bool.and_eq_false_iff, decide_eq_false_iff_not]
      omega
    have hgate := State.gate_of_not_inService m ha hs hserv hopen
    rw [hwrite, hread, State.busWrite_of_early hbar v hgate, State.busRead_of_early hbar false hgate]
    exact ⟨rfl, rfl⟩
  case forbidden =>
    have hgate := State.gate_of_forbiddenTo ha hs hserv hforb
    rw [hwrite, hread, State.busWrite_of_forbidden hbar v hgate, State.busRead_of_forbidden hbar false hgate]
    exact ⟨rfl, rfl⟩
  case secondary =>
    simp [forbiddenTo, secondaryForbidden, Bool.decide_and]

/-- R331, R332: past the gate an access to a reserved range finds no register, whichever command makes it. -/
theorem unmappedAccessesRules : UnmappedAccessesRules := by
  intro s m off v hal hres hgate
  have hbar := lt_bar0Size_of_reserved hres
  have hwrite : s.busWrite m off v = s.bump A.GLB_UNMAPPED_WRITE := by
    rw [State.busWrite_of_pass hbar v hal hgate, State.regWrite_of_reserved hres]
  rw [exec_unmappedAccess_write, exec_registerWrite_alone, hwrite]
  refine ⟨rfl, rfl, fun hlatch => ?_⟩
  have hread : s.busRead m off false = s.answer m off 0#32 := by
    rw [State.busRead_of_pass hbar false hgate, State.regRead_of_reserved hres hlatch]
  rw [exec_unmappedAccess_read, exec_readClear_alone, exec_latchingRead, hread]
  exact ⟨rfl, rfl, rfl⟩

/-- Settles O59: the gate's verdict decides an access before it reaches a register, and past the gate a reserved range holds no register. -/
theorem gateAndUnmapped : Obligations.GateAndUnmapped :=
  ⟨accessGateRules, unmappedAccessesRules⟩

end Sys2Proof.Machine
end

section
/-! The events of a rising W1C bit, and runs of register writes: what they leave in the registers and outside the register file (R326). -/

namespace Sys2Proof.Machine

/-! ### Events -/

/-- What an event leaves: a record that waits (or nothing at all), or the event counted as lost. -/
theorem State.noteRise_cases (s : State) (off b : Nat) :
    (∃ hst, s.noteRise off b = { s with hst := hst }) ∨ s.noteRise off b = (s.bump A.HDM_EVT_LOST).put F.HDM_EVT_STATUS_LOST 1 := by
  dsimp only [State.noteRise]
  split
  · split
    · exact .inl ⟨_, rfl⟩
    · exact .inr rfl
  · exact .inl ⟨s.hst, rfl⟩

@[simp] theorem State.noteRise_sec (s : State) (off b : Nat) : (s.noteRise off b).sec = s.sec := by
  obtain ⟨hst, h⟩ | h := s.noteRise_cases off b <;> simp [h]

@[simp] theorem State.noteRise_out (s : State) (off b : Nat) : (s.noteRise off b).out = s.out := by
  obtain ⟨hst, h⟩ | h := s.noteRise_cases off b <;> simp [h]

/-- A register that an event may write: the lost-event counter and its flag (R326). -/
def eventReg (off : Nat) : Bool := off == A.HDM_EVT_LOST || off == A.HDM_EVT_STATUS

theorem State.rd_noteRise (s : State) (off b : Nat) {a : Nat} (ha : eventReg a = false) : (s.noteRise off b).rd a = s.rd a := by
  obtain ⟨hlost, hstatus⟩ : a ≠ A.HDM_EVT_LOST ∧ a ≠ A.HDM_EVT_STATUS := by simpa [eventReg] using ha
  obtain ⟨hst, h⟩ | h := s.noteRise_cases off b
  · rw [h]
    rfl
  · rw [h, State.rd_put_ne _ _ _ _ hstatus, State.rd_bump_ne _ _ _ hlost]

@[simp] theorem State.raise_sec (s : State) (f : Fld) : (s.raise f).sec = s.sec := by
  unfold State.raise
  split <;> simp

@[simp] theorem State.raise_out (s : State) (f : Fld) : (s.raise f).out = s.out := by
  unfold State.raise
  split <;> simp

theorem State.rd_raise_ne (s : State) (f : Fld) {a : Nat} (ha : eventReg a = false) (hne : a ≠ f.off) : (s.raise f).rd a = s.rd a := by
  unfold State.raise
  split
  · rfl
  · rw [State.rd_noteRise _ _ _ ha, State.rd_put_ne _ _ _ _ hne]

/-- A raised bit reads 1. -/
theorem State.get_raise_same (s : State) (f : Fld) (ha : eventReg f.off = false) (hw : f.w = 1) (hlo : f.lo < 32) : (s.raise f).get f = 1 := by
  unfold State.raise
  split
  next hset => exact beq_iff_eq.mp hset
  next =>
    have hput : (s.put f 1).get f = 1 := by simp [State.get_put_same s f 1 (by omega), hw]
    simpa only [State.get, State.rd_noteRise _ _ _ ha] using hput

/-- A field beside a raised bit stands. -/
theorem State.get_raise_apart (s : State) (f g : Fld) (ha : eventReg g.off = false) (h : g.lo + g.w ≤ 32)
    (hd : g.lo + g.w ≤ f.lo ∨ f.lo + f.w ≤ g.lo) : (s.raise f).get g = s.get g := by
  unfold State.raise
  split
  · rfl
  · have hput := State.get_put_apart s f g 1 h hd
    simpa only [State.get, State.rd_noteRise _ _ _ ha] using hput

/-! ### Registers zeroised one after another -/

theorem State.rd_foldl_zero (a : Nat → Nat) (l : List Nat) (s : State) (off : Nat) :
    (l.foldl (fun (s : State) w => s.wr (a w) 0#32) s).rd off = if ∃ w ∈ l, off = a w then 0#32 else s.rd off := by
  induction l generalizing s with
  | nil => simp
  | cons x l ih =>
    rw [List.foldl_cons, ih, State.rd_wr]
    by_cases hl : ∃ w ∈ l, off = a w
    · simp [hl]
    · by_cases hx : off = a x
      · simp [hx]
      · simp [hl, hx]

@[simp] theorem State.foldl_zero_sec (a : Nat → Nat) (l : List Nat) (s : State) :
    (l.foldl (fun (s : State) w => s.wr (a w) 0#32) s).sec = s.sec := by
  induction l generalizing s with
  | nil => rfl
  | cons x l ih => rw [List.foldl_cons, ih, State.wr_sec]

end Sys2Proof.Machine
end

section
/-! The operations of the Seal engine: its lock and lease, the start of a job and its end (R380 to R382). -/

namespace Sys2Proof.Machine

/-! ### The lease's clock and the freed lock (R380) -/

@[simp] theorem State.sealTouch_rd (s : State) (off : Nat) : s.sealTouch.rd off = s.rd off := rfl
@[simp] theorem State.sealTouch_get (s : State) (f : Fld) : s.sealTouch.get f = s.get f := rfl
@[simp] theorem State.sealTouch_sealJob (s : State) : s.sealTouch.sec.sealJob = s.sec.sealJob := rfl
@[simp] theorem State.sealTouch_stopping (s : State) (pos : Nat) : s.sealTouch.stopping pos = s.stopping pos := rfl
@[simp] theorem State.sealTouch_sealOn (s : State) : s.sealTouch.sealOn = s.sealOn := rfl

/-- The lock is free and the key, IV and tag registers read 0. -/
def SealFreed (u : State) : Prop :=
  u.get F.SEAL_OWNER_OWNER = 0 ∧ (∀ w : Fin 8, u.rd (A.SEAL_KEY w) = 0#32) ∧ (∀ w : Fin 3, u.rd (A.SEAL_IV w) = 0#32) ∧
    (∀ w : Fin 4, u.rd (A.SEAL_TAG w) = 0#32)

/-- The registers that a freed lock zeroises. -/
def SealSecret (off : Nat) : Prop :=
  (∃ w, w < 8 ∧ off = A.SEAL_KEY w) ∨ (∃ w, w < 3 ∧ off = A.SEAL_IV w) ∨ (∃ w, w < 4 ∧ off = A.SEAL_TAG w)

theorem State.sealFree_sec (s : State) : s.sealFree.sec = { s.sec with sealRelease := false } := by
  simp [State.sealFree]

theorem State.sealFree_rd_secret (s : State) {off : Nat} (h : SealSecret off) : s.sealFree.rd off = 0#32 := by
  simp only [State.sealFree, State.rd_foldl_zero, List.mem_range]
  rcases h with hkey | hiv | htag
  · simp [hkey]
  · simp [hiv]
  · simp [htag]

theorem State.sealFree_rd_of_not_secret (s : State) {off : Nat} (h : ¬SealSecret off) : s.sealFree.rd off = (s.put F.SEAL_OWNER_OWNER 0).rd off := by
  obtain ⟨hkey, hiv, htag⟩ := not_or.mp h |>.imp_right not_or.mp
  simp only [State.sealFree, State.rd_foldl_zero, List.mem_range, if_neg hkey, if_neg hiv, if_neg htag]
  rfl

theorem not_sealSecret_owner : ¬SealSecret A.SEAL_OWNER := by
  simp only [SealSecret, A.SEAL_OWNER, A.SEAL_KEY, A.SEAL_IV, A.SEAL_TAG]
  omega

theorem State.sealFree_get_owner (s : State) : s.sealFree.get F.SEAL_OWNER_OWNER = 0 := by
  rw [State.get, State.sealFree_rd_of_not_secret s not_sealSecret_owner]
  exact State.get_put_same s F.SEAL_OWNER_OWNER 0 (by decide)

theorem State.sealFree_freed (s : State) : SealFreed s.sealFree :=
  ⟨s.sealFree_get_owner, fun w => s.sealFree_rd_secret (.inl ⟨w, w.isLt, rfl⟩), fun w => s.sealFree_rd_secret (.inr (.inl ⟨w, w.isLt, rfl⟩)),
    fun w => s.sealFree_rd_secret (.inr (.inr ⟨w, w.isLt, rfl⟩))⟩

/-! ### Writes of SEAL_LOCK (R380) -/

theorem State.hostWrite_of_pass {s : State} {m : Master} {off : Nat} (v : Word) (op : State → State) (h : s.gate m off = .pass) :
    s.hostWrite m off v op = op s := by
  rw [State.hostWrite, h]

theorem claimWord_fields (tag : Fin 65536) :
    let v := BitVec.ofNat 32 (tag + 2 ^ 16)
    getField v 0 16 = tag ∧ bit v.toNat 16 = true ∧ bit v.toNat 17 = false := by
  simp only [getField, bit, bits, BitVec.toNat_ofNat, beq_iff_eq, beq_eq_false_iff_ne]
  omega

theorem releaseWord_fields (tag : Fin 65536) :
    let v := BitVec.ofNat 32 (tag + 2 ^ 17)
    getField v 0 16 = tag ∧ bit v.toNat 16 = false ∧ bit v.toNat 17 = true := by
  simp only [getField, bit, bits, BitVec.toNat_ofNat, beq_iff_eq, beq_eq_false_iff_ne]
  omega

/-- A write with CLAIM alone. -/
theorem State.sealLockWrite_claim (s : State) {v : Word} {tag : Fin 65536} (htag : getField v 0 16 = tag) (hclaim : bit v.toNat 16 = true)
    (hrelease : bit v.toNat 17 = false) :
    s.sealLockWrite v = if tag ≠ 0 ∧ s.get F.SEAL_OWNER_OWNER = 0 then s.sealTouch.put F.SEAL_OWNER_OWNER tag else s.sealTouch := by
  simp [State.sealLockWrite, htag, hclaim, hrelease]

/-- A write with RELEASE alone. -/
theorem State.sealLockWrite_release (s : State) {v : Word} {tag : Fin 65536} (htag : getField v 0 16 = tag) (hclaim : bit v.toNat 16 = false)
    (hrelease : bit v.toNat 17 = true) :
    s.sealLockWrite v =
      if tag ≠ 0 ∧ s.get F.SEAL_OWNER_OWNER = tag then
        if s.sec.sealJob.isSome then { s with sec := { s.sec with sealAt := s.tim.now, sealRelease := true } } else s.sealTouch.sealFree
      else s.sealTouch := by
  simp only [State.sealLockWrite, htag, hclaim, hrelease, Bool.false_eq_true, false_and, if_false, true_and, ne_eq, Fin.val_eq_zero_iff,
    State.sealTouch_get, State.sealTouch_sealJob]
  rfl

section
variable {s : State} {m : Master} (hgate : s.gate m A.SEAL_LOCK = .pass) (tag : Fin 65536)
include hgate

theorem exec_sealClaim_of_pass :
    exec (.sealClaim m tag) s =
      .next (if tag ≠ 0 ∧ s.get F.SEAL_OWNER_OWNER = 0 then s.sealTouch.put F.SEAL_OWNER_OWNER tag else s.sealTouch) := by
  obtain ⟨htag, hclaim, hrelease⟩ := claimWord_fields tag
  rw [← State.sealLockWrite_claim s htag hclaim hrelease]
  exact congrArg Host.Outcome.next (State.hostWrite_of_pass _ _ hgate)

theorem exec_sealRelease_of_pass :
    exec (.sealRelease m tag) s =
      .next (if tag ≠ 0 ∧ s.get F.SEAL_OWNER_OWNER = tag then
        if s.sec.sealJob.isSome then { s with sec := { s.sec with sealAt := s.tim.now, sealRelease := true } } else s.sealTouch.sealFree
      else s.sealTouch) := by
  obtain ⟨htag, hclaim, hrelease⟩ := releaseWord_fields tag
  rw [← State.sealLockWrite_release s htag hclaim hrelease]
  exact congrArg Host.Outcome.next (State.hostWrite_of_pass _ _ hgate)

end

/-! ### The start of a job (R381) -/

/-- The job that GO takes from the registers. -/
def State.sealJobTaken (s : State) (decrypt key256 : Bool) : SealJob :=
  ⟨decrypt, s.regBytes A.SEAL_KEY (if key256 then 8 else 4), s.regBytes A.SEAL_IV 3, s.get F.SEAL_AAD_LEN_LEN, s.get F.SEAL_LEN_LEN,
    (s.rd A.SEAL_OUT_ADDR_LO).toNat + (s.rd A.SEAL_OUT_ADDR_HI).toNat * 2 ^ 32, s.regBytes A.SEAL_TAG 4⟩

/-- The word of SEAL_CMD with GO. -/
def sealGoWord (decrypt key256 : Bool) : Word := fieldWord 0 1 1 ||| fieldWord 1 1 (b2n decrypt) ||| fieldWord 2 1 (b2n key256)

theorem sealGoWord_bits (decrypt key256 : Bool) :
    bit (sealGoWord decrypt key256).toNat 0 = true ∧ bit (sealGoWord decrypt key256).toNat 1 = decrypt ∧
      bit (sealGoWord decrypt key256).toNat 2 = key256 := by
  revert decrypt key256
  decide

theorem State.sealCmdWrite_go (s : State) (decrypt key256 : Bool) :
    s.sealCmdWrite (sealGoWord decrypt key256) =
      if s.stopping 3 ∨ !s.sealOn then s.sealTouch.bump A.PWR_STOPPING_REJECT
      else if s.get F.SEAL_OWNER_OWNER = 0 ∨ s.sec.sealJob.isSome then s.sealTouch.bump A.SEAL_REJECT
      else ({ s with sec := { s.sec with sealAt := s.tim.now, sealJob := some (s.sealJobTaken decrypt key256) } } : State).put F.SEAL_STATUS_BUSY 1 := by
  obtain ⟨hgo, hdecrypt, hkey⟩ := sealGoWord_bits decrypt key256
  simp only [State.sealCmdWrite, hgo, hdecrypt, hkey]
  rfl

theorem exec_sealGo_of_pass {s : State} {m : Master} (hgate : s.gate m A.SEAL_CMD = .pass) (decrypt key256 : Bool) :
    exec (.sealGo m decrypt key256) s = .next (s.sealCmdWrite (sealGoWord decrypt key256)) :=
  congrArg Host.Outcome.next (State.hostWrite_of_pass _ _ hgate)

/-! ### The end of a job (R381, R382) -/

/-- The job has ended and its result shows; a release that waits has not taken effect yet. -/
def State.sealResult (s : State) (result : Nat) : State :=
  ((({ s with sec := { s.sec with sealJob := none, sealAt := s.tim.now } } : State).put F.SEAL_STATUS_BUSY 0).put F.SEAL_STATUS_RESULT result).raise
    F.SEAL_STATUS_DONE

@[simp] theorem State.sealResult_sec (s : State) (result : Nat) : (s.sealResult result).sec = { s.sec with sealJob := none, sealAt := s.tim.now } := by
  simp [State.sealResult]

@[simp] theorem State.sealResult_out (s : State) (result : Nat) : (s.sealResult result).out = s.out := by
  simp [State.sealResult]

theorem State.sealResult_rd (s : State) (result : Nat) {off : Nat} (hev : eventReg off = false) (hne : off ≠ A.SEAL_STATUS) :
    (s.sealResult result).rd off = s.rd off := by
  rw [State.sealResult, State.rd_raise_ne _ _ hev hne, State.rd_put_ne _ _ _ _ hne, State.rd_put_ne _ _ _ _ hne]
  rfl

theorem State.sealResult_get_done (s : State) (result : Nat) : (s.sealResult result).get F.SEAL_STATUS_DONE = 1 :=
  State.get_raise_same _ _ (by decide) rfl (by decide)

theorem State.sealResult_get_result (s : State) (result : Nat) : (s.sealResult result).get F.SEAL_STATUS_RESULT = result % 4 := by
  rw [State.sealResult, State.get_raise_apart _ _ _ (by decide) (by decide) (by decide)]
  exact State.get_put_same _ F.SEAL_STATUS_RESULT _ (by decide)

theorem State.sealResult_get_busy (s : State) (result : Nat) : (s.sealResult result).get F.SEAL_STATUS_BUSY = 0 := by
  rw [State.sealResult, State.get_raise_apart _ _ _ (by decide) (by decide) (by decide),
    State.get_put_apart _ _ _ _ (by decide) (by decide)]
  exact State.get_put_same _ F.SEAL_STATUS_BUSY 0 (by decide)

theorem State.sealEnd_eq (s : State) (result : Nat) :
    s.sealEnd result = if s.sec.sealRelease then (s.sealResult result).sealFree else s.sealResult result := by
  change (if (s.sealResult result).sec.sealRelease then (s.sealResult result).sealFree else s.sealResult result) = _
  rw [State.sealResult_sec]

/-- Bytes written to host memory. -/
def State.hostPut (s : State) (addr : Nat) (bs : List Byte) : State := { s with out := .hostData addr bs :: s.out }

@[simp] theorem State.hostPut_rd (s : State) (addr : Nat) (bs : List Byte) (off : Nat) : (s.hostPut addr bs).rd off = s.rd off := rfl
@[simp] theorem State.hostPut_sec (s : State) (addr : Nat) (bs : List Byte) : (s.hostPut addr bs).sec = s.sec := rfl

theorem State.tagWrite_eq (s : State) (tag : List Byte) :
    let w (i : Nat) : Word := (leWords 4 tag).getD i 0#32
    s.tagWrite tag = (((s.wr (A.SEAL_TAG 0) (w 0)).wr (A.SEAL_TAG 1) (w 1)).wr (A.SEAL_TAG 2) (w 2)).wr (A.SEAL_TAG 3) (w 3) := rfl

@[simp] theorem State.tagWrite_sec (s : State) (tag : List Byte) : (s.tagWrite tag).sec = s.sec := rfl
@[simp] theorem State.tagWrite_out (s : State) (tag : List Byte) : (s.tagWrite tag).out = s.out := rfl

theorem State.tagWrite_rd_tag (s : State) (tag : List Byte) (w : Fin 4) :
    (s.tagWrite tag).rd (A.SEAL_TAG w) = (leWords 4 tag).getD w 0#32 := by
  simp only [State.tagWrite_eq, State.rd_wr]
  match w with
  | 0 | 1 | 2 | 3 => rfl

theorem State.tagWrite_rd_ne (s : State) (tag : List Byte) {off : Nat} (h : ∀ w < 4, off ≠ A.SEAL_TAG w) : (s.tagWrite tag).rd off = s.rd off := by
  simp [State.tagWrite_eq, h]

/-- What a job makes of the additional data and the input that it has read. -/
def SealJob.encrypted (j : SealJob) (aad input : List Byte) : List Byte × List Byte :=
  Config.gcmEncrypt j.key j.iv (slice aad 0 j.aadLen) (slice input 0 j.inLen)

/-- The same of a decryption: the plaintext and the tag to compare. -/
def SealJob.decrypted (j : SealJob) (aad input : List Byte) : List Byte × List Byte :=
  Config.gcmDecrypt j.key j.iv (slice aad 0 j.aadLen) (slice input 0 j.inLen)

theorem State.sealDone_idle {s : State} (hidle : s.sec.sealJob = none) (d : Option (List Byte × List Byte)) : s.sealDone d = s := by
  simp [State.sealDone, hidle]

section
variable {s : State} {j : SealJob} (hjob : s.sec.sealJob = some j)
include hjob

theorem State.sealDone_dmaError : s.sealDone none = s.sealEnd 2 := by
  simp [State.sealDone, hjob]

theorem State.sealDone_encrypt (aad input : List Byte) (hd : j.decrypt = false) :
    s.sealDone (some (aad, input)) =
      (((s.hostPut j.outAddr (j.encrypted aad input).1).tagWrite (j.encrypted aad input).2).bump A.SEAL_JOBS).sealEnd 0 := by
  simp only [State.sealDone, hjob, hd]
  rfl

theorem State.sealDone_rightTag (aad input : List Byte) (hd : j.decrypt = true) (htag : (j.decrypted aad input).2 = j.tag) :
    s.sealDone (some (aad, input)) = ((s.hostPut j.outAddr (j.decrypted aad input).1).bump A.SEAL_JOBS).sealEnd 0 := by
  simp only [State.sealDone, hjob, hd, if_true]
  exact if_pos htag

theorem State.sealDone_wrongTag (aad input : List Byte) (hd : j.decrypt = true) (htag : (j.decrypted aad input).2 ≠ j.tag) :
    s.sealDone (some (aad, input)) =
      ((((s.hostPut j.outAddr (j.decrypted aad input).1).hostPut j.outAddr (List.replicate j.inLen 0#8)).bump A.SEAL_AUTH_FAIL).bump
        A.SEAL_JOBS).sealEnd 1 := by
  simp only [State.sealDone, hjob, hd, if_true]
  exact if_neg htag

/-- However a job ends, it ends by `sealEnd` from a state that has not touched the lock. -/
theorem State.sealDone_ends (d : Option (List Byte × List Byte)) : ∃ (t : State) (result : Nat), s.sealDone d = t.sealEnd result ∧ t.sec = s.sec := by
  rcases d with _ | ⟨aad, input⟩
  · exact ⟨_, _, State.sealDone_dmaError hjob, rfl⟩
  by_cases hd : j.decrypt = true
  · by_cases htag : (j.decrypted aad input).2 = j.tag
    · exact ⟨_, _, State.sealDone_rightTag hjob aad input hd htag, rfl⟩
    · exact ⟨_, _, State.sealDone_wrongTag hjob aad input hd htag, rfl⟩
  · exact ⟨_, _, State.sealDone_encrypt hjob aad input (by simpa using hd), rfl⟩

end

theorem exec_sealJobDone (s : State) (d : Option (List Byte × List Byte)) : exec (.sealJobDone d) s = .next (s.sealDone d) := rfl

/-- With no release waiting, the end of a job is the state that shows its result. -/
theorem exec_sealJobDone_of_sealDone {s t : State} {d : Option (List Byte × List Byte)} {result : Nat} (hrel : s.sec.sealRelease = false)
    (h : s.sealDone d = t.sealEnd result) (hsec : t.sec = s.sec) : exec (.sealJobDone d) s = .next (t.sealResult result) := by
  rw [exec_sealJobDone, h, State.sealEnd_eq, hsec, if_neg (by simp [hrel])]

/-! ### Writes of the other SEAL_ registers -/

@[simp] theorem State.tableWrite_sec (s : State) (off : Nat) (v : Word) : (s.tableWrite off v).sec = s.sec := by
  unfold State.tableWrite
  split
  · rfl
  · split
    · rfl
    · split <;> rfl

theorem State.regWrite_sealKey (s : State) (m : Master) (w : Fin 8) (v : Word) :
    s.regWrite m (A.SEAL_KEY w) v = s.sealTouch.tableWrite (A.SEAL_KEY w) v := by
  have hreg : ∀ w : Fin 8, (regAt (A.SEAL_KEY w)).isSome = true := by decide
  have hnonce : hit (A.SEAL_KEY w) 0x80220 4 8 = none := hit_eq_none (by decide) (by simp only [A.SEAL_KEY]; omega)
  have hblock : s.regWrite m (A.SEAL_KEY w) v = s.keyBlockWrite (A.SEAL_KEY w) v := by
    unfold State.regWrite
    iterate 5 rw [if_neg (by simp only [A.SEAL_KEY]; omega)]
    rw [if_pos (by simp only [A.SEAL_KEY]; omega)]
  rw [hblock, State.keyBlockWrite]
  iterate 3 rw [if_neg (by simp only [A.SEAL_KEY, A.KEY_CMD, A.KEY_FUSE_CTRL, A.KEY_ATT_CTRL]; omega)]
  simp only [hnonce]
  iterate 2 rw [if_neg (by simp only [A.SEAL_KEY, A.SEAL_LOCK, A.SEAL_CMD]; omega)]
  exact if_pos ⟨by simp only [A.SEAL_KEY]; omega, by simp only [A.SEAL_KEY]; omega, hreg w⟩

end Sys2Proof.Machine
end

section
/-! The rules of the Seal engine (R380 to R382, R424). -/

namespace Sys2Proof.Machine

/-! ### The lock and the lease (R380) -/

section
variable {s : State} {m : Master} {tag : Fin 65536} (hgate : s.gate m A.SEAL_LOCK = .pass)
include hgate

theorem sealClaim_free (ht : tag ≠ 0) (hfree : s.get F.SEAL_OWNER_OWNER = 0) :
    ∃ u, exec (.sealClaim m tag) s = .next u ∧ u.get F.SEAL_OWNER_OWNER = tag ∧ u.sec = { s.sec with sealAt := s.tim.now } ∧
      (∀ off, off ≠ A.SEAL_OWNER → u.rd off = s.rd off) := by
  refine ⟨s.sealTouch.put F.SEAL_OWNER_OWNER tag, ?_, ?_, rfl, fun off hne => State.rd_put_ne _ _ _ _ hne⟩
  · rw [exec_sealClaim_of_pass hgate, if_pos ⟨ht, hfree⟩]
  · rw [State.get_put_same _ _ _ (by decide)]
    exact Nat.mod_eq_of_lt tag.isLt

theorem sealClaim_held (hheld : s.get F.SEAL_OWNER_OWNER ≠ 0) : exec (.sealClaim m tag) s = .next s.sealTouch := by
  rw [exec_sealClaim_of_pass hgate, if_neg fun h => hheld h.2]

theorem sealRelease_idle (ht : tag ≠ 0) (howner : s.get F.SEAL_OWNER_OWNER = tag) (hidle : s.sec.sealJob = none) :
    exec (.sealRelease m tag) s = .next s.sealTouch.sealFree := by
  simp [exec_sealRelease_of_pass hgate, ht, howner, hidle]

theorem sealRelease_running (ht : tag ≠ 0) (howner : s.get F.SEAL_OWNER_OWNER = tag) (hrun : s.sec.sealJob ≠ none) :
    exec (.sealRelease m tag) s = .next { s with sec := { s.sec with sealAt := s.tim.now, sealRelease := true } } := by
  simp [exec_sealRelease_of_pass hgate, ht, howner, Option.isSome_iff_ne_none, hrun]

theorem sealRelease_other (hother : s.get F.SEAL_OWNER_OWNER ≠ tag) : exec (.sealRelease m tag) s = .next s.sealTouch := by
  rw [exec_sealRelease_of_pass hgate, if_neg fun h => hother h.2]

end

theorem sealLeaseExpire_due {s : State} (hheld : s.get F.SEAL_OWNER_OWNER ≠ 0) (hidle : s.sec.sealJob = none)
    (hdue : s.sec.sealAt + 100000000 ≤ s.tim.now) : exec .sealLeaseExpire s = .next s.sealFree :=
  congrArg Host.Outcome.next (if_pos ⟨hheld, Option.isNone_iff_eq_none.mpr hidle, hdue⟩)

theorem sealLeaseExpire_notDue {s : State} (h : s.sec.sealJob ≠ none ∨ s.tim.now < s.sec.sealAt + 100000000) :
    exec .sealLeaseExpire s = .next s := by
  refine congrArg Host.Outcome.next (if_neg fun ⟨_, hidle, hdue⟩ => ?_)
  rcases h with hrun | hearly
  · exact hrun (Option.isNone_iff_eq_none.mp hidle)
  · omega

/-! ### GO (R381, R424) -/

section
variable {s : State} {m : Master} (hgate : s.gate m A.SEAL_CMD = .pass) (decrypt key256 : Bool)
include hgate

theorem sealGo_starts (hstop : s.stopping 3 = false) (hon : s.sealOn = true) (hheld : s.get F.SEAL_OWNER_OWNER ≠ 0) (hidle : s.sec.sealJob = none) :
    ∃ u, exec (.sealGo m decrypt key256) s = .next u ∧ u.get F.SEAL_STATUS_BUSY = 1 ∧ u.sec.sealJob = some (s.sealJobTaken decrypt key256) := by
  rw [exec_sealGo_of_pass hgate, State.sealCmdWrite_go, if_neg (by simp [hstop, hon]), if_neg (by simp [hheld, hidle])]
  exact ⟨_, rfl, State.get_put_same _ _ _ (by decide), rfl⟩

theorem sealGo_rejected (hstop : s.stopping 3 = false) (hon : s.sealOn = true) (h : s.get F.SEAL_OWNER_OWNER = 0 ∨ s.sec.sealJob ≠ none) :
    ∃ u, exec (.sealGo m decrypt key256) s = .next u ∧ u.sec.sealJob = s.sec.sealJob ∧
      (u.rd A.SEAL_REJECT).toNat = min ((s.rd A.SEAL_REJECT).toNat + 1) 0xFFFFFFFF := by
  rw [exec_sealGo_of_pass hgate, State.sealCmdWrite_go, if_neg (by simp [hstop, hon]), if_pos (h.imp_right Option.isSome_iff_ne_none.mpr)]
  exact ⟨_, rfl, rfl, State.rd_bump_same _ _⟩

theorem sealGo_off (h : s.stopping 3 = true ∨ s.sealOn = false) :
    ∃ u, exec (.sealGo m decrypt key256) s = .next u ∧ u.sec.sealJob = s.sec.sealJob ∧
      (u.rd A.PWR_STOPPING_REJECT).toNat = min ((s.rd A.PWR_STOPPING_REJECT).toNat + 1) 0xFFFFFFFF := by
  rw [exec_sealGo_of_pass hgate, State.sealCmdWrite_go, if_pos (by simpa using h)]
  exact ⟨_, rfl, rfl, State.rd_bump_same _ _⟩

end

/-! ### The end of a job (R380 to R382) -/

theorem sealJobDone_idle {s : State} (hidle : s.sec.sealJob = none) (d : Option (List Byte × List Byte)) : exec (.sealJobDone d) s = .next s := by
  rw [exec_sealJobDone, State.sealDone_idle hidle]

section
variable {s : State} {j : SealJob} (hjob : s.sec.sealJob = some j)
include hjob

theorem sealJobDone_releases (hrel : s.sec.sealRelease = true) (d : Option (List Byte × List Byte)) :
    ∃ u, exec (.sealJobDone d) s = .next u ∧ u.sec.sealJob = none ∧ SealFreed u := by
  obtain ⟨t, result, hdone, hsec⟩ := State.sealDone_ends hjob d
  refine ⟨(t.sealResult result).sealFree, ?_, ?_, State.sealFree_freed _⟩
  · rw [exec_sealJobDone, hdone, State.sealEnd_eq, hsec, if_pos hrel]
  · simp [State.sealFree_sec]

variable (hrel : s.sec.sealRelease = false)
include hrel

theorem sealJobDone_dmaError :
    ∃ u, exec (.sealJobDone none) s = .next u ∧ u.sec.sealJob = none ∧ u.get F.SEAL_STATUS_RESULT = 2 ∧ u.get F.SEAL_STATUS_BUSY = 0 ∧
      u.get F.SEAL_STATUS_DONE = 1 ∧ u.out = s.out :=
  ⟨s.sealResult 2, exec_sealJobDone_of_sealDone hrel (State.sealDone_dmaError hjob) rfl, by simp, State.sealResult_get_result _ _,
    State.sealResult_get_busy _ _, State.sealResult_get_done _ _, State.sealResult_out _ _⟩

theorem sealJobDone_encrypt (aad input : List Byte) (hd : j.decrypt = false) :
    ∃ u, exec (.sealJobDone (some (aad, input))) s = .next u ∧ u.sec.sealJob = none ∧ u.get F.SEAL_STATUS_RESULT = 0 ∧
      u.get F.SEAL_STATUS_DONE = 1 ∧ u.out = .hostData j.outAddr (j.encrypted aad input).1 :: s.out ∧
      (∀ w : Fin 4, u.rd (A.SEAL_TAG w) = (leWords 4 (j.encrypted aad input).2).getD w 0#32) ∧
      (u.rd A.SEAL_JOBS).toNat = min ((s.rd A.SEAL_JOBS).toNat + 1) 0xFFFFFFFF := by
  refine ⟨_, exec_sealJobDone_of_sealDone hrel (State.sealDone_encrypt hjob aad input hd) rfl, by simp, State.sealResult_get_result _ _,
    State.sealResult_get_done _ _, State.sealResult_out _ _, fun w => ?tag, ?jobs⟩
  case tag =>
    have htag : ∀ w : Fin 4, eventReg (A.SEAL_TAG w) = false ∧ A.SEAL_TAG w ≠ A.SEAL_STATUS ∧ A.SEAL_TAG w ≠ A.SEAL_JOBS := by decide
    obtain ⟨hev, hstatus, hjobs⟩ := htag w
    rw [State.sealResult_rd _ _ hev hstatus, State.rd_bump_ne _ _ _ hjobs, State.tagWrite_rd_tag]
  case jobs =>
    rw [State.sealResult_rd _ _ (by decide) (by decide), State.rd_bump_same, State.tagWrite_rd_ne _ _ (by decide), State.hostPut_rd]

theorem sealJobDone_decrypt (aad input : List Byte) (hd : j.decrypt = true) :
    ∃ u, exec (.sealJobDone (some (aad, input))) s = .next u ∧ u.sec.sealJob = none ∧ u.get F.SEAL_STATUS_BUSY = 0 ∧
      (let r := j.decrypted aad input
       (r.2 = j.tag → u.get F.SEAL_STATUS_RESULT = 0 ∧ u.out = .hostData j.outAddr r.1 :: s.out) ∧
       (r.2 ≠ j.tag → u.get F.SEAL_STATUS_RESULT = 1 ∧
         u.out = .hostData j.outAddr (List.replicate j.inLen 0#8) :: .hostData j.outAddr r.1 :: s.out ∧
         (u.rd A.SEAL_AUTH_FAIL).toNat = min ((s.rd A.SEAL_AUTH_FAIL).toNat + 1) 0xFFFFFFFF)) := by
  by_cases htag : (j.decrypted aad input).2 = j.tag
  · exact ⟨_, exec_sealJobDone_of_sealDone hrel (State.sealDone_rightTag hjob aad input hd htag) rfl, by simp, State.sealResult_get_busy _ _,
      fun _ => ⟨State.sealResult_get_result _ _, State.sealResult_out _ _⟩, fun hne => absurd htag hne⟩
  · refine ⟨_, exec_sealJobDone_of_sealDone hrel (State.sealDone_wrongTag hjob aad input hd htag) rfl, by simp, State.sealResult_get_busy _ _,
      fun heq => absurd heq htag, fun _ => ⟨State.sealResult_get_result _ _, State.sealResult_out _ _, ?_⟩⟩
    rw [State.sealResult_rd _ _ (by decide) (by decide), State.rd_bump_ne _ _ _ (by decide), State.rd_bump_same, State.hostPut_rd, State.hostPut_rd]

end

/-! ### A write of a key register restarts the lease (R380) -/

theorem registerWrite_sealKey {s : State} {m : Master} (w : Fin 8) (v : Word) (hgate : s.gate m (A.SEAL_KEY w) = .pass) :
    ∃ u, exec (.registerWrite m (A.SEAL_KEY w) v ⟨none, 0⟩) s = .next u ∧ u.sec = { s.sec with sealAt := s.tim.now } := by
  have hplace : ∀ w : Fin 8, A.SEAL_KEY w < bar0Size ∧ A.SEAL_KEY w % 4 = 0 := by decide
  obtain ⟨hbar, hal⟩ := hplace w
  rw [exec_registerWrite_alone, State.busWrite_of_pass hbar v hal hgate, State.regWrite_sealKey]
  exact ⟨_, rfl, State.tableWrite_sec _ _ _⟩

/-- Settles O45: each command of the Seal engine has one equation on the state past the gate, and a job ends through `sealEnd` alone, where a waiting
release frees the lock. -/
theorem sealEngine : Obligations.SealEngine := by
  intro s m tag
  refine ⟨fun hgate => ⟨sealClaim_free hgate, sealClaim_held hgate, fun ht ho hi => ⟨_, sealRelease_idle hgate ht ho hi, State.sealFree_freed _⟩,
      sealRelease_running hgate, sealRelease_other hgate⟩,
    fun hheld hidle hdue => ⟨_, sealLeaseExpire_due hheld hidle hdue, State.sealFree_freed _⟩, sealLeaseExpire_notDue,
    fun decrypt key256 hgate => ⟨sealGo_starts hgate decrypt key256, sealGo_rejected hgate decrypt key256, sealGo_off hgate decrypt key256⟩,
    sealJobDone_idle, fun j hjob hrel => ⟨sealJobDone_dmaError hjob hrel, sealJobDone_encrypt hjob hrel, sealJobDone_decrypt hjob hrel⟩,
    fun j d hjob hrel => sealJobDone_releases hjob hrel d, registerWrite_sealKey⟩

end Sys2Proof.Machine
end
